-- ==== Sys2Proof/Word.lean ====
section
/-!
DEFINITION. The word types and index types of the TJ1216 model.
-/
namespace Sys2Proof

/-- One byte. -/
abbrev Byte := BitVec 8
/-- A camera port CAM0 to CAM11. -/
abbrev CamPort := Fin 12
/-- A kiln context 0 to 12 (R324). -/
abbrev Ctx := Fin 13
/-- An air path 0 to 7 (R173). -/
abbrev PathNo := Fin 8
/-- A transducer channel SC0 to SC15. -/
abbrev Chan := Fin 16
/-- A receive group G0 to G3 (R173). -/
abbrev GroupNo := Fin 4
/-- A supervised zone ZN0 to ZN3. -/
abbrev ZoneNo := Fin 4
/-- A bead BEAD0 to BEAD39. -/
abbrev BeadNo := Fin 40
/-- A Speica port: 0 FA, 1 FB, 2 FC (R504). -/
abbrev FabPort := Fin 3
/-- A mover channel 0 to 31 (R373). -/
abbrev MovCh := Fin 32
/-- An alarm output: 0 ALM0, 1 ALM1. -/
abbrev AlmOut := Fin 2
/-- A PLL output PO0 to PO17. -/
abbrev PllOut := Fin 18

end Sys2Proof
end

