-- ==== Sys2Proof/Syntax.lean ====
section
/-!
DEFINITION. The commands of the TJ1216 block: one constructor for each row of spec/opcode_table.json, and
the types of their operands. An operand is what the outside of the device brings to the step: a
measured time, the bytes received, a supply voltage, the number of the port the step happens on.
What the device holds itself is read from the state and is no operand.
-/
namespace Sys2Proof

/-- Two timed discharges of one pin (R44 to R48): whether each precharge passed, and each discharge
time in uncorrected TDC units (R1), `none` where the threshold was not crossed before the timeout. -/
structure PinMeasure where
  preA : Bool
  preB : Bool
  timeA : Option Nat
  timeB : Option Nat
  deriving DecidableEq, Repr

/-- What a supervision shot can measure at the seal (R103, R108): SEAL_A against a grounded SEAL_B,
SEAL_A with SEAL_B at high impedance, and SEAL_B with SEAL_A held at ground. -/
structure SealMeasure where
  sealA : PinMeasure
  sealAOpen : PinMeasure
  sealB : PinMeasure
  deriving DecidableEq, Repr

/-- Why the crystal is left (R130). -/
inductive X32Cause where
  | deadline | noEdge | trimWindow
  deriving DecidableEq, Repr

/-- The source of an ageing sample (R139). -/
inductive AgeSource where
  | refin | fabric
  deriving DecidableEq, Repr

/-- The update boundaries of Table 4.5 (R159). -/
inductive PllBoundary where
  | lock
  | portFrame (k : CamPort)
  | outputFrame
  | epoch
  deriving DecidableEq, Repr

/-- The FIFO crossings of Table 4.7. -/
inductive FifoCrossing where
  | pixel (k : CamPort)
  | kilnIn
  | kilnOut
  | headLines
  | fabRx (p : FabPort)
  | fabTx (p : FabPort)
  deriving DecidableEq, Repr

/-- The jobs of the stamp regressor (Table 5.10). -/
inductive RegJob where
  | trim
  | refin
  | frameRate (k : CamPort)
  deriving DecidableEq, Repr

/-- What the receive chain gives for one shot (R187 to R195): the first hit and the zero crossings of the opposite slope in
uncorrected TDC units from time zero, the peak in mV, and whether the margin comparator fired within P/2. -/
structure ShotMeasure where
  hit : Option Nat
  stops : List Nat
  peakMv : Nat
  margin : Bool
  deriving DecidableEq, Repr

/-- What a ring shot gives (R223): a drive trip, the peak in mV, and the stops in uncorrected TDC units. -/
structure RingMeasure where
  trip : Bool
  peakMv : Nat
  stops : List Nat
  deriving DecidableEq, Repr

/-- The running sums of a stamp regressor gate (R207, R208): the number of edges after the prescaler, the sum of their stamps in
uncorrected TDC units from the start of the gate, and the sum of each stamp times its edge index. -/
structure EdgeSums where
  n : Nat
  sumT : Nat
  sumIT : Nat
  deriving DecidableEq, Repr

/-- A packet at a camera port (R284, R285): `hdrBad` is an uncorrectable ECC error, `crcBad` a failed
CRC-16 of a long packet, `word` the 16-bit field of a short packet. -/
structure CsiPacket where
  hdrBad : Bool
  crcBad : Bool
  vc : Fin 4
  dt : BitVec 6
  word : BitVec 16
  payload : List Byte
  deriving DecidableEq, Repr

/-- Why an ACTIVE port goes DOWN (R456). -/
inductive DownCause where
  | lossOfSignal | noBeacon
  deriving DecidableEq, Repr

/-- A frame as received between SOF and EOF or EOFA (R451, R453, R461). -/
structure RxFrame where
  symErrors : Nat
  aborted : Bool
  bytes : List Byte
  deriving DecidableEq, Repr

/-- One constructor for each row of the table of operations and events. -/
inductive Instr where
  -- reset, start-up, supplies and faults
  | powerOnReset
  | resetRelease (mainsOk : Bool) (vbatMv : Nat)
  | aonIntegrity
  | startUpComplete
  | mainsLoss
  | mainsReturn (highSamples : Nat)
  | vbatCheck (vbatMv : Nat)
  | fatalFaultBedrockEntry
  | fatalFaultInMainsReturn
  | coreRestart
  | romFault
  | clockFault
  | overtemp (dieTemp : Int) (heldTicks : Nat)
  | serdesFault (p : FabPort)
  -- mode changes
  | acceptedEventTrigger
  | levelConditionBegins
  | holdExpiry
  | drainEnd
  | powerDownComplete
  | relayPllStart (p : FabPort)
  | relayPllStop
  -- beads
  | beadRead
  | beadReadEnd (bref : PinMeasure) (beads : Vector PinMeasure 40)
  | strapCompileEnd
  | beadChangeAtBoundary (b : BeadNo) (part : Fin 8)
  | beadReadDeferredRetry
  -- gestures and local inputs
  | setShort
  | doubleTap
  | setLong
  | tripleTap
  | clean
  | unrecognisedGesture
  | setStuck
  | setStuckEnd
  | setPress (samples : List Bool)
  | setRelease (samples : List Bool)
  | sequenceCloseTimeout
  | acknowledgementEnd
  | keyChange (samples : List Bool)
  | supervisionShotDue
  | supervisionShotComplete (bref : PinMeasure) (zones : Vector PinMeasure 4) (sm : SealMeasure)
  | armed (samples : List Bool)
  | wake (samples : List Bool)
  | silence (samples : List Bool)
  | followOutputTimeout (o : AlmOut)
  | latchCutOff (o : AlmOut)
  | alarmCurrentLimitRetry (o : AlmOut)
  -- clocks
  | crystalQualified (goodPeriods : Nat)
  | x32Fail (cause : X32Cause)
  | x32Retry
  | trimWindowStart
  | trimWindowEnd (period rcPeriod : Option Nat)
  | xoStart
  | xoReady (scale : Nat)
  | xoStop
  | xoFail (silentNs : Nat)
  | xoRestart (oscillates : Bool)
  | ageingSample (src : AgeSource) (offset : Int) (valid : Bool) (tempDelta : Nat)
  | dailyPoint
  | timeBaseUnverified
  | refinGateEnd (edges : Nat)
  | refinEdgeTimeout
  | refinAdvertised
  | pllStart
  | pllLock
  | pllNoLock
  | pllLostLock
  | refSwitch
  | phaseFreeXoLoss
  | pllFractionUpdate
  | shadowBoundary (b : PllBoundary)
  | coreClockSwitch
  | fifoFlush (x : FifoCrossing)
  | keepDomainPowerDown
  -- sounding
  | shotPairFire (path : PathNo) (vdrvMv : Nat)
  | driverCurrentLimitTrip (ch : Chan)
  | overload (g : GroupNo) (lastAbove : Nat)
  | pairComplete (path : PathNo) (up down : ShotMeasure)
  | pairLate (path : PathNo)
  | stampRegressorRequest (job : RegJob)
  | stampRegressorGateEnd (sums : Option EdgeSums)
  | calibrationEnd (meanDie : Int)
  | ringShotDue (ch : Chan) (vdrvMv : Nat)
  | ringShotResult (ch : Chan) (m : RingMeasure)
  -- tally engine and store
  | tallyPairUpdate
  | pathBlocked (path : PathNo)
  | harmonicSample (path : PathNo)
  | trackerRestart (path : PathNo)
  | pathTallyCheckpoint (path : PathNo)
  | deviceTallyCheckpoint
  | recordWrite
  | cleanComplete
  | refireSession (diffs : Vector (Fin 3) 16)
  | refireDue
  | journalEntryAccept (code : Byte) (data : BitVec 16)
  | journalWrite
  | journalOverflow
  -- camera ports and recipes
  | csi2PacketReceived (k : CamPort) (pkt : CsiPacket)
  | camFrameStart (k : CamPort) (phase : Nat)
  | camFrameEnd (k : CamPort)
  | camFrameStall (k : CamPort)
  | cciNackRetry (k : CamPort) (ack : Bool)
  | cciStuck (k : CamPort) (freed : Bool)
  | recipeCacheRead (image : Option (List Byte))
  | recipePoll (image : Option (List Byte))
  | replayStart (k : CamPort)
  | powerUpDelayEnd (k : CamPort)
  | recipeWrite (k : CamPort) (ack : Bool)
  | recipeRmw (k : CamPort) (old : Byte) (ack : Bool)
  | recipePollEntry (k : CamPort) (val : Byte) (ack : Bool)
  | recipeDelay (k : CamPort)
  | recipeExpmap (k : CamPort)
  | recipeEnd (k : CamPort)
  | recipeSkipped (k : CamPort)
  | startTimeout (k : CamPort)
  | replayFail (k : CamPort)
  | portRestart (k : CamPort)
  | fsyncEdge (k : CamPort)
  | frameRateCheck (k : CamPort)
  | exposureBurst (k : CamPort) (ack : Bool)
  | portJoined (k : CamPort)
  -- kiln
  | kilnLineSlot
  | kilnStatisticsReady (c : Ctx)
  | aeUpdate (c : CamPort)
  | awbUpdate (c : CamPort)
  | nightMode (c : CamPort)
  | kilnOverrun (c : Ctx)
  | kilnParity (c : Ctx) (slot : Fin 46)
  | kilnHang
  -- movers and the clay pool
  | moverProgramLoad (ch : MovCh) (prog : List (BitVec 128))
  | arbiterGrant
  | moverEnd (ch : MovCh) (accepted : Bool)
  | moverMove (ch : MovCh)
  | moverLoop (ch : MovCh)
  | moverWait (ch : MovCh)
  | moverWaitTimeout (ch : MovCh)
  | moverSignal (ch : MovCh)
  | moverFill (ch : MovCh)
  | moverCompare (ch : MovCh)
  | moverCrc (ch : MovCh)
  | moverSet (ch : MovCh)
  | readbackTimeout (ch : MovCh)
  | moverFault (ch : MovCh) (cause : BitVec 3) (write : Bool) (addr : BitVec 32)
  | moverRecovered
  | channel31Fault
  | scrubJob
  | channelStopRequest (ch : MovCh)
  | sandEntryAllocation
  -- head
  | outputFrameStart
  | headUnderrun (vc : Fin 16)
  | eventRecordQueue
  | tallySnapshot
  | tileHoldTimeout (k : CamPort)
  | tileImageOutput
  -- Speica links
  | linkTraining (p : FabPort) (partnerRole : BitVec 2)
  | trainingTimeout (p : FabPort) (signal : Bool)
  | retrainTimer (p : FabPort) (signal : Bool)
  | linkDown (p : FabPort) (cause : DownCause)
  | ember (p : FabPort)
  | emberPulse (p : FabPort) (received : Bool)
  | emberPulseTimeout (p : FabPort)
  | wakeTone (p : FabPort)
  | frameReceived (p : FabPort) (f : RxFrame)
  | creditReturn (p : FabPort) (cls : Fin 2) (count : Byte)
  | creditStall (p : FabPort)
  | tileWaitDiscard (p : FabPort)
  | beaconSend (p : FabPort)
  -- addresses, link-state and routes
  | address
  | addressConflict
  | linkstateOrigination
  | linkstateReceived
  | linkstateAgeOut
  | route
  | tallyFrameSend
  | tileExport (c : Ctx)
  -- fabric time
  | timeExchangeStart (phase : Nat)
  | timeRequestReceived (t2phase t3phase : Nat)
  | timeResponseReceived (t4phase : Nat)
  | timeExchangeTimeout
  | holdover
  -- pairing and sessions
  | offerSend (p : FabPort)
  | offerReceived (p : FabPort)
  | confirmReceived (p : FabPort)
  | paired (p : FabPort)
  | pairWindowEnd
  | noiseFault (pass : Bool)
  | helloSend (p : FabPort)
  | helloReceived (p : FabPort)
  | sessionSetupTimeout (p : FabPort)
  | keyMismatch (p : FabPort)
  | keyMismatchRetry (p : FabPort)
  | rekey (p : FabPort)
  -- unruly neighbours
  | errorIntervalEnd (p : FabPort)
  | quarantine (p : FabPort)
  | quarantineEnd (p : FabPort)
  | qReset (p : FabPort)
  | probationCleanEnd (p : FabPort)
  | testFrameSend (p : FabPort)
  | probationAdmitted (p : FabPort)
  | probationTimeout (p : FabPort)
  | penaltyEnd (p : FabPort)
  -- twins
  | leaseOutToggle
  | leaseInEdge
  | leaseTake
  | leaseYield
  | mirrorFrameReceived
  | mirrorStateSend
  | mirrorRetransmit
  | mirrorAckTimer
  | mirrorResync
  | handoverPrepare
  | handoverTaken
  | handoverAbort
  | leaseWireFault
  | split
  | takeInhibitClear
  -- levels released, start-up steps, and the monitor
  | monitorCharacter (c : Byte) (framingOk : Bool)
  | wakenDeasserted (samples : List Bool)
  | silencenDeasserted (samples : List Bool)
  | wakeToneRepeat (p : FabPort)
  | confirmSend (p : FabPort)
  | committedSend (p : FabPort)
  | storeScanEnd
  | romCheckPassed
  | ledaCodeWindowEnd
  | monitorEnable
  | help
  | par
  | beads
  | tally
  | jour
  | path
  | cam
  | kiln
  | mover
  | pool
  | routeCmd
  | link
  | clock
  | twin
  | thumb
  | cal
  | restrap
  | pair
  | quar
  | readmit
  | handover
  | confirmTimeout
  | monitorConfirmed
  deriving DecidableEq, Repr

end Sys2Proof
end

