-- ==== Sys2Proof/Decode.lean ====
section
/-!
DEFINITION. The commands that a word of the table of operations spells. The table gives no row any bits
and no field: every command is an event, and no word spells one.
-/
namespace Sys2Proof

/-- The command that a word of the table spells: none, since no row of the table has bits. -/
def decodeTableWord (_nbits _w : Nat) : Option Instr := none

end Sys2Proof
end

