-- ==== Sys2Proof/Config.lean ====
section
/-!
DEFINITION. What one device fixes at manufacture, and the values the spec leaves free: constants with
no body, so that nothing can be proved of their values.
-/
namespace Sys2Proof.Config

/-- The 64-bit factory unique ID (UID_HI, UID_LO of Table 16.4). -/
opaque uid : BitVec 64
/-- ROM version and die stepping (ROM_ID of Table 16.4). -/
opaque romId : BitVec 32
/-- The grade: true for the TJ1216-I (GRADE of Table 16.4). -/
opaque gradeI : Bool
/-- Noise bytes of the n-th draw from the noise source (R512, R520, R522). -/
opaque noise : Nat → Nat → BitVec 8
/-- Filter taps of the scaler (R350): ratio, phase and tap give a coefficient in 1/4,096. The spec names
the filter and not its coefficients. Horizontal first, then vertical. -/
opaque tapH : Nat → Nat → Nat → Int
opaque tapV : Nat → Nat → Nat → Int
/-- Glyph rows of the burn-in (R367): character code and row give the pixels of that row, bit 7 leftmost.
The spec gives the size of a glyph and not its shape. -/
opaque glyph : Nat → Nat → BitVec 8
/-- The reference difference trimmed at manufacture for a device with no valid Δref (§3.3), in TDC units. -/
opaque trimmedRef : Nat
/-- What the ΔΣ modulator across RSHUNT gives at a raw AON tick: an input from outside (R251). -/
opaque shunt : Nat → Bool
/-- The single-bit errors that a read of some bytes of the pool corrects: an input from outside, by the raw AON tick, the address and the
number of bytes (R380). -/
opaque bitErrors : Nat → Nat → Nat → Nat
/-- A value that the spec leaves open: the n-th such value. -/
opaque free : Nat → Int
/-- What a field of a pair record holds of a result that does not fit (Table 5.9): the field's width and the exact result give the
bits. The spec states no such result. -/
opaque overflow : Nat → Int → Nat

end Sys2Proof.Config
end

