-- ==== Sys2Proof/Machine/Types.lean ====
section
/-!
DEFINITION. The parts of the state of the TJ1216, one structure for each chapter of the spec. Each field's
default value is its value in the power-on reset (R577, R579).
-/
namespace Sys2Proof.Machine

/-- The modes, with start-up (R13, R25, Table 6.7 byte 11). -/
inductive Mode where
  | startup | loam | sand | bedBattery | bedFault
  deriving DecidableEq, Repr

/-- The changeover from Sand to Loam (R32) with the re-entry mark of its power-down phase (R34). -/
inductive Changeover where
  | idle
  | drain
  | powerDown (reentry : Bool)
  deriving DecidableEq, Repr

/-- The Sand triggers of kind event (Table 1.4). -/
inductive TriggerKind where
  | breach | passagePolicy | zoneAlarm | tamper | siteEvent
  deriving DecidableEq, Repr

/-- The fatal faults in BEDROCK FAULT code order (Table 14.8). -/
inductive FatalCause where
  | pllNoLock | kilnFault | moverFault | coreFault | romFault | clockFault | overtemp | serdesFault
  deriving DecidableEq, Repr

/-- The house core (R597, R599): off, in its ROM check, running, or held in reset. -/
inductive CoreState where
  | off | romCheck | running | held
  deriving DecidableEq, Repr

/-- Which start-up of the mains domain is running, if one is (R580, R590, R597). -/
inductive StartKind where
  | powerUp | mainsReturn | coreRestart
  deriving DecidableEq, Repr

/-- Mode, mains, start-up and fault state (chapters 1 and 14). -/
structure Dev where
  /-- the mode state (R13) -/
  mode : Mode := .startup
  /-- the power-on reset has been released (R577) -/
  released : Bool := false
  /-- changeover phase (R32) -/
  changeover : Changeover := .idle
  /-- Sand hold timer in steps of 1/32 s (R30) -/
  hold : Nat := 0
  /-- accepted event triggers that the AON logic has not evaluated yet (R26, R28) -/
  accepted : List TriggerKind := []
  /-- MAINS_OK as accepted (R588) -/
  mainsOk : Bool := false
  /-- tick on which the evaluation of R26 took the device from Loam into Sand; a low MAINS_OK sample that comes after it on that
  tick is decided on the next one -/
  evalAt : Option Nat := none
  mainsLow : Bool := false
  /-- raw tick at which the drain phase began (R32) -/
  drainAt : Nat := 0
  /-- fatal faults latched and not yet acted on (R26) -/
  fatal : List FatalCause := []
  /-- cause of the latest Bedrock on fault (R598, FATAL_CAUSE) -/
  fatalCause : Option FatalCause := none
  /-- a fabric-side fault is latched (R38) -/
  fabricFault : Bool := false
  /-- Bedrock on fault keeps the fabric (R38) -/
  fabricKept : Bool := false
  /-- the start-up of the mains domain that is running -/
  start : Option StartKind := none
  /-- steps of R581 that have ended -/
  scanDone : Bool := false
  readDone : Bool := false
  supDone : Bool := false
  romOk : Bool := false
  compileDone : Bool := false
  cacheDone : Bool := false
  /-- raw tick of reset release, mains return or core restart (START-UP entries, Table 14.8) -/
  startAt : Nat := 0
  /-- raw tick of the latest start-up completion (UPTIME) -/
  upAt : Nat := 0
  /-- relay activity runs the PLL in Loam (R20) -/
  relay : Bool := false
  /-- latest tick at which a Speica port was ACTIVE or TRAINING (R20) -/
  portsBusyAt : Nat := 0
  /-- VBAT LOW and the latest VBAT measurement in mV (R591) -/
  vbatLow : Bool := false
  vbatMv : Nat := 0
  nextVbat : Nat := 0
  /-- the house core -/
  core : CoreState := .off
  /-- ticks of the latest core restarts (R596) and watchdog expiries since power-up -/
  coreRestarts : List Nat := []
  watchdogs : Nat := 0
  /-- ports with SERDES FAULT (R596) -/
  serdesFault : Vector Bool 3 := Vector.replicate 3 false
  /-- STORE FAULT (R271) -/
  storeFault : Bool := false
  /-- the keep domain is powered (R10) -/
  keepOn : Bool := false
  /-- since when XO FAIL or TDC FAULT has held continuously in Loam or Sand (R596) -/
  clockBadSince : Option Nat := none
  /-- ticks spent in Loam, Sand, Bedrock on battery and Bedrock on fault not yet carried into seconds (R230) -/
  modeTicks : Vector Nat 4 := Vector.replicate 4 0
  /-- die temperature in 1/128 °C (TEMPS) -/
  dieTemp : Int := 0
  deriving DecidableEq, Repr

/-- A bead reading (R52 to R54): an index, open, short or indeterminate. -/
inductive Reading where
  | idx (i : Fin 16)
  | o | s | i
  deriving DecidableEq, Repr

/-- Why a bead read is made (R66). -/
inductive ReadKind where
  | powerUp | mainsReturn | restrap
  deriving DecidableEq, Repr

/-- A compiled change waiting for its part's boundary (R62, R70). -/
structure Waiting where
  bead : BeadNo
  part : Fin 8
  value : Fin 16
  deriving DecidableEq, Repr

/-- Progress of a bead read and its compile (R58, R68). -/
inductive ReadPhase where
  | idle
  | reading (kind : ReadKind)
  | compiling (kind : Option ReadKind) (startedAt : Nat)
  deriving DecidableEq, Repr

/-- The budgets of Table 2.5 in row order 1 to 7, and the results of a read (STRAP_RESULT). -/
inductive StrapResult where
  | applied | fallback | refused | none
  deriving DecidableEq, Repr

/-- Beads and the strap compiler (chapter 2). -/
structure Bead where
  /-- readings in force (R67) -/
  inForce : Vector Reading 40 := Vector.replicate 40 .o
  /-- readings of the latest completed read (R57, R74) -/
  latest : Vector Reading 40 := Vector.replicate 40 .o
  /-- a read has completed since reset (R57, R583) -/
  everRead : Bool := false
  /-- computed resistances in ohms of BREF and the beads, none where there is none (beads command) -/
  ohms : Vector (Option Nat) 41 := Vector.replicate 41 none
  /-- bead fault flags (R56) -/
  fault : Vector Bool 40 := Vector.replicate 40 false
  /-- BREF fault conditions READ and REFRESH, and the cause of the previous failing check of each kind (R653) -/
  brefRead : Bool := false
  brefRefresh : Bool := false
  brefReadCause : BitVec 2 := 0
  brefRefreshCause : BitVec 2 := 0
  /-- RESTART PENDING (R74) -/
  restartPending : Bool := false
  /-- read and compile in progress -/
  phase : ReadPhase := .idle
  /-- a read requested and not begun -/
  req : Option ReadKind := none
  /-- a re-strap held by R69 -/
  heldRestrap : Bool := false
  /-- a read held by R654, and its next retry -/
  deferred : Option ReadKind := none
  nextRetry : Nat := 0
  /-- changes waiting for their boundaries (R62) -/
  waiting : List Waiting := []
  /-- the index in effect at each part that a bead governs (R62, Table 2.4) -/
  eff : Vector (Vector (Fin 16) 8) 40
  /-- output frame rate index in force (R78) -/
  rate : Fin 16 := 6
  /-- the rate that waits with bead 15 for the next output frame (R62, R78) -/
  rateNext : Option (Fin 16) := none
  /-- a fallback rate is in force (R78, R81) -/
  fallback : Bool := false
  /-- camera ports dropped by R82 -/
  dropped : Vector Bool 12 := Vector.replicate 12 false
  /-- a compile has ended since power-up or reset (R80) -/
  compiled : Bool := false
  /-- STRAP_RESULT -/
  result : StrapResult := .none
  compileMs : Nat := 0
  failedBudget : Nat := 0
  /-- k of R212 for each group pair in Loam, Sand and Bedrock on battery (RATE_CLAMP) -/
  clamp : Vector (Vector Nat 3) 2 := Vector.replicate 2 (Vector.replicate 3 0)
  deriving DecidableEq, Repr

/-- States of the seal (R107). -/
inductive Seal where
  | intact | bridged | opened
  deriving DecidableEq, Repr

/-- States of a zone in ZONE code order (Table 6.8). -/
inductive Zone where
  | normal | alarm | tamper | tamperAlarm | short | opened
  deriving DecidableEq, Repr

/-- A filtered input (R90): its level once one is taken (true is asserted), and the run of
consecutive samples at the other level; the tick on which the latest sample brought was counted (R89). -/
structure Filter where
  level : Option Bool := none
  cand : Bool := false
  run : Nat := 0
  at_ : Nat := 0
  deriving DecidableEq, Repr

/-- Acknowledgement patterns (Table 3.3). -/
inductive Ack where
  | ack (n : Nat) | pairing | running | calRefused | cleaned | refuse | tamper
  deriving DecidableEq, Repr

/-- One alarm output (§3.7): active, the tick of the most recent onset of one of its conditions, and
the current-limit retry (R613). -/
structure AlmSt where
  active : Bool := false
  onset : Option Nat := none
  /-- latch cut-off taken over from the shadow with the lease (R552, R575) -/
  cutAt : Option Nat := none
  retryUntil : Option Nat := none
  deriving DecidableEq, Repr

/-- A supervision shot in progress: whether it measures the seal and takes a new reference (R101, R104). -/
structure SupShot where
  withSeal : Bool
  withRef : Bool
  deriving DecidableEq, Repr

/-- Local wiring (chapter 3). -/
structure Local where
  setF : Filter := {}
  keyF : Filter := {}
  armF : Filter := {}
  wakeF : Filter := {}
  silF : Filter := {}
  /-- the open SET sequence (R92): lengths in ticks of its ended presses, the press now held, the start
  of the latest press and the latest release -/
  seqOpen : Bool := false
  presses : List Nat := []
  pressAt : Option Nat := none
  pressBegan : Nat := 0
  lastRelease : Nat := 0
  /-- a closed sequence that has not been classified (R93): press lengths in ticks -/
  closed : Option (List Nat) := none
  /-- SET STUCK and since when SETn is released (R95) -/
  stuck : Bool := false
  stuckReleased : Option Nat := none
  /-- LEDA shows its code in Bedrock on battery (R595), and the latest assertion of SETn -/
  ledaWindow : Bool := false
  setAssertedAt : Nat := 0
  /-- acknowledgements running on LEDG and LEDA, and the pattern that follows on LEDG (R97) -/
  ackG : Option Ack := none
  ackA : Option Ack := none
  /-- ticks at which they began -/
  ackGAt : Nat := 0
  ackAAt : Nat := 0
  ackGNext : Option Ack := none
  /-- supervision shots (R101, R104): the next due tick, shots made, the shot in progress, the Δref in
  TDC units, and the next refresh -/
  supNext : Nat := 0
  supCount : Nat := 0
  supRun : Option SupShot := none
  supOn : Bool := false
  dref : Option Nat := none
  drefNext : Nat := 0
  /-- the seal (R109, R110) -/
  sealState : Option Seal := none
  sealCand : Option Seal := none
  sealRun : Nat := 0
  sealTamper : Bool := false
  /-- the zones (R114, R115) -/
  zone : Vector (Option Zone) 4 := Vector.replicate 4 none
  zoneCand : Vector (Option Zone) 4 := Vector.replicate 4 none
  zoneRun : Vector Nat 4 := Vector.replicate 4 0
  onsets : Vector (BitVec 32) 4 := Vector.replicate 4 0
  /-- ALM0 and ALM1 -/
  alm : Vector AlmSt 2 := Vector.replicate 2 {}
  /-- state conditions present at the last silence (Table 13.5 byte 20) -/
  silencedH24 : Bool := false
  silencedTmp : Bool := false
  /-- FLT as evaluated at the latest step, to find its onset (R121) -/
  fltWas : Bool := false
  deriving DecidableEq, Repr

/-- The clock of the AON domain (R128). -/
inductive AonSource where
  | rc | crystal
  deriving DecidableEq, Repr

/-- XO demands of Table 4.2 that begin and end with an event. The demand of the Speica ports, of shots, supervision shots and the
tally engine follow from the rest of the state (`State.needXo`). -/
inductive XoDemand where
  | beadRead | core | pll | trim | mainsMode | qualify | refin
  deriving DecidableEq, Repr

/-- PLL references in R150 order. -/
inductive PllRef where
  | refin | fabric | xo
  deriving DecidableEq, Repr

/-- The PLL: off, seeking lock, locked, or holding its frequency with no reference (R655). -/
inductive PllMode where
  | off | seeking | locked
  deriving DecidableEq, Repr

/-- Divider N + k/64, fine delay in steps of 1/64 VCO period, 0 to 4,095, and enable of a PLL output (R157, R164). -/
structure PllSetting where
  n : Nat := 0
  k : Nat := 0
  delay : BitVec 12 := 0
  enable : Bool := false
  deriving DecidableEq, Repr

/-- An output with the armed shadow set that waits for its boundary (R159, R161), the phase of its interpolator in 1/64 VCO period
(R157, R162), and the fine delay that its edge has reached (R164). -/
structure PllOutput where
  now : PllSetting := {}
  shadow : Option (PllSetting × PllBoundary) := none
  phase : BitVec 6 := 0
  pos : BitVec 12 := 0
  deriving DecidableEq, Repr

/-- The ageing model (R139 to R146). Offsets are in 1/16 ppb, the rate in 1/65,536 ppb/day. -/
structure Ageing where
  points : List (Nat × Int) := []
  o : Int := 0
  a : Int := 0
  d0 : Nat := 0
  dL : Nat := 0
  epoch : Nat := 0
  /-- accepted samples of the present day, in ppb (R142) -/
  daySum : Int := 0
  dayCount : Nat := 0
  day : Nat := 0
  /-- a run of samples rejected only by the prediction check (R141), newest last -/
  run : List Int := []
  /-- samples accepted since a MODEL RESET before its first daily point (R141) -/
  resetSum : Int := 0
  resetCount : Nat := 0
  /-- TIME BASE UNVERIFIED (R144) -/
  unverified : Bool := false
  /-- the elapsed days are unknown until the next point rebases them (R146) -/
  unknownDays : Bool := false
  deriving DecidableEq, Repr

/-- A trim window in progress (R133): whether it has the second gate, and whether the stamp regressor took its job (R209). -/
structure TrimWindow where
  second : Bool
  job : Bool
  deriving DecidableEq, Repr

/-- Time bases, PLL and crossings (chapter 4). -/
structure Clk where
  /-- raw AON ticks since reset release (R129) -/
  tick : Nat := 0
  /-- the calendar (R132) -/
  sec : BitVec 48 := 0
  calTick : BitVec 15 := 0
  /-- calendar trim in ppb of the raw tick, and the error carried to the next tick -/
  trim : Int := 0
  trimAcc : Int := 0
  source : AonSource := .rc
  /-- crystal qualification attempt: its deadline tick (R128, R130) -/
  qualBy : Option Nat := none
  x32Fail : Bool := false
  x32Next : Nat := 0
  rcTrimmed : Bool := false
  /-- trim windows (R133): number of the next window, its tick, the window in progress -/
  winNo : Nat := 0
  winNext : Nat := 0
  win : Option TrimWindow := none
  /-- a window measured the crystal outside ±1% (R130), and the latest trims of the crystal and of the RC
  oscillator in ppb -/
  winBad : Bool := false
  xTrim : Int := 0
  rcTrim : Int := 0
  /-- the XO (R135 to R137) -/
  xoRun : Bool := false
  xoReady : Bool := false
  xoFail : Bool := false
  xoRestartAt : Nat := 0
  tdcFault : Bool := false
  tdcCalibrated : Bool := false
  demands : List XoDemand := []
  age : Ageing := {}
  /-- REFIN (R147, R148, R496) -/
  refinGates : Nat := 0
  refinPresent : Bool := false
  refinSince : Nat := 0
  refinAdvertised : Bool := false
  /-- a REFIN gate of 1 s has ended with a result that is not yet a sample, and the fabric time at which the present fabric-time
  gate began, in 1/65,536 ns (R139) -/
  refinDone : Bool := false
  fabGate : Option Nat := none
  /-- the PLL (R150 to R155, R655) -/
  pll : PllMode := .off
  pllRef : PllRef := .xo
  pllAttempts : Nat := 0
  /-- tick of the latest start or loss of lock (R153) -/
  pllAt : Nat := 0
  pllNoLock : Bool := false
  pllFrozen : Bool := false
  /-- the selected reference has been lost since it was selected (R155, R655) -/
  pllRefLost : Bool := false
  /-- integer part of the feedback divider (R150), and the accumulator of the modulator in 2^-24 (R162) -/
  pllFb : Nat := 0
  pllAcc : BitVec 24 := 0
  pllRelock : Bool := false
  phaseFree : Bool := false
  pllFrac : Nat := 0
  pllOut : Vector PllOutput 18 := Vector.replicate 18 {}
  /-- the house core runs from PO15 (R165) -/
  coreOnPll : Bool := false
  deriving DecidableEq, Repr

/-- Pair status (Table 5.9). -/
inductive PairStatus where
  | valid | acq | slip | invalid | skipped
  deriving DecidableEq, Repr

/-- Shot status (Table 5.8). -/
inductive ShotStatus where
  | ok | weak | early | none | ovr | shadow | skip
  deriving DecidableEq, Repr

/-- Why a pair was not fired (R183, R184, R216, R226). -/
inductive SkipCause where
  | lowdrv | short | late
  deriving DecidableEq, Repr

/-- Settings of the comparators of a receive group (R187): threshold, margin and hysteresis in mV, and the slope of the first hit. -/
structure GroupRx where
  threshold : BitVec 8 := 100
  margin : BitVec 8 := 50
  hysteresis : BitVec 5 := 15
  positive : Bool := true
  deriving DecidableEq, Repr

/-- The regression over the stamps of one shot (R207): the period and the rms of the residuals, in 2^-16 TDC unit. -/
structure ShotFit where
  period : Int
  rms : Nat
  deriving DecidableEq, Repr

/-- Pair record (Table 5.9). -/
structure PairRecord where
  path : PathNo
  sec : BitVec 48
  tick : BitVec 15
  status : PairStatus
  up : ShotStatus
  down : ShotStatus
  uncal : Bool
  ovr : Bool
  unverified : Bool
  health : Bool
  tAb : Nat
  tBa : Nat
  dt : Int
  v : Int
  c : Nat
  tAir : Int
  gain : Nat
  peakUp : Nat
  peakDown : Nat
  /-- why a shot is SKIP, for the up and the down shot (R183, R184, R216, R226) -/
  causeUp : Option SkipCause
  causeDown : Option SkipCause
  /-- rate period in ticks in force at the programme time (R228) -/
  period : Nat
  /-- the pair was fired (R245) -/
  fired : Bool
  deriving DecidableEq, Repr

/-- Ring check outcomes (Table 5.14). -/
inductive RingOutcome where
  | pass | short | opened | detuned
  deriving DecidableEq, Repr

/-- Health of one channel (R225). -/
structure ChanHealth where
  last : RingOutcome := .pass
  run : Nat := 0
  failed : Option RingOutcome := none
  /-- tick of the latest ring shot, and of the latest test of a channel with a SHORT failure (R223, R226) -/
  ringAt : Option Nat := none
  testAt : Option Nat := none
  /-- stop records, regression and cause of a SKIP of the latest ring shot (R198, R207, R226) -/
  stops : List (BitVec 64) := []
  fit : Option ShotFit := none
  cause : Option SkipCause := none
  ringBusy : Bool := false
  /-- an overload fell in the ring shot (§5.7) -/
  ringOvr : Bool := false
  deriving DecidableEq, Repr

/-- A calibration record (Table 5.13). -/
structure CalRecord where
  freq : Fin 16
  len : Nat
  delta0 : Int
  tDie : Int
  base : Nat
  sec : BitVec 48
  deriving DecidableEq, Repr

/-- Collection of a path during still-air calibration (R218). -/
structure CalRun where
  /-- pairs run with the gain active -/
  settle : Nat := 0
  collected : Nat := 0
  /-- raw difference t_ba − t_ab and sum t_ab + t_ba of each qualifying pair, in 1/4,096 ns, newest first -/
  diffs : List Int := []
  means : List Nat := []
  /-- REFIN has been present in the whole collection (Table 5.13) -/
  refin : Bool := true
  allNone : Bool := true
  peakBad : Bool := false
  affected : Bool := false
  deriving DecidableEq, Repr

/-- One path of the transit unit (chapter 5). -/
structure PathSt where
  /-- gain in dB / 2 (R190) -/
  gain : Nat := 20
  tracking : Bool := false
  /-- first hits of the latest consecutive pairs acquired in search, up and down, newest first (R194) -/
  acq : List (Nat × Nat) := []
  badRun : Nat := 0
  /-- window centres: first-hit times in TDC units (R192) -/
  cUp : Nat := 0
  cDown : Nat := 0
  /-- S_ref and the run of SLIP sums, in 1/4,096 ns (R201) -/
  sRef : Option Nat := none
  slipRun : List Nat := []
  /-- rate period in ticks now in force and from the next programme time (R213) -/
  period : Nat := 0
  nextPeriod : Nat := 0
  /-- programme time of the next pair, and of the pair that waits or runs (R213, R214) -/
  due : Option Nat := none
  waiting : Option Nat := none
  /-- rate period in force at the programme time of the pair that waits or runs (R228) -/
  tau : Nat := 0
  firing : Option Nat := none
  /-- tick of the latest drive start -/
  firedAt : Nat := 0
  /-- a driver of the running pair tripped (R184), and an overload fell in a shot (R203) -/
  tripUp : Bool := false
  tripDown : Bool := false
  ovrUp : Bool := false
  ovrDown : Bool := false
  /-- pairs since the latest VALID pair, and MUTE (R225) -/
  noValid : Nat := 0
  mute : Bool := false
  /-- calibration in force (R178, R221, R222) and the one collected -/
  calib : Option CalRecord := none
  calRun : Option CalRun := none
  /-- latest pair record and latest VALID velocity -/
  lastPair : Option PairRecord := none
  lastV : Int := 0
  lastTAir : Option Int := none
  /-- Δt and t_ab + t_ba of the latest VALID pairs, in 1/4,096 ns, newest first, at most 256 (R206) -/
  statDt : List Int := []
  statSum : List Int := []
  /-- stop records and regressions of the up and the down shot of the latest pair (R198, R207, R208) -/
  stopsUp : List (BitVec 64) := []
  stopsDown : List (BitVec 64) := []
  fitUp : Option ShotFit := none
  fitDown : Option ShotFit := none
  deriving DecidableEq, Repr

/-- The transit unit (chapter 5). -/
structure Transit where
  path : Vector PathSt 8 := Vector.replicate 8 {}
  chan : Vector ChanHealth 16 := Vector.replicate 16 {}
  /-- sounding has started (R213) -/
  sounding : Bool := false
  /-- group pairs busy with a pair: the path (R214) -/
  busy : Vector (Option PathNo) 2 := Vector.replicate 2 none
  /-- comparator settings of the receive groups (R187) -/
  rx : Vector GroupRx 4 := Vector.replicate 4 {}
  /-- the latest overload of a group: the channel it received, if any, and its end in TDC units since reset release (R203, R204) -/
  ovrAt : Vector (Option (Option Chan × Nat)) 4 := Vector.replicate 4 none
  /-- LOW VDRV episode and the latest VDRV in mV (R183) -/
  lowVdrv : Bool := false
  vdrvMv : Nat := 0
  /-- pair records handed to the tally engine and not yet taken (R202) -/
  handed : List PairRecord := []
  /-- still-air calibration runs (R218), with the results of the latest one (CAL_STATE) -/
  calOn : Bool := false
  calByMonitor : Bool := false
  calPassed : Vector Bool 8 := Vector.replicate 8 false
  calRefused : Vector Bool 8 := Vector.replicate 8 false
  /-- stamp regressor: the job running and the jobs waiting (R209) -/
  regJob : Option RegJob := none
  regQueue : List RegJob := []
  /-- tick at which the running job's gate began -/
  regAt : Nat := 0
  /-- latest regression result in 2^-16 TDC unit, 64 bits wide (R208) -/
  regResult : Option (BitVec 64) := none
  deriving DecidableEq, Repr

/-- The harmonic model of a path (R234): m in 1/65,536 µm/s, coefficients in 1/16 µm/s, f0 as a fraction of
1/(4,096 Ts) in units of 2^-16. -/
structure Harmonic where
  m : Int := 0
  f0 : Int := 0
  j0 : Nat := 0
  a : List Int := []
  b : List Int := []
  locked : Bool := false
  fitted : Bool := false
  deriving DecidableEq, Repr

/-- A sample of the harmonic window: its interval number, its value in 1/16 µm/s, and whether it is a
gap sample (R233). -/
structure Sample where
  interval : Nat
  x : Int
  gap : Bool
  deriving DecidableEq, Repr

/-- An opening of a linked zone (R248): its onset tick, its end, and the passages that joined it. -/
structure Opening where
  zone : ZoneNo
  onset : Nat
  ended : Option Nat := none
  joined : Nat := 0
  deriving DecidableEq, Repr

/-- Tally engine state of one path (chapter 6). -/
structure PathTally where
  /-- VOL_AB, VOL_BA, PASS, TAIL, BRCH, VPAIR, XPAIR, GAP (Table 6.1) -/
  count : Vector (BitVec 64) 8 := Vector.replicate 8 0
  accAb : Nat := 0
  accBa : Nat := 0
  accGap : Nat := 0
  /-- changed since the latest record write (R231) -/
  dirty : Bool := false
  writtenAt : Option Nat := none
  harm : Harmonic := {}
  window : List Sample := []
  sinceFit : Nat := 0
  /-- VALID velocities of each interval that has given no sample yet: its number, their sum and their number (R233) -/
  ivs : List (Nat × Int × Nat) := []
  ivNext : Nat := 0
  /-- mean v since the tracker restarted (R235) -/
  sumV : Int := 0
  numV : Nat := 0
  /-- velocities for bead 38 index 6 (R235), newest first -/
  recent : List Int := []
  /-- residues within θ (R240), newest first, at most 256 -/
  resid : List Int := []
  /-- σ_res from the working area, in 1/16 µm/s, for the warm-up after start-up (R238; log 32) -/
  sigma : Option Nat := none
  warm : Nat := 0
  /-- breach run (R242), its sign, and consecutive pairs not VALID -/
  runLen : Nat := 0
  runNeg : Bool := false
  notValid : Nat := 0
  /-- refractory until rearmed, and the count of small residues (R243) -/
  refractory : Bool := false
  rearm : Nat := 0
  /-- amplitudes of clear pairs for each direction (R244), newest first, at most 32 -/
  ampUp : List Nat := []
  ampDown : List Nat := []
  clearRun : Nat := 0
  /-- episode: calendar ticks of its first OCCLUDED pair, and whether PATH BLOCKED was journalled (R246, R247) -/
  episode : Option Nat := none
  blocked : Bool := false
  /-- a restart of the tracker is due (R236) -/
  restartDue : Bool := false
  /-- raw ticks of passages of the last 2.0 s that have joined no opening (R248) -/
  loose : List Nat := []
  deriving DecidableEq, Repr

/-- A record of the store waiting to be written (R258): the record and its slot content. -/
inductive RecId where
  | device
  | deviceTallies
  | pathTallies (p : PathNo)
  | calibration (p : PathNo)
  | ageing
  | keys (p : FabPort)
  deriving DecidableEq, Repr

/-- What a queued write is for: a record, or the working area of a path (R238). -/
inductive WriteId where
  | record (r : RecId)
  | work (p : PathNo)
  deriving DecidableEq, Repr

/-- A queued write. -/
structure WriteReq where
  id : WriteId
  content : List Byte
  deriving DecidableEq, Repr

/-- A journal entry (Table 6.7) before its check is added. -/
structure JEntry where
  num : BitVec 32
  sec : BitVec 32
  tick : BitVec 15
  engine : Bool
  code : Byte
  mode : BitVec 3
  data : BitVec 16
  deriving DecidableEq, Repr

/-- The tally engine and the store (chapter 6). -/
structure Tal where
  path : Vector PathTally 8 := Vector.replicate 8 {}
  /-- the device tallies, index = tally number - 8 (Table 6.1) -/
  dev : Vector (BitVec 64) 17 := Vector.replicate 17 0
  devDirty : Bool := false
  devWrittenAt : Nat := 0
  accChg : Nat := 0
  accChgRev : Nat := 0
  /-- the AON charge counter, signed (R251) -/
  charge : BitVec 32 := 0
  /-- bases of the counters kept at their source (R230) -/
  baseChg : BitVec 32 := 0
  baseZone : Vector (BitVec 32) 4 := Vector.replicate 4 0
  openings : List Opening := []
  /-- the 32 KiB tally store (R254): addresses rising, no zero byte listed -/
  store : List (Nat × BitVec 8) := []
  /-- writes queued, oldest first (R258) -/
  writes : List WriteReq := []
  /-- device record content (Table 6.4) -/
  powerUps : BitVec 32 := 0
  cleans : BitVec 32 := 0
  /-- a clean is in progress (R265), and it was resumed (R266) -/
  cleaning : Bool := false
  resumed : Bool := false
  /-- re-firing (R268, R269) -/
  refireOn : Bool := false
  refireBlock : Nat := 0
  refireDay : Nat := 0
  refireEpoch : BitVec 32 := 0
  refireEver : Bool := false
  /-- the day on which the running pass started -/
  refireFrom : Nat := 0
  /-- calendar tick from which the next pass is due, and raw tick of the next session -/
  refireDueCal : Nat := 0
  refireNext : Nat := 0
  /-- journal (R273 to R276) -/
  jNext : BitVec 32 := 0
  jQueue : List JEntry := []
  jDropped : Nat := 0
  /-- data and number of the latest BREACH entry (LAST_BREACH) -/
  lastBreach : BitVec 32 := 0
  scanned : Bool := false
  deriving DecidableEq, Repr

end Sys2Proof.Machine
end

