-- ==== Sys2Proof/Machine/TypesVideo.lean ====
section
/-!
DEFINITION. The parts of the state that belong to the camera ports, the kiln, the movers and the head
(chapters 7 to 10).
-/
namespace Sys2Proof.Machine

/-- Camera port states in code order (Table 7.2). -/
inductive PortState where
  | off | disabled | replay | waiting | streaming | restart | failed | test | hold
  deriving DecidableEq, Repr

/-- Recipe header (Table 7.6). -/
structure RecipeHeader where
  cciAddr : Byte
  cciOpts : Byte
  lanes : Nat
  laneRate : Nat
  mclk : Nat
  dt : Nat
  vc : Nat
  cfa : Nat
  flags : Byte
  width : Nat
  lines : Nat
  ob : Nat
  fsyncWidth : Nat
  rate : Nat
  latency : Nat
  powerUp : Nat
  startTimeout : Nat
  deriving DecidableEq, Repr

/-- Exposure map (Table 7.8). -/
structure ExpMap where
  expReg : Nat
  expWidth : Nat
  latency : Nat
  lineTime : Nat
  frameLen : Nat
  minExp : Nat
  margin : Nat
  gainReg : Nat
  gainWidth : Nat
  law : Nat
  code1 : Nat
  codeMax : Nat
  step : Nat
  holdReg : Nat
  holdVal : Byte
  relVal : Byte
  deriving DecidableEq, Repr

/-- Recipe entries (Table 7.7); `skip` is an entry that is skipped whole (R305). -/
inductive Entry where
  | done
  | write (reg : Nat) (data : List Byte)
  | rmw (reg : Nat) (mask val : Byte)
  | poll (reg : Nat) (mask val : Byte) (timeoutMs : Nat)
  | delay (ms : Nat)
  | expmap (m : ExpMap)
  | skip (op : Byte)
  deriving DecidableEq, Repr

/-- A verified recipe. -/
structure Recipe where
  hdr : RecipeHeader
  entries : List Entry
  deriving DecidableEq, Repr

/-- What the recipe cache holds of one slot: a verified copy or the reason of Table 7.9. -/
inductive SlotSt where
  | bad (reason : Nat)
  | good (r : Recipe)
  deriving DecidableEq, Repr

/-- A write on a CCI bus (R292): 7-bit address, bus speed in kHz, register address with its bytes, and data. -/
structure CciWrite where
  addr : Byte
  khz : Nat
  width : Nat
  reg : Nat
  data : List Byte
  deriving DecidableEq, Repr

/-- Progress of a replay (R309). -/
inductive ReplayPhase where
  | idle
  | cenLow (since : Nat)
  | powerUp (till : Nat)
  | run
  | pollTill (till : Nat)
  | delayTill (till : Nat)
  | ended (at_ : Nat)
  deriving DecidableEq, Repr

/-- A frame opened at a camera port (R286 to R291). Time stamps are fabric time in 1/65,536 ns. -/
structure CamFrame where
  stamp : Nat
  num : BitVec 16
  counter : BitVec 32
  startTick : Nat
  /-- place among the frames since the entry to STREAMING, the first being 0 (R355) -/
  index : Nat := 0
  lines : Nat := 0
  matched : Nat := 0
  badLines : Nat := 0
  longLine : Bool := false
  shortLine : Bool := false
  longFrame : Bool := false
  shortFrame : Bool := false
  stall : Bool := false
  crcErr : Bool := false
  expLate : Bool := false
  discard : Bool := false
  free : Bool := false
  exposure : Nat := 0
  gain : Nat := 0
  deriving DecidableEq, Repr

/-- One camera port (chapter 7). -/
structure CamSt where
  state : PortState := .off
  cen : Bool := false
  /-- tick at which CEN last changed -/
  cenAt : Nat := 0
  mclk : Bool := false
  hdrErr : BitVec 32 := 0
  crcErr : BitVec 32 := 0
  unsupported : BitVec 32 := 0
  otherVc : BitVec 32 := 0
  dropped : BitVec 32 := 0
  counter : BitVec 32 := 0
  frame : Option CamFrame := none
  /-- frame start packets, oldest first, and a frame end packet received and not yet acted on (R168, R284) -/
  fsPend : List (BitVec 16) := []
  fePend : Bool := false
  /-- stamp of the latest delivered frame start (R289) -/
  lastStart : Option Nat := none
  lastFlags : BitVec 16 := 0
  badRun : Nat := 0
  restarts : List Nat := []
  pc : Nat := 0
  phase : ReplayPhase := .idle
  /-- cause of a replay failure that REPLAY FAIL journals (R312) -/
  failCause : Option Nat := none
  /-- a CCI transfer received a NACK: repetitions made (R293) -/
  nacks : Option Nat := none
  /-- repetitions that the transfer in hand has had, and the tick before which no transfer starts (R293, R304) -/
  reps : Nat := 0
  cciNext : Nat := 0
  /-- SCL pulses of bus recoveries (R294) -/
  sclPulses : Nat := 0
  expmap : Option ExpMap := none
  /-- codes in effect, those written and the frame from which they take effect (R307) -/
  exposure : Nat := 0
  gain : Nat := 0
  codesNext : Option (Nat × Nat × Nat) := none
  /-- an exposure burst due, running, and failed bursts in a row (R307, R308) -/
  burst : Option (Nat × Nat) := none
  burstBusy : Bool := false
  /-- the frame at whose end the running burst started (R307) -/
  burstAt : Nat := 0
  burstFails : Nat := 0
  /-- the update that waits behind a running burst (R307), and the writes of the latest transfer on the CCI bus, in order -/
  burstWait : Option (Nat × Nat) := none
  cciLast : List CciWrite := []
  /-- free-running (R316, R317) and the run of frame starts off the grid -/
  freeRun : Bool := false
  offGrid : Nat := 0
  /-- FSYNC edge number last driven, as a grid index, and the fabric time in 1/65,536 ns at which its pulse ends (R315) -/
  fsyncLast : Nat := 0
  fsyncTill : Nat := 0
  rateNext : Nat := 0
  /-- frame period that the stamp regressor measured, in 2^-16 TDC unit, not yet checked (R318) -/
  measured : Option (BitVec 64) := none
  /-- measured frame rate in 0.1 frame/s -/
  rate : Nat := 0
  /-- frames started since the entry to STREAMING (R355) -/
  frames : Nat := 0
  joined : Bool := false
  /-- the kiln has written the first output line of the first processed frame (R319) -/
  joinReady : Bool := false
  joinAt : Nat := 0
  /-- state taken when the frame in progress has ended (R313) -/
  leave : Option PortState := none
  /-- the recipe that the port keeps until its frame boundary after an update of its slot (R302) -/
  held : Option Recipe := none
  /-- lines in the receive FIFO (Table 4.7), oldest first, each padded to whole 128-bit words -/
  fifo : List (List Byte) := []
  deriving DecidableEq, Repr

/-- The recipe cache (R299) with the directory entries it was read from. -/
structure RecipeCache where
  valid : Bool := false
  gen : BitVec 32 := 0
  entries : Vector (BitVec 64) 12 := Vector.replicate 12 0
  slots : Vector SlotSt 12 := Vector.replicate 12 (.bad 1)
  /-- polls in a row that found a bad CRC (R302) -/
  crcFails : Vector Nat 12 := Vector.replicate 12 0
  /-- slots whose ports were disabled by a poll and wait for a read of R299 (R302) -/
  pollBad : Vector Bool 12 := Vector.replicate 12 false
  pollNext : Nat := 0
  deriving DecidableEq, Repr

/-- Sums of one statistics zone (R342). -/
structure ZoneStat where
  r : Nat := 0
  g : Nat := 0
  b : Nat := 0
  counted : Nat := 0
  left : Nat := 0
  deriving DecidableEq, Repr

/-- Statistics of a frame (R342). -/
structure Stats where
  zones : List ZoneStat
  hist : List Nat
  deriving DecidableEq, Repr

/-- One kiln context (chapter 8). -/
structure KCtx where
  /-- working and shadow sets (R325) and the arm (R326) -/
  work : Vector Int 46 := Vector.replicate 46 0
  shadow : Vector Int 46 := Vector.replicate 46 0
  armed : Bool := false
  /-- frames delivered by the port and not yet begun, oldest first -/
  frames : List CamFrame := []
  /-- the frame in progress, its input rows of 12-bit samples and the output lines written -/
  cur : Option CamFrame := none
  rows : List (List Nat) := []
  outDone : Nat := 0
  /-- the lines of the frame in progress are released without a slot (R331) -/
  skipping : Bool := false
  /-- ring position of the next input line (R396) -/
  readPos : Nat := 0
  resync : Bool := false
  lastStart : Option Nat := none
  /-- black levels of the four phases in 1/256 (R338) -/
  bl : Vector Nat 4 := Vector.replicate 4 0
  blSet : Bool := false
  obFixed : Bool := false
  /-- statistics of the latest frame: collected, and ready for the house core -/
  stats : Option Stats := none
  statsNew : Bool := false
  /-- the AE and the AWB loop have not used the statistics yet -/
  aePend : Bool := false
  awbPend : Bool := false
  statFrame : Nat := 0
  statLate : Bool := false
  /-- convergence and measure as they were at the first line slot of the frame (R365) -/
  heldConv : Bool := false
  heldMeasure : Nat := 0
  /-- tag record and counter of the latest completed frame -/
  tag : List Byte := []
  doneCounter : BitVec 32 := 0
  /-- a frame has completed since the latest output frame start (R436) -/
  doneNew : Bool := false
  /-- AE state: exposure in lines, gain in 1/4,096, updates made, usable frames without update -/
  exposure : Nat := 0
  gain : Nat := 4096
  updates : Nat := 0
  quiet : Nat := 0
  converged : Bool := false
  updFrame : Nat := 0
  /-- the latest converged exposure, gain and gain code, with the recipe (R360) -/
  lastConv : Option (Nat × Nat × Nat × Recipe) := none
  /-- white-balance gains in 1/1,024 -/
  wb : Vector Nat 3 := Vector.replicate 3 1024
  measure : Nat := 0
  /-- AWB (R361 to R364): usable frames since STREAMING -/
  awbFrames : Nat := 0
  mono : Bool := false
  maxSince : Option Nat := none
  lowSince : Option Nat := none
  burnOmitted : Bool := false
  parityAt : List Nat := []
  fault : Bool := false
  /-- test-pattern frame counter (R353) -/
  testFrame : Nat := 0
  /-- export ring (R493, R494): line written next, line read next, bytes read and not yet sent, the offset of the
  next fragment, and the tag records of the images begun, oldest first -/
  expWrite : Nat := 0
  expRead : Nat := 0
  expBuf : List Byte := []
  expOff : Nat := 0
  expTags : List (List Byte) := []
  /-- the head that the image in progress goes to (R491) -/
  expDest : Option (BitVec 12) := none
  deriving DecidableEq, Repr

/-- The kiln. -/
structure Kiln where
  ctx : Vector KCtx 13 := Vector.replicate 13 {}
  /-- context served last (R330) -/
  last : Ctx := 12
  running : Bool := false
  hangs : List Nat := []
  /-- since when some context has been ready without a slot (R371) -/
  readySince : Option Nat := none
  overruns : Nat := 0
  parities : Nat := 0
  hangCount : Nat := 0
  /-- the line slot in progress (R329), and the bytes of its input line that the kiln input FIFO has delivered -/
  slot : Option Ctx := none
  lineIn : List Byte := []
  /-- the descriptor of the input line of the slot in progress, for the kiln feed (R389): address, context, length -/
  feed : List (Nat × Ctx × Nat) := []
  /-- output lines in the kiln output FIFO with their descriptors: pool address, context, queue -/
  out : List (Nat × Ctx × Fin 64 × List Byte) := []
  deriving DecidableEq, Repr

/-- Mover channel states (Table 9.1). -/
inductive ChState where
  | idle | run | wait | done | stopped | halted | fenced
  deriving DecidableEq, Repr

/-- The fault latch (R407). -/
structure FaultLatch where
  cause : BitVec 3
  write : Bool
  addr : BitVec 32
  word : Nat
  owner : BitVec 5
  deriving DecidableEq, Repr

/-- One mover channel (§9.1 to §9.6). -/
structure MChan where
  state : ChState := .idle
  level : Fin 8 := 0
  owner : BitVec 5 := 0
  pc : Nat := 0
  /-- progress of the MOVE or FILL in hand: lines done, and bytes of the next one done (R374, R387) -/
  line : Nat := 0
  off : Nat := 0
  regs : Vector (BitVec 32) 10 := Vector.replicate 10 0
  loops : Vector (Option (BitVec 16)) 2 := Vector.replicate 2 none
  /-- address and bytes of the latest write (R397) -/
  last : Option (Nat × List Byte) := none
  latch : Option FaultLatch := none
  stopReq : Bool := false
  /-- a pending WAIT: when it times out, and the port whose frame start it waits for with whether it has come (R394) -/
  waitTill : Option Nat := none
  waitFrame : Option (CamPort × Bool) := none
  /-- half, full, signal and completion events raised (R391) -/
  events : Nat := 0
  lastEvent : Byte := 0
  deriving DecidableEq, Repr

/-- A queue (R392). -/
structure MQueue where
  level : Nat := 0
  high : Nat := 0
  low : Nat := 0
  resync : BitVec 32 := 0
  deriving DecidableEq, Repr

/-- The buffers of Table 9.6. -/
inductive BufKind where
  | core
  | rx (p : FabPort)
  | tx (p : FabPort)
  | mirror
  | head
  | input (k : CamPort)
  | tile (c : Ctx)
  | export_ (c : Ctx)
  deriving DecidableEq, Repr

/-- An allocated buffer: its first slab and number of slabs. -/
structure Buffer where
  kind : BufKind
  base : Nat
  count : Nat
  deriving DecidableEq, Repr

/-- Jobs of channel 31 (R404, R406). -/
inductive Job where
  | scrub (slab : Nat)
  | black (base count : Nat)
  deriving DecidableEq, Repr

/-- The movers and the clay pool (chapter 9). -/
structure Mov where
  chan : Vector MChan 32 := Vector.replicate 32 {}
  prog : Vector (BitVec 128) 512 := Vector.replicate 512 0
  queue : Vector MQueue 64 := Vector.replicate 64 {}
  /-- channel served last at each level (R375), and grants since channel 31's latest (R376) -/
  served : Vector MovCh 8 := Vector.replicate 8 31
  since31 : Nat := 7
  granted : Option MovCh := none
  /-- owner table (R399) -/
  owner : Vector (BitVec 5) 384 := Vector.replicate 384 29
  /-- pool contents: addresses rising, no zero byte listed -/
  pool : List (Nat × BitVec 8) := []
  ecc : BitVec 32 := 0
  bufs : List Buffer := []
  /-- jobs posted to channel 31, oldest first -/
  jobs : List Job := []
  /-- a port has left the recipe that it kept: parameters and buffers follow at the next tick (R302, R403) -/
  syncDue : Bool := false
  /-- fault times of each owner within 60 s (R409), and those of channel 31 (R410) -/
  faultAt : List (BitVec 5 × Nat) := []
  fault31At : List Nat := []
  deriving DecidableEq, Repr

/-- A record offered to the head queue (R438). -/
structure HeadRec where
  kind : Fin 4
  src : BitVec 12
  content : List Byte
  deriving DecidableEq, Repr

/-- A packet of the head (R426): virtual channel, data type and payload; a short packet carries its frame number in two
bytes. -/
structure HeadPacket where
  vc : Nat
  dt : Nat
  bytes : List Byte
  deriving DecidableEq, Repr

/-- A segment of a composite line, or a line of a port frame, that the head feed brings (R389, R434): its pool address, context and
length, the packet of the output frame that it belongs to, its place there, and which of its bytes are shown. -/
structure HeadSeg where
  addr : Nat
  ctx : Ctx
  len : Nat
  packet : Nat
  at_ : Nat
  skip : Nat
  take : Nat
  deriving DecidableEq, Repr

/-- What the head sent for one output frame (R425, R427, R436, R437): its packets, and the deskew sequence in UI, 0 for
none (R421). -/
structure HeadFrame where
  counter : BitVec 32
  packets : List HeadPacket
  deskew : Nat
  deriving DecidableEq, Repr

/-- The newest and the previous frame of a tile store (R434, R435). -/
structure TileSt where
  /-- tick of the latest completed frame or of the join (R435) -/
  freshAt : Nat := 0
  held : Bool := true
  deriving DecidableEq, Repr

/-- A tile image being reassembled or waiting (R495). -/
structure TileImage where
  src : BitVec 12
  ctx : Nat
  /-- header of its fragments -/
  header : List Byte
  bytes : List Byte
  nextSeq : Nat
  doneAt : Option Nat := none
  deriving DecidableEq, Repr

/-- The head (chapter 10). -/
structure Head where
  /-- the head transmits: at least one output frame of this Sand entry has started -/
  on : Bool := false
  /-- lanes: false high impedance, true LP-11 or transmitting (R420) -/
  driven : Bool := false
  /-- output frame counter since power-up (R428) -/
  counter : BitVec 32 := 0
  /-- an output frame is in progress; fabric time of its start and its period in ns (R424) -/
  inFrame : Bool := false
  startedAt : Nat := 0
  period : Nat := 0
  /-- ticks before which no frame starts: LP-11 after a take (R443) -/
  lp11Till : Nat := 0
  /-- segments of the output frame in progress that the head feed has still to bring (R389), and the bytes of the first of them
  that the head line FIFO has delivered -/
  segs : List HeadSeg := []
  lineIn : List Byte := []
  tile : Vector TileSt 12 := Vector.replicate 12 {}
  offered : List HeadRec := []
  records : List (List Byte) := []
  seq : BitVec 32 := 0
  /-- records dropped in all, and since the latest overflow entry (R438) -/
  dropped : Nat := 0
  droppedNew : Nat := 0
  underruns : Nat := 0
  underrunPrev : Bool := false
  /-- device and path tallies at the latest snapshot (R438) -/
  snapDev : Vector (BitVec 64) 17 := Vector.replicate 17 0
  snapPath : Vector (Vector (BitVec 64) 8) 8 := Vector.replicate 8 (Vector.replicate 8 0)
  snapNext : Nat := 0
  last : Option HeadFrame := none
  /-- an initial deskew is due at the next frame, and the tick of the next periodic one (R421) -/
  deskewDue : Bool := false
  deskewNext : Nat := 0
  /-- images of received tiles (R495) -/
  images : List TileImage := []
  imageOut : Option (List HeadPacket) := none
  imageDrops : Nat := 0
  deriving DecidableEq, Repr

end Sys2Proof.Machine
end

