-- ==== Sys2Proof/Machine/TypesNet.lean ====
section
/-!
DEFINITION. The parts of the state that belong to the Speica fabric, link trust, the twin pair and the
monitor (chapters 11, 12, 13 and 16).
-/
namespace Sys2Proof.Machine

/-- Link states (Table 11.5), in LINK code order with EMBER as code 4. -/
inductive LinkState where
  | off | down | training | active | ember | quarantined
  deriving DecidableEq, Repr

/-- Trust states (Table 12.1), in LINK_FA code order. -/
inductive Trust where
  | unpaired | keyMismatch | sessionSetup | clean | test | admitted
  deriving DecidableEq, Repr

/-- Port roles (Table 11.2). -/
inductive PortRole where
  | off | trunk | twin
  deriving DecidableEq, Repr

/-- A frame header (Table 11.6). -/
structure Header where
  dest : BitVec 12
  src : BitVec 12
  typ : BitVec 4
  flow : BitVec 8
  hop : BitVec 6
  standby : Bool
  len : BitVec 11
  seq : BitVec 10
  deriving DecidableEq, Repr

/-- A frame with its payload. -/
structure Frame where
  hdr : Header
  payload : List Byte
  deriving DecidableEq, Repr

/-- A frame in a transmit queue (R469): when it was queued, and whether it is forwarded (R471). -/
structure TxFrame where
  frame : Frame
  at_ : Nat
  forwarded : Bool
  deriving DecidableEq, Repr

/-- BEACON payload (Table 11.8). -/
structure Beacon where
  uid : BitVec 64
  addr : BitVec 12
  kind : BitVec 2
  role : Byte
  site : BitVec 6
  port : BitVec 2
  portRole : BitVec 2
  timeState : BitVec 3
  prio : BitVec 2
  steps : Nat
  mode : Byte
  root : BitVec 64
  cable : Byte
  standby : Bool
  deriving DecidableEq, Repr

/-- The key record of a port (Table 12.3). -/
structure KeyRec where
  partner : BitVec 64
  kTx : List Byte
  kRx : List Byte
  keyId : BitVec 32
  role : Byte
  sec : BitVec 48
  pairings : BitVec 32
  deriving DecidableEq, Repr

/-- A pairing in progress on a port (R512 to R515). -/
structure Pairing where
  scalar : List Byte
  nonce : List Byte
  pub : List Byte
  /-- partner unique ID, public key, nonce, once its OFFER has come -/
  partner : Option (BitVec 64 × List Byte × List Byte) := none
  kTx : List Byte := []
  kRx : List Byte := []
  kC : List Byte := []
  keyId : BitVec 32 := 0
  verified : Bool := false
  committedAt : Option Nat := none
  partnerCommitted : Bool := false
  offerNext : Nat := 0
  confirmNext : Nat := 0
  committedNext : Nat := 0
  deriving DecidableEq, Repr

/-- Port counters (R464, Table 12.5, R463, R471, R484). -/
structure Counters where
  symErr : BitVec 32 := 0
  lenErr : BitVec 32 := 0
  crcErr : BitVec 32 := 0
  unkType : BitVec 32 := 0
  badAddr : BitVec 32 := 0
  notPerm : BitVec 32 := 0
  cmacErr : BitVec 32 := 0
  replay : BitVec 32 := 0
  flood : BitVec 32 := 0
  stalls : BitVec 32 := 0
  trainFail : BitVec 32 := 0
  quarantines : BitVec 32 := 0
  hopLimit : BitVec 32 := 0
  noRoute : BitVec 32 := 0
  tileDrop : BitVec 32 := 0
  timeBad : BitVec 32 := 0
  deriving DecidableEq, Repr

/-- The whole receive ring in credits of 128 bytes (R466): 16 KiB of the control class, 112 KiB of the bulk class. -/
def ringCredits : Vector Nat 2 := #v[128, 896]

/-- One Speica port (chapters 11 and 12). -/
structure FPort where
  link : LinkState := .off
  trust : Trust := .unpaired
  cnt : Counters := {}
  /-- transmit credits of the control and bulk classes (R467), and the queues (R469) -/
  credits : Vector Nat 2 := Vector.replicate 2 0
  /-- credits of the two classes of the receive ring that the partner holds (R466, R467) -/
  granted : Vector Nat 2 := Vector.replicate 2 0
  txq : Vector (List TxFrame) 2 := Vector.replicate 2 []
  /-- bytes in the receive and the transmit FIFO of the port (Table 4.7) -/
  rxFifo : List Byte := []
  txFifo : List Byte := []
  /-- since when the head of each queue has waited for credits (R470) -/
  stallAt : Vector (Option Nat) 2 := Vector.replicate 2 none
  stallTimes : List Nat := []
  /-- frames put on the wire, newest first, as sent between SOF and EOF (R461) -/
  wire : List (List Byte) := []
  /-- ordered sets sent that carry no frame: EMBER, TRAIN, wake tones and pulses, counted -/
  emberSent : Bool := false
  trainAt : Nat := 0
  retrainAt : Nat := 0
  trainRun : Nat := 0
  frameAt : Nat := 0
  beaconAt : Nat := 0
  beaconNext : Nat := 0
  pulseNext : Nat := 0
  pulseAt : Nat := 0
  toneAt : Option Nat := none
  beacon : Option Beacon := none
  /-- the pairing window (R511) and the pairing on this port -/
  window : Bool := false
  pairing : Option Pairing := none
  pairCode : Option Nat := none
  key : Option KeyRec := none
  /-- session (R522 to R528) -/
  nonce : List Byte := []
  partnerNonce : Option (List Byte) := none
  sTx : List Byte := []
  sRx : List Byte := []
  txCount : Nat := 0
  rxCount : Nat := 0
  recentMacs : List (List Byte) := []
  macFails : Nat := 0
  established : Bool := false
  rekeying : Bool := false
  setupAt : Nat := 0
  helloNext : Nat := 0
  badHello : Nat := 0
  noCmac : Nat := 0
  mismatchNext : Nat := 0
  /-- token buckets of Table 12.4 in 1/32,768 frame, and when they were last filled (R529) -/
  bucket : Vector Nat 5 := Vector.replicate 5 0
  bucketAt : Nat := 0
  floodJournalAt : Option Nat := none
  replayJournalAt : Option Nat := none
  /-- error interval (R532): its start and the counters at its start -/
  ivAt : Nat := 0
  ivBase : Counters := {}
  /-- a quarantine cause met and not yet acted on (R532) -/
  quarPend : Option Nat := none
  quarCause : Nat := 0
  quarTill : Option Nat := none
  quarForever : Bool := false
  q : Nat := 0
  /-- probation (R537) -/
  probAt : Nat := 0
  cleanAt : Nat := 0
  cleanCount : Nat := 0
  partnerClean : Nat := 0
  testSeq : Nat := 0
  testNext : Nat := 0
  admittedAt : Nat := 0
  penalty : Bool := false
  deriving DecidableEq, Repr

/-- Address kinds (Table 11.8). -/
inductive AddrKind where
  | unassigned | beadSet | discovered | held
  deriving DecidableEq, Repr

/-- A link of a LINKSTATE entry (Table 11.9). -/
structure LsLink where
  port : BitVec 2
  metric : Nat
  /-- neighbour address with its kind, as Table 11.8 -/
  addr : BitVec 16
  uid : BitVec 64
  deriving DecidableEq, Repr

/-- A LINKSTATE entry (Table 11.9) and when it was refreshed (R481). -/
structure LsEntry where
  uid : BitVec 64
  addr : BitVec 12
  kind : BitVec 2
  role : Byte
  site : BitVec 6
  prio : BitVec 2
  refin : Bool
  links : List LsLink
  seq : BitVec 32
  at_ : Nat := 0
  deriving DecidableEq, Repr

/-- A route of the Sieve (R483, R484). -/
structure RouteEnt where
  addr : BitVec 12
  port : FabPort
  cost : Nat
  hops : Nat
  deriving DecidableEq, Repr

/-- A TILE flow with the port that it uses (R486). -/
structure PinnedFlow where
  src : BitVec 12
  dest : BitVec 12
  ctx : BitVec 4
  port : FabPort
  deriving DecidableEq, Repr

/-- Time states in code order (Table 11.12). -/
inductive TimeState where
  | free | coarse | fine | holdover | root
  deriving DecidableEq, Repr

/-- A time exchange in progress (R499). -/
structure Exchange where
  e : Byte
  t1 : Nat
  at_ : Nat
  deriving DecidableEq, Repr

/-- The fabric (chapter 11). Times are in 1/65,536 ns. -/
structure Fab where
  port : Vector FPort 3 := Vector.replicate 3 {}
  uid : BitVec 64
  addr : BitVec 12 := 0
  kind : AddrKind := .unassigned
  /-- last discovered address, in the AON domain (R475) -/
  lastAddr : BitVec 12 := 0
  /-- tick at which discovery begins (R474, R476) -/
  discoverAt : Option Nat := none
  trunkUp : Bool := false
  lsdb : List LsEntry := []
  ownSeq : BitVec 32 := 0
  lsSentAt : Nat := 0
  lsDue : Option Nat := none
  dbChangedAt : Option Nat := none
  routedAt : Nat := 0
  routes : List RouteEnt := []
  pinned : List PinnedFlow := []
  /-- unicast frames that wait until their destination's earlier frames have left another port (R486) -/
  parked : List Frame := []
  /-- start of the latest burst of time exchanges of a port in EMBER (R499) -/
  burstAt : Nat := 0
  diameter : List (BitVec 12) := []
  fullJournalled : Bool := false
  exportHead : Option (BitVec 12) := none
  /-- sequence counters for each type and flow (R463) -/
  seqs : List (Nat × BitVec 10) := []
  /-- frames delivered to this device and not yet handled, with their ports, oldest first -/
  inbox : List (FabPort × Frame) := []
  tallyNext : Nat := 0
  sentDev : Vector (BitVec 64) 17 := Vector.replicate 17 0
  sentPath : Vector (Vector (BitVec 64) 8) 8 := Vector.replicate 8 (Vector.replicate 8 0)
  /-- fabric time (R498) and the servo (R501) -/
  time : Nat := 0
  timeRun : Bool := false
  /-- calendar ticks at which the counter was stopped (R498) -/
  stoppedAt : Nat := 0
  rate : Int := 0
  slew : Int := 0
  slewTicks : Nat := 0
  tstate : TimeState := .free
  rootUid : BitVec 64 := 0
  steps : Nat := 0
  parent : Option FabPort := none
  exch : Option Exchange := none
  exchNo : Byte := 0
  exchNext : Nat := 0
  exchInterval : Nat := 2048
  exchBurst : Nat := 0
  acceptedAt : Nat := 0
  fineRun : Nat := 0
  theta : Int := 0
  delay : Int := 0
  /-- noise source (R520) fails; free values drawn so far -/
  noiseBad : Bool := false
  /-- pairing window (R511): its end, ports opened in it and ports paired in it -/
  windowTill : Option Nat := none
  windowPorts : Vector Bool 3 := Vector.replicate 3 false
  windowPaired : Nat := 0
  deriving DecidableEq, Repr

/-- The mirrored alarm state (R560). -/
structure Shadow where
  zones : Vector (Option Zone) 4 := Vector.replicate 4 none
  out : Vector Bool 2 := Vector.replicate 2 false
  /-- latch remainders in ticks, none for until silence -/
  latch : Vector (Option Nat) 2 := Vector.replicate 2 (some 0)
  silencedH24 : Bool := false
  silencedTmp : Bool := false
  deriving DecidableEq, Repr

/-- What the partner's latest STATE said (Table 13.5). -/
structure PartnerState where
  uid : BitVec 64 := 0
  mode : BitVec 3 := 0
  role : Nat := 0
  sealCode : BitVec 2 := 3
  tamper : Bool := false
  holds : Bool := false
  inSync : Bool := false
  beatSeen : Bool := false
  edgeSeen : Bool := false
  split : Bool := false
  digest : BitVec 32 := 0
  addr : BitVec 12 := 0
  lsSeq : BitVec 32 := 0
  at_ : Nat := 0
  deriving DecidableEq, Repr

/-- Mirror state in MIRROR code order (Table 13.7). -/
inductive MirrorPhase where
  | down | resync | inSync
  deriving DecidableEq, Repr

/-- An unacknowledged mirror frame (R559). -/
structure MirrorTx where
  seq : BitVec 32
  kind : Byte
  body : List Byte
  at_ : Nat
  tries : Nat := 0
  deriving DecidableEq, Repr

/-- The hand-over (R567): its window, and whether it is automatic. -/
structure HandWin where
  till : Nat
  auto : Bool
  asHolder : Bool
  deriving DecidableEq, Repr

/-- The twin pair (chapter 13). -/
structure Twin where
  holding : Bool := false
  breakn : Bool := false
  headsel : Bool := false
  leaseOut : Bool := false
  toggleNext : Nat := 0
  lastEdge : Option Nat := none
  lastHolderEdge : Option Nat := none
  /-- start of the quiet count: start-up or the latest yield (R551) -/
  quietFrom : Nat := 0
  everTaken : Bool := false
  inhibit : Bool := false
  inhibitAt : Nat := 0
  split : Bool := false
  wireFault : Bool := false
  takenAt : Nat := 0
  shadow : Shadow := {}
  partner : Option PartnerState := none
  mirror : MirrorPhase := .down
  /-- the data of the resynchronisation are sent, and the sequence of its last frame (R563) -/
  resyncSent : Bool := false
  resyncLast : BitVec 32 := 0
  txSeq : BitVec 32 := 0
  rxSeq : BitVec 32 := 0
  unacked : List MirrorTx := []
  /-- entries that this unit journalled as the standby and that the holder has not acknowledged (R563) -/
  own : List JEntry := []
  ackDue : Option Nat := none
  stateNext : Nat := 0
  stateDirty : Bool := false
  /-- the fields of the latest STATE sent, without the countdowns (R558) -/
  stateSent : List Byte := []
  mirrCrc : BitVec 32 := 0
  /-- tallies at the last TALLY sent (R561) -/
  sentPath : Vector (Vector (BitVec 64) 8) 8 := Vector.replicate 8 (Vector.replicate 8 0)
  sentZone : Vector (BitVec 64) 4 := Vector.replicate 4 0
  /-- a hand-over that is to begin, and whether it is automatic (R567) -/
  handReq : Option Bool := none
  hand : Option HandWin := none
  /-- PREPARE, TAKEN or ABORT received and not yet acted on -/
  handMsg : Option Byte := none
  beadMismatch : Bool := false
  roleClash : Bool := false
  pairAddr : BitVec 12 := 0
  standbyMeta : List Byte := []
  deriving DecidableEq, Repr

/-- A parsed monitor command (Table 16.2). -/
inductive MonCmd where
  | help
  | par (i n : Nat)
  | beads
  | tally (p : Option PathNo)
  | jourLast (n : Nat)
  | jourFrom (e : Nat)
  | jourFollow
  | path (p : PathNo) (n : Nat)
  | cam (k : CamPort)
  | kiln (c : Ctx)
  | mover (c : Option MovCh)
  | pool
  | route (a : Option Nat)
  | link (p : Option FabPort)
  | clock
  | twin
  | thumb (c : Ctx)
  | cal
  | restrap
  | pair (p : FabPort)
  | quar (p : FabPort)
  | readmit (p : FabPort)
  | handover
  deriving DecidableEq, Repr

/-- The reckon monitor (chapter 16). -/
structure Mon where
  enabled : Bool := false
  /-- a start of the house core waits for its first filtered KEYn level (R631) -/
  awaitKey : Bool := false
  line : List Byte := []
  overrun : Bool := false
  lastCr : Bool := false
  /-- the parsed line whose command has not run -/
  cmd : Option MonCmd := none
  /-- the tick of the latest line terminator (R644) -/
  cmdAt : Nat := 0
  /-- a maintenance command waiting for SET, until the tick (R644), and confirmed -/
  confirm : Option (MonCmd × Nat) := none
  confirmed : Option MonCmd := none
  follow : Bool := false
  /-- cal waits for the calibration to end (R647) -/
  calWait : Bool := false
  /-- a command's output is being sent (R636) -/
  busy : Bool := false
  /-- output lines waiting in the transmit queue, oldest first, the bits sent of the first one in 1/32,768, the lines sent,
  newest first (R633, R638), and the characters echoed -/
  out : List String := []
  txAcc : Nat := 0
  sent : List String := []
  echo : List Byte := []
  framing : Nat := 0
  overruns : Nat := 0
  /-- unsolicited pair lines waiting for a prompt (R640) -/
  unsolicited : List String := []
  deriving DecidableEq, Repr

end Sys2Proof.Machine
end

