-- ==== Sys2Proof/Machine/State.lean ====
section
/-!
DEFINITION. The state of the TJ1216 with the queue of waiting commands, the state in the power-on reset,
and the reasons for which a step stops.
-/
namespace Sys2Proof.Machine

/-- The open default of each bead (Table 2.2 and the owning chapters). -/
def openDefault : BeadNo → Fin 16 := fun b =>
  match b.val with
  | 5 => 5
  | 6 => 6
  | 9 => 3
  | 13 => 8
  | 15 => 6
  | 30 => 5
  | 34 => 2
  | 35 => 4
  | 37 => 14
  | 38 => 3
  | 39 => 2
  | _ => 0

/-- The state of the block: one part for each chapter, and the commands that wait. -/
structure State where
  dev : Dev
  bead : Bead
  loc : Local
  clk : Clk
  tr : Transit
  tal : Tal
  cam : Vector CamSt 12
  rcp : RecipeCache
  kiln : Kiln
  mov : Mov
  head : Head
  fab : Fab
  twin : Twin
  mon : Mon
  /-- the model's own counter of free values drawn -/
  draws : Nat
  /-- commands waiting, oldest first -/
  pending : List Instr
  deriving DecidableEq, Repr

/-- Faults of a step. No rule of the spec stops the block: no meaning raises one (safe). -/
inductive Fault where
  /-- Raised by no meaning: the spec names no event after which the block stops for good. Safe. -/
  | halted
  deriving DecidableEq, Repr

/-- Refusals of a step. -/
inductive Refusal where
  /-- Raised by an arm of exec whose command has no meaning yet. Safe. -/
  | notModelled (mnemonic : String)
  /-- Raised by a meaning whose operands do not meet Instr.wellFormed: no such event can come. Safe. -/
  | illFormed
  deriving DecidableEq, Repr

/-- The index in effect at reset: every bead at its open default. -/
def effReset : Vector (Vector (Fin 16) 8) 40 :=
  Vector.ofFn fun b => Vector.replicate 8 (openDefault b)

/-- The machine in the power-on reset (R577, R579), with a tally store that holds nothing. -/
def State.reset : State where
  dev := {}
  bead := { eff := effReset }
  loc := {}
  clk := {}
  tr := {}
  tal := {}
  cam := Vector.replicate 12 {}
  rcp := {}
  kiln := {}
  mov := {}
  head := {}
  fab := { uid := Config.uid }
  twin := {}
  mon := {}
  draws := 0
  pending := []

end Sys2Proof.Machine
end

