-- ==== Sys2Proof/Machine/Arith.lean ====
section
/-!
DEFINITION. Rounding (R650), integer square root, and byte strings, least or most significant byte
first.
-/
namespace Sys2Proof.Machine

/-- n / d to the nearest integer, halves away from zero (R650). d must not be 0. -/
def rdiv (n : Int) (d : Nat) : Int :=
  let q : Int := ((2 * n.natAbs + d) / (2 * d) : Nat)
  if n < 0 then -q else q

/-- n / d to the nearest integer for a natural number, halves up (R650). -/
def rdivNat (n d : Nat) : Nat := (2 * n + d) / (2 * d)

/-- n / d rounded up. -/
def cdiv (n d : Nat) : Nat := (n + d - 1) / d

/-- The even value at or below n. -/
def evenDown (n : Nat) : Nat := n / 2 * 2

/-- floor of the square root, bit by bit from the given bit downward. -/
def isqrtFrom : Nat → Nat → Nat → Nat
  | 0, _, r => r
  | k + 1, n, r =>
    let r' := r + 2 ^ k
    if r' * r' ≤ n then isqrtFrom k n r' else isqrtFrom k n r

/-- floor of the square root of a number below 2^256. -/
def isqrt (n : Nat) : Nat := isqrtFrom 128 n 0

/-- Clamp an integer to a range. -/
def clampInt (lo hi x : Int) : Int := max lo (min hi x)

/-- Clamp a natural number to a range. -/
def clampNat (lo hi x : Nat) : Nat := max lo (min hi x)

/-- The n low bytes of a number, least significant first. -/
def bytesLE : Nat → Nat → List Byte
  | 0, _ => []
  | n + 1, x => BitVec.ofNat 8 x :: bytesLE n (x / 256)

/-- The n low bytes of a number, most significant first. -/
def bytesBE (n x : Nat) : List Byte := (bytesLE n x).reverse

/-- A number from its bytes, least significant first. -/
def natLE : List Byte → Nat
  | [] => 0
  | b :: t => b.toNat + 256 * natLE t

/-- A number from its bytes, most significant first. -/
def natBE (l : List Byte) : Nat := natLE l.reverse

/-- n zero bytes. -/
def zeros (n : Nat) : List Byte := List.replicate n 0

/-- The n bytes of a list from an offset, with zeros where the list ends. -/
def slice (l : List Byte) (off n : Nat) : List Byte :=
  let t := (l.drop off).take n
  t ++ zeros (n - t.length)

/-- The bytes of an ASCII text. -/
def ascii (s : String) : List Byte := s.toList.map fun c => BitVec.ofNat 8 c.toNat

/-- Bytewise exclusive or. -/
def xorBytes : List Byte → List Byte → List Byte
  | a :: s, b :: t => (a ^^^ b) :: xorBytes s t
  | _, _ => []

/-- Insertion into a rising list. -/
def insertNat (x : Nat) : List Nat → List Nat
  | [] => [x]
  | y :: t => if x ≤ y then x :: y :: t else y :: insertNat x t

/-- A list sorted in rising order. -/
def sortNat : List Nat → List Nat
  | [] => []
  | x :: t => insertNat x (sortNat t)

/-- Twice the median of a list (the two middle values are added, R244). -/
def median2 (l : List Nat) : Nat :=
  let s := sortNat l
  s.getD ((s.length - 1) / 2) 0 + s.getD (s.length / 2) 0

/-- Sum of a list of integers. -/
def sumInt : List Int → Int
  | [] => 0
  | x :: t => x + sumInt t

/-- Sum of a list of natural numbers. -/
def sumNat : List Nat → Nat
  | [] => 0
  | x :: t => x + sumNat t

/-- Saturation of a count at a bound. -/
def sat (bound n : Nat) : Nat := min bound n

/-- 1 for true. -/
def bit (b : Bool) : Nat := if b then 1 else 0

/-- The events at ticks no older than the span. -/
def recent (now span : Nat) (l : List Nat) : List Nat := l.filter fun t => now < t + span

end Sys2Proof.Machine
end

