-- ==== Sys2Proof/Machine/Tables.lean ====
section
/-!
DEFINITION. The value tables of the spec, one function each: beads, policies, rates, paths, zones, alarm
mapping, port roles, layouts and journal levels.
-/
namespace Sys2Proof.Machine

/-- AON ticks in one second (§4.1, nominal). -/
def tps : Nat := 32768

/-- A duration in ms as AON ticks, rounded up. -/
def msTicks (ms : Nat) : Nat := cdiv (ms * 32768) 1000

/-- Mode code (Table 6.7, byte 11). -/
def Mode.code : Mode → Nat
  | .startup => 0
  | .loam => 1
  | .sand => 2
  | .bedBattery => 3
  | .bedFault => 4

/-- Either kind of Bedrock. -/
def Mode.bedrock : Mode → Bool
  | .bedBattery => true
  | .bedFault => true
  | _ => false

/-- Cause code of BEDROCK FAULT (Table 14.8). -/
def FatalCause.code : FatalCause → Nat
  | .pllNoLock => 1
  | .kilnFault => 2
  | .moverFault => 3
  | .coreFault => 4
  | .romFault => 5
  | .clockFault => 6
  | .overtemp => 7
  | .serdesFault => 8

/-- Reading code (R278). -/
def Reading.code : Reading → Nat
  | .idx n => n.val
  | .o => 16
  | .s => 17
  | .i => 18

/-- Seal code of GESTURE and STATE: 3 while undetermined (R278). -/
def sealCode : Option Seal → Nat
  | some .intact => 0
  | some .bridged => 1
  | some .opened => 2
  | none => 3

/-- Zone code of ZONE (Table 6.8). -/
def Zone.code : Zone → Nat
  | .normal => 0
  | .alarm => 1
  | .tamper => 2
  | .tamperAlarm => 3
  | .short => 4
  | .opened => 5

/-- Port state code (Table 7.2). -/
def PortState.code : PortState → Nat
  | .off => 0
  | .disabled => 1
  | .replay => 2
  | .waiting => 3
  | .streaming => 4
  | .restart => 5
  | .failed => 6
  | .test => 7
  | .hold => 8

/-- Link state code of LINK and LINK_FA (R504, Table 16.4). -/
def LinkState.code : LinkState → Nat
  | .off => 0
  | .down => 1
  | .training => 2
  | .active => 3
  | .ember => 4
  | .quarantined => 5

/-- Trust state code (Table 16.4). -/
def Trust.code : Trust → Nat
  | .unpaired => 0
  | .keyMismatch => 1
  | .sessionSetup => 2
  | .clean => 3
  | .test => 4
  | .admitted => 5

/-- Time state code (Table 11.12). -/
def TimeState.code : TimeState → Nat
  | .free => 0
  | .coarse => 1
  | .fine => 2
  | .holdover => 3
  | .root => 4

/-- Address kind code (Table 11.8). -/
def AddrKind.code : AddrKind → Nat
  | .unassigned => 0
  | .beadSet => 1
  | .discovered => 2
  | .held => 3

/-- Outcome code of a ring check (Table 5.14). -/
def RingOutcome.code : RingOutcome → Nat
  | .pass => 0
  | .short => 1
  | .opened => 2
  | .detuned => 3

/-- PLL reference code in R150 order. -/
def PllRef.code : PllRef → Nat
  | .refin => 1
  | .fabric => 2
  | .xo => 3

/-- Shot status value (Table 5.8). -/
def ShotStatus.code : ShotStatus → Nat
  | .ok => 0
  | .weak => 1
  | .early => 2
  | .none => 3
  | .ovr => 4
  | .shadow => 5
  | .skip => 6

/-- Pair status value (Table 5.9). -/
def PairStatus.code : PairStatus → Nat
  | .valid => 0
  | .acq => 1
  | .slip => 2
  | .invalid => 3
  | .skipped => 4

/-- The reserved indices of a bead, as its owning chapter states. -/
def reservedIdx (b : BeadNo) (i : Fin 16) : Bool :=
  if b.val = 4 then decide (10 ≤ i.val) && decide (i.val ≤ 13)
  else if 16 ≤ b.val && b.val ≤ 27 then i.val = 15
  else match b.val with
    | 3 => decide (7 ≤ i.val)
    | 7 => decide (11 ≤ i.val)
    | 8 => decide (14 ≤ i.val)
    | 9 => decide (4 ≤ i.val)
    | 12 => decide (9 ≤ i.val)
    | 13 => decide (14 ≤ i.val)
    | 15 => decide (12 ≤ i.val)
    | 28 => i.val = 6 || i.val = 7 || i.val = 14 || i.val = 15
    | 29 => decide (7 ≤ i.val)
    | 31 => decide (6 ≤ i.val)
    | 32 => i.val = 15
    | 33 => decide (13 ≤ i.val)
    | 34 => decide (10 ≤ i.val)
    | 35 => decide (13 ≤ i.val)
    | 36 => decide (11 ≤ i.val)
    | 37 => i.val = 15
    | 38 => decide (7 ≤ i.val)
    | 39 => decide (6 ≤ i.val)
    | _ => false

/-- The value a bead uses from a reading (R55, Table 2.2). -/
def valueUsed (b : BeadNo) : Reading → Fin 16
  | .idx n => if reservedIdx b n then openDefault b else n
  | _ => openDefault b

/-- The reading is a bead fault (Table 2.2). -/
def beadFaulty (b : BeadNo) : Reading → Bool
  | .idx n => reservedIdx b n
  | .o => false
  | .s => true
  | .i => true

/-- Parts that take a change of the bead at a boundary of their own (Table 2.4). -/
def beadParts (b : BeadNo) : Nat :=
  match b.val with
  | 9 => 3
  | 10 => 2
  | 39 => 2
  | 32 => 8
  | 33 => 8
  | 34 => 8
  | 35 => 8
  | 36 => 4
  | 37 => 4
  | 38 => 8
  | _ => 1

/-- Beads that take effect only at power-up or reset (R73). -/
def powerUpOnly (b : BeadNo) : Bool := decide (b.val ≤ 3) || b.val = 8

/-- The rod of a bead, 0 for A (R278). -/
def rodOf (b : BeadNo) : Nat := b.val / 4

/-- The bead a gesture of hold time and policy reads: Table 1.5, whether bead 4 accepts a trigger. -/
def policyAccepts (idx : Fin 16) (k : TriggerKind) (armed : Bool) : Bool :=
  let i := if idx.val = 14 then 4 else if idx.val = 15 then 0 else if idx.val ≤ 9 then idx.val else 0
  match k with
  | .breach => if i ≤ 3 then true else if i ≤ 7 then armed else false
  | .passagePolicy =>
    if i = 0 ∨ i = 2 then true else if i = 4 ∨ i = 6 then armed else false
  | .zoneAlarm => decide (i ≤ 7)
  | .tamper => decide (i ≤ 8)
  | .siteEvent => i = 0 || i = 1 || i = 4 || i = 5

/-- Always-Sand level of bead 4 (Table 1.5). -/
def alwaysSand (idx : Fin 16) (armed : Bool) : Bool :=
  idx.val = 15 || (idx.val = 14 && armed)

/-- Bead 5, Sand hold time in seconds (Table 1.7). -/
def holdSecs (idx : Fin 16) : Nat :=
  ([10, 15, 20, 30, 45, 60, 90, 120, 180, 300, 420, 600, 900, 1200, 1500, 1800] : List Nat).getD idx.val 60

/-- Bead 15, output frame rate in 0.1 frame/s (Table 10.2). -/
def frameRate10 (idx : Nat) : Nat :=
  ([10, 20, 50, 100, 150, 250, 300, 500, 600, 75, 125, 200] : List Nat).getD idx 300

/-- The bead 15 indices in descending order of rate (R422). -/
def ratesDescending : List Nat := [8, 7, 6, 5, 11, 4, 10, 3, 9, 2, 1, 0]

/-- Output frame period in ns (R422). -/
def framePeriodNs (idx : Nat) : Nat := rdivNat 10000000000 (frameRate10 idx)

/-- Bead 13, divider of PO13 (Table 10.3). -/
def laneDiv (idx : Nat) : Nat :=
  ([125, 100, 50, 40, 25, 20, 16, 13, 10, 8, 7, 6, 5, 4] : List Nat).getD idx 10

/-- Head mode (Table 10.1). -/
inductive HeadMode where
  | off | vc | mosaic
  deriving DecidableEq, Repr

def headMode (idx : Nat) : HeadMode :=
  if idx = 0 ∨ 9 ≤ idx then .off else if idx % 2 = 1 then .vc else .mosaic

/-- PACK of the head mode (Table 10.1). -/
def headPack (idx : Nat) : Nat :=
  let i := if 5 ≤ idx then idx - 4 else idx
  if 3 ≤ i then 1 else 0

/-- Twin role of bead 3 (Table 11.1): none, secondary or primary. -/
inductive TwinRole where
  | none | secondary | primary
  deriving DecidableEq, Repr

def twinRole (idx : Nat) : TwinRole :=
  if idx = 3 ∨ idx = 5 then .secondary else if idx = 4 ∨ idx = 6 then .primary else .none

/-- Bead 3 gives the head role (Table 11.1). -/
def headRole (idx : Nat) : Bool := idx = 2 || idx = 5 || idx = 6

/-- Bead 8, role that the bead gives each port (Table 11.2). -/
def beadPortRole (idx : Nat) (p : FabPort) : PortRole :=
  let row : List PortRole := match idx with
    | 1 => [.trunk, .off, .off]
    | 2 => [.trunk, .trunk, .off]
    | 3 => [.twin, .off, .off]
    | 4 => [.trunk, .trunk, .trunk]
    | 5 => [.twin, .trunk, .off]
    | 6 => [.twin, .trunk, .trunk]
    | 7 => [.off, .trunk, .off]
    | 8 => [.off, .off, .trunk]
    | 9 => [.trunk, .off, .trunk]
    | 10 => [.off, .trunk, .trunk]
    | 11 => [.trunk, .twin, .off]
    | 12 => [.trunk, .trunk, .twin]
    | 13 => [.twin, .off, .trunk]
    | _ => [.off, .off, .off]
  row.getD p.val .off

/-- Role of a port in force from the role and port role beads (R448). -/
def portRoleOf (role roles : Nat) (p : FabPort) : PortRole :=
  if role = 0 ∨ 7 ≤ role then .off
  else match beadPortRole roles p with
    | .twin => if twinRole role = .none then .off else .twin
    | r => r

/-- Port role code of TRAIN and of BEACON (Tables 11.4 and 11.8). -/
def PortRole.code : PortRole → Nat
  | .off => 0
  | .trunk => 1
  | .twin => 2

/-- Aperture types (Table 5.2). -/
inductive Aperture where
  | dr | gp | du | ar | wd | ai
  deriving DecidableEq, Repr

/-- Aperture factor in 0.01 m² (Table 5.2). -/
def Aperture.f100 : Aperture → Nat
  | .dr => 160
  | .gp => 40
  | .du => 5
  | .ar => 240
  | .wd => 600
  | .ai => 800

/-- Length classes (Table 5.4): 0 short, 1 medium, 2 long. -/
def Aperture.cls : Aperture → Nat
  | .dr => 0
  | .gp => 0
  | .du => 0
  | .ar => 1
  | .wd => 1
  | .ai => 2

/-- Nominal length in µm (Table 5.4). -/
def classLen (c : Nat) : Nat := ([2000000, 4000000, 8000000] : List Nat).getD c 2000000
/-- Search window close in TDC units (Table 5.4). -/
def classClose (c : Nat) : Nat := ([9900000, 19800000, 33000000] : List Nat).getD c 9900000 * 512
/-- Slot time S in 0.1 ms (Table 5.4). -/
def classSlot (c : Nat) : Nat := ([105, 205, 340] : List Nat).getD c 105
/-- Sand cap in pairs/s (Table 5.4). -/
def classCap (c : Nat) : Nat := ([64, 32, 16] : List Nat).getD c 64

/-- Bead 32, types of the configured paths (Table 5.3). -/
def pathPreset (idx : Nat) : List Aperture :=
  match idx with
  | 0 => [.dr]
  | 1 => [.dr, .dr]
  | 2 => [.dr, .dr, .gp]
  | 3 => [.dr, .dr, .dr, .dr]
  | 4 => [.dr, .ar, .gp, .dr]
  | 5 => [.dr, .ar, .gp, .dr, .du]
  | 6 => [.dr, .dr, .ar, .gp, .dr, .du]
  | 7 => [.dr, .dr, .dr, .dr, .dr, .dr, .dr, .dr]
  | 8 => [.wd, .dr]
  | 9 => [.wd, .wd, .dr, .dr]
  | 10 => [.ai, .ai, .dr]
  | 11 => [.ai, .ai, .ai, .ai, .dr, .dr, .dr, .dr]
  | 12 => [.du, .du, .du, .du]
  | 13 => [.dr, .dr, .dr, .dr, .du, .du, .du, .du]
  | _ => []

/-- Channel of the a end and of the b end of a path (Table 5.1). -/
def chanA (p : PathNo) : Chan := if h : p.val < 4 then ⟨p.val, by omega⟩ else ⟨p.val + 4, by omega⟩
def chanB (p : PathNo) : Chan := if h : p.val < 4 then ⟨p.val + 4, by omega⟩ else ⟨p.val + 8, by omega⟩

/-- Path of a channel (Table 5.1). -/
def chanPath (c : Chan) : PathNo :=
  if h : c.val < 4 then ⟨c.val, by omega⟩
  else if h : c.val < 8 then ⟨c.val - 4, by omega⟩
  else if h : c.val < 12 then ⟨c.val - 4, by omega⟩
  else ⟨c.val - 8, by omega⟩

/-- Group pair of a path (Table 5.1): 0 G0/G1, 1 G2/G3. -/
def groupPair (p : PathNo) : Fin 2 := if p.val < 4 then 0 else 1

/-- Receive group of a channel (R173). -/
def chanGroup (c : Chan) : GroupNo := ⟨c.val / 4, by omega⟩

/-- Bead 33, half-period h in XO cycles (Table 5.6). -/
def freqH (idx : Nat) : Nat :=
  ([300, 250, 207, 160, 120, 96, 80, 60, 40, 30, 24, 12, 10] : List Nat).getD idx 300
/-- Pulses of a burst (Table 5.6). -/
def freqPulses (idx : Nat) : Nat :=
  ([8, 8, 8, 10, 10, 12, 12, 16, 16, 16, 20, 24, 24] : List Nat).getD idx 8
/-- Initial gain in dB / 2 (Table 5.6). -/
def freqGain (idx : Nat) : Nat :=
  ([20, 20, 20, 18, 18, 16, 16, 15, 15, 14, 14, 12, 12] : List Nat).getD idx 20
/-- Three periods of the drive, in TDC units: P = h × 128,000 / 3 units (R181, R1). -/
def freqP3 (idx : Nat) : Nat := freqH idx * 128000
/-- Fixed delay td = 5.25 P in units of 1/4,096 ns (Table 5.6). -/
def freqTd (idx : Nat) : Nat := freqH idx * 224000 * 8

/-- Bead 34, Loam rate in 1/65,536 pair/s (Table 5.11). -/
def loamRate (idx : Nat) : Nat :=
  ([16384, 32768, 65536, 131072, 262144, 524288, 1048576, 196608, 393216, 786432] : List Nat).getD idx 65536

/-- Period in ticks of a rate in 1/65,536 pair/s (R210). -/
def ratePeriod (r : Nat) : Nat := if r = 0 then 0 else rdivNat (32768 * 65536) r

/-- Bead 6 (Table 1.8): rate in 1/65,536 pair/s and the highest path kept, as a count. -/
def bedRate (idx : Nat) : Nat := 16384 * 2 ^ (idx % 4)
def bedPaths (idx : Nat) : Nat := ([8, 4, 2, 1] : List Nat).getD (idx / 4) 8

/-- Bead 35 (Table 6.3): K, v_floor in µm/s and M; none when breach detection is off. -/
def breachSet (idx : Nat) : Option (Nat × Nat × Nat) :=
  ([(3, 2, 1), (4, 3, 1), (4, 5, 2), (5, 8, 2), (6, 12, 2), (6, 20, 3), (8, 30, 3), (8, 50, 3), (10, 80, 4),
    (12, 120, 4), (16, 200, 4), (20, 400, 5)] : List (Nat × Nat × Nat))[idx]?

/-- Bead 38 (Table 6.2): Ts in ticks; none with no harmonic model. -/
def sampleTicks (idx : Nat) : Option Nat := if idx < 6 then some (8192 * 2 ^ idx) else none

/-- Bead 36 (Table 3.5): REOL, RALM and RTMP in ohms. -/
def zoneClass (idx : Nat) : Nat × Option Nat × Option Nat :=
  match idx with
  | 0 => (2200, some 2200, none)
  | 1 => (4700, some 4700, none)
  | 2 => (1000, some 1000, none)
  | 3 => (2200, some 4700, none)
  | 4 => (4700, some 2200, none)
  | 5 => (2200, none, none)
  | 6 => (4700, none, none)
  | 7 => (1000, none, none)
  | 8 => (2200, some 2200, some 6800)
  | 9 => (4700, some 4700, some 12000)
  | 10 => (1000, some 1000, some 3300)
  | _ => (2200, some 2200, none)

/-- Type of a zone in use (Table 3.7) and the path it is linked to. -/
inductive ZoneType where
  | intruder (link : Option PathNo)
  | hours24
  deriving DecidableEq, Repr

/-- Bead 37 (Table 3.7): the type of each zone in use. -/
def zoneType (idx : Nat) (z : ZoneNo) : Option ZoneType :=
  let i : Option ZoneType := some (.intruder none)
  let l (p : PathNo) : Option ZoneType := some (.intruder (some p))
  let h : Option ZoneType := some .hours24
  let row : List (Option ZoneType) := match idx with
    | 0 => [i, i]
    | 1 => [l 0, i]
    | 2 => [l 0, l 1]
    | 3 => [i, h]
    | 4 => [l 0, h]
    | 5 => [i, i, i, i]
    | 6 => [l 0, l 1, l 2, l 3]
    | 7 => [l 0, l 1, i, h]
    | 8 => [i, i, i, h]
    | 9 => [i]
    | 10 => [l 0]
    | 11 => [h]
    | 12 => [i, i, i]
    | 13 => [l 0, i, i]
    | _ => []
  row.getD z.val none

/-- Alarm conditions (Table 3.8). -/
inductive Cond where
  | int | h24 | tmp | grp | flt
  deriving DecidableEq, Repr

/-- How an output is driven (Table 3.9): follow, latched with a cut-off in ticks, or latched until silence. -/
inductive AlmMode where
  | follow
  | latched (cutOff : Option Nat)
  | never
  deriving DecidableEq, Repr

/-- Bead 7, alarm output mapping (Table 3.9). -/
def alarmMap (idx : Nat) (o : AlmOut) : List Cond × AlmMode :=
  let m15 : AlmMode := .latched (some (900 * 32768))
  let m3 : AlmMode := .latched (some (180 * 32768))
  match idx, o with
  | 1, 0 => ([.int, .h24, .tmp], m15)
  | 1, 1 => ([.flt], .follow)
  | 2, 0 => ([.int, .h24, .grp], m15)
  | 2, 1 => ([.tmp], .follow)
  | 3, 0 => ([.int, .h24], .follow)
  | 3, 1 => ([.tmp], .follow)
  | 4, 0 => ([.int], .follow)
  | 4, 1 => ([.tmp, .h24], .follow)
  | 5, 0 => ([.int, .h24, .tmp], .follow)
  | 5, 1 => ([.flt], .follow)
  | 6, 0 => ([.int, .h24], m3)
  | 6, 1 => ([.tmp], .follow)
  | 7, 0 => ([.int, .h24, .grp], m3)
  | 7, 1 => ([.tmp, .flt], .follow)
  | 8, 0 => ([.int, .h24], m15)
  | 8, 1 => ([.int, .h24, .tmp], .latched none)
  | 9, 0 => ([.tmp], .follow)
  | 9, 1 => ([.flt], .follow)
  | 10, _ => ([], .never)
  | _, 0 => ([.int, .h24], m15)
  | _, _ => ([.tmp], .follow)

/-- Level of a journal code (R277, and the code tables of each chapter); none for a code that is not
written (R278). -/
def jLevel (code : Byte) : Option Nat :=
  let c := code.toNat
  if c ∈ ([0x01, 0x02, 0x08, 0x09, 0x0B, 0x0C, 0x0D, 0x0E, 0x10, 0x12, 0x13, 0x14, 0x15, 0x16, 0x18] : List Nat) then some 0
  else if c ∈ ([0x20, 0x21, 0x23, 0x24, 0x26, 0x28, 0x2B, 0x2C, 0x2D, 0x30, 0x33, 0x34, 0x38, 0x39, 0x3A, 0x3C, 0x3D, 0x3E, 0x3F] : List Nat) then some 0
  else if c ∈ ([0x42, 0x43, 0x44, 0x45, 0x46, 0x49, 0x4C, 0x4F, 0x51, 0x52, 0x53, 0x55, 0x57, 0x5A, 0x5B] : List Nat) then some 0
  else if c ∈ ([0x60, 0x61, 0x62, 0x64, 0x65, 0x66, 0x67, 0x70, 0x71, 0x73, 0x74, 0x76, 0x79, 0x7A] : List Nat) then some 0
  else if c ∈ ([0x81, 0x82, 0x88, 0x8A, 0x8B, 0x90, 0x92] : List Nat) then some 0
  else if 0xA1 ≤ c ∧ c ≤ 0xAF then some 0
  else if c ∈ ([0x0A, 0x11, 0x17, 0x22, 0x25, 0x29, 0x2A, 0x32, 0x3B] : List Nat) then some 1
  else if c ∈ ([0x40, 0x48, 0x4A, 0x4B, 0x4D, 0x4E, 0x50, 0x56, 0x58, 0x59, 0x63] : List Nat) then some 1
  else if c ∈ ([0x72, 0x75, 0x77, 0x78, 0x80, 0x84, 0x85, 0x86, 0x89, 0x91, 0xA0] : List Nat) then some 1
  else if c ∈ ([0x31, 0x35, 0x41, 0x47, 0x54, 0x83] : List Nat) then some 2
  else none

/-- Names of the journal codes (Table 6.8 and the code tables of each chapter). -/
def jNames : List (Nat × String) :=
  [(0x01, "POWER-UP"), (0x02, "MODE"), (0x08, "BEAD FAULT"), (0x09, "BREF FAULT"), (0x0A, "RE-STRAP"),
   (0x0B, "RESTART PENDING"), (0x0C, "STRAP FALLBACK"), (0x0D, "STRAP REFUSED"), (0x0E, "PORT DROPPED"),
   (0x10, "GESTURE"), (0x11, "GESTURE DETAIL"), (0x12, "SET STUCK"), (0x13, "SEAL"), (0x14, "ZONE"),
   (0x15, "ARMED"), (0x16, "SILENCE"), (0x17, "LINK UNUSED"), (0x18, "WAKE"), (0x20, "X32 FAIL"),
   (0x21, "XO FAIL"), (0x22, "REFIN"), (0x23, "REF SWITCH"), (0x24, "MODEL RESET"), (0x25, "RATE DISCARDED"),
   (0x26, "TIME BASE UNVERIFIED"), (0x28, "LOW VDRV"), (0x29, "SLIP REANCHOR"), (0x2A, "RATE CLAMP"),
   (0x2B, "CAL DONE"), (0x2C, "CAL REFUSED"), (0x2D, "HEALTH"), (0x30, "BREACH"), (0x31, "PASSAGE"),
   (0x32, "PATH BLOCKED"), (0x33, "TAILGATE"), (0x34, "ARMED PASSAGE"), (0x35, "TRACKER"),
   (0x38, "TORN COMMIT"), (0x39, "STORE CRC"), (0x3A, "CLEAN"), (0x3B, "REFIRE"), (0x3C, "REFIRE ERROR"),
   (0x3D, "RECORD ABSENT"), (0x3E, "JOURNAL OVERFLOW"), (0x3F, "STORE FORMATTED")] ++
  [(0x40, "LINK"), (0x41, "EMBER"), (0x42, "ROLE MISMATCH"), (0x43, "CREDIT STALL"), (0x44, "ADDRESS"),
   (0x45, "ADDRESS CONFLICT"), (0x46, "PORT ROLE"), (0x47, "ROUTE"), (0x48, "DIAMETER"), (0x49, "FABRIC FULL"),
   (0x4A, "TIME ROOT"), (0x4B, "TIME STATE"), (0x4C, "TIME STEP"), (0x4D, "NO HEAD"), (0x4E, "TILE DROP"),
   (0x4F, "BAD ADDRESS"), (0x50, "PAIR WINDOW"), (0x51, "PAIRED"), (0x52, "PAIR FAIL"), (0x53, "KEY MISMATCH"),
   (0x54, "SESSION"), (0x55, "QUARANTINE"), (0x56, "PROBATION"), (0x57, "READMIT"), (0x58, "FLOOD"),
   (0x59, "REPLAY"), (0x5A, "NOISE FAULT"), (0x5B, "GROUP EVENT"), (0x60, "LEASE"), (0x61, "LEASE WIRE FAULT"),
   (0x62, "SPLIT"), (0x63, "MIRROR"), (0x64, "HANDOVER"), (0x65, "TWIN BEAD MISMATCH"), (0x66, "TWIN ROLE CLASH"),
   (0x67, "PARTNER TAMPER")] ++
  [(0x70, "RECIPE BUS"), (0x71, "RECIPE BAD"), (0x72, "RECIPE SKIPPED"), (0x73, "REPLAY FAIL"), (0x74, "CCI STUCK"),
   (0x75, "PORT STATE"), (0x76, "PORT FAILED"), (0x77, "PORT JOINED"), (0x78, "RATE MISMATCH"), (0x79, "FSYNC IGNORED"),
   (0x7A, "RECIPE UPDATED"), (0x80, "KILN OVERRUN"), (0x81, "KILN PARITY"), (0x82, "KILN HANG"),
   (0x83, "AE CONVERGED"), (0x84, "NIGHT MODE"), (0x85, "BURN OMITTED"), (0x86, "OB FIXED"), (0x88, "MOVER FAULT"),
   (0x89, "MOVER RECOVERED"), (0x8A, "SLAB QUARANTINE"), (0x8B, "MOVER FATAL"), (0x90, "HEAD UNDERRUN"),
   (0x91, "HEAD EXCESS"), (0x92, "EVENT QUEUE OVERFLOW"), (0xA0, "START-UP"), (0xA1, "BEAD READ DEFERRED"),
   (0xA2, "MAINS"), (0xA3, "ABANDONED"), (0xA4, "VBAT LOW"), (0xA5, "TDC FAULT"), (0xA6, "PLL NO LOCK"),
   (0xA7, "STORE FAULT"), (0xA8, "CORE RESTART"), (0xA9, "CORE FAULT"), (0xAA, "ROM FAULT"), (0xAB, "CLOCK FAULT"),
   (0xAC, "OVERTEMP"), (0xAD, "SERDES FAULT"), (0xAE, "BEDROCK FAULT"), (0xAF, "AON INTEGRITY")]

/-- Tiles of a layout in cell order: x, y, width and height of each (Table 10.5). -/
def gridTiles (w h c r : Nat) : List (Nat × Nat × Nat × Nat) :=
  (List.range (c * r)).map fun i => ((i % c) * (w / c), (i / c) * (h / r), w / c, h / r)

/-- Bead 14 (Table 10.5): canvas width and height, and the tiles. -/
def layoutOf (idx : Nat) : Nat × Nat × List (Nat × Nat × Nat × Nat) :=
  let seven := [(0, 0, 1440, 810), (1440, 0, 480, 270), (1440, 270, 480, 270), (1440, 540, 480, 270),
    (0, 810, 480, 270), (480, 810, 480, 270), (960, 810, 480, 270)]
  match idx with
  | 0 => (1920, 1080, [(0, 0, 1920, 1080)])
  | 1 => (1920, 1080, [(0, 270, 960, 540), (960, 270, 960, 540)])
  | 2 => (1920, 1080, gridTiles 1920 1080 2 2)
  | 3 => (1920, 1080, [(0, 0, 1280, 720), (1280, 0, 640, 360), (1280, 360, 640, 360), (0, 720, 640, 360),
      (640, 720, 640, 360), (1280, 720, 640, 360)])
  | 4 => (1920, 1080, gridTiles 1920 1080 3 3)
  | 5 => (1920, 1080, seven)
  | 6 => (1920, 1080, seven ++ [(1440, 810, 480, 270)])
  | 7 => (1920, 1080, gridTiles 1920 1080 4 3)
  | 8 => (3840, 2160, [(0, 0, 3840, 2160)])
  | 9 => (3840, 2160, gridTiles 3840 2160 2 2)
  | 10 => (3840, 2160, gridTiles 3840 2160 3 3)
  | 11 => (3840, 2160, gridTiles 3840 2160 4 3)
  | 12 => (1280, 720, [(0, 0, 1280, 720)])
  | 13 => (1280, 720, gridTiles 1280 720 2 2)
  | 14 => (2560, 1440, gridTiles 2560 1440 4 3)
  | _ => (1920, 2160, [(0, 0, 1920, 1080), (0, 1080, 1920, 1080)])

end Sys2Proof.Machine
end

