-- ==== Sys2Proof/Machine/Pixels.lean ====
section
/-!
DEFINITION. The stages of the kiln as functions of the samples of a frame (§8.4 to §8.7). An image is a function of
column and row; it is never a part of the state. Orders of rounding that the rules leave open: each stage rounds its
result once (R650). DESIGN CHOICE.
-/
namespace Sys2Proof.Machine

/-- An image: column, row, value. -/
abbrev Img := Int → Int → Int

/-- Mirroring at the edges without repeating the edge sample (R340). -/
def mir (n i : Int) : Int := if i < 0 then -i else if n ≤ i then 2 * (n - 1) - i else i

/-- An image mirrored at its edges. -/
def mirrored (w h : Nat) (f : Img) : Img := fun x y => f (mir w x) (mir h y)

/-- A value clamped to 12 bits. -/
def clamp12 (x : Int) : Int := clampInt 0 4095 x
/-- A value clamped to 8 bits. -/
def clamp8 (x : Int) : Int := clampInt 0 255 x

/-- A sample of the rows held (the input rows of the frame, top first). -/
def rowsImg (rows : List (List Nat)) : Img := fun x y => ((rows.getD y.toNat []).getD x.toNat 0 : Nat)

/-- CFA phase of a sample: 0 top left to 3 bottom right of a 2 × 2 cell, counted from the first active line. -/
def phaseOf (x y : Int) : Fin 4 :=
  ⟨(x % 2 + 2 * (y % 2)).toNat % 4, by omega⟩

/-- Colour of a sample: 0 red, 1 green, 2 blue, 3 monochrome (Table 7.6, colour filter order). -/
def colourAt (cfa : Nat) (x y : Int) : Nat :=
  let p := (phaseOf x y).val
  match cfa with
  | 0 => ([0, 1, 1, 2] : List Nat).getD p 1
  | 1 => ([1, 0, 2, 1] : List Nat).getD p 1
  | 2 => ([1, 2, 0, 1] : List Nat).getD p 1
  | 3 => ([2, 1, 1, 0] : List Nat).getD p 1
  | _ => 3

/-- Black level subtraction (R339): bl in 1/256. -/
def blackStage (bl : Vector Nat 4) (f : Img) : Img := fun x y =>
  let b := bl[phaseOf x y]
  let v := f x y * 256 - b
  if v ≤ 0 then 0 else clamp12 (rdiv (v * 4095) (4095 * 256 - b))

/-- Defect-pixel correction (R340): d is the distance of same-colour neighbours. -/
def defectStage (td d : Int) (f : Img) : Img := fun x y =>
  let v := f x y
  let near := [f (x - d) y, f (x + d) y, f x (y - d), f x (y + d)]
  let all := near ++ [f (x - d) (y - d), f (x + d) (y - d), f (x - d) (y + d), f (x + d) (y + d)]
  let hi := all.foldl max 0
  let lo := all.foldl min 4095
  if hi + td < v ∨ v < lo - td then
    let s := sortNat (near.map Int.toNat)
    rdiv (s.getD 1 0 + s.getD 2 0 : Nat) 2
  else v

/-- Gain of a lens-shading node in 1/65,536 (R341): the squared distance from the centre against the half-diagonal. -/
def lensNode (s w h i j : Int) : Int :=
  let a := (w - 1) * (i - 8) * 6
  let b := (h - 1) * (j - 6) * 8
  let den := 48 * 48 * ((w - 1) * (w - 1) + (h - 1) * (h - 1))
  65536 + rdiv (s * 64 * (a * a + b * b)) (max 1 den.toNat)

/-- Lens shading (R341): bilinear between the 17 × 13 nodes. -/
def lensStage (s : Int) (w h : Nat) (f : Img) : Img := fun x y =>
  if s = 0 then f x y
  else
    let wm : Int := max 1 ((w : Int) - 1)
    let hm : Int := max 1 ((h : Int) - 1)
    let i := 16 * x / wm
    let j := 12 * y / hm
    let u := 16 * x % wm
    let v := 12 * y % hm
    let g := (lensNode s w h i j * (wm - u) + lensNode s w h (i + 1) j * u) * (hm - v) +
      (lensNode s w h i (j + 1) * (wm - u) + lensNode s w h (i + 1) (j + 1) * u) * v
    clamp12 (rdiv (f x y * g) (65536 * (wm * hm).toNat))

/-- Green of a sample (R343). -/
def greenAt (t : Int) (cfa : Nat) (f : Img) : Img := fun x y =>
  match colourAt cfa x y with
  | 1 => f x y
  | 3 => f x y
  | _ =>
    let c := f x y
    let ch := 2 * c - f (x - 2) y - f (x + 2) y
    let cv := 2 * c - f x (y - 2) - f x (y + 2)
    let gh := (f (x - 1) y - f (x + 1) y).natAbs + ch.natAbs
    let gv := (f x (y - 1) - f x (y + 1)).natAbs + cv.natAbs
    let h := 2 * (f (x - 1) y + f (x + 1) y) + ch
    let v := 2 * (f x (y - 1) + f x (y + 1)) + cv
    if (gh : Int) + t < gv then rdiv h 4 else if (gv : Int) + t < gh then rdiv v 4 else rdiv (h + v) 8

/-- Red (0) or blue (2) of a sample (R343): its own, or the mean of colour less green over the 3 × 3 neighbourhood. -/
def chromaAt (c : Nat) (cfa : Nat) (f g : Img) : Img := fun x y =>
  if colourAt cfa x y = c ∨ colourAt cfa x y = 3 then f x y
  else
    let l := ([(-1, -1), (0, -1), (1, -1), (-1, 0), (1, 0), (-1, 1), (0, 1), (1, 1)] : List (Int × Int)).filter fun d =>
      colourAt cfa (x + d.1) (y + d.2) = c
    let d := sumInt (l.map fun d => f (x + d.1) (y + d.2) - g (x + d.1) (y + d.2))
    g x y + (if l.isEmpty then 0 else rdiv d l.length)

/-- Sharpening of a channel by the green and its 3 × 3 binomial blur (R344): k in 1/1,024. -/
def sharpStage (k : Int) (c g : Img) : Img := fun x y =>
  let blur := 4 * g x y + 2 * (g (x - 1) y + g (x + 1) y + g x (y - 1) + g x (y + 1)) +
    g (x - 1) (y - 1) + g (x + 1) (y - 1) + g (x - 1) (y + 1) + g (x + 1) (y + 1)
  clamp12 (c x y + rdiv (k * (16 * g x y - blur)) 16384)

/-- The tone curves: output at point i of Table 8.3's f (R347). -/
def tonePoints (sel : Nat) : List Nat :=
  match sel with
  | 0 => [0, 135, 222, 286, 340, 386, 428, 466, 501, 534, 565, 594, 622, 648, 674, 698, 722] ++
      [745, 767, 788, 809, 829, 849, 868, 886, 905, 923, 940, 957, 974, 991, 1007, 1023]
  | 1 => [0, 212, 290, 349, 398, 440, 478, 513, 545, 575, 603, 630, 655, 679, 703, 725, 747] ++
      [767, 788, 807, 826, 845, 863, 880, 898, 914, 931, 947, 963, 978, 993, 1008, 1023]
  | 2 => [0, 297, 380, 439, 487, 527, 563, 594, 624, 650, 675, 699, 721, 742, 761, 780, 799] ++
      [816, 833, 849, 865, 880, 895, 909, 923, 937, 950, 963, 975, 988, 1000, 1011, 1023]
  | 3 => [0, 149, 219, 275, 322, 365, 404, 440, 474, 506, 536, 565, 593, 620, 646, 672, 696] ++
      [720, 743, 766, 788, 810, 831, 852, 872, 892, 912, 931, 950, 969, 987, 1005, 1023]
  | 4 => [0, 32, 64, 96, 128, 160, 192, 224, 256, 288, 320, 352, 384, 416, 448, 480, 512] ++
      [543, 575, 607, 639, 671, 703, 735, 767, 799, 831, 863, 895, 927, 959, 991, 1023]
  | _ => [0, 405, 522, 593, 644, 684, 717, 745, 769, 791, 810, 827, 843, 858, 871, 884, 896] ++
      [907, 917, 927, 937, 946, 954, 962, 970, 978, 985, 992, 998, 1005, 1011, 1017, 1023]

/-- The tone curve with linear interpolation between points (R347). -/
def toneAt (sel : Nat) (v : Int) : Int :=
  let i := (v / 128).toNat
  let l := tonePoints sel
  let a : Int := (l.getD i 1023 : Nat)
  let b : Int := (l.getD (i + 1) 1023 : Nat)
  clampInt 0 1023 (a + rdiv ((b - a) * (v % 128)) 128)

/-- Three components of one pixel. -/
structure Pixel where
  r : Int
  g : Int
  b : Int
  deriving DecidableEq, Repr

/-- White balance, matrix and tone curve of a pixel (R345 to R347). -/
def colourStages (wb : Vector Int 3) (cm : Vector Int 9) (sel : Nat) (p : Pixel) : Pixel :=
  let r := clamp12 (rdiv (p.r * wb[(0 : Fin 3)]) 1024)
  let g := clamp12 (rdiv (p.g * wb[(1 : Fin 3)]) 1024)
  let b := clamp12 (rdiv (p.b * wb[(2 : Fin 3)]) 1024)
  let row (i : Nat) : Int := toneAt sel (clamp12 (rdiv (cm.getD (3 * i) 0 * r + cm.getD (3 * i + 1) 0 * g + cm.getD (3 * i + 2) 0 * b) 256))
  { r := row 0, g := row 1, b := row 2 }

/-- RGB to YCbCr (R348): Y, Cb and Cr in r, g and b. -/
def toYcc (set601 : Bool) (p : Pixel) : Pixel :=
  let (kr, kg, kb, cb, cr) : Int × Int × Int × Int × Int :=
    if set601 then (1225, 2404, 467, 2312, 2922) else (871, 2929, 296, 2207, 2601)
  let e := kr * p.r + kg * p.g + kb * p.b
  { r := clamp8 (16 + rdiv (219 * e) (1023 * 4096))
    g := clamp8 (128 + rdiv (224 * cb * (4096 * p.b - e)) (1023 * 4096 * 4096))
    b := clamp8 (128 + rdiv (224 * cr * (4096 * p.r - e)) (1023 * 4096 * 4096)) }

/-- One sample of the scaler (R350): position and ratio in 1/4,096, 8 taps horizontally and 4 vertically, 32 phases. -/
def scaleAt (rh rv : Nat) (f : Img) : Img := fun x y =>
  let sx := x * rh
  let sy := y * rv
  let px := (sx % 4096 / 128).toNat
  let py := (sy % 4096 / 128).toNat
  let line (v : Int) : Int := sumInt ((List.range 8).map fun i => Config.tapH rh px i * f (sx / 4096 + i - 3) v)
  clamp8 (rdiv (sumInt ((List.range 4).map fun j => Config.tapV rv py j * line (sy / 4096 + j - 1))) 16777216)

/-- Statistics of a frame (R342) over the crop rectangle: zone size zw × zh, saturation level sat. -/
def frameStats (cfa : Nat) (f : Img) (cx cy cw ch zw zh : Nat) (satur : Int) : Stats :=
  let cell (x y : Nat) : List (Nat × Int) :=
    [(0, 0), (1, 0), (0, 1), (1, 1)].map fun (d : Nat × Nat) =>
      (colourAt cfa (x + d.1 : Nat) (y + d.2 : Nat), f (x + d.1 : Nat) (y + d.2 : Nat))
  let zone (i : Nat) : ZoneStat :=
    let x0 := cx + i % 8 * zw
    let y0 := cy + i / 8 * zh
    (List.range (zw / 2 * (zh / 2))).foldl (fun (a : ZoneStat) n =>
      let c := cell (x0 + n % (zw / 2) * 2) (y0 + n / (zw / 2) * 2)
      if c.any fun p => decide (satur ≤ p.2) then { a with left := a.left + 1 }
      else
        let of (k : Nat) : Nat := sumNat ((c.filter fun p => p.1 = k).map fun p => p.2.toNat)
        { a with r := a.r + of 0, g := a.g + of 1 + of 3, b := a.b + of 2, counted := a.counted + 1 }) {}
  let hist := (List.range (cw / 2 * (ch / 2))).foldl (fun (h : List Nat) n =>
    let c := cell (cx + n % (cw / 2) * 2) (cy + n / (cw / 2) * 2)
    let bin := sumNat (c.map fun p => p.2.toNat) / 4 / 64
    h.modify (min 63 bin) (· + 1)) (List.replicate 64 0)
  { zones := (List.range 64).map zone, hist := hist }

/-- A test-pattern sample (R353): eight bars and the moving square. -/
def testPixel (frame : Nat) (x y : Int) : Pixel :=
  let sx := 8 * frame % 1920
  let dx := (x - sx) % 1920
  if 508 ≤ y ∧ y ≤ 571 ∧ dx < 64 then { r := 4095, g := 4095, b := 4095 }
  else
    let on (l : List Nat) : Int := if l.contains (x / 240).toNat then 3071 else 0
    { r := on [0, 1, 4, 5], g := on [0, 1, 2, 3], b := on [0, 2, 4, 6] }

/-- A value of the working set as a natural number. -/
def par (p : Vector Int 46) (i : Fin 46) : Nat := (p[i]).toNat

/-- The pixel after stages 1 to 9 at a place of the active area. -/
def rawPixel (p : Vector Int 46) (bl : Vector Nat 4) (f : Img) (w h : Nat) : Int → Int → Pixel :=
  let cfa := par p 2
  let m := mirrored w h
  let black := m (blackStage bl f)
  let dp := m (if p[(8 : Fin 46)] = 1 then defectStage p[(9 : Fin 46)] (if cfa = 4 then 1 else 2) black else black)
  let lens := m (lensStage p[(11 : Fin 46)] w h dp)
  let g := m (greenAt p[(15 : Fin 46)] cfa lens)
  let k := p[(16 : Fin 46)]
  let r := sharpStage k (chromaAt 0 cfa lens g) g
  let b := sharpStage k (chromaAt 2 cfa lens g) g
  let gg := sharpStage k g g
  let wb : Vector Int 3 := Vector.ofFn fun (i : Fin 3) => p[17 + i.val]
  let cm : Vector Int 9 := Vector.ofFn fun (i : Fin 9) => p[20 + i.val]
  fun x y => colourStages wb cm (par p 29) { r := r x y, g := gg x y, b := b x y }

/-- The test-pattern pixel after the stages it passes (R354). -/
def patternPixel (frame : Nat) : Int → Int → Pixel := fun x y =>
  let c := testPixel frame x y
  { r := toneAt 4 c.r, g := toneAt 4 c.g, b := toneAt 4 c.b }

/-- YCbCr of an output pixel after crop and scaler (R348 to R350): 0 Y, 1 Cb, 2 Cr. -/
def outImg (p : Vector Int 46) (src : Int → Int → Pixel) (which : Nat) : Img :=
  let cx := p[(31 : Fin 46)]
  let cy := p[(32 : Fin 46)]
  let f : Img := fun x y =>
    let c := toYcc (p[(30 : Fin 46)] = 1) (src (cx + x) (cy + y))
    if which = 0 then c.r else if which = 1 then c.g else c.b
  scaleAt (par p 35) (par p 36) (mirrored (par p 33) (par p 34) f)

/-- The characters of the burn-in (R367). -/
def burnText (ctx : Nat) (ns : Nat) (counter : Nat) : List Nat :=
  let digits (n x : Nat) : List Nat := (List.range n).map fun i => 48 + x / 10 ^ (n - 1 - i) % 10
  [67] ++ digits 2 ctx ++ [32] ++ digits 10 (ns / 1000000000) ++ [46] ++ digits 3 (ns / 1000000 % 1000) ++ [32] ++
    digits 8 (counter % 100000000)

/-- Size of the burn-in box, or none where the output is too small for it (R367, R368). -/
def burnBox (p : Vector Int 46) : Option (Nat × Nat) :=
  let n := par p 40
  let w := 27 * 8 * n + 8
  let h := 16 * n + 4
  if par p 39 = 0 then none
  else if (n = 1 ∧ (par p 37 < 240 ∨ par p 38 < 36)) ∨ (n = 2 ∧ (par p 37 < 456 ∨ par p 38 < 52)) then none
  else some (w, h)

/-- The burn-in wanted and left out for want of room (R368). -/
def burnLeftOut (p : Vector Int 46) : Bool := decide (par p 39 ≠ 0) && (burnBox p).isNone

/-- Y of the burn-in at an output place, none outside its box (R367). -/
def burnAt (p : Vector Int 46) (text : List Nat) (x y : Nat) : Option Int :=
  match burnBox p with
  | none => none
  | some (w, h) =>
    let n := par p 40
    let pos := par p 39
    let x0 := if pos = 2 ∨ pos = 4 then par p 37 - 8 - w else 8
    let y0 := if pos = 3 ∨ pos = 4 then par p 38 - 8 - h else 8
    if x < x0 ∨ x0 + w ≤ x ∨ y < y0 ∨ y0 + h ≤ y then none
    else if x < x0 + 4 ∨ x0 + w - 4 ≤ x ∨ y < y0 + 2 ∨ y0 + h - 2 ≤ y then some 16
    else
      let gx := (x - x0 - 4) / n
      let gy := (y - y0 - 2) / n
      if (Config.glyph (text.getD (gx / 8) 32) gy).getMsbD (gx % 8) then some 235 else some 16

/-- One packed output line (R351, R352): YUV422 as U Y V Y, YUV420 legacy as U Y Y and V Y Y by turns. The byte order is
that of CSI-2. PRESUMED. -/
def outLine (p : Vector Int 46) (src : Int → Int → Pixel) (text : List Nat) (j : Nat) : List Byte :=
  let w := par p 37
  let yy (x : Nat) : Int := (burnAt p text x j).getD (outImg p src 0 x j)
  let cc (which x r : Nat) : Int := if (burnAt p text x r).isSome then 128 else outImg p src which x r
  let byte (v : Int) : Byte := BitVec.ofInt 8 v
  ((List.range (w / 2)).map fun i =>
    let x := 2 * i
    let avg (which : Nat) : Int :=
      if par p 41 = 0 then rdiv (cc which x j + cc which (x + 1) j) 2
      else
        let r := j / 2 * 2
        rdiv (cc which x r + cc which (x + 1) r + cc which x (r + 1) + cc which (x + 1) (r + 1)) 4
    if par p 41 = 0 then [byte (avg 1), byte (yy x), byte (avg 2), byte (yy (x + 1))]
    else [byte (avg (if j % 2 = 0 then 1 else 2)), byte (yy x), byte (yy (x + 1))]).flatten

/-- The last active input line that an output line depends on (R332). -/
def lastNeeded (p : Vector Int 46) (j : Nat) : Nat :=
  let j' := if par p 41 = 0 then j else j / 2 * 2 + 1
  min (par p 5 - 1) (par p 32 + (j' * par p 36) / 4096 + 2 + 6)

/-- Black levels of a frame from its optical-black rows (R338), in 1/256: the level of each phase, and whether a mean
above 1,024 was replaced. -/
def obLevels (rows : List (List Nat)) (ob w fixed : Nat) (old : Vector Nat 4) (first : Bool) : Vector Nat 4 × Bool :=
  let at_ (ph : Fin 4) : List Nat :=
    ((List.range ob).map fun y => ((List.range (w - 16)).map fun i => (i + 8, (rows.getD y []).getD (i + 8) 0)).filterMap
      fun v => if phaseOf (v.1 : Nat) ((y + ob : Nat) : Int) = ph then some v.2 else none).flatten
  let mean (ph : Fin 4) : Nat :=
    let l := at_ ph
    if l.isEmpty then 0 else rdivNat (256 * sumNat l) l.length
  let bad (ph : Fin 4) : Bool := decide (1024 * 256 < mean ph)
  let use (ph : Fin 4) : Nat := if bad ph then 256 * fixed else mean ph
  (Vector.ofFn fun ph =>
    if first then use ph else ((old[ph] : Int) + rdiv ((use ph : Int) - old[ph]) 8).toNat,
    (List.finRange 4).any bad)

end Sys2Proof.Machine
end

