-- ==== Sys2Proof/Machine/Crypto.lean ====
section
/-!
DEFINITION. The algorithms that §12 names by their standards: AES-CMAC (NIST SP 800-38B over AES-128),
SHA-256 and HKDF (RFC 5869), and X25519 (RFC 7748). Keys and messages are byte strings.
-/
namespace Sys2Proof.Machine

/-- Multiplication by x in GF(2^8) of AES. -/
def aesX (a : Byte) : Byte := if a.getLsbD 7 then (a <<< 1) ^^^ 0x1B#8 else a <<< 1

/-- Multiplication in GF(2^8) of AES, over the low n bits of the second factor. -/
def aesMulN : Nat → Byte → Byte → Byte
  | 0, _, _ => 0
  | n + 1, a, b => (if b.getLsbD 0 then a else 0) ^^^ aesMulN n (aesX a) (b >>> 1)

def aesMul (a b : Byte) : Byte := aesMulN 8 a b

/-- The multiplicative inverse, 0 for 0: the 254th power. -/
def aesInv (a : Byte) : Byte :=
  let a2 := aesMul a a
  let a4 := aesMul a2 a2
  let a8 := aesMul a4 a4
  let a16 := aesMul a8 a8
  let a32 := aesMul a16 a16
  let a64 := aesMul a32 a32
  let a128 := aesMul a64 a64
  aesMul a128 (aesMul a64 (aesMul a32 (aesMul a16 (aesMul a8 (aesMul a4 a2)))))

/-- The AES substitution of one byte. -/
def aesSub (a : Byte) : Byte :=
  let i := aesInv a
  i ^^^ i.rotateLeft 1 ^^^ i.rotateLeft 2 ^^^ i.rotateLeft 3 ^^^ i.rotateLeft 4 ^^^ 0x63#8

/-- The rows of the state shifted: byte at row r and column c comes from column c + r. -/
def aesShift (s : List Byte) : List Byte :=
  (List.range 16).map fun i => s.getD ((i + 4 * (i % 4)) % 16) 0

/-- One column mixed. -/
def aesMixCol (a b c d : Byte) : List Byte :=
  [aesX a ^^^ (aesX b ^^^ b) ^^^ c ^^^ d, a ^^^ aesX b ^^^ (aesX c ^^^ c) ^^^ d,
   a ^^^ b ^^^ aesX c ^^^ (aesX d ^^^ d), (aesX a ^^^ a) ^^^ b ^^^ c ^^^ aesX d]

/-- The four columns mixed. -/
def aesMix (s : List Byte) : List Byte :=
  ((List.range 4).map fun c =>
    aesMixCol (s.getD (4 * c) 0) (s.getD (4 * c + 1) 0) (s.getD (4 * c + 2) 0) (s.getD (4 * c + 3) 0)).flatten

/-- The next round key. -/
def aesNextKey (k : List Byte) (rcon : Byte) : List Byte :=
  let t := [aesSub (k.getD 13 0) ^^^ rcon, aesSub (k.getD 14 0), aesSub (k.getD 15 0), aesSub (k.getD 12 0)]
  let w0 := xorBytes (k.take 4) t
  let w1 := xorBytes ((k.drop 4).take 4) w0
  let w2 := xorBytes ((k.drop 8).take 4) w1
  let w3 := xorBytes ((k.drop 12).take 4) w2
  w0 ++ w1 ++ w2 ++ w3

/-- The rounds of AES-128 that remain; the last has no column mix. -/
def aesRounds : Nat → List Byte → List Byte → Byte → List Byte
  | 0, s, _, _ => s
  | n + 1, s, k, rcon =>
    let k' := aesNextKey k rcon
    let t := aesShift (s.map aesSub)
    aesRounds n (xorBytes (if n = 0 then t else aesMix t) k') k' (aesX rcon)

/-- AES-128 of one 16-byte block. -/
def aes128 (key block : List Byte) : List Byte := aesRounds 10 (xorBytes block key) key 1

/-- Doubling of a 16-byte string in the field of CMAC. -/
def cmacDouble (l : List Byte) : List Byte :=
  let n := natBE l
  bytesBE 16 (if 2 ^ 127 ≤ n then ((2 * n) % 2 ^ 128) ^^^ 0x87 else 2 * n)

/-- The chain of CMAC over whole blocks, the last already combined with its subkey. -/
def cmacChain (key : List Byte) : List (List Byte) → List Byte → List Byte
  | [], x => x
  | b :: t, x => cmacChain key t (aes128 key (xorBytes x b))

/-- A list cut into pieces of n bytes; the fuel bounds their number. -/
def chunk (n : Nat) : Nat → List Byte → List (List Byte)
  | 0, _ => []
  | fuel + 1, l => if l.length ≤ n then [l] else l.take n :: chunk n fuel (l.drop n)

/-- AES-CMAC, in full, 16 bytes. -/
def cmac (key msg : List Byte) : List Byte :=
  let l := aes128 key (zeros 16)
  let k1 := cmacDouble l
  let blocks := chunk 16 (msg.length + 1) msg
  let last := blocks.getLastD []
  let last' :=
    if last.length = 16 then xorBytes last k1
    else xorBytes (last ++ [0x80#8] ++ zeros (15 - last.length)) (cmacDouble k1)
  cmacChain key (blocks.dropLast ++ [last']) (zeros 16)

/-- Round constants of SHA-256. -/
def shaK : List Nat :=
  [0x428a2f98, 0x71374491, 0xb5c0fbcf, 0xe9b5dba5, 0x3956c25b, 0x59f111f1, 0x923f82a4, 0xab1c5ed5,
   0xd807aa98, 0x12835b01, 0x243185be, 0x550c7dc3, 0x72be5d74, 0x80deb1fe, 0x9bdc06a7, 0xc19bf174] ++
  [0xe49b69c1, 0xefbe4786, 0x0fc19dc6, 0x240ca1cc, 0x2de92c6f, 0x4a7484aa, 0x5cb0a9dc, 0x76f988da,
   0x983e5152, 0xa831c66d, 0xb00327c8, 0xbf597fc7, 0xc6e00bf3, 0xd5a79147, 0x06ca6351, 0x14292967] ++
  [0x27b70a85, 0x2e1b2138, 0x4d2c6dfc, 0x53380d13, 0x650a7354, 0x766a0abb, 0x81c2c92e, 0x92722c85,
   0xa2bfe8a1, 0xa81a664b, 0xc24b8b70, 0xc76c51a3, 0xd192e819, 0xd6990624, 0xf40e3585, 0x106aa070] ++
  [0x19a4c116, 0x1e376c08, 0x2748774c, 0x34b0bcb5, 0x391c0cb3, 0x4ed8aa4a, 0x5b9cca4f, 0x682e6ff3,
   0x748f82ee, 0x78a5636f, 0x84c87814, 0x8cc70208, 0x90befffa, 0xa4506ceb, 0xbef9a3f7, 0xc67178f2]

/-- Initial hash value of SHA-256. -/
def shaH0 : List (BitVec 32) :=
  [0x6a09e667#32, 0xbb67ae85#32, 0x3c6ef372#32, 0xa54ff53a#32, 0x510e527f#32, 0x9b05688c#32, 0x1f83d9ab#32, 0x5be0cd19#32]

def shaS0 (x : BitVec 32) : BitVec 32 := x.rotateRight 7 ^^^ x.rotateRight 18 ^^^ (x >>> 3)
def shaS1 (x : BitVec 32) : BitVec 32 := x.rotateRight 17 ^^^ x.rotateRight 19 ^^^ (x >>> 10)

/-- The message schedule: the window of the latest 16 words, oldest first, gives word after word. -/
def shaSchedule : Nat → List (BitVec 32) → List (BitVec 32)
  | 0, _ => []
  | n + 1, w =>
    let x := shaS1 (w.getD 14 0) + w.getD 9 0 + shaS0 (w.getD 1 0) + w.getD 0 0
    w.getD 0 0 :: shaSchedule n (w.drop 1 ++ [x])

/-- One round. -/
def shaRound (s : List (BitVec 32)) (kw : BitVec 32) : List (BitVec 32) :=
  let a := s.getD 0 0
  let b := s.getD 1 0
  let c := s.getD 2 0
  let e := s.getD 4 0
  let f := s.getD 5 0
  let g := s.getD 6 0
  let t1 := s.getD 7 0 + (e.rotateRight 6 ^^^ e.rotateRight 11 ^^^ e.rotateRight 25) + ((e &&& f) ^^^ (~~~ e &&& g)) + kw
  let t2 := (a.rotateRight 2 ^^^ a.rotateRight 13 ^^^ a.rotateRight 22) + ((a &&& b) ^^^ (a &&& c) ^^^ (b &&& c))
  [t1 + t2, a, b, c, s.getD 3 0 + t1, e, f, g]

/-- One 64-byte block. -/
def shaBlock (h : List (BitVec 32)) (block : List Byte) : List (BitVec 32) :=
  let w := (List.range 16).map fun i => BitVec.ofNat 32 (natBE (slice block (4 * i) 4))
  let kws := List.zipWith (fun x k => x + BitVec.ofNat 32 k) (shaSchedule 64 w) shaK
  List.zipWith (· + ·) h (kws.foldl shaRound h)

/-- SHA-256. -/
def sha256 (msg : List Byte) : List Byte :=
  let padded := msg ++ [0x80#8] ++ zeros ((119 - msg.length % 64) % 64) ++ bytesBE 8 (8 * msg.length)
  let h := (chunk 64 (padded.length + 1) padded).foldl shaBlock shaH0
  (h.map fun w => bytesBE 4 w.toNat).flatten

/-- HMAC-SHA-256. -/
def hmac (key msg : List Byte) : List Byte :=
  let k := if key.length ≤ 64 then key else sha256 key
  let k' := k ++ zeros (64 - k.length)
  sha256 (k'.map (· ^^^ 0x5C#8) ++ sha256 (k'.map (· ^^^ 0x36#8) ++ msg))

/-- The expansion of HKDF: n blocks from block number i. -/
def hkdfExpand (prk info : List Byte) : Nat → Nat → List Byte → List Byte
  | 0, _, _ => []
  | n + 1, i, prev =>
    let t := hmac prk (prev ++ info ++ [BitVec.ofNat 8 i])
    t ++ hkdfExpand prk info n (i + 1) t

/-- HKDF-SHA-256 (RFC 5869). -/
def hkdf (salt ikm info : List Byte) (len : Nat) : List Byte :=
  (hkdfExpand (hmac salt ikm) info (cdiv len 32) 1 []).take len

/-- The prime of Curve25519. -/
def p25519 : Nat := 2 ^ 255 - 19

/-- Power modulo the prime, over the low n bits of the exponent. -/
def powP : Nat → Nat → Nat → Nat
  | 0, _, _ => 1
  | n + 1, b, e => (if e % 2 = 1 then b else 1) * powP n (b * b % p25519) (e / 2) % p25519

/-- The state of the Montgomery ladder. -/
structure Ladder where
  x2 : Nat
  z2 : Nat
  x3 : Nat
  z3 : Nat

/-- One step of the ladder for the bit given, after the conditional swap. -/
def ladderStep (u : Nat) (l : Ladder) : Ladder :=
  let a := (l.x2 + l.z2) % p25519
  let aa := a * a % p25519
  let b := (l.x2 + p25519 - l.z2) % p25519
  let bb := b * b % p25519
  let e := (aa + p25519 - bb) % p25519
  let da := ((l.x3 + p25519 - l.z3) * a) % p25519
  let cb := ((l.x3 + l.z3) * b) % p25519
  let x3 := (da + cb) % p25519
  let z3 := (da + p25519 - cb) % p25519
  { x2 := aa * bb % p25519
    z2 := e * ((aa + 121665 * e) % p25519) % p25519
    x3 := x3 * x3 % p25519
    z3 := u * (z3 * z3 % p25519) % p25519 }

def ladderSwap (l : Ladder) : Ladder := { x2 := l.x3, z2 := l.z3, x3 := l.x2, z3 := l.z2 }

/-- The ladder over bits n - 1 to 0 of the scalar. -/
def ladder (k u : Nat) : Nat → Ladder → Ladder
  | 0, l => l
  | n + 1, l =>
    let l' := if k.testBit n then ladderSwap (ladderStep u (ladderSwap l)) else ladderStep u l
    ladder k u n l'

/-- X25519 (RFC 7748): the scalar is clamped, the top bit of the coordinate is ignored. -/
def x25519 (scalar coord : List Byte) : List Byte :=
  let k0 := natLE (slice scalar 0 32)
  let k := (k0 / 8 * 8) % 2 ^ 254 + 2 ^ 254
  let u := natLE (slice coord 0 32) % 2 ^ 255 % p25519
  let l := ladder k u 255 { x2 := 1, z2 := 0, x3 := u, z3 := 1 }
  bytesLE 32 (l.x2 * powP 255 l.z2 (p25519 - 2) % p25519)

/-- The base point of X25519. -/
def x25519Base : List Byte := 9#8 :: zeros 31

end Sys2Proof.Machine
end

