-- ==== Sys2Proof/Machine/Operands.lean ====
section
/-!
DEFINITION. How a measured quantity becomes the value the device uses: bead readings (§2.1, §2.2), zone and
seal readings (§3.3 to §3.5), filtered levels (R90), and the beads in force.
-/
namespace Sys2Proof.Machine

/-- Nominal values of Table 2.1 in units of 10 ohms. -/
def binNominals : List Nat := [100, 137, 187, 255, 348, 475, 649, 887, 1210, 1650, 2260, 3090, 4220, 5760, 7870, 10700]

/-- Time-to-digital units of a number of ns (R1). -/
def tdc (ns : Nat) : Nat := ns * 512

/-- The difference of two discharges, none where one timed out (R48). -/
def pinDelta (m : PinMeasure) (limA limB : Nat) : Option Nat :=
  match m.timeA, m.timeB with
  | some a, some b => if a ≤ tdc limA ∧ b ≤ tdc limB then some (b - a) else none
  | _, _ => none

/-- The pin passes precharge in both measurements (R45, R46). -/
def pinPre (m : PinMeasure) : Bool := m.preA && m.preB

/-- The reference difference of BREF, or the cause of its failure: 1 open, 2 short, 3 outside R51. -/
def brefDelta (m : PinMeasure) : Except (BitVec 2) Nat :=
  if !pinPre m then .error 2
  else match pinDelta m 130000 400000 with
    | none => .error 1
    | some d => if 870400 ≤ d ∧ d ≤ 1177600 then .ok d else .error 3

/-- The index whose bin holds the resistance 10 kΩ × d / r, edges included (R49, R52). -/
def binOf (d r : Nat) : Option (Fin 16) :=
  (List.finRange 16).find? fun i =>
    let n := binNominals.getD i.val 0
    decide (92 * n * r ≤ 100000 * d) && decide (100000 * d ≤ 108 * n * r)

/-- The reading of a bead pin against the reference difference r (R46, R52 to R54). -/
def beadReading (m : PinMeasure) (r : Nat) : Reading :=
  if !pinPre m then .s
  else match pinDelta m 130000 400000 with
    | none => .o
    | some d =>
      if 100 * r < d then .o
      else match binOf d r with
        | some n => .idx n
        | none => .i

/-- The computed resistance in ohms (R49), none where no difference was measured. -/
def beadOhms (m : PinMeasure) (r : Nat) : Option Nat :=
  if !pinPre m || r = 0 then none
  else (pinDelta m 130000 400000).map fun d => rdivNat (10000 * d) r

/-- A supervision reading (R103): shorted, open or timed out, or 10 kΩ × num / den. -/
inductive SupReading where
  | short
  | timeout
  | ohms (num den : Nat)
  deriving DecidableEq, Repr

/-- A supervision measurement with timeouts in ns and the capacitance ratio to the bead (Table 3.4). -/
def supReading (m : PinMeasure) (limA limB ratio r : Nat) : SupReading :=
  if !pinPre m then .short
  else match pinDelta m limA limB with
    | none => .timeout
    | some d => .ohms (10000 * d) (ratio * r)

/-- A zone measurement: 2.0 and 6.0 nF against 100 and 300 pF. -/
def zoneMeasure (m : PinMeasure) (r : Nat) : SupReading := supReading m 2500000 3000000 20 r
/-- A seal measurement: 1.0 and 3.0 nF. -/
def sealMeasure (m : PinMeasure) (r : Nat) : SupReading := supReading m 100000 150000 10 r

/-- A reading above a resistance in ohms; a timeout is above every limit. -/
def SupReading.above (x : SupReading) (limit : Nat) : Bool :=
  match x with
  | .short => false
  | .timeout => true
  | .ohms n d => decide (limit * d < n)

/-- A reading within a nominal value ±10%, edges included (R113). -/
def SupReading.within (x : SupReading) (nominal : Nat) : Bool :=
  match x with
  | .ohms n d => decide (90 * nominal * d ≤ 100 * n) && decide (100 * n ≤ 110 * nominal * d)
  | _ => false

/-- The state of a zone reading in the class of bead 36 (Table 3.6). -/
def zoneClassify (cls : Nat) (x : SupReading) : Zone :=
  let (eol, alm, tmp) := zoneClass cls
  match x with
  | .short => .short
  | _ =>
    if x.above 100000 then (if alm.isNone then .alarm else .opened)
    else if x.within eol then .normal
    else match alm, tmp with
      | some a, some t =>
        if x.within (eol + a) then .alarm
        else if x.within (eol + a + t) then .tamperAlarm
        else .tamper
      | some a, none => if x.within (eol + a) then .alarm else .tamper
      | none, _ => .tamper

/-- The state of a seal reading with its SEAL_B check (R107, R108). -/
def sealClassify (m : SealMeasure) (r : Nat) : Seal :=
  match sealMeasure m.sealA r with
  | .short =>
    if (sealMeasure m.sealAOpen r).above 2000 then .bridged
    else if (sealMeasure m.sealB r).above 2000 then .opened
    else .bridged
  | x =>
    if x.above 2000 then .opened
    else if x.above 99 then
      (match x with
        | .ohms n d => if n < 100 * d then .bridged else .intact
        | _ => .opened)
    else .bridged

/-- One sample at a filter that needs n consecutive samples (R90). -/
def Filter.sample (f : Filter) (n : Nat) (x : Bool) : Filter :=
  if f.level = some x then { f with run := 0 }
  else
    let run := if f.cand = x ∧ 0 < f.run then f.run + 1 else 1
    if n ≤ run then { f with level := some x, cand := x, run := 0 } else { f with cand := x, run := run }

/-- Samples at a filter, oldest first, up to and with the first one that changes its level: the filter
then and the number of samples taken. -/
def Filter.feed (n : Nat) : Filter → List Bool → Filter × Nat
  | f, [] => (f, 0)
  | f, x :: t =>
    let f' := f.sample n x
    if f'.level = f.level then
      let r := Filter.feed n f' t
      (r.1, r.2 + 1)
    else (f', 1)

/-- Sample ticks counted after one tick up to and with another: those one after a multiple of 32 (R89, R651). -/
def samplesBetween (a b : Nat) : Nat := (b + 31) / 32 - (a + 31) / 32

/-- Samples at a filter that needs n consecutive ones, counted up to and with this tick: none where this is no tick on which a sample
is counted, or where more samples are brought than were taken since the latest. Samples not brought are at the level that the filter
holds, so they end its run (R89, R90). -/
def Filter.count (f : Filter) (n now : Nat) (l : List Bool) : Option Filter :=
  let due := samplesBetween f.at_ now
  if now % 32 = 1 ∧ l.length ≤ due then
    let f1 := if l.length < due then { f with run := 0 } else f
    some { (f1.feed n l).1 with at_ := now }
  else none

/-- The filter holds the asserted level. -/
def Filter.on (f : Filter) : Bool := f.level = some true

/-- The index in effect of a bead at one of its parts. -/
def State.eff (s : State) (b : BeadNo) (part : Fin 8 := 0) : Nat := (s.bead.eff[b])[part].val

/-- Aperture type of a path, none where the path is not configured (R175). -/
def State.aperture (s : State) (p : PathNo) : Option Aperture := (pathPreset (s.eff 32 p))[p.val]?

/-- The path is configured. -/
def State.configured (s : State) (p : PathNo) : Bool := (s.aperture p).isSome

/-- Length class of a path (Table 5.4). -/
def State.pathClass (s : State) (p : PathNo) : Nat :=
  match s.aperture p with
  | some a => a.cls
  | none => 0

/-- Paths 0 to 7. -/
def allPaths : List PathNo := List.finRange 8
/-- Zones ZN0 to ZN3. -/
def allZones : List ZoneNo := List.finRange 4
/-- Ports FA, FB, FC. -/
def allPorts : List FabPort := List.finRange 3
/-- Camera ports. -/
def allCams : List CamPort := List.finRange 12
/-- Beads. -/
def allBeads : List BeadNo := List.finRange 40
/-- Mover channels. -/
def allChannels : List MovCh := List.finRange 32
/-- Kiln contexts. -/
def allCtx : List Ctx := List.finRange 13

/-- Bead index of camera port k. -/
def camBead (k : CamPort) : BeadNo := ⟨16 + k.val, by omega⟩

/-- Part of a bead for a zone. -/
def zonePart (z : ZoneNo) : Fin 8 := ⟨z.val, by omega⟩
/-- Part of a bead for a fabric port. -/
def portPart (p : FabPort) : Fin 8 := ⟨p.val, by omega⟩

/-- Type of a zone in use (R116). -/
def State.zoneKind (s : State) (z : ZoneNo) : Option ZoneType := zoneType (s.eff 37 (zonePart z)) z

/-- Role of a Speica port in force (R447, R448). -/
def State.portRole (s : State) (p : FabPort) : PortRole := portRoleOf (s.eff 3) (s.eff 8) p

/-- Some Speica port has the trunk or twin role. -/
def State.anyPort (s : State) : Bool := allPorts.any fun p => s.portRole p != .off

/-- Some Speica port has the trunk role. -/
def State.anyTrunk (s : State) : Bool := allPorts.any fun p => s.portRole p = .trunk

/-- The twin port, if the device has one. -/
def State.twinPort (s : State) : Option FabPort := allPorts.find? fun p => s.portRole p = .twin

/-- Twin role of bead 3 (R446). -/
def State.trole (s : State) : TwinRole := twinRole (s.eff 3)

/-- The unit drives the shared field wiring: it holds the lease or has no twin role (R547, R548). -/
def State.drives (s : State) : Bool := s.trole = .none || s.twin.holding

/-- The unit is a standby of a twin pair. -/
def State.standby (s : State) : Bool := s.trole != .none && !s.twin.holding

/-- The device has the head role now: for a twin, only the holder (Table 13.2). -/
def State.isHead (s : State) : Bool := headRole (s.eff 3) && s.drives

/-- The armed state (R118). -/
def State.armedNow (s : State) : Bool := s.loc.armF.on
/-- KEY is fitted (R91). -/
def State.keyFitted (s : State) : Bool := s.loc.keyF.on
/-- WAKEn is asserted. -/
def State.wakeOn (s : State) : Bool := s.loc.wakeF.on
/-- The device is in either kind of Bedrock. -/
def State.inBedrock (s : State) : Bool := s.dev.mode.bedrock

/-- The raw tick now. -/
def State.now (s : State) : Nat := s.clk.tick

/-- Site group (R487). -/
def State.siteGroup (s : State) : Nat := (s.eff 10 1 / 2) * 8 + s.eff 11 % 8
/-- Time-source priority (R496). -/
def State.timePrio (s : State) : Nat := 2 * bit s.clk.refinAdvertised + s.eff 11 / 8

/-- Output frame rate in force as an index of bead 15 (R78). -/
def State.rateIdx (s : State) : Nat := s.bead.rate.val

/-- Prediction p of the ageing model for a day, in 1/16 ppb (R141, R144, R146). -/
def Ageing.predict (a : Ageing) (day : Nat) : Int :=
  if a.points.isEmpty then
    (if a.resetCount = 0 then 0 else rdiv (16 * a.resetSum) a.resetCount)
  else
    let d : Int := if a.unknownDays then a.dL else min day (a.dL + 400)
    a.o + rdiv (a.a * (d - a.d0)) 4096

/-- The calendar day (R142). -/
def State.day (s : State) : Nat := s.clk.sec.toNat / 86400

/-- The prediction for the present day in 1/16 ppb. -/
def State.prediction (s : State) : Int := s.clk.age.predict s.day

/-- A time that the TDC has counted in nominal XO periods, with the predicted period (1/24 MHz) × (1 − p) (R138), rounded (R650). -/
def State.corrected (s : State) (t : Nat) : Nat := (rdiv ((t : Int) * (16000000000 - s.prediction)) 16000000000).toNat

/-- The corrected discharges of a pin (R138). -/
def State.pin (s : State) (m : PinMeasure) : PinMeasure :=
  { m with timeA := m.timeA.map s.corrected, timeB := m.timeB.map s.corrected }

/-- The corrected discharges at the seal (R138). -/
def State.sealPins (s : State) (m : SealMeasure) : SealMeasure where
  sealA := s.pin m.sealA
  sealAOpen := s.pin m.sealAOpen
  sealB := s.pin m.sealB

/-- The corrected times of a shot (R138): 40-bit counts (R195). -/
def State.shotTimes (s : State) (m : ShotMeasure) : ShotMeasure :=
  let t (x : Nat) : Nat := min (2 ^ 40 - 1) (s.corrected x)
  { m with hit := m.hit.map t, stops := m.stops.map t }

/-- The corrected times of a ring shot (R138). -/
def State.ringTimes (s : State) (m : RingMeasure) : RingMeasure :=
  { m with stops := m.stops.map fun x => min (2 ^ 40 - 1) (s.corrected x) }

end Sys2Proof.Machine
end

