-- ==== Sys2Proof/Machine/Flags.lean ====
section
/-!
DEFINITION. Conditions derived from the state: the alarm conditions of Table 3.8, health of paths (R225), the
flags and LED indications of §14.5, and the codes of the parameter table that are such flags.
-/
namespace Sys2Proof.Machine

/-- A channel has a health failure (R225). -/
def State.chanFailed (s : State) (c : Chan) : Bool := (s.tr.chan[c]).failed.isSome

/-- A configured path has a health failure (R225). -/
def State.healthFailed (s : State) (p : PathNo) : Bool :=
  s.configured p && (s.chanFailed (chanA p) || s.chanFailed (chanB p) || (s.tr.path[p]).mute)

/-- Some configured path has a health failure. -/
def State.anyHealth (s : State) : Bool := allPaths.any s.healthFailed

/-- A bead has its fault flag (R56). -/
def State.anyBeadFault (s : State) : Bool := allBeads.any fun b => s.bead.fault[b]

/-- The BREF fault flag (R653). -/
def State.brefFault (s : State) : Bool := s.bead.brefRead || s.bead.brefRefresh

/-- FLT (Table 3.8). -/
def State.flt (s : State) : Bool :=
  decide (s.dev.mode = .bedFault) || s.loc.stuck || s.clk.xoFail || s.clk.tdcFault ||
  s.anyBeadFault || s.brefFault || s.anyHealth

/-- A zone in use is in ALARM or TAMPER with alarm. -/
def zoneAlarming : Option Zone → Bool
  | some .alarm => true
  | some .tamperAlarm => true
  | _ => false

/-- A zone is in TAMPER, SHORT or OPEN. -/
def zoneTampering : Option Zone → Bool
  | some .tamper => true
  | some .short => true
  | some .opened => true
  | _ => false

/-- H24 (Table 3.8): a 24-hour zone is in ALARM or TAMPER with alarm. -/
def State.h24 (s : State) : Bool :=
  allZones.any fun z => decide (s.zoneKind z = some .hours24) && zoneAlarming s.loc.zone[z]

/-- The partner's seal tamper is present at the holder (R556). -/
def State.partnerTamper (s : State) : Bool :=
  s.trole != .none && s.twin.holding &&
    match s.twin.partner with
    | some q => q.tamper
    | none => false

/-- TMP (Table 3.8, R556). -/
def State.tmp (s : State) : Bool :=
  s.loc.sealTamper || s.partnerTamper ||
  allZones.any fun z => (s.zoneKind z).isSome && zoneTampering s.loc.zone[z]

/-- A state condition of Table 3.8 is present; an event condition has no lasting presence. -/
def State.condPresent (s : State) : Cond → Bool
  | .h24 => s.h24
  | .tmp => s.tmp
  | .flt => s.flt
  | .int => false
  | .grp => false

/-- The address is held (R477). -/
def State.held (s : State) : Bool := decide (s.fab.kind = .held)

/-- A SERDES FAULT on some port. -/
def State.anySerdes (s : State) : Bool := allPorts.any fun p => s.dev.serdesFault[p]

/-- Every trunk or twin-role port has SERDES FAULT (R596). -/
def State.allSerdes (s : State) : Bool :=
  s.anyPort && allPorts.all fun p => s.portRole p = .off || s.dev.serdesFault[p]

/-- The condition of a LEDA code (Table 14.5) other than code 7, which is an acknowledgement. -/
def State.ledaCond (s : State) (n : Nat) : Bool :=
  match n with
  | 1 => decide (s.dev.mode = .bedFault)
  | 2 => s.clk.xoFail || s.clk.tdcFault
  | 3 => s.dev.storeFault
  | 4 => s.held
  | 5 => s.anyBeadFault || s.brefFault
  | 6 => s.loc.stuck
  | 8 => s.anyHealth || s.tr.lowVdrv
  | 9 => s.dev.vbatLow
  | 10 => s.clk.age.unverified
  | 11 => s.clk.x32Fail
  | 12 => s.bead.restartPending || s.twin.beadMismatch || s.twin.roleClash
  | _ => false

/-- The LEDA code shown: the lowest whose condition holds; in Bedrock on battery only in the window after
SETn (R595); 7 while that acknowledgement runs (R97); 0 for none. -/
def State.ledaCode (s : State) : Nat :=
  match s.loc.ackA with
  | some .calRefused => 7
  | some _ => 0
  | none =>
    if s.dev.mode = .bedBattery ∧ ¬ s.loc.ledaWindow then 0
    else ((List.range 13).find? s.ledaCond).getD 0

/-- The LEDG pattern (Table 14.4): 0 start-up, 1 Loam, 2 Sand, 3 off. -/
def State.ledgCode (s : State) : Nat :=
  match s.dev.mode with
  | .startup => 0
  | .loam => 1
  | .sand => 2
  | .bedBattery => 3
  | .bedFault => 3

/-- FLAGS (Table 16.4, entry 0x70). -/
def State.flagBits (s : State) : List Bool :=
  [s.clk.x32Fail, s.clk.xoFail, s.clk.tdcFault, s.dev.storeFault, s.anyBeadFault, s.brefFault, s.loc.stuck,
   s.held, s.anyHealth, s.tr.lowVdrv, s.dev.vbatLow, s.clk.age.unverified, s.bead.restartPending,
   s.twin.beadMismatch, s.twin.roleClash, s.anySerdes]

/-- A number from its bits, least significant first. -/
def bitsNat : List Bool → Nat
  | [] => 0
  | b :: t => bit b + 2 * bitsNat t

/-- A level condition of Table 1.4 holds, or the holder's Sand for a standby whose mirror is up (R555). -/
def State.levelHolds (s : State) : Bool :=
  s.wakeOn || alwaysSand ⟨s.eff 4 % 16, by omega⟩ s.armedNow ||
  (s.standby && s.twin.mirror != .down && s.dev.mainsOk &&
    match s.twin.partner with
    | some q => q.holds && decide (q.mode = 2#3)
    | none => false)

/-- Bead 4 accepts an event trigger now (R23). -/
def State.accepts (s : State) (k : TriggerKind) : Bool :=
  policyAccepts ⟨s.eff 4 % 16, by omega⟩ k s.armedNow

/-- No shot, supervision shot or bead read may run (R137, R196). -/
def State.tdcDown (s : State) : Bool := s.clk.xoFail || s.clk.tdcFault

/-- A calibration, a clean or a hand-over is in progress (R98). -/
def State.busyGesture (s : State) : Bool := s.tr.calOn || s.tal.cleaning || s.twin.hand.isSome || s.twin.handReq.isSome

/-- The part of the mains domain that carries video and fabric is powered: mains present and not Bedrock on
battery outside a start-up. -/
def State.mainsRunning (s : State) : Bool := s.dev.mainsOk && decide (s.dev.core ≠ .off)

/-- The ports run: mains domain up, and in Bedrock on fault only with the fabric kept (R38, R599). -/
def State.fabricOn (s : State) : Bool :=
  decide (s.dev.core = .running) && (decide (s.dev.mode ≠ .bedFault) || s.dev.fabricKept)

end Sys2Proof.Machine
end

