-- ==== Sys2Proof/Machine/Memory.lean ====
section
/-!
DEFINITION. Byte memories held as a list of address and byte pairs in one canonical form (addresses
strictly rising, no zero byte listed; an unlisted address reads 0), and the CRC-32 of IEEE 802.3.
-/
namespace Sys2Proof.Machine

/-- A byte memory. -/
abbrev Mem := List (Nat × BitVec 8)

/-- The byte at an address. -/
def memRead : Mem → Nat → Byte
  | [], _ => 0
  | (k, v) :: t, a => if k = a then v else memRead t a

/-- Writing one byte; writing 0 removes the entry. -/
def memWrite : Mem → Nat → Byte → Mem
  | [], a, v => if v = 0 then [] else [(a, v)]
  | (k, x) :: t, a, v =>
    if k = a then (if v = 0 then t else (a, v) :: t)
    else if a < k then (if v = 0 then (k, x) :: t else (a, v) :: (k, x) :: t)
    else (k, x) :: memWrite t a v

/-- Addresses strictly rising from a bound, and no byte listed that an unlisted address reads as. -/
def memWfFrom : Nat → Mem → Bool
  | _, [] => true
  | lo, (k, v) :: t => decide (lo ≤ k) && decide (v ≠ 0) && memWfFrom (k + 1) t

/-- The canonical form. -/
def Memory.wf (m : Mem) : Bool := memWfFrom 0 m

/-- The bytes of a range, lowest address first. -/
def memRange (m : Mem) : Nat → Nat → List Byte
  | _, 0 => []
  | a, n + 1 => memRead m a :: memRange m (a + 1) n

/-- Writing bytes from an address upward. -/
def memStore : Mem → Nat → List Byte → Mem
  | m, _, [] => m
  | m, a, b :: t => memStore (memWrite m a b) (a + 1) t

/-- One bit of the reflected CRC-32. -/
def crcBit (c : BitVec 32) : BitVec 32 :=
  if c.getLsbD 0 then (c >>> 1) ^^^ 0xEDB88320#32 else c >>> 1

/-- One byte of the running CRC-32. -/
def crcByte (c : BitVec 32) (b : Byte) : BitVec 32 :=
  let x := c ^^^ b.zeroExtend 32
  crcBit (crcBit (crcBit (crcBit (crcBit (crcBit (crcBit (crcBit x)))))))

/-- The running CRC-32 over bytes. -/
def crcRun (c : BitVec 32) (l : List Byte) : BitVec 32 := l.foldl crcByte c

/-- The CRC-32 of IEEE 802.3 (the complement of the running value). -/
def crc32 (l : List Byte) : BitVec 32 := ~~~ (crcRun 0xFFFFFFFF#32 l)

/-- The CRC-32 as four bytes, least significant first. -/
def crcLE (l : List Byte) : List Byte := bytesLE 4 (crc32 l).toNat

end Sys2Proof.Machine
end

