-- ==== Sys2Proof/Machine/FrameOps.lean ====
section
/-!
DEFINITION. Speica frames: header packing (Table 11.6), the bytes of a frame on the wire (R461, R527), transmit
queues and credits (R466 to R471), origination (R463), and MIRROR frames (R557 to R559).
-/
namespace Sys2Proof.Machine

/-- The state with one Speica port changed. -/
def State.updPort (s : State) (p : FabPort) (f : FPort → FPort) : State :=
  { s with fab := { s.fab with port := s.fab.port.set p (f s.fab.port[p]) } }

/-- The header as a 64-bit number (Table 11.6). -/
def Header.pack (h : Header) : Nat :=
  h.dest.toNat * 2 ^ 52 + h.src.toNat * 2 ^ 40 + h.typ.toNat * 2 ^ 36 + h.flow.toNat * 2 ^ 28 +
  h.hop.toNat * 2 ^ 22 + bit h.standby * 2 ^ 21 + h.len.toNat * 2 ^ 10 + h.seq.toNat

/-- The 8 header bytes, most significant first (R461). -/
def Header.bytes (h : Header) : List Byte := bytesBE 8 h.pack

/-- A header from its 64-bit number. -/
def Header.unpack (n : Nat) : Header where
  dest := BitVec.ofNat 12 (n / 2 ^ 52)
  src := BitVec.ofNat 12 (n / 2 ^ 40)
  typ := BitVec.ofNat 4 (n / 2 ^ 36)
  flow := BitVec.ofNat 8 (n / 2 ^ 28)
  hop := BitVec.ofNat 6 (n / 2 ^ 22)
  standby := decide (n / 2 ^ 21 % 2 = 1)
  len := BitVec.ofNat 11 (n / 2 ^ 10)
  seq := BitVec.ofNat 10 n

/-- Frame types of Table 11.7. -/
def tBeacon : Nat := 0
def tLinkstate : Nat := 1
def tEvent : Nat := 2
def tTally : Nat := 3
def tTile : Nat := 4
def tTime : Nat := 5
def tMirror : Nat := 6
def tProbe : Nat := 7

/-- Class of a type (Table 11.7): 0 control, 1 bulk. -/
def typeClass (t : Nat) : Fin 2 := if t = 3 ∨ t = 4 ∨ t = 6 then 1 else 0

/-- The frames of a port carry a CMAC in these trust states (R527). -/
def FPort.macFormat (q : FPort) : Bool :=
  match q.trust with
  | .unpaired => false
  | .keyMismatch => false
  | _ => true

/-- A HELLO (Table 12.2). -/
def Frame.isHello (f : Frame) : Bool := f.hdr.typ = 7#4 && f.hdr.flow = 0x10#8

/-- The 64-bit CMAC of a frame under a counter (R527). -/
def linkMac (key : List Byte) (c : Nat) (body : List Byte) : List Byte :=
  (cmac key (bytesBE 6 c ++ body)).take 8

/-- Credits that a frame uses (R466). -/
def FPort.frameCredits (q : FPort) (f : Frame) : Nat :=
  cdiv (8 + f.payload.length + 4 + (if q.macFormat then 8 else 0)) 128

/-- What a port carries in its trust state (Table 12.1) and role (R465). -/
def FPort.carries (q : FPort) (role : PortRole) (typ flow : Nat) : Bool :=
  let byRole : Bool := match role with
    | .off => false
    | .twin => typ = 0 || typ = 6 || typ = 7
    | .trunk => decide (typ ≤ 7) && typ != 6
  let byTrust : Bool := match q.trust with
    | .unpaired => typ = 0 || (typ = 7 && decide (1 ≤ flow ∧ flow ≤ 3) && (q.window || q.pairing.isSome))
    | .keyMismatch => typ = 0 || (typ = 7 && decide (1 ≤ flow ∧ flow ≤ 3) && (q.window || q.pairing.isSome))
    | .sessionSetup => typ = 7 && flow = 0x10
    | .clean => typ = 0 || (typ = 7 && (flow = 0x10 || flow = 0x20))
    | .test => typ = 0 || (typ = 7 && (flow = 0x10 || flow = 0x20))
    | .admitted => true
  byRole && byTrust

/-- The port puts a frame on the wire: header, payload, CMAC where the link is paired, CRC-32 (R461). A HELLO
is under the link key with counter 0 (R523), every other frame under the session key and the next counter
(R524, R527). -/
def FPort.emit (q : FPort) (now : Nat) (f : Frame) : FPort :=
  let body := f.hdr.bytes ++ f.payload
  if q.macFormat then
    if f.isHello then
      let kTx := match q.key with
        | some k => k.kTx
        | none => zeros 16
      let b := body ++ linkMac kTx 0 body
      { q with wire := (b ++ crcLE b) :: q.wire, frameAt := now, emberSent := false }
    else
      let c := q.txCount + 1
      let b := body ++ linkMac q.sTx c body
      { q with wire := (b ++ crcLE b) :: q.wire, txCount := c, frameAt := now, emberSent := false }
  else
    { q with wire := (body ++ crcLE body) :: q.wire, frameAt := now, emberSent := false }

/-- While a session is being set up, only a HELLO leaves (R525, Table 12.1). -/
def FPort.mayLeave (q : FPort) (f : Frame) : Bool :=
  if q.rekeying || decide (q.trust = .sessionSetup) then f.isHello else true

/-- Send the frames of one class while the credits last (R467, R469): the port and what stays queued. -/
def FPort.drainList (cls : Fin 2) (now : Nat) : List TxFrame → FPort → FPort × List TxFrame
  | [], q => (q, [])
  | t :: rest, q =>
    let n := q.frameCredits t.frame
    if q.mayLeave t.frame ∧ n ≤ q.credits[cls] then
      FPort.drainList cls now rest
        ({ q with credits := q.credits.set cls (q.credits[cls] - n) }.emit now t.frame)
    else (q, t :: rest)

/-- The mark of a class queue whose head waits for credits (R470): from now where a frame before it has just left. -/
def FPort.markStall (q0 : FPort) (cls : Fin 2) (now : Nat) (left : Bool) : FPort :=
  let q := if left then { q0 with stallAt := q0.stallAt.set cls none } else q0
  match q.txq[cls] with
  | [] => { q with stallAt := q.stallAt.set cls none }
  | t :: _ =>
    if q.frameCredits t.frame ≤ q.credits[cls] then { q with stallAt := q.stallAt.set cls none }
    else match q.stallAt[cls] with
      | some _ => q
      | none => { q with stallAt := q.stallAt.set cls (some now) }

/-- Send what an ACTIVE port may send, the control class first (R469); carried tells that its transmit channel carries data from
the pool (R15). -/
def FPort.drain (q : FPort) (now : Nat) (carried : Bool) : FPort :=
  match q.link, carried with
  | .active, true =>
    let a := FPort.drainList 0 now q.txq[(0 : Fin 2)] q
    let q1 := { a.1 with txq := a.1.txq.set 0 a.2 }
    let q2 :=
      if a.2.isEmpty then
        let b := FPort.drainList 1 now q1.txq[(1 : Fin 2)] q1
        { b.1 with txq := b.1.txq.set 1 b.2 }
      else q1
    let left (c : Fin 2) : Bool := decide ((q2.txq[c]).length < (q.txq[c]).length)
    (q2.markStall 0 now (left 0)).markStall 1 now (left 1)
  | _, _ => q

/-- The port has a link on which a frame can leave, at once or after a wake. -/
def FPort.linked (q : FPort) : Bool := decide (q.link = .active) || decide (q.link = .ember)

/-- Queue a frame on a port; a HELLO goes to the front, every other frame to the end. A link in EMBER is woken by a tone
(R459). -/
def FPort.queueFrame (q : FPort) (now : Nat) (f : Frame) (forwarded carried : Bool) : FPort :=
  if q.linked then
    let cls := typeClass f.hdr.typ.toNat
    let t : TxFrame := { frame := f, at_ := now, forwarded := forwarded }
    let l := q.txq[cls]
    { q with
      txq := q.txq.set cls (if f.isHello then t :: l else l ++ [t])
      toneAt := if q.link = LinkState.ember then some (q.toneAt.getD now) else q.toneAt }.drain now carried
  else q

/-- The address that frames of this device carry as their source: 0x000 while it has none or it is held. -/
def State.ownAddr (s : State) : BitVec 12 := if s.held then 0 else s.fab.addr

/-- The next sequence number of a type and flow (R463). -/
def State.nextSeq (s : State) (typ flow : Nat) : BitVec 10 × State :=
  let key := typ * 256 + flow
  match s.fab.seqs.find? (fun e => e.1 = key) with
  | some (_, n) =>
    (n, { s with fab := { s.fab with seqs := s.fab.seqs.map fun e => if e.1 = key then (key, n + 1) else e } })
  | none => (0, { s with fab := { s.fab with seqs := s.fab.seqs ++ [(key, 1)] } })

/-- A frame of this device (R463): hop limit 63, or 1 for BEACON and TIME. -/
def State.makeFrame (s : State) (typ flow : Nat) (dest src : BitVec 12) (payload : List Byte) : Frame × State :=
  let r := s.nextSeq typ flow
  ({ hdr := { dest := dest, src := src, typ := BitVec.ofNat 4 typ, flow := BitVec.ofNat 8 flow,
              hop := if typ = 0 ∨ typ = 5 then 1 else 63, standby := s.standby,
              len := BitVec.ofNat 11 (payload.length - 1), seq := r.1 }, payload := payload }, r.2)

/-- A mover channel that serves a port is neither halted nor fenced: it carries the port's data (R15, R20, R408). -/
def State.carries (s : State) (c : Nat) : Bool :=
  let st := (s.mov.chan.getD c {}).state
  decide (st ≠ .halted) && decide (st ≠ .fenced)

/-- The receive channel of a port carries its data (Table 9.9). -/
def State.rxCarries (s : State) (p : FabPort) : Bool := s.carries (15 + p.val)

/-- The transmit channel of a port carries its data (Table 9.9). -/
def State.txCarries (s : State) (p : FabPort) : Bool := s.carries (18 + p.val)

/-- Queue a frame on each of several ports that carry its type. -/
def State.queueOn (s : State) (f : Frame) (forwarded : Bool) : List FabPort → State
  | [] => s
  | p :: t =>
    let q := s.fab.port[p]
    let s' := if q.carries (s.portRole p) f.hdr.typ.toNat f.hdr.flow.toNat
      then s.updPort p (fun q => q.queueFrame s.now f forwarded (s.txCarries p)) else s
    State.queueOn s' f forwarded t

/-- Originate a frame on some ports. -/
def State.originate (s : State) (typ flow : Nat) (dest src : BitVec 12) (payload : List Byte)
    (ports : List FabPort) : State :=
  let r := s.makeFrame typ flow dest src payload
  r.2.queueOn r.1 false ports

/-- Trunk ports with a link. -/
def State.trunkPorts (s : State) : List FabPort :=
  allPorts.filter fun p => decide (s.portRole p = .trunk) && (s.fab.port[p]).linked

/-- Next hop of the Sieve for an address: none, 3 for local, or a port (R484). -/
def State.sieve (s : State) (a : BitVec 12) : Option (Fin 4) :=
  if (a = s.fab.addr ∧ a ≠ 0) ∨ (s.twin.holding ∧ a = s.twin.pairAddr ∧ a ≠ 0) then some 3
  else (s.fab.routes.find? (fun r => r.addr = a)).map fun r => ⟨r.port.val, by omega⟩

/-- Send a routed frame toward an address. -/
def State.sendTo (s : State) (typ flow : Nat) (dest : BitVec 12) (payload : List Byte) : State :=
  match s.sieve dest with
  | some h => if hp : h.val < 3 then s.originate typ flow dest s.ownAddr payload [⟨h.val, hp⟩] else s
  | none => s

/-- The holder beat is seen (R550). -/
def State.beatSeen (s : State) : Bool :=
  match s.twin.lastHolderEdge with
  | some t => decide (s.now ≤ t + 656)
  | none => false

/-- Any LEASE_IN edge in the last 1,024 ticks. -/
def State.edgeSeen (s : State) : Bool :=
  match s.twin.lastEdge with
  | some t => decide (s.now < t + 1024)
  | none => false

/-- The mirror header (Table 13.4). -/
def State.mirrorHeader (s : State) (seq : BitVec 32) : List Byte :=
  [1, BitVec.ofNat 8 (bitsNat [s.twin.holding, decide (s.twin.mirror = .inSync), s.beatSeen, s.twin.hand.isSome,
    s.twin.split, s.edgeSeen]), 0, 0] ++ bytesLE 4 seq.toNat ++ bytesLE 4 s.twin.rxSeq.toNat ++ zeros 4

/-- Payload of a MIRROR frame: header, body and CRC-32 (R557). -/
def State.mirrorPayload (s : State) (seq : BitVec 32) (body : List Byte) : List Byte :=
  let l := s.mirrorHeader seq ++ body
  l ++ crcLE l

/-- Put one MIRROR frame on the twin port. A job of channel 31 is dropped while the channel is faulted (R410); the frame is sent
again as an unacknowledged one (R560). -/
def State.mirrorOut (s : State) (kind : Nat) (seq : BitVec 32) (body : List Byte) : State :=
  match s.twinPort with
  | some p =>
    if (s.fab.port[p]).trust = .admitted ∧ (s.mov.chan[(31 : MovCh)]).state ≠ .halted then
      let dest : BitVec 12 := if s.twin.pairAddr = 0 then 0xFFF else s.twin.pairAddr
      (s.originate tMirror kind dest 0 (s.mirrorPayload seq body) [p])
    else s
  | none => s

/-- Send a MIRROR frame of a kind that is numbered and acknowledged (R557, R559). -/
def State.sendMirror (s : State) (kind : Nat) (body : List Byte) : State :=
  if s.twin.mirror = .down then s
  else
    let seq := s.twin.txSeq + 1
    let s1 := s.mirrorOut kind seq body
    { s1 with twin := { s1.twin with
        txSeq := seq
        unacked := s1.twin.unacked ++ [{ seq := seq, kind := BitVec.ofNat 8 kind, body := body, at_ := s.now }]
        ackDue := none } }

/-- Send ACK, which takes no number of its own (R559). -/
def State.sendAck (s : State) : State :=
  let s1 := s.mirrorOut 5 s.twin.txSeq []
  { s1 with twin := { s1.twin with ackDue := none } }

/-- Kinds of MIRROR frames (Table 13.3). -/
def kState : Nat := 1
def kTally : Nat := 2
def kJournal : Nat := 3
def kRecord : Nat := 4
def kHand : Nat := 6

/-- Latch remainder of an output in ticks; none until silence (Table 13.5). -/
def State.latchLeft (s : State) (o : AlmOut) : Option Nat :=
  let a := s.loc.alm[o]
  match (alarmMap (s.eff 7) o).2 with
  | .latched (some cut) =>
    if a.active then some (match a.cutAt, a.onset with
      | some t, _ => t - s.now
      | none, some t => t + cut - s.now
      | none, none => 0) else some 0
  | .latched none => if a.active then none else some 0
  | _ => some 0

/-- A latch remainder as three bytes in 1/32 s (Table 13.5). -/
def latchBytes : Option Nat → List Byte
  | some t => bytesLE 3 (min (cdiv t 1024) 0xFFFFFE)
  | none => bytesLE 3 0xFFFFFF

/-- Zone states in the form of Table 13.5, bytes 10 to 11. -/
def State.zoneWord (s : State) : Nat :=
  (allZones.map fun z =>
    (match s.zoneKind z, s.loc.zone[z] with
      | some _, some x => x.code
      | _, _ => 15) * 16 ^ z.val).foldl (· + ·) 0

/-- CRC-32 of the readings in force of beads 0 to 2, 4 to 7 and 32 to 39 (Table 13.5). -/
def State.beadDigest (s : State) : BitVec 32 :=
  crc32 ((allBeads.filter fun b => b.val ≤ 2 || (4 ≤ b.val && b.val ≤ 7) || 32 ≤ b.val).map
    fun b => BitVec.ofNat 8 (s.bead.inForce[b]).code)

/-- The mode code that a journal entry carries: 0 through a start-up of the mains domain after mains return
(R590). -/
def State.modeCode (s : State) : Nat :=
  if s.dev.mode = .bedBattery ∧ s.dev.start = some .mainsReturn then 0 else s.dev.mode.code

/-- The STATE body (Table 13.5). -/
def State.stateBody (s : State) : List Byte :=
  bytesLE 8 s.fab.uid.toNat ++ [BitVec.ofNat 8 s.modeCode, BitVec.ofNat 8 (s.eff 3)] ++
  bytesLE 2 s.zoneWord ++
  [BitVec.ofNat 8 (sealCode s.loc.sealState + 4 * bit s.loc.sealTamper),
   BitVec.ofNat 8 (bit (s.loc.alm[(0 : Fin 2)]).active + 2 * bit (s.loc.alm[(1 : Fin 2)]).active)] ++
  latchBytes (s.latchLeft 0) ++ latchBytes (s.latchLeft 1) ++
  [BitVec.ofNat 8 (bit s.loc.silencedH24 + 2 * bit s.loc.silencedTmp)] ++
  bytesLE 3 s.dev.hold ++ bytesLE 2 (s.twin.pairAddr.toNat + 4096 * s.fab.kind.code) ++
  bytesLE 4 s.fab.ownSeq.toNat ++ bytesLE 4 s.beadDigest.toNat ++ bytesLE 4 (s.tal.jNext - 1).toNat ++ zeros 6

/-- The partner is in split hold (Table 13.4 flag [4]). -/
def State.partnerSplit (s : State) : Bool :=
  match s.twin.partner with
  | some q => q.split
  | none => false

/-- Interval between STATE frames in ticks (R558). -/
def State.stateInterval (s : State) : Nat :=
  if s.twin.split || s.partnerSplit then msTicks 10 else if s.dev.mode = .sand then msTicks 100 else 10 * tps

/-- The fields of STATE other than the countdowns (R558): without the latch remainders and the hold. -/
def State.stateFields (s : State) : List Byte :=
  let b := s.stateBody
  b.take 14 ++ slice b 20 1 ++ b.drop 24

/-- Send STATE. -/
def State.sendState (s : State) : State :=
  let s1 := s.sendMirror kState s.stateBody
  { s1 with twin := { s1.twin with stateNext := s.now + s.stateInterval, stateDirty := false, stateSent := s.stateFields } }

/-- A field of STATE changed: a STATE is due at once (R558). -/
def State.stateChanged (s : State) : State :=
  if s.trole = .none then s else { s with twin := { s.twin with stateDirty := true } }

end Sys2Proof.Machine
end

