-- ==== Sys2Proof/Machine/StoreOps.lean ====
section
/-!
DEFINITION. The tally store: areas (Table 6.4), slots (Tables 6.5 and 6.6), record contents, the A/B commit
(R257) and the queue of writes (R258, R652).
-/
namespace Sys2Proof.Machine

/-- Type of a record (Table 6.6). -/
def RecId.typ : RecId → Nat
  | .device => 1
  | .deviceTallies => 2
  | .pathTallies _ => 3
  | .calibration _ => 4
  | .ageing => 5
  | .keys _ => 6

/-- Address of slot A (Table 6.4). -/
def RecId.base : RecId → Nat
  | .device => 0x40
  | .deviceTallies => 0xC0
  | .pathTallies p => 0x2C0 + 256 * p.val
  | .calibration p => 0xAC0 + 128 * p.val
  | .ageing => 0xEC0
  | .keys p => 0x1340 + 256 * p.val

/-- Size of a slot in bytes (Table 6.4). -/
def RecId.size : RecId → Nat
  | .device => 64
  | .deviceTallies => 256
  | .pathTallies _ => 128
  | .calibration _ => 64
  | .ageing => 576
  | .keys _ => 128

/-- Content length. That of ageing, calibration and keys follows from Tables 4.3, 5.13 and 12.3; the other
three are the model's layout. DESIGN CHOICE. -/
def RecId.len : RecId → Nat
  | .device => 17
  | .deviceTallies => 144
  | .pathTallies _ => 76
  | .calibration _ => 19
  | .ageing => 533
  | .keys _ => 64

/-- The record index of TORN COMMIT data (Table 6.8). -/
def RecId.index : RecId → Nat
  | .pathTallies p => p.val
  | .calibration p => p.val
  | .keys p => p.val
  | _ => 0

/-- Every record, in the order of Table 6.4. -/
def allRecords : List RecId :=
  [.device, .deviceTallies] ++ allPaths.map .pathTallies ++ allPaths.map .calibration ++ [.ageing] ++
    allPorts.map .keys

/-- Address of a slot: A is false, B is true. -/
def RecId.slot (r : RecId) (b : Bool) : Nat := r.base + (if b then r.size else 0)

/-- Class of a slot (R259), with the sequence of a VALID one. -/
inductive SlotClass where
  | empty
  | valid (seq : Nat)
  | corrupt
  | torn
  deriving DecidableEq, Repr

/-- The commit word. -/
def commitWord : Nat := 0xA55A3CC3

/-- Classification of a slot (R259). -/
def classify (m : Mem) (r : RecId) (b : Bool) : SlotClass :=
  let a := r.slot b
  let h := memRange m a 8
  let len := natLE (slice h 2 2)
  if h.getD 0 0 = 0 then .empty
  else if r.size < len + 16 then .torn
  else
    let c := memRange m (a + 8) len
    if natLE (memRange m (a + 12 + len) 4) ≠ commitWord then .torn
    else if crc32 (h ++ c) ≠ BitVec.ofNat 32 (natLE (memRange m (a + 8 + len) 4)) then .corrupt
    else if (h.getD 0 0).toNat = r.typ ∧ h.getD 1 0 = 1 ∧ len = r.len then .valid (natLE (slice h 4 4))
    else .corrupt

/-- The slot that holds the newest VALID copy and its sequence (R260). -/
def newest (m : Mem) (r : RecId) : Option (Bool × Nat) :=
  match classify m r false, classify m r true with
  | .valid a, .valid b =>
    if a = b then some (false, a)
    else if (b + 2 ^ 32 - a) % 2 ^ 32 < 2 ^ 31 then some (true, b) else some (false, a)
  | .valid a, _ => some (false, a)
  | _, .valid b => some (true, b)
  | _, _ => none

/-- Content of the newest VALID copy. -/
def recordContent (m : Mem) (r : RecId) : Option (List Byte) :=
  (newest m r).map fun n => memRange m (r.slot n.1 + 8) r.len

/-- The bytes of a slot without its commit word (Table 6.5). -/
def slotBytes (r : RecId) (seq : Nat) (content : List Byte) : List Byte :=
  let l := [BitVec.ofNat 8 r.typ, 1] ++ bytesLE 2 content.length ++ bytesLE 4 seq ++ content
  l ++ crcLE l

/-- A record write (R257): commit word cleared, header, content and CRC, commit word set. -/
def commitRecord (m : Mem) (r : RecId) (content : List Byte) : Mem :=
  let old := newest m r
  let target := match old with
    | some (b, _) => !b
    | none => false
  let seq := match old with
    | some (_, n) => (n + 1) % 2 ^ 32
    | none => 1
  let a := r.slot target
  let m1 := memStore m (a + 12 + content.length) (zeros 4)
  let m2 := memStore m1 a (slotBytes r seq content)
  memStore m2 (a + 12 + content.length) (bytesLE 4 commitWord)

/-- Zeros over both slots of a record (R265). -/
def eraseRecord (m : Mem) (r : RecId) : Mem := memStore m r.base (zeros (2 * r.size))

/-- One copy of the store header; the place of its fields in 16 bytes is the model's. DESIGN CHOICE. -/
def headerCopy : List Byte := let v := bytesLE 2 1; v ++ crcLE v ++ zeros 10

/-- A copy of the header is valid. -/
def headerValid (m : Mem) (i : Nat) : Bool := decide (memRange m (16 * i) 6 = headerCopy.take 6)

/-- Four copies of the header. -/
def writeHeader (m : Mem) : Mem := memStore m 0 (headerCopy ++ headerCopy ++ headerCopy ++ headerCopy)

/-- Content of the device record (Table 6.4); its layout is the model's. DESIGN CHOICE. -/
def Tal.deviceContent (t : Tal) : List Byte :=
  bytesLE 4 t.powerUps.toNat ++ bytesLE 4 t.cleans.toNat ++
  [BitVec.ofNat 8 (bit t.cleaning + 2 * bit t.refireEver)] ++
  bytesLE 4 t.refireEpoch.toNat ++ bytesLE 4 t.refireDay

/-- Content of the device tally record (Table 6.4); its layout is the model's. DESIGN CHOICE. -/
def Tal.deviceTallyContent (t : Tal) : List Byte :=
  (t.dev.toList.map fun x => bytesLE 8 x.toNat).flatten ++ bytesLE 4 t.accChg ++ bytesLE 4 t.accChgRev

/-- Content of a path tally record (Table 6.4); its layout is the model's. DESIGN CHOICE. -/
def PathTally.content (t : PathTally) : List Byte :=
  (t.count.toList.map fun x => bytesLE 8 x.toNat).flatten ++ bytesLE 4 t.accAb ++ bytesLE 4 t.accBa ++
    bytesLE 4 t.accGap

/-- An integer as n bytes in two's complement, least significant first. -/
def intLE (n : Nat) (x : Int) : List Byte := bytesLE n (x % (256 ^ n : Nat)).toNat

/-- A two's complement integer from its bytes, least significant first. -/
def toIntLE (l : List Byte) : Int :=
  let x := natLE l
  if x < 256 ^ l.length / 2 then x else (x : Int) - (256 ^ l.length : Nat)

/-- Content of a calibration record (Table 5.13). -/
def CalRecord.content (c : CalRecord) (p : PathNo) : List Byte :=
  [BitVec.ofNat 8 p.val, BitVec.ofNat 8 c.freq.val] ++ bytesLE 4 c.len ++ intLE 4 c.delta0 ++ intLE 2 c.tDie ++
    [BitVec.ofNat 8 c.base] ++ bytesLE 6 c.sec.toNat

/-- A calibration record from its content. -/
def CalRecord.parse (l : List Byte) : CalRecord where
  freq := ⟨(l.getD 1 0).toNat % 16, by omega⟩
  len := natLE (slice l 2 4)
  delta0 := toIntLE (slice l 6 4)
  tDie := toIntLE (slice l 10 2)
  base := (l.getD 12 0).toNat
  sec := BitVec.ofNat 48 (natLE (slice l 13 6))

/-- Content of the ageing record (Table 4.3). Each daily point is 64 bits: day [63:32], offset [31:0]. -/
def Ageing.content (a : Ageing) : List Byte :=
  let pts := a.points.take 64
  let body := (pts.map fun p => intLE 4 p.2 ++ bytesLE 4 p.1).flatten
  intLE 4 a.o ++ intLE 4 a.a ++ bytesLE 4 a.d0 ++ bytesLE 4 a.dL ++ bytesLE 4 a.epoch ++
    [BitVec.ofNat 8 pts.length] ++ body ++ zeros (512 - body.length)

/-- The ageing model from its record. -/
def Ageing.parse (l : List Byte) : Ageing where
  o := toIntLE (slice l 0 4)
  a := toIntLE (slice l 4 4)
  d0 := natLE (slice l 8 4)
  dL := natLE (slice l 12 4)
  epoch := natLE (slice l 16 4)
  points := (List.range (min 64 (l.getD 20 0).toNat)).map fun i =>
    (natLE (slice l (25 + 8 * i) 4), toIntLE (slice l (21 + 8 * i) 4))

/-- Content of a key record (Table 12.3). -/
def KeyRec.content (k : KeyRec) : List Byte :=
  bytesLE 8 k.partner.toNat ++ slice k.kTx 0 16 ++ slice k.kRx 0 16 ++ bytesLE 4 k.keyId.toNat ++
    [k.role, 0] ++ bytesLE 6 k.sec.toNat ++ bytesLE 4 k.pairings.toNat ++ zeros 8

/-- A key record from its content. -/
def KeyRec.parse (l : List Byte) : KeyRec where
  partner := BitVec.ofNat 64 (natLE (slice l 0 8))
  kTx := slice l 8 16
  kRx := slice l 24 16
  keyId := BitVec.ofNat 32 (natLE (slice l 40 4))
  role := l.getD 44 0
  sec := BitVec.ofNat 48 (natLE (slice l 46 6))
  pairings := BitVec.ofNat 32 (natLE (slice l 52 4))

/-- Address of the working area of a path (Table 6.4). -/
def workBase (p : PathNo) : Nat := 0x1640 + 160 * p.val

/-- rms of the residues within θ, in 1/16 µm/s, rounded (R240). -/
def sigmaOf (l : List Int) : Nat :=
  if l.isEmpty then 0 else
    let q := sumNat (l.map fun r => (r * r).natAbs)
    let r := isqrt (4 * q / l.length)
    (r + 1) / 2

/-- The square of σ_res as a fraction (R240): of the residues held, or during the warm-up after start-up the one that the working area
gave (log 32). -/
def PathTally.sigmaSq (t : PathTally) : Nat × Nat :=
  match t.sigma with
  | some g => if t.warm < 32 then (g * g, 1) else (sumNat (t.resid.map fun x => (x * x).natAbs), t.resid.length)
  | none => (sumNat (t.resid.map fun x => (x * x).natAbs), t.resid.length)

/-- σ_res in 1/16 µm/s, rounded. -/
def PathTally.sigmaNow (t : PathTally) : Nat :=
  match t.sigma with
  | some g => if t.warm < 32 then g else sigmaOf t.resid
  | none => sigmaOf t.resid

/-- Working area of a path (R238): model, m, σ_res, band, CRC-32. Its layout is the model's: coefficients as
16-bit values in 1/16 µm/s. DESIGN CHOICE. -/
def workContent (t : PathTally) (band : Nat) : List Byte :=
  let co (l : List Int) : List Byte :=
    ((List.range 31).map fun i => intLE 2 (clampInt (-32768) 32767 (l.getD i 0))).flatten
  let l := co t.harm.a ++ co t.harm.b ++ intLE 8 t.harm.m ++ intLE 8 t.harm.f0 ++ bytesLE 4 t.sigmaNow ++
    [BitVec.ofNat 8 t.harm.j0, BitVec.ofNat 8 band, BitVec.ofNat 8 (bit t.harm.locked + 2 * bit t.harm.fitted)]
  l ++ zeros (156 - l.length)

/-- The working area with its CRC-32. -/
def workBytes (t : PathTally) (band : Nat) : List Byte :=
  let l := workContent t band
  l ++ crcLE l

/-- The model of a working area and its σ_res, none where its CRC fails or its band differs. -/
def workParse (m : Mem) (p : PathNo) (band : Nat) : Option (Harmonic × Nat) :=
  let l := memRange m (workBase p) 156
  if natLE (memRange m (workBase p + 156) 4) ≠ (crc32 l).toNat then none
  else if (l.getD 145 0).toNat ≠ band then none
  else
    let co (o : Nat) : List Int := (List.range 31).map fun i => toIntLE (slice l (o + 2 * i) 2)
    some ({ a := co 0, b := co 62, m := toIntLE (slice l 124 8), f0 := toIntLE (slice l 132 8),
            j0 := (l.getD 144 0).toNat, locked := decide ((l.getD 146 0).toNat % 2 = 1),
            fitted := decide ((l.getD 146 0).toNat / 2 % 2 = 1) }, natLE (slice l 140 4))

/-- The state with another content of the store. -/
def State.setStore (s : State) (m : Mem) : State := { s with tal := { s.tal with store := m } }

/-- The records whose content from before a clean is dropped (R652). -/
def RecId.cleaned : RecId → Bool
  | .device => false
  | .ageing => false
  | _ => true

/-- The same for a queued write. -/
def WriteId.cleaned : WriteId → Bool
  | .record r => r.cleaned
  | .work _ => true

/-- The store with a queued write made: a record by the A/B commit (R257), a working area as it is. -/
def writeStore (m : Mem) (id : WriteId) (content : List Byte) : Mem :=
  match id with
  | .record r => commitRecord m r content
  | .work p => memStore m (workBase p) content

/-- A write requested (R258): it replaces an earlier request for the same record or area that has not started; while a clean runs,
none is taken for what it erases (R652). -/
def State.queueWrite (s : State) (id : WriteId) (content : List Byte) : State :=
  if s.tal.cleaning && id.cleaned then s
  else
    let r : WriteReq := { id := id, content := content }
    let l := s.tal.writes
    let l' := if l.any (fun w => w.id = id) then l.map (fun w => if w.id = id then r else w) else l ++ [r]
    { s with tal := { s.tal with writes := l' } }

/-- A request to write a record (R258). -/
def State.requestWrite (s : State) (r : RecId) (content : List Byte) : State := s.queueWrite (.record r) content

/-- The working area of a path is to be written (R238). -/
def State.writeWork (s : State) (p : PathNo) : State := s.queueWrite (.work p) (workBytes s.tal.path[p] (s.eff 38 p))

/-- Request the device record. -/
def State.requestDevice (s : State) : State := s.requestWrite .device s.tal.deviceContent

/-- Request a path tally record if it has changed (R231). -/
def State.requestPath (s : State) (p : PathNo) : State :=
  let t := s.tal.path[p]
  if t.dirty then
    let s1 := s.requestWrite (.pathTallies p) t.content
    { s1 with tal := { s1.tal with path := s1.tal.path.set p { t with dirty := false, writtenAt := some s.now } } }
  else s

/-- Request every changed path tally record. -/
def State.requestPaths (s : State) : State := allPaths.foldl State.requestPath s

/-- Add to a device tally (Table 6.1) by its number. -/
def State.addTally (s : State) (n : Nat) (k : Nat) : State :=
  if h : 8 ≤ n ∧ n < 25 ∧ 0 < k then
    { s with tal := { s.tal with
        dev := s.tal.dev.set (n - 8) (s.tal.dev[n - 8] + BitVec.ofNat 64 k), devDirty := true } }
  else s

/-- The difference of the AON charge counter, the zone onset counters and the mode times carried into the device tallies
(R230, R252). -/
def State.readSources (s : State) : State :=
  if s.tal.cleaning then s
  else
    let d := (s.tal.charge - s.tal.baseChg).toInt
    let pos := s.tal.accChg + (if 0 < d then d.natAbs * 125 else 0)
    let neg := s.tal.accChgRev + (if d < 0 then d.natAbs * 125 else 0)
    let s1 : State := { s with tal := { s.tal with baseChg := s.tal.charge, accChg := pos % 589824, accChgRev := neg % 589824 } }
    let s2 := (s1.addTally 14 (pos / 589824)).addTally 15 (neg / 589824)
    let s3 := allZones.foldl (fun t (z : ZoneNo) =>
      let n := (t.loc.onsets[z] - t.tal.baseZone[z]).toNat
      let t' : State := { t with tal := { t.tal with baseZone := t.tal.baseZone.set z t.loc.onsets[z] } }
      t'.addTally (16 + z.val) n) s2
    (List.finRange 4).foldl (fun t (m : Fin 4) =>
      let k := t.dev.modeTicks[m]
      let t' : State := { t with dev := { t.dev with modeTicks := t.dev.modeTicks.set m (k % 32768) } }
      t'.addTally (8 + m.val) (k / 32768)) s3

/-- Request the device tally record if it has changed (R231). -/
def State.requestDeviceTallies (s : State) : State :=
  if s.tal.devDirty then
    let s1 := s.requestWrite .deviceTallies s.tal.deviceTallyContent
    { s1 with tal := { s1.tal with devDirty := false, devWrittenAt := s.now } }
  else { s with tal := { s.tal with devWrittenAt := s.now } }

/-- Both kinds of tally record at a mode change (R231), with the sources read (R230, R252). -/
def State.modeTallies (s : State) : State :=
  ((s.readSources).requestPaths).requestDeviceTallies

end Sys2Proof.Machine
end

