-- ==== Sys2Proof/Machine/Text.lean ====
section
/-!
DEFINITION. Numbers as the monitor writes them (R4, R637, R639).
-/
namespace Sys2Proof.Machine

/-- A hexadecimal digit, upper case (R4). -/
def hexDigit (n : Nat) : Char := if n < 10 then Char.ofNat (48 + n) else Char.ofNat (55 + n)

/-- n hexadecimal digits. -/
def hexDigits : Nat → Nat → List Char
  | 0, _ => []
  | k + 1, n => hexDigits k (n / 16) ++ [hexDigit (n % 16)]

/-- A number in n hexadecimal digits. -/
def hexStr (n x : Nat) : String := String.ofList (hexDigits n x)

/-- A number in n decimal digits. -/
def decStr (n x : Nat) : String :=
  let t := (toString x).toList
  String.ofList (List.replicate (n - t.length) '0' ++ t)

/-- Groups of four characters from the right, joined by underscores; the list is in reverse order. -/
def groupFour : Nat → List Char → List Char
  | _, [] => []
  | n, c :: t => if n = 4 then groupFour 1 t ++ [c, '_'] else groupFour (n + 1) t ++ [c]

/-- A number of n hexadecimal digits with its prefix, and an underscore between groups of four where it is wider than 16
bits (R4). -/
def hexNum (n x : Nat) : String :=
  let l := hexDigits n x
  "0x" ++ String.ofList (if n ≤ 4 then l else groupFour 0 l.reverse)

/-- A natural number in decimal. -/
def natStr (n : Nat) : String := toString n

/-- A signed number in decimal. -/
def intStr (n : Int) : String := if n < 0 then "-" ++ toString n.natAbs else toString n.natAbs

/-- A number of thousandths, or of other decimal parts, with its sign where it is asked for. -/
def fixStr (plus : Bool) (decimals : Nat) (x : Int) : String :=
  let u := 10 ^ decimals
  (if x < 0 then "-" else if plus then "+" else "") ++ toString (x.natAbs / u) ++ "." ++ decStr decimals (x.natAbs % u)

/-- yes or no. -/
def boolStr (b : Bool) : String := if b then "1" else "0"

/-- Words joined by spaces. -/
def joinWords : List String → String
  | [] => ""
  | [w] => w
  | w :: t => w ++ " " ++ joinWords t

end Sys2Proof.Machine
end

