-- ==== Sys2Proof/Machine/Ops.lean ====
section
/-!
DEFINITION. The named operations that the meanings share: the guarded outcome, the journal port, EVENT
origination and Sand triggers, alarm outputs, acknowledgements, XO demands, sounding rates, mode changes, port and
link states, and the reset of the mains-domain parts.
-/
namespace Sys2Proof.Machine

/-- Outcome of a command. -/
abbrev Out := Host.Outcome State Fault Refusal

/-- A step whose condition holds takes its next state; a step whose condition does not hold does not occur. -/
def occurs (g : Bool) (s t : State) : Out := if g then .next t else .next s

/-- A step that needs well-formed operands. -/
def whenFormed (wf : Bool) (o : Out) : Out := if wf then o else .refused .illFormed

/-- One free value of the model, below a bound (a value the spec leaves open). -/
def State.draw (s : State) (bound : Nat) : Nat × State :=
  ((Config.free s.draws).natAbs % bound, { s with draws := s.draws + 1 })

/-- n bytes from the noise source (R512, R520, R522). -/
def State.drawBytes (s : State) (n : Nat) : List Byte × State :=
  ((List.range n).map fun i => Config.noise s.draws i, { s with draws := s.draws + 1 })

/-- The tally engine writes an entry itself: always while the house core does not run, and for its own codes
(R16). -/
def State.engineWrites (s : State) (code : Nat) : Bool :=
  decide (s.dev.core ≠ .running) || decide (code = 1) || (decide (0x28 ≤ code) && decide (code ≤ 0x3F)) ||
  decide (code = 0xAF)

/-- Highest journal level written (R277, Table 16.1): a change of bead 39 counts from the next entry on (Table 2.4). -/
def State.verbosity (s : State) : Nat :=
  match s.bead.waiting.find? (fun w => decide (w.bead = 39) && decide (w.part = 0)) with
  | some w => w.value.val / 2
  | none => s.eff 39 / 2

/-- The 14 bytes of an entry before its check (Table 6.7). -/
def JEntry.head (e : JEntry) : List Byte :=
  bytesLE 4 e.num.toNat ++ bytesLE 4 e.sec.toNat ++ bytesLE 2 (e.tick.toNat + 32768 * bit e.engine) ++
    [e.code, e.mode.setWidth 8] ++ bytesLE 2 e.data.toNat

/-- The 16 bytes of an entry: its check is CRC-32 bits [15:0] of bytes 0 to 13. -/
def JEntry.bytes (e : JEntry) : List Byte := e.head ++ (crcLE e.head).take 2

/-- The entry number after n: 0xFFFF_FFFF is never given (R274). -/
def nextEntryNum (n : BitVec 32) : BitVec 32 := if n + 1 = 0xFFFFFFFF#32 then 0 else n + 1

/-- An entry of now, with a number. -/
def State.entryNow (s : State) (num : BitVec 32) (code data : Nat) : JEntry where
  num := num
  sec := s.clk.sec.setWidth 32
  tick := s.clk.calTick
  engine := s.engineWrites code
  code := BitVec.ofNat 8 code
  mode := BitVec.ofNat 3 s.modeCode
  data := BitVec.ofNat 16 data

/-- The journal port takes an entry (R275 to R277, R562): not written above the verbosity; dropped and
counted where 32 wait beside the one being written; else numbered and queued. The entry as formed comes with
the state; a dropped one carries 0xFFFF_FFFF (R488). -/
def State.journalEntry (s : State) (code data : Nat) : JEntry × State :=
  match jLevel (BitVec.ofNat 8 code) with
  | none => (s.entryNow 0xFFFFFFFF#32 code data, s)
  | some lvl =>
    if s.verbosity < lvl then (s.entryNow 0xFFFFFFFF#32 code data, s)
    else if 33 ≤ s.tal.jQueue.length then
      (s.entryNow 0xFFFFFFFF#32 code data,
        { s with tal := { s.tal with jDropped := s.tal.jDropped + 1 } }.addTally 23 1)
    else
      let e := s.entryNow s.tal.jNext code data
      let s1 : State := { s with tal := { s.tal with
        jNext := nextEntryNum s.tal.jNext, jQueue := s.tal.jQueue ++ [e] } }
      let s2 : State := if s.standby then { s1 with twin := { s1.twin with own := s1.twin.own ++ [e] } } else s1
      (e, if s.trole = .none then s1 else s2.sendMirror kJournal ([1, 0, 0, 0] ++ e.bytes))

/-- Journal an entry. -/
def State.journal (s : State) (code data : Nat) : State := (s.journalEntry code data).2

/-- Originate an EVENT frame that carries an entry (R19, R488): none without an address, while the address is
held, at a standby (R566), or while no port can carry it. -/
def State.event (s : State) (e : JEntry) : State :=
  let ports := s.trunkPorts
  if s.held || s.fab.addr = 0 || s.standby || ports.isEmpty then s
  else
    s.originate tEvent s.siteGroup 0xFFF s.ownAddr
      (e.bytes ++ bytesLE 8 s.fab.uid.toNat ++ [BitVec.ofNat 8 s.siteGroup, BitVec.ofNat 8 (bit s.armedNow)] ++ zeros 6)
      ports

/-- Offer a record to the head queue (R438); the head keeps records outside Bedrock only (R439). -/
def State.offerRecord (s : State) (r : HeadRec) : State :=
  if s.inBedrock then s else { s with head := { s.head with offered := s.head.offered ++ [r] } }

/-- A Sand trigger of local origin: journalled, originated as an EVENT, recorded for the head, and where bead 4
accepts it outside Bedrock, posted for the AON logic (R19, R23, R27, R438). -/
def State.raise (s : State) (k : Option TriggerKind) (code data : Nat) : State :=
  let r := s.journalEntry code data
  let s1 := r.2.event r.1
  let s2 := s1.offerRecord { kind := 1, src := s.fab.addr, content := r.1.bytes }
  match k with
  | some k =>
    if s.accepts k && !s.inBedrock then { s2 with dev := { s2.dev with accepted := s2.dev.accepted ++ [k] } } else s2
  | none => s2

/-- Some state condition mapped to the output is present. -/
def State.followPresent (s : State) (o : AlmOut) : Bool := (alarmMap (s.eff 7) o).1.any s.condPresent

/-- The onset of a condition silenced while it lasts (R125). -/
def State.condSilenced (s : State) : Cond → Bool
  | .h24 => s.loc.silencedH24
  | .tmp => s.loc.silencedTmp
  | _ => false

/-- The output drives: the first supervision shot has been evaluated (R127) and the unit drives the shared
wiring (R547). -/
def State.outputsOn (s : State) : Bool := s.dev.supDone && s.drives

/-- One output at the onset of a condition (R123 to R125). -/
def State.outputOnset (s : State) (c : Cond) (o : AlmOut) : AlmSt :=
  let a := s.loc.alm[o]
  let m := alarmMap (s.eff 7) o
  if m.1.contains c && s.outputsOn then
    match m.2 with
    | .follow => { a with active := true, onset := some s.now, cutAt := none }
    | .latched _ => if s.condSilenced c then a else { a with active := true, onset := some s.now, cutAt := none }
    | .never => a
  else a

/-- The onset of a condition at both outputs (R123, R124, R126). -/
def State.onset (s : State) (c : Cond) : State :=
  { s with loc := { s.loc with alm := Vector.ofFn fun o => s.outputOnset c o } }.stateChanged

/-- One output recomputed from the conditions present (R64, R123): a follow output follows; a latched output
stays; an output that does not drive is inactive. -/
def State.outputFollow (s : State) (o : AlmOut) : AlmSt :=
  let a := s.loc.alm[o]
  if !s.outputsOn then { a with active := false }
  else match (alarmMap (s.eff 7) o).2 with
    | .follow =>
      { a with active := s.followPresent o || (match a.onset with
          | some t => decide (s.now < t + 32768)
          | none => false) }
    | .latched _ => a
    | .never => { a with active := false }

/-- The outputs and the lasting conditions brought up to date: an onset of FLT is taken (Table 3.8), a silence
mark lapses with its condition (R125), follow outputs follow. -/
def State.settle (s : State) : State :=
  let f := s.flt
  let s1 := if f && !s.loc.fltWas then s.onset .flt else s
  let s2 : State := { s1 with loc := { s1.loc with
      fltWas := f
      silencedH24 := s1.loc.silencedH24 && s1.h24
      silencedTmp := s1.loc.silencedTmp && s1.tmp } }
  let alm := Vector.ofFn fun o => s2.outputFollow o
  if alm = s2.loc.alm then s2 else { s2 with loc := { s2.loc with alm := alm } }.stateChanged

/-- An output with the condition has its latest onset on this tick: the silence of one tick is taken before an onset
of it (§3.7). -/
def State.onsetNow (s : State) (c : Cond) : Bool :=
  [(0 : AlmOut), 1].any fun o => (alarmMap (s.eff 7) o).1.contains c && decide (s.loc.alm[o].onset = some s.now)

/-- A silence (R125): every active latched output goes inactive but for an onset of this tick, the state conditions
present are marked, and the silence is journalled (R120). -/
def State.silenceNow (s : State) (cause : Nat) : State :=
  let alm : Vector AlmSt 2 := Vector.ofFn fun o =>
    let a := s.loc.alm[o]
    match (alarmMap (s.eff 7) o).2 with
    | .latched _ => if a.active && a.onset = some s.now then a else { a with active := false, onset := none, cutAt := none }
    | _ => a
  let s1 : State := { s with loc := { s.loc with
    alm := alm, silencedH24 := s.h24 && !s.onsetNow .h24, silencedTmp := s.tmp && !s.onsetNow .tmp } }
  (s1.journal 0x16 cause).stateChanged

/-- What LEDG goes on with after a further acknowledgement: RUNNING or PAIRING that it interrupts, or the pattern that waits (R97). -/
def State.ackAfter (s : State) : Option Ack :=
  match s.loc.ackG with
  | some .running => some .running
  | some .pairing => some .pairing
  | _ => s.loc.ackGNext

/-- Begin an acknowledgement on LEDG, with the pattern that follows it (R97). -/
def State.ackGreen (s : State) (a : Ack) (next : Option Ack := none) : State :=
  { s with loc := { s.loc with ackG := some a, ackGAt := s.now, ackGNext := next.orElse fun _ => s.ackAfter } }

/-- Begin an acknowledgement on LEDA. -/
def State.ackAmber (s : State) (a : Ack) : State := { s with loc := { s.loc with ackA := some a, ackAAt := s.now } }

/-- RUNNING on LEDG ends with the calibration, begun or waiting (R97). -/
def State.endRunning (s : State) : State :=
  { s with loc := { s.loc with
      ackG := if s.loc.ackG = some .running then none else s.loc.ackG
      ackGNext := if s.loc.ackGNext = some .running then none else s.loc.ackGNext } }

/-- A line of monitor output. -/
def State.say (s : State) (l : String) : State := { s with mon := { s.mon with out := s.mon.out ++ [l] } }

/-- The prompt (R633). -/
def prompt : String := "jbv> "

/-- A command ends with its last line, the unsolicited lines that wait, and the prompt (R637, R640). -/
def State.endCmd (s : State) (l : String) : State :=
  { s with mon := { s.mon with
      out := s.mon.out ++ [l] ++ s.mon.unsolicited ++ [prompt], unsolicited := [], cmd := none, confirmed := none } }

/-- A demand on the XO begins (R135). -/
def State.demand (s : State) (d : XoDemand) : State :=
  if s.clk.demands.contains d then s else { s with clk := { s.clk with demands := s.clk.demands ++ [d] } }

/-- A demand on the XO ends. -/
def State.undemand (s : State) (d : XoDemand) : State :=
  { s with clk := { s.clk with demands := s.clk.demands.filter fun x => x != d } }

/-- The requested rate of a path in a mode, in 1/65,536 pair/s; 0 where the mode does not sound it (R35, R36,
R210, R211, R218). -/
def State.requestedRate (s : State) (m : Mode) (p : PathNo) : Nat :=
  if !s.configured p then 0
  else
    let loam := loamRate (s.eff 34 ⟨p.val, p.isLt⟩)
    match m with
    | .bedBattery => if p.val < bedPaths (s.eff 6) then bedRate (s.eff 6) else 0
    | .sand => if s.tr.calOn then 8 * 65536 else min (4 * loam) (classCap (s.pathClass p) * 65536)
    | _ => if s.tr.calOn then 8 * 65536 else loam

/-- A rate halved k times, not below 0.25 pairs/s (R212). -/
def halved (r k : Nat) : Nat := if r = 0 then 0 else max (r / 2 ^ k) 16384

/-- Occupancy of a group pair with every rate halved k times, in units of 1/655,360,000 (R212). -/
def State.occupancy (s : State) (m : Mode) (g : Fin 2) (k : Nat) : Nat :=
  sumNat ((allPaths.filter fun p => groupPair p = g).map fun p =>
    halved (s.requestedRate m p) k * classSlot (s.pathClass p))

/-- The smallest k that brings the occupancy to 0.75 or less (R212). -/
def State.clampK (s : State) (m : Mode) (g : Fin 2) : Nat :=
  ((List.range 16).find? fun k => s.occupancy m g k ≤ 491520000).getD 15

/-- The rate of a path in a mode after the clamp. -/
def State.pathRate (s : State) (m : Mode) (p : PathNo) : Nat :=
  halved (s.requestedRate m p) (s.clampK m (groupPair p))

/-- The mode whose rates a start-up uses: those of Bedrock on battery where the mains is absent, else Loam. -/
def State.rateMode (s : State) : Mode :=
  match s.dev.mode with
  | .startup => if s.dev.mainsOk then .loam else .bedBattery
  | m => m

/-- One path with the period from its next programme time on; a path that comes into sounding gets its first programme time, by the
formula of start-up from now on also where it was sounded before (R213, R37; log 121). A path that is not sounded has no programme
time, and a pair of it that waits is not fired (R37, R175). -/
def PathSt.withPeriod (q : PathSt) (p : PathNo) (now period : Nat) (sounding : Bool) : PathSt :=
  if period = 0 then { q with nextPeriod := 0, due := none, waiting := none }
  else match q.due with
  | some _ => { q with nextPeriod := period }
  | none =>
    if sounding then
      { q with period := period, nextPeriod := period, due := some (now + 1 + rdivNat (p.val * period) 8) }
    else { q with nextPeriod := period }

/-- REFIN has gone: no collection of a calibration that runs has had it throughout (Table 5.13). -/
def State.calNoRefin (s : State) : State :=
  { s with tr := { s.tr with path := Vector.ofFn fun (p : PathNo) =>
      let q := s.tr.path[p]
      { q with calRun := q.calRun.map fun c => { c with refin := c.refin && decide (c.settle < 8) } } } }

/-- The state with one path changed. -/
def State.updPath (s : State) (p : PathNo) (f : PathSt → PathSt) : State :=
  { s with tr := { s.tr with path := s.tr.path.set p (f s.tr.path[p]) } }

/-- The periods of every path from the rates of the present mode (R212, R213). -/
def State.setPeriods (s : State) : State :=
  { s with tr := { s.tr with path := Vector.ofFn fun p =>
      (s.tr.path[p]).withPeriod p s.now (ratePeriod (s.pathRate s.rateMode p)) s.tr.sounding } }

/-- The clamps of all modes for a configuration (RATE_CLAMP), and RATE CLAMP journalled for the mode in force where a group pair is
clamped (R212). -/
def State.clampRates (s conf : State) : State :=
  let cl : Vector (Vector Nat 3) 2 := Vector.ofFn fun g =>
    Vector.ofFn fun (m : Fin 3) => conf.clampK (if m = 0 then .loam else if m = 1 then .sand else .bedBattery) g
  let s1 : State := { s with bead := { s.bead with clamp := cl } }
  (List.finRange 2).foldl (fun t (g : Fin 2) =>
    let k := conf.clampK s.rateMode g
    if 0 < k then t.journal 0x2A (g.val * 4096 + s.dev.mode.code * 256 + k) else t) s1

/-- The rates of the mode in force computed again (R212, R213). -/
def State.applyRates (s : State) : State := (s.clampRates s).setPeriods

/-- A change of mode (R25): MODE journalled, an entry into Sand counted, tally records requested (R231), rates
recomputed (R212), the XO demand of Sand and Bedrock on fault set. -/
def State.setMode (s : State) (m : Mode) : State :=
  let old := s.dev.mode
  let s1 : State := { s with dev := { s.dev with mode := m, hold := if m.bedrock then 0 else s.dev.hold } }
  let s2 := s1.journal 0x02 (old.code * 256 + m.code)
  let s3 := if m = .sand then s2.addTally 12 1 else s2
  let s4 := if m = .sand ∨ m = .bedFault then s3.demand .mainsMode else s3.undemand .mainsMode
  (s4.modeTallies.applyRates).stateChanged

/-- One part of a bead takes the value that waits for it (R62, R70). -/
def State.takeWaiting (s : State) (b : BeadNo) (part : Fin 8) : State :=
  match s.bead.waiting.find? (fun w => decide (w.bead = b) && decide (w.part = part)) with
  | some w =>
    { s with bead := { s.bead with
        waiting := s.bead.waiting.filter fun x => !(decide (x.bead = b) && decide (x.part = part))
        eff := s.bead.eff.set b ((s.bead.eff[b]).set part w.value) } }
  | none => s

/-- The hold timer loaded with the bead 5 time: whole steps of 1/32 s, one more where the load falls between two
steps, so that it never expires early (R28, R30). A change of bead 5 takes effect here (R31, Table 2.4). -/
def State.loadHold (s : State) : State :=
  let s1 := s.takeWaiting 5 0
  { s1 with dev := { s1.dev with
      hold := holdSecs ⟨s1.eff 5 % 16, by omega⟩ * 32 + (if s.now % 1024 = 0 then 0 else 1) } }

/-- A camera port takes a state; every change is journalled as PORT STATE (R280). -/
def State.setCam (s : State) (k : CamPort) (st : PortState) : State :=
  if (s.cam[k]).state = st then s
  else
    ({ s with cam := s.cam.set k { s.cam[k] with state := st } }).journal 0x75 (k.val * 4096 + st.code)

/-- Use of a camera port: the index in effect of bead 16 + k (R279). -/
def State.camUse (s : State) (k : CamPort) : Nat := s.eff (camBead k)

/-- The cached recipe of a port, none where its slot is not valid or the port was dropped (R82, R298); after an update of
the slot, the recipe that the port runs until its frame boundary (R302). -/
def State.portRecipe (s : State) (k : CamPort) : Option Recipe :=
  let i := s.camUse k
  if h : 1 ≤ i ∧ i ≤ 12 then
    match (s.cam[k]).held with
      | some r => some r
      | none =>
        if s.bead.dropped[k] || !s.rcp.valid || s.rcp.pollBad[i - 1] then none
        else match s.rcp.slots[i - 1] with
          | .good r => some r
          | .bad _ => none
  else none

/-- The state that a port takes on a Sand entry (R281, Table 7.2); a slot that is still to be read by R299 is not yet valid (R321). -/
def State.camEntry (s : State) (k : CamPort) : PortState :=
  let i := s.camUse k
  if s.bead.dropped[k] ∧ 1 ≤ i ∧ i ≤ 14 then .disabled
  else if i = 13 then .test
  else if i = 14 then .hold
  else if 1 ≤ i ∧ i ≤ 12 then (if (s.portRecipe k).isSome && s.dev.cacheDone then .replay else .disabled)
  else .off

/-- What the house core sets an output to besides the camera clocks (Table 4.4). -/
def State.wantOut (s : State) (o : PllOut) : PllSetting :=
  let sand := decide (s.dev.mode = .sand)
  match o.val with
  | 12 => { n := 6, k := 16, enable := sand }
  | 13 => { n := laneDiv (s.eff 13), enable := sand && headMode (s.eff 12) != .off }
  | 14 => { n := 32, enable := s.anyPort }
  | 15 => { n := 10, enable := true }
  | 16 => { n := 8, enable := sand || s.anyPort }
  | _ => { (s.clk.pllOut[o]).now with enable := (s.clk.pllOut[o]).now.enable && decide (o.val < 12) }

/-- Shadows written and armed (R159, R161): a set replaces an earlier one that waits for the same output. -/
def State.armOut (s : State) (o : PllOut) (x : PllSetting) (b : PllBoundary) : State :=
  { s with clk := { s.clk with pllOut := s.clk.pllOut.set o { s.clk.pllOut[o] with shadow := some (x, b) } } }

/-- Every output armed with the LOCK boundary (Table 4.5). -/
def State.armAll (s : State) : State :=
  (List.finRange 18).foldl (fun t (o : PllOut) => t.armOut o (t.wantOut o) .lock) s

/-- The outputs of a boundary take their shadows (R159). At lock every divider is released together, with its interpolator at 0 and
its edge at the fine delay (R162); at another boundary the edge moves to a new delay step by step (R164). -/
def PllOutput.take (o : PllOutput) (b : PllBoundary) : PllOutput :=
  match o.shadow with
  | some (x, c) =>
    if c = b then
      (if b = .lock then { now := x, shadow := none, phase := 0, pos := x.delay } else { o with now := x, shadow := none })
    else o
  | none => o

/-- Every output takes what is armed for a boundary. -/
def State.boundary (s : State) (b : PllBoundary) : State :=
  { s with clk := { s.clk with pllOut := Vector.ofFn fun o => (s.clk.pllOut[o]).take b } }

/-- The actions of a Sand entry (R281, R597): every port in the state of its use, and the marks for the head, the beacons (R472), the tally
frames, the tile holds and the recipe poll. A PLL that runs already takes every output at the LOCK boundary: at once where
it is locked (Table 4.5). -/
def State.sandActions (s : State) : State :=
  let s1 := if s.clk.pll = .off then s else if s.clk.pll = .locked then s.armAll.boundary .lock else s.armAll
  let s2 := allCams.foldl (fun t (k : CamPort) => t.setCam k (t.camEntry k)) s1
  { s2 with
    head := { s2.head with deskewDue := true, snapNext := s2.now + 60 * tps, deskewNext := s2.now + tps
                           tile := Vector.ofFn fun _ => { freshAt := s2.now, held := true } }
    rcp := { s2.rcp with pollNext := s2.now + 2 * tps }
    fab := { s2.fab with
      tallyNext := s2.now + 60 * tps
      port := Vector.ofFn fun (p : FabPort) =>
        { s2.fab.port[p] with beaconNext := min (s2.fab.port[p]).beaconNext (s2.now + msTicks 100) } } }

/-- The beads whose part stands unpowered outside Sand (R65): tile export, head, camera ports and kiln. -/
def videoPart (w : Waiting) : Bool := (12 ≤ w.bead.val && w.bead.val ≤ 31) || (w.bead.val = 10 && w.part.val = 0)

/-- What still waits for a part that was unpowered is taken as the part is powered (R65, R71). -/
def State.takeVideo (s : State) : State :=
  let s1 := (s.bead.waiting.filter videoPart).foldl (fun t (w : Waiting) => t.takeWaiting w.bead w.part) s
  { s1 with bead := { s1.bead with rate := s.bead.rateNext.getD s.bead.rate, rateNext := none } }

/-- Entry into Sand (R25, R28): hold loaded, mode changed, and the entry's actions. -/
def State.enterSand (s : State) : State := ((s.takeVideo).loadHold.setMode .sand).sandActions

/-- The state with one camera port changed. -/
def State.updCam (s : State) (k : CamPort) (f : CamSt → CamSt) : State :=
  { s with cam := s.cam.set k (f s.cam[k]) }

/-- The state with one kiln context changed. -/
def State.updCtx (s : State) (c : Ctx) (f : KCtx → KCtx) : State :=
  { s with kiln := { s.kiln with ctx := s.kiln.ctx.set c (f s.kiln.ctx[c]) } }

/-- The state with every camera port changed. -/
def State.updCams (s : State) (f : CamSt → CamSt) : State := { s with cam := Vector.ofFn fun (k : CamPort) => f s.cam[k] }

/-- CEN driven, with the tick of the change (R309, R310). -/
def CamSt.setCen (q : CamSt) (now : Nat) (on : Bool) : CamSt :=
  if q.cen = on then q else { q with cen := on, cenAt := now }

/-- Input queue of a context (R416). -/
def inQueue (c : Ctx) : Fin 64 := ⟨c.val, by omega⟩
/-- Tile store queue of a context (R416). -/
def tileQueue (c : Ctx) : Fin 64 := ⟨16 + c.val, by omega⟩
/-- Export ring queue of a context (R416). -/
def exportQueue (c : Ctx) : Fin 64 := ⟨32 + c.val, by omega⟩

/-- What a port keeps when its sensor stops: counters and codes; the replay and the frame in progress end. -/
def CamSt.stopped (q : CamSt) (now : Nat) : CamSt :=
  { q.setCen now false with
    frame := none, fsPend := [], fePend := false, pc := 0, phase := .idle, failCause := none, nacks := none, reps := 0,
    burst := none, burstBusy := false, burstFails := 0, burstWait := none, codesNext := none, badRun := 0, lastStart := none,
    joined := false, joinReady := false, leave := none, held := none, fifo := [], freeRun := false, offGrid := 0, frames := 0,
    restarts := [] }

/-- MCLK stops at the PORT FRAME boundary (R313, Table 4.5). -/
def State.mclkOff (s : State) (k : CamPort) : State :=
  let o : PllOut := ⟨k.val, by omega⟩
  let x := (s.clk.pllOut[o]).now
  if x.enable then s.armOut o { x with enable := false } (.portFrame k) else s

/-- Every port to OFF, at once (R281, R598): CEN deasserted, MCLK off. -/
def State.camsOff (s : State) : State :=
  allCams.foldl (fun t (k : CamPort) =>
    (t.setCam k .off).updCam k fun q => { q.stopped t.now with mclk := false }) s

/-- What a context keeps while the kiln does not run: the state of its AE and AWB loops (R360), and what the monitor
shows of it (R643). -/
def KCtx.idle (c : KCtx) : KCtx where
  exposure := c.exposure
  gain := c.gain
  converged := c.converged
  lastConv := c.lastConv
  measure := c.measure
  work := c.work
  shadow := c.shadow
  bl := c.bl
  wb := c.wb
  mono := c.mono
  testFrame := c.testFrame
  parityAt := c.parityAt

/-- The mover channels of the video parts are idle and their queues empty. -/
def Mov.videoIdle (m : Mov) : Mov :=
  { m with
    chan := Vector.ofFn fun (c : MovCh) => if c.val < 15 then {} else m.chan[c]
    queue := Vector.ofFn fun (q : Fin 64) => if q.val < 48 ∨ q.val = 56 then { m.queue[q] with level := 0 } else m.queue[q] }

/-- The kiln and the head stop: nothing in progress is kept; the lanes return to LP-11 while the mains domain is
powered (R32, R420, R598). -/
def State.videoStop (s : State) (powered : Bool) : State :=
  { s with
    mov := s.mov.videoIdle
    kiln := { s.kiln with running := false, readySince := none, last := 12, slot := none, lineIn := []
                          feed := [], out := []
                          ctx := Vector.ofFn fun (c : Ctx) => (s.kiln.ctx[c]).idle }
    head := { s.head with on := false, driven := powered, inFrame := false, underrunPrev := false,
                          images := [], imageOut := none, last := none, segs := [], lineIn := [] } }

/-- The head record queue cleared (R439). -/
def State.clearRecords (s : State) : State :=
  { s with head := { s.head with offered := [], records := [] } }

/-- A PLL output disabled. -/
def PllOutput.off (o : PllOutput) : PllOutput := { o with now := { o.now with enable := false }, shadow := none }

/-- The outputs of relay activity: core, mover and pool, SerDes reference (R20, R154). -/
def relayOutput (o : PllOut) : Bool := o.val = 14 || o.val = 15 || o.val = 16

/-- The PLL stopped with every output disabled; a house core that ran from it runs from the XO again. -/
def State.pllStop (s : State) : State :=
  let s1 := { s with clk := { s.clk with
      pll := .off, pllFrozen := false, pllRefLost := false, pllRelock := false, pllAttempts := 0, coreOnPll := false
      pllOut := Vector.ofFn fun o => (s.clk.pllOut[o]).off } }.undemand .pll
  if s.clk.coreOnPll then s1.demand .core else s1

/-- The outputs that relay activity does not need disabled (R32, R154). -/
def State.pllRelayOnly (s : State) : State :=
  { s with clk := { s.clk with
      pllOut := Vector.ofFn fun o => if relayOutput o then s.clk.pllOut[o] else (s.clk.pllOut[o]).off } }

/-- What a port keeps when its link goes away: its counters, key, pairing and quarantine state; its session
ends (R509) and what it had queued is discarded (R456). -/
def FPort.unlink (q : FPort) (l : LinkState) : FPort :=
  { q with
    link := l
    txq := Vector.replicate 2 [], rxFifo := [], txFifo := []
    credits := Vector.replicate 2 0, granted := Vector.replicate 2 0
    stallAt := Vector.replicate 2 none
    emberSent := false, trainRun := 0, toneAt := none
    trust := if q.key.isSome then .sessionSetup else .unpaired
    established := false, rekeying := false, nonce := [], partnerNonce := none, sTx := [], sRx := []
    txCount := 0, rxCount := 0, recentMacs := [], macFails := 0, badHello := 0, noCmac := 0
    cleanCount := 0, partnerClean := 0, testSeq := 0, penalty := false }

/-- A change of link state journalled as LINK (R504). -/
def State.setLink (s : State) (p : FabPort) (l : LinkState) : State :=
  if (s.fab.port[p]).link = l then s
  else (s.updPort p fun q => { q with link := l }).journal 0x40 (p.val * 16384 + l.code)

/-- A link-state origination falls due: at once, or 100 ms after the latest one (R478). -/
def State.lsChange (s : State) : State :=
  match s.fab.lsDue with
  | some _ => s
  | none => { s with fab := { s.fab with lsDue := some (max s.now (s.fab.lsSentAt + msTicks 100)) } }

/-- A pairing on a port abandoned with a cause (PAIR FAIL, Table 12.7); scalar and keys erased (R514, R516). -/
def State.pairFail (s : State) (p : FabPort) (cause : Nat) : State :=
  if (s.fab.port[p]).pairing.isSome then
    (s.updPort p fun q => { q with pairing := none, window := false }).journal 0x52 (p.val * 16384 + cause)
  else s

/-- Every pairing abandoned with a cause (R518). -/
def State.pairFailAll (s : State) (cause : Nat) : State := allPorts.foldl (fun t (p : FabPort) => t.pairFail p cause) s

/-- The mirror takes a phase; each change is journalled (R563). -/
def State.setMirror (s : State) (m : MirrorPhase) : State :=
  if s.twin.mirror = m then s
  else
    let code := match m with
      | .down => 0
      | .resync => 1
      | .inSync => 2
    let s1 : State := { s with twin := { s.twin with mirror := m } }
    s1.journal 0x63 code

/-- The mirror goes down: nothing waits for an acknowledgement any more (R559). -/
def State.mirrorDown (s : State) : State :=
  let s1 := s.setMirror .down
  { s1 with twin := { s1.twin with unacked := [], ackDue := none, resyncSent := false } }

/-- A port leaves ACTIVE or EMBER for another state: session and queues go (R456, R509), the link leaves the
link-state (R478), a twin port takes the mirror down (R559); KEY MISMATCH ends (Table 12.7). -/
def State.portDown (s : State) (p : FabPort) (l : LinkState) : State :=
  let s0 := if (s.fab.port[p]).trust = .keyMismatch then s.journal 0x53 (p.val * 16384) else s
  let s1 := (s0.setLink p l).updPort p fun q => { q.unlink l with retrainAt := s.now + msTicks 100 }
  let s2 := { s1 with fab := { s1.fab with pinned := s1.fab.pinned.filter fun f => f.port != p } }
  let s3 := if s.portRole p = .twin then s2.mirrorDown else s2
  if s.portRole p = .trunk then s3.lsChange else s3

/-- Calendar ticks since calendar zero. -/
def State.calTicks (s : State) : Nat := s.clk.sec.toNat * 32768 + s.clk.calTick.toNat

/-- The reset of the mains-domain parts at a mains loss or a core restart: clocks, ports, pool, kiln, head, links
and monitor in their power-up state (R171, R172, R597); the ports go OFF with their PORT STATE entries (R280). The counts of the kiln and the head that run from
power-up are kept. -/
def State.resetMains (s : State) : State :=
  let s1 := ((s.camsOff).videoStop false).pllStop
  let s2 : State := { s1 with
    cam := Vector.ofFn fun k => { ({} : CamSt) with cenAt := if (s1.cam[k]).cen then s1.now else (s1.cam[k]).cenAt }
    rcp := {}
    mov := {}
    kiln := { s1.kiln with ctx := Vector.replicate 13 {} }
    clk := { s1.clk with pllNoLock := false }
    fab := {
      uid := s1.fab.uid, lastAddr := s1.fab.lastAddr, addr := 0, kind := .unassigned
      port := Vector.ofFn fun p => { ({} : FPort) with key := (s1.fab.port[p]).key }
      time := s1.fab.time, timeRun := false, stoppedAt := s1.calTicks, noiseBad := s1.fab.noiseBad
      ownSeq := s1.fab.ownSeq
      sentDev := s1.fab.sentDev, sentPath := s1.fab.sentPath }
    mon := { ({} : Mon) with framing := s1.mon.framing, overruns := s1.mon.overruns }
    dev := { s1.dev with
      core := .off, relay := false, romOk := false, compileDone := false, cacheDone := false
      serdesFault := Vector.replicate 3 false } }
  s2.undemand .core

/-- The still-air calibration ends before its time: each configured path is refused as abandoned (reason 4). -/
def State.abandonCal (s : State) : State :=
  if s.tr.calOn then
    let s1 := allPaths.foldl (fun t (p : PathNo) =>
      if (t.tr.path[p]).calRun.isSome then
        (t.updPath p fun q => { q with calRun := none }).journal 0x2C (p.val * 4096 + 4)
      else t) s
    let any := allPaths.any fun p => (s.tr.path[p]).calRun.isSome
    let s2a := ({ s1 with tr := { s1.tr with calOn := false, calByMonitor := false } } : State).setPeriods
    let s2 := if any then (s2a.endRunning).ackAmber .calRefused else s2a.endRunning
    if s.mon.calWait then
      let s3 : State := { s2 with mon := { s2.mon with calWait := false } }
      ((allPaths.filter fun p => (s.tr.path[p]).calRun.isSome).foldl (fun t (p : PathNo) =>
        t.say ("path " ++ natStr p.val ++ " refused abandoned")) s3).endCmd "ok"
    else s2
  else s

/-- A mover recovery is in progress: a channel is halted or fenced. -/
def State.recovering (s : State) : Bool :=
  allChannels.any fun c => decide ((s.mov.chan[c]).state = .halted) || decide ((s.mov.chan[c]).state = .fenced)

/-- The work that a mains loss abandons (Table 14.3): start-up of the mains domain, bead read or compile, mover
recovery (ABANDONED), calibration, pairings, hand-over, the mirror, the monitor. -/
def State.abandonWork (s : State) : State :=
  let s1 := if s.dev.start.isSome ∧ s.dev.core ≠ .off then s.journal 0xA3 1 else s
  let keepRead := decide (s.bead.phase = .reading .powerUp)
  let s2 := if s.bead.phase ≠ .idle ∧ ¬ keepRead then s1.journal 0xA3 2 else s1
  let s3 := if s.recovering then s2.journal 0xA3 3 else s2
  let s4 := (s3.abandonCal).pairFailAll 5
  let s5 := if s.trole = .none then s4 else s4.mirrorDown
  let s6 : State := { s5 with twin := { s5.twin with hand := none, handMsg := none, handReq := none } }
  if keepRead || decide (s.bead.req = some .powerUp) || decide (s.bead.deferred = some .powerUp) then
    { s6 with bead := { s6.bead with heldRestrap := false } }
  else
    { s6 with bead := { s6.bead with phase := .idle, req := none, heldRestrap := false, deferred := none } }.undemand
      .beadRead

/-- Why a hand-over cannot begin (R567, HANDOVER data): 1 partner not IN SYNC, 2 partner in Bedrock, 3 mirror
down; none where it can. -/
def State.handoverBar (s : State) : Option Nat :=
  match s.twin.partner with
  | none => some 1
  | some q =>
    if !q.inSync then some 1
    else if q.mode = 3#3 ∨ q.mode = 4#3 then some 2
    else if s.twin.mirror = .down then some 3
    else none

/-- A hand-over is asked for (R567): it is to begin with its first step, or HANDOVER is journalled with the reason. -/
def State.beginHandover (s : State) (auto : Bool) : State :=
  match s.handoverBar with
  | some why => s.journal 0x64 (why + 8 * bit auto)
  | none => { s with twin := { s.twin with handReq := some auto } }

end Sys2Proof.Machine
end

