-- ==== Sys2Proof/Machine/Store.lean ====
section
/-!
DEFINITION. The tally store in operation: the scan at start-up (R255, R259 to R266, R274), record and journal
writes, clean (R265, R652) and re-firing (§6.9).
-/
namespace Sys2Proof.Machine

/-- The address of a journal entry (R273). -/
def journalAddr (n : BitVec 32) : Nat := 0x4000 + 16 * (n.toNat % 1024)

/-- A journal place: holds an entry whose check matches, holds nothing, or is bad (R274). -/
def journalPlace (m : Mem) (i : Nat) : Option (Option Nat) :=
  let l := memRange m (0x4000 + 16 * i) 16
  if l.all (· = 0) then none
  else if (crcLE (l.take 14)).take 2 = l.drop 14 then some (some (natLE (l.take 4)))
  else some none

/-- Highest entry number among the entries whose check matches, and the number of bad places. -/
def journalScan (m : Mem) : Option Nat × Nat :=
  (List.range 1024).foldl (fun acc i =>
    match journalPlace m i with
    | none => acc
    | some none => (acc.1, acc.2 + 1)
    | some (some n) => (match acc.1 with
        | some k => some (max k n)
        | none => some n, acc.2)) (none, 0)

/-- The first entry number of a start-up (R274): 34 more than the highest, past 0xFFFF_FFFF on to 0. -/
def firstEntry : Option Nat → BitVec 32
  | none => 0
  | some n => let k := n + 34; BitVec.ofNat 32 (if 0xFFFFFFFF ≤ k then k - 0xFFFFFFFF else k)

/-- Some slot of the store is VALID. -/
def anyValid (m : Mem) : Bool := allRecords.any fun r => (newest m r).isSome

/-- TORN COMMIT and STORE CRC for one slot (R261). -/
def State.scanSlot (s : State) (r : RecId) (b : Bool) : State :=
  let data := r.typ * 256 + 2 * r.index + bit b
  match classify s.tal.store r b with
  | .torn => (s.addTally 22 1).journal 0x38 data
  | .corrupt => (s.addTally 22 1).journal 0x39 data
  | _ => s

/-- The tallies of a path from their record. -/
def PathTally.load (t : PathTally) (l : List Byte) : PathTally :=
  { t with
    count := Vector.ofFn fun i => BitVec.ofNat 64 (natLE (slice l (8 * i.val) 8))
    accAb := natLE (slice l 64 4), accBa := natLE (slice l 68 4), accGap := natLE (slice l 72 4) }

/-- One record put into use, or RECORD ABSENT with the action of Table 6.6 (R262). -/
def State.loadRecord (s : State) (r : RecId) : State :=
  match recordContent s.tal.store r with
  | none =>
    let s1 := s.journal 0x3D r.typ
    match r with
    | .device => { s1 with tal := { s1.tal with powerUps := 1, cleans := 0 } }
    | .ageing =>
      ({ s1 with clk := { s1.clk with age := { ({} : Ageing) with unverified := true } } }).journal 0x26 1
    | .deviceTallies => s1
    | .pathTallies _ => s1
    | .calibration _ => s1
    | .keys _ => s1
  | some l =>
    match r with
    | .device =>
      { s with tal := { s.tal with
          powerUps := BitVec.ofNat 32 (natLE (slice l 0 4)) + 1
          cleans := BitVec.ofNat 32 (natLE (slice l 4 4))
          resumed := decide ((l.getD 8 0).toNat % 2 = 1)
          refireEver := decide ((l.getD 8 0).toNat / 2 % 2 = 1)
          refireEpoch := BitVec.ofNat 32 (natLE (slice l 9 4))
          refireDay := natLE (slice l 13 4) } }
    | .deviceTallies =>
      { s with tal := { s.tal with
          dev := Vector.ofFn fun i => s.tal.dev[i] + BitVec.ofNat 64 (natLE (slice l (8 * i.val) 8))
          accChg := natLE (slice l 136 4), accChgRev := natLE (slice l 140 4) } }
    | .pathTallies p => { s with tal := { s.tal with path := s.tal.path.set p ((s.tal.path[p]).load l) } }
    | .calibration p => s.updPath p fun q => { q with calib := some (CalRecord.parse l) }
    | .ageing =>
      let a := Ageing.parse l
      let unknown := decide (a.epoch ≠ s.tal.powerUps.toNat)
      let s1 : State := { s with clk := { s.clk with age := { a with unknownDays := unknown, unverified := unknown } } }
      if unknown then s1.journal 0x26 1 else s1
    | .keys p => s.updPort p fun q => { q with key := some (KeyRec.parse l) }

/-- The working area of a path put into use where it is whole and of the present band (R238); any other restarts the tracker with no
model. -/
def State.loadWork (s : State) (p : PathNo) : State :=
  let t := s.tal.path[p]
  match workParse s.tal.store p (s.eff 38 p) with
  | some h => { s with tal := { s.tal with path := s.tal.path.set p { t with harm := h.1, sigma := some h.2 } } }
  | none => { s with tal := { s.tal with path := s.tal.path.set p { t with harm := {}, sigma := none } } }

/-- Working areas of all configured paths. -/
def State.writeWorks (s : State) : State :=
  (allPaths.filter s.configured).foldl State.writeWork s

/-- The records that a clean erases (R265, steps 2 to 4), and the working area zeroed. -/
def eraseForClean (m : Mem) : Mem :=
  let m1 := (allPorts.map RecId.keys).foldl eraseRecord m
  let m2 := (allPaths.map RecId.calibration).foldl eraseRecord m1
  let m3 := eraseRecord ((allPaths.map RecId.pathTallies).foldl eraseRecord m2) .deviceTallies
  memStore m3 0x1640 (zeros 1280)

/-- The interval of a path's sample stream that holds the present calendar time (R233). -/
def State.intervalNow (s : State) (p : PathNo) : Nat :=
  match sampleTicks (s.eff 38 p) with
  | some ts => s.calTicks / ts
  | none => 0

/-- What a restarted tracker keeps of its path: tallies, accumulators, write marks and passage state (R236); its sample
stream goes on with an interval. -/
def PathTally.restart (t : PathTally) (iv : Nat) : PathTally :=
  { t with
    harm := {}, window := [], sinceFit := 0, ivNext := iv, ivs := [], sumV := 0, numV := 0, recent := []
    resid := [], sigma := none, warm := 0, runLen := 0, runNeg := false, notValid := 0, refractory := false, rearm := 0
    restartDue := false }

/-- The tallies, accumulators, calibrations and keys of the running device zeroed, the AON counters taken as new
bases, every tracker restarted (R265 step 5, R267). -/
def State.zeroForClean (s : State) : State :=
  { s with
    tal := { s.tal with
      path := Vector.ofFn fun p =>
        { (s.tal.path[p]).restart (s.intervalNow p) with count := Vector.replicate 8 0, accAb := 0, accBa := 0, accGap := 0, dirty := false }
      dev := Vector.replicate 17 0, devDirty := false, accChg := 0, accChgRev := 0
      baseChg := s.tal.charge, baseZone := s.loc.onsets }
    dev := { s.dev with modeTicks := Vector.replicate 4 0 }
    tr := { s.tr with path := Vector.ofFn fun p => { s.tr.path[p] with calib := none } }
    fab := { s.fab with port := Vector.ofFn fun p =>
      let q := s.fab.port[p]
      { q with key := none, trust := .unpaired, established := false } } }

/-- A clean found in progress at start-up, repeated from step 2 (R266). -/
def State.resumeClean (s : State) : State :=
  if s.tal.resumed then
    let s1 := ((s.setStore (eraseForClean s.tal.store)).zeroForClean)
    let s2 : State := { s1 with tal := { s1.tal with cleans := s1.tal.cleans + 1, resumed := false } }
    let s3 := s2.setStore (commitRecord s2.tal.store .device s2.tal.deviceContent)
    s3.journal 0x3A (s3.tal.cleans.toNat % 32768 + 32768)
  else s

/-- The store scan at start-up (R255, R259 to R266, R274). After a format the store holds no entry. The working areas are compared with
bead 38 once it has been read (R238). -/
def State.scanStore (s : State) : State :=
  let m := s.tal.store
  let headers := (List.range 4).any (headerValid m)
  let format := !headers && !anyValid m
  let js := if format then (none, 0) else journalScan m
  let s1 : State := { s with tal := { s.tal with jNext := firstEntry js.1, scanned := true } }
  let s2 := s1.addTally 22 js.2
  let s3 :=
    if format then (s2.setStore (writeHeader [])).journal 0x3F 0
    else s2.setStore (writeHeader m)
  let s4 := allRecords.foldl (fun t r => (t.scanSlot r false).scanSlot r true) s3
  let s5 := (allRecords.foldl State.loadRecord s4).resumeClean
  if s.bead.everRead then allPaths.foldl State.loadWork s5 else s5

/-- The writer of RECORD frames to the twin: the holder sends each calibration record that it commits (R562). -/
def State.mirrorRecord (s : State) (r : RecId) (content : List Byte) : State :=
  match r with
  | .calibration p =>
    if s.trole != .none && s.twin.holding && !s.twin.beadMismatch && !s.twin.roleClash then
      s.sendMirror kRecord ([4, BitVec.ofNat 8 p.val] ++ bytesLE 2 content.length ++ content)
    else s
  | _ => s

/-- One record of a TALLY frame: number, path or 0xFF, value (R490, Table 13.3). -/
def tallyRecord (n path : Nat) (v : BitVec 64) : List Byte :=
  [BitVec.ofNat 8 n, BitVec.ofNat 8 path] ++ bytesLE 8 v.toNat

/-- The holder's TALLY with the increases since its last one, as it writes a path tally record or a device tally
record (R561). -/
def State.mirrorTally (s : State) (r : RecId) : State :=
  if s.trole = .none || !s.twin.holding || decide (s.twin.mirror = .down) || s.twin.beadMismatch || s.twin.roleClash then s
  else match r with
    | .pathTallies p =>
      let now := (s.tal.path[p]).count
      let old := s.twin.sentPath[p]
      let recs := ((List.finRange 8).filter fun i => now[i] != old[i]).map fun i => tallyRecord i.val p.val (now[i] - old[i])
      if recs.isEmpty then s
      else
        let s1 := s.sendMirror kTally ([BitVec.ofNat 8 recs.length, 0, 0, 0] ++ recs.flatten)
        { s1 with twin := { s1.twin with sentPath := s1.twin.sentPath.set p now } }
    | .deviceTallies =>
      let now : Vector (BitVec 64) 4 := Vector.ofFn fun (z : ZoneNo) => s.tal.dev[8 + z.val]
      let recs := (allZones.filter fun z => now[z] != s.twin.sentZone[z]).map fun z =>
        tallyRecord (16 + z.val) 255 (now[z] - s.twin.sentZone[z])
      if recs.isEmpty then s
      else
        let s1 := s.sendMirror kTally ([BitVec.ofNat 8 recs.length, 0, 0, 0] ++ recs.flatten)
        { s1 with twin := { s1.twin with sentZone := now } }
    | _ => s

/-- A committed record comes into use: a calibration from the path's next pair (R221), with its tracker restarted
(R236); a key record as its port's (R515). -/
def State.useRecord (s : State) (r : RecId) (content : List Byte) : State :=
  match r with
  | .calibration p =>
    let s1 := s.updPath p fun q => { q with calib := some (CalRecord.parse content) }
    { s1 with tal := { s1.tal with path := s1.tal.path.set p ((s1.tal.path[p]).restart (s1.intervalNow p)) } }
  | .keys p =>
    s.updPort p fun q => { q with
      key := some (KeyRec.parse content)
      pairing := q.pairing.map fun g => { g with committedAt := some s.now, committedNext := s.now } }
  | _ => s

/-- The store may be written: the XO is ready, or, where XO FAIL keeps it from running, the write goes on without it (R136; log 124). -/
def State.storeWrites (s : State) : Bool := s.clk.xoReady || s.clk.xoFail

/-- RECORD_WRITE (R136, R257, R258): the oldest queued write is made. -/
def execRecordWrite (s : State) : Out :=
  match s.tal.writes with
  | [] => .next s
  | w :: rest =>
    let s1 : State := { s with
      dev := { s.dev with keepOn := true }
      tal := { s.tal with store := writeStore s.tal.store w.id w.content, writes := rest } }
    occurs s.storeWrites s (match w.id with
      | .record r => ((s1.useRecord r w.content).mirrorRecord r w.content).mirrorTally r
      | .work _ => s1)

/-- The clean's last steps: the device record with the counter increased and CLEAN IN PROGRESS cleared, CLEAN
journalled (R265 steps 6 and 7); CLEANED waits for ACK-5 (R97). -/
def State.finishClean (s : State) : State :=
  let t := { s.tal with
    store := eraseForClean s.tal.store
    cleans := s.tal.cleans + 1, cleaning := false
    writes := s.tal.writes.filter fun w => decide (w.id ≠ .record .device) }
  let s1 : State := ({ s with tal := t } : State).zeroForClean
  let s2 := s1.setStore (commitRecord s1.tal.store .device s1.tal.deviceContent)
  let s3 := s2.journal 0x3A (s2.tal.cleans.toNat % 32768)
  if s3.loc.ackG = none ∧ s3.loc.ackGNext = some .cleaned then s3.ackGreen .cleaned else s3

/-- CLEAN_COMPLETE (R265, R267). -/
def execCleanComplete (s : State) : Out := occurs s.tal.cleaning s s.finishClean

/-- One re-firing session (R268): 16 blocks rewritten as they are; after the last block the pass ends, its start day
is recorded and REFIRE counted. The cells keep what was written, so no read-back differs. -/
def State.refireStep (s : State) : State :=
  let next := s.tal.refireBlock + 16
  let s1 : State := { s with tal := { s.tal with refireNext := s.now + tps } }
  if next < 512 then { s1 with tal := { s1.tal with refireBlock := next } }
  else
    let s2 : State := { s1 with tal := { s1.tal with
      refireOn := false, refireBlock := 0, refireEver := true, refireEpoch := s1.tal.powerUps
      refireDay := s1.tal.refireFrom, refireDueCal := (s1.tal.refireFrom + 365) * 86400 * tps } }
    ((s2.addTally 24 1).journal 0x3B 0).requestDevice

/-- A read-back that differs (R271): REFIRE ERROR with the block and a second refresh; a second difference latches
STORE FAULT. -/
def State.refireDiff (s : State) (block : Nat) (n : Fin 3) : State :=
  if n = 0 then s
  else
    let s1 := s.journal 0x3C block
    if n = 2 then
      let s2 := s1.journal 0xA7 block
      ({ s2 with dev := { s2.dev with storeFault := true } } : State)
    else s1

/-- REFIRE_SESSION (R268, R271): diffs says of each of the 16 blocks how many read-backs differed. -/
def execRefireSession (diffs : Vector (Fin 3) 16) (s : State) : Out :=
  occurs (s.tal.refireOn && decide (s.tal.refireNext ≤ s.now)) s
    (((List.finRange 16).foldl (fun t (i : Fin 16) => t.refireDiff (s.tal.refireBlock + i.val) diffs[i]) s).refireStep)

/-- REFIRE_DUE (R269): the pass that is due starts; once it is complete, the device record holds the calendar day of its start. -/
def execRefireDue (s : State) : Out :=
  occurs (s.tal.scanned && s.dev.scanDone && !s.tal.refireOn && decide (s.tal.refireDueCal ≤ s.calTicks)) s
    (({ s with tal := { s.tal with refireOn := true, refireBlock := 0, refireFrom := s.day, refireNext := s.now } }
      : State).journal 0x3B 1)

/-- JOURNAL_ENTRY_ACCEPT (R275 to R277): the journal port takes an entry. -/
def execJournalEntryAccept (code : Byte) (data : BitVec 16) (s : State) : Out :=
  .next (s.journal code.toNat data.toNat)

/-- A journal line (R639). -/
def JEntry.line (e : JEntry) : String :=
  let name := ((jNames.find? fun p => p.1 = e.code.toNat).map (·.2)).getD ""
  "#" ++ toString e.num.toNat ++ " " ++ toString e.sec.toNat ++ "." ++ decStr 5 e.tick.toNat ++ " " ++
    (if e.engine then "T" else "C") ++ " " ++ toString e.mode.toNat ++ " 0x" ++ hexStr 2 e.code.toNat ++ " " ++
    name ++ " 0x" ++ hexStr 4 e.data.toNat

/-- JOURNAL_WRITE (R136, R273, R276): the entry in hand is written at its place in the ring; a monitor that follows the
journal shows it (R639). -/
def execJournalWrite (s : State) : Out :=
  match s.tal.jQueue with
  | [] => .next s
  | e :: rest =>
    let s1 : State := { s with
      dev := { s.dev with keepOn := true }
      tal := { s.tal with
        jQueue := rest, store := memStore s.tal.store (journalAddr e.num) e.bytes
        lastBreach := if e.code = 0x30#8 then BitVec.ofNat 32 (e.data.toNat + 65536 * (e.num.toNat % 65536))
          else s.tal.lastBreach } }
    occurs s.storeWrites s
      (if s.mon.follow then { s1 with mon := { s1.mon with out := s1.mon.out ++ [e.line] } } else s1)

/-- JOURNAL_OVERFLOW (R276): the queue has room again, so the number dropped is written. -/
def execJournalOverflow (s : State) : Out :=
  occurs (decide (0 < s.tal.jDropped) && decide (s.tal.jQueue.length < 33)) s
    (let n := s.tal.jDropped
     ({ s with tal := { s.tal with jDropped := 0 } } : State).journal 0x3E (min n 65535))

end Sys2Proof.Machine
end

