-- ==== Sys2Proof/Machine/Life.lean ====
section
/-!
DEFINITION. Reset, start-up, mains loss and return, and fatal faults (chapter 14).
-/
namespace Sys2Proof.Machine

/-- What a record write and a journal write that the loss of both supplies cuts off leave in the store: a free
number of their bytes, in the order of R257 (R263, R276). -/
def State.tearWrites (s : State) : State :=
  let s1 := match s.tal.writes with
    | [] => s
    | w :: _ =>
      let d := s.draw (w.content.length + 14)
      if d.1 = 0 then d.2
      else
        let m := s.tal.store
        match w.id with
        | .work p => d.2.setStore (memStore m (workBase p) (w.content.take (d.1 - 1)))
        | .record r =>
          let target := match newest m r with
            | some (b, _) => !b
            | none => false
          let seq := match newest m r with
            | some (_, n) => (n + 1) % 2 ^ 32
            | none => 1
          let a := r.slot target
          let m1 := memStore m (a + 12 + w.content.length) (zeros 4)
          d.2.setStore (memStore m1 a ((slotBytes r seq w.content).take (d.1 - 1)))
  match s1.tal.jQueue with
  | [] => s1
  | e :: _ =>
    let d := s1.draw 17
    d.2.setStore (memStore s1.tal.store (journalAddr e.num) (e.bytes.take d.1))

/-- The state in the power-on reset: every domain in its power-up state, the store kept (R579). -/
def State.inReset (s : State) : State :=
  let s1 := s.tearWrites
  { State.reset with
    tal := { State.reset.tal with store := s1.tal.store }
    draws := s1.draws
    pending := s1.pending }

/-- POWER_ON_RESET (R577, R579, R272). -/
def execPowerOnReset (s : State) : Out := .next s.inReset

/-- Entry into Bedrock on battery on the tick on which the mains is lost or found absent (R26, R585, R589): the
working areas are written (R238), the record queue is cleared (R439). -/
def State.enterBattery (s : State) : State :=
  let s1 : State := { s with dev := { s.dev with accepted := [], fatal := [], fatalCause := none, changeover := .idle
                                                 fabricKept := false, fabricFault := false, mainsLow := false } }
  ((((s1.takeWaiting 6 0).clearRecords).writeWorks).setMode .bedBattery).settle

/-- The house core starts (R580, R590, R597): its ROM check runs from the XO, the monitor waits for the first
filtered KEYn level (R631), and the pairing codes are gone (R640). -/
def State.startCore (s : State) (k : StartKind) : State :=
  let s1 : State := { s with
    dev := { s.dev with core := .romCheck, start := some k, startAt := s.now, romOk := false
                        compileDone := false, cacheDone := false }
    head := { s.head with driven := true }
    mon := { s.mon with awaitKey := true, enabled := false }
    fab := { s.fab with port := Vector.ofFn fun (p : FabPort) => { s.fab.port[p] with pairCode := none } } }
  s1.demand .core

/-- The fabric time counter runs again from its last value plus the calendar time elapsed (R498): one calendar
tick is 2,000,000,000 units of 1/65,536 ns. -/
def State.resumeTime (s : State) : State :=
  if s.fab.timeRun then s
  else { s with fab := { s.fab with
    timeRun := true, time := (s.fab.time + (s.calTicks - s.fab.stoppedAt) * 2000000000) % 2 ^ 80
    acceptedAt := s.now } }

/-- RESET_RELEASE (R580, R585, R591, R128, R133). -/
def execResetRelease (mainsOk : Bool) (vbatMv : Nat) (s : State) : Out :=
  occurs (!s.dev.released) s
    (let s1 : State := { s with
       dev := { s.dev with released := true, mainsOk := mainsOk, keepOn := true, start := some .powerUp
                           startAt := s.now, nextVbat := s.now + 64 * tps, vbatMv := vbatMv }
       clk := { s.clk with qualBy := some (s.now + 2 * tps), winNext := s.now }
       bead := { s.bead with req := some .powerUp }
       twin := { s.twin with quietFrom := s.now } }
     let s2 := ((s1.demand .qualify).demand .beadRead).scanStore
     let s3 := if vbatMv < 2500 then
         ({ s2 with dev := { s2.dev with vbatLow := true } } : State).journal 0xA4 1 else s2
     if mainsOk then (s3.startCore .powerUp).resumeTime else s3.enterBattery)

/-- AON_INTEGRITY (R578): journalled, the journal written out, then the power-on reset. -/
def execAonIntegrity (s : State) : Out :=
  occurs s.dev.released s
    (let s1 := s.journal 0xAF 0
     let m := s1.tal.jQueue.foldl (fun m e => memStore m (journalAddr e.num) e.bytes) s1.tal.store
     let s2 : State := { s1 with tal := { s1.tal with store := m, jQueue := [] } }
     s2.inReset)

/-- Time from the start of the start-up in units of 50 ms, saturating (START-UP, Table 14.8). -/
def State.startUnits (s : State) : Nat := min 255 ((s.now - s.dev.startAt) * 20 / 32768)

/-- START-UP journalled for a step (Table 14.8). -/
def State.startStep (s : State) (n : Nat) : State := s.journal 0xA0 (s.startUnits * 256 + n)

/-- All that R581 asks for the start-up that runs. A core restart reads no beads; a return of mains keeps the
supervision that runs. In Bedrock on fault only the keep-domain steps run to completion (R586). -/
def State.startReady (s : State) : Bool :=
  s.dev.scanDone && s.dev.readDone && s.dev.supDone &&
    (!s.dev.mainsOk || decide (s.dev.mode = .bedFault) || (s.dev.romOk && s.dev.compileDone && s.dev.cacheDone))

/-- A fatal fault is latched that R26 acts on before any entry into Loam or Sand. -/
def State.fatalWaits (s : State) : Bool := !s.dev.fatal.isEmpty && decide (s.dev.mode ≠ .bedFault)

/-- START_UP_COMPLETE (R581, R584, R590, Table 1.6). At the end of a core restart in Sand the entry actions of Sand follow
(R597). A fatal fault that is latched goes first (R26). -/
def execStartUpComplete (s : State) : Out :=
  occurs (s.dev.start.isSome && s.startReady && !s.fatalWaits) s
    (let s1 := s.startStep 5
     let s2 : State := { s1 with dev := { s1.dev with start := none, upAt := s1.now } }
     if (s2.dev.mode = .startup ∨ (s2.dev.mode = .bedBattery ∧ s.dev.start = some .mainsReturn)) ∧ s2.dev.mainsOk then
       (if s2.levelHolds then s2.enterSand
        else if s2.dev.mode = .startup ∧ 0 < s2.dev.hold then
          (let t := s2.dev.hold
           let s3 := s2.enterSand
           { s3 with dev := { s3.dev with hold := t } })
        else s2.setMode .loam).settle
     else if s2.dev.mode = .sand then s2.sandActions
     else s2)

/-- REFIN is lost at a mains loss (R148, R149). -/
def State.refinGone (s : State) : State :=
  let s1 := if s.clk.refinPresent then s.journal 0x22 0 else s
  (({ s1 with clk := { s1.clk with
      refinGates := 0, refinPresent := false, refinAdvertised := false, refinDone := false } } : State).calNoRefin).undemand .refin

/-- The mains is lost (R589, Table 14.3). -/
def State.loseMains (s : State) : State :=
  let old := s.dev.mode
  let s1 := ({ s with dev := { s.dev with mainsOk := false, mainsLow := false } } : State).abandonWork
  let s3 := (s1.refinGone).resetMains
  let s4 : State := { s3 with dev := { s3.dev with
      start := if s.dev.start = some .powerUp then some .powerUp else none } }
  let s5 := if old = .bedBattery then s4.clearRecords else s4.enterBattery
  ((s5.addTally 13 1).requestDeviceTallies).journal 0xA2 (1 + 2 * old.code)

/-- MAINS_LOSS (R588, R589, R26). The mode is evaluated once on a tick, a mains loss before a trigger: a low sample that comes after a
trigger has already taken the device into Sand on this tick is decided on the next tick (log 116). -/
def execMainsLoss (s : State) : Out :=
  occurs (s.dev.released && s.dev.mainsOk) s
    (if s.dev.evalAt = some s.now ∧ s.dev.mode = .sand then { s with dev := { s.dev with mainsLow := true } } else s.loseMains)

/-- MAINS_RETURN (R588, R590, R66): the device stays in Bedrock on battery while its mains domain starts. -/
def execMainsReturn (highSamples : Nat) (s : State) : Out :=
  occurs (s.dev.released && !s.dev.mainsOk && decide (3277 ≤ highSamples)) s
    (let s1 : State := { s with dev := { s.dev with mainsOk := true, keepOn := true, readDone := false } }
     let s2 := (s1.journal 0xA2 0).startCore .mainsReturn
     let s3 : State := { s2 with bead := { s2.bead with req := some .mainsReturn } }
     ((s3.demand .beadRead).resumeTime).stateChanged)

/-- VBAT_CHECK (R591). -/
def execVbatCheck (vbatMv : Nat) (s : State) : Out :=
  occurs (s.dev.released && decide (s.dev.nextVbat ≤ s.now)) s
    (let s1 : State := { s with dev := { s.dev with vbatMv := vbatMv, nextVbat := s.dev.nextVbat + 64 * tps } }
     if vbatMv < 2500 ∧ ¬ s.dev.vbatLow then
       ({ s1 with dev := { s1.dev with vbatLow := true } } : State).journal 0xA4 1
     else if 2600 < vbatMv ∧ s.dev.vbatLow then
       ({ s1 with dev := { s1.dev with vbatLow := false } } : State).journal 0xA4 0
     else s1)

/-- The house core is held in reset after these causes (R599). -/
def FatalCause.holdsCore : FatalCause → Bool
  | .coreFault => true
  | .romFault => true
  | .clockFault => true
  | _ => false

/-- A fabric-side fault (R38, §14.6). -/
def FatalCause.fabricSide (c : FatalCause) : Bool := c.holdsCore || decide (c = .serdesFault)

/-- Every Speica port OFF (R38, R599). -/
def State.portsOff (s : State) : State := allPorts.foldl (fun t (p : FabPort) =>
  if t.portRole p = .off then t else t.portDown p .off) s

/-- What waits at a MAILBOX or EVENT crossing to a house core in reset is discarded and acknowledged to its source (R171): frame
starts and ends, statistics, mover events, received frames and monitor characters. -/
def State.discardForCore (s : State) : State :=
  { s with
    cam := Vector.ofFn fun (k : CamPort) => { s.cam[k] with fsPend := [], fePend := false }
    kiln := { s.kiln with ctx := Vector.ofFn fun (c : Ctx) => { s.kiln.ctx[c] with statsNew := false } }
    fab := { s.fab with inbox := [] }
    mon := { s.mon with line := [], cmd := none } }

/-- The house core held in reset (R599). -/
def State.holdCore (s : State) : State :=
  (({ s with dev := { s.dev with core := .held } } : State).undemand .core).discardForCore

/-- A fatal fault is latched (R26, R596). In Bedrock on fault it causes no mode change; one on the fabric side stops
the Speica ports there. -/
def State.latchFatal (s : State) (c : FatalCause) : State :=
  let s1 := if c.holdsCore then s.holdCore else s
  if s.dev.mode = .bedFault then
    (if c.fabricSide then
       let s2 := s1.portsOff
       ({ s2 with dev := { s2.dev with fabricFault := true, fabricKept := false }
                  mon := if c.holdsCore then { s2.mon with enabled := false, confirm := none } else s2.mon } : State)
     else s1)
  else { s1 with dev := { s1.dev with
    fatal := s1.dev.fatal ++ [c], fabricFault := s1.dev.fabricFault || c.fabricSide } }

/-- Slabs that keep their power in Bedrock on fault: those of the house core, the ports and the mirror (R598). -/
def keptOwner (o : BitVec 5) : Bool := decide (14 ≤ o.toNat ∧ o.toNat ≤ 18)

/-- The pool with only the kept slabs (R598): the others lose their contents and become FREE, QUARANTINED ones stay
so. -/
def State.dropSlabs (s : State) : State :=
  let own := s.mov.owner
  { s with mov := { s.mov with
      pool := s.mov.pool.filter fun c => keptOwner (own.getD (c.1 / 16384) 29#5)
      owner := Vector.ofFn fun i => if keptOwner own[i] || own[i] = 31#5 then own[i] else 29#5
      jobs := []
      bufs := s.mov.bufs.filter fun b => match b.kind with
        | .core => true
        | .rx _ => true
        | .tx _ => true
        | .mirror => true
        | _ => false } }

/-- The monitor stops (R632): a command and a confirmation in progress are abandoned. -/
def State.monStop (s : State) : State :=
  { s with mon := { s.mon with enabled := false, cmd := none, confirm := none, confirmed := none, follow := false
                               calWait := false, line := [], busy := false, out := [] } }

/-- The PLL stopped, free to try for lock again: with the relay outputs in Bedrock on fault (R38, R598), whatever fault stopped
it before. -/
def State.pllRetry (s : State) : State :=
  let s1 := s.pllStop
  { s1 with clk := { s1.clk with pllNoLock := false } }

/-- Entry into Bedrock on fault (R598, R599, R38): BEDROCK FAULT carries the first cause latched. -/
def State.enterFault (s : State) : State :=
  let cause := s.dev.fatal.headD .clockFault
  let s0 := if s.trole != .none && s.twin.holding then s.beginHandover true else s
  let s1 := ((((s0.abandonCal).camsOff).videoStop true).clearRecords).dropSlabs
  let s2 := (s1.pllRetry).monStop
  let kept := !s2.dev.fabricFault && s2.anyPort
  let s3 := if kept then s2 else s2.portsOff
  let s4 : State := { s3 with dev := { s3.dev with
      fatal := [], fatalCause := some cause, fabricKept := kept, accepted := [], changeover := .idle, relay := kept
      start := if s3.dev.start = some .powerUp then some .powerUp else none } }
  ((s4.setMode .bedFault).journal 0xAE (cause.code + 16 * bit kept)).settle

/-- FATAL_FAULT_BEDROCK_ENTRY (R25, R26, R586, R598). -/
def execFatalFaultBedrockEntry (s : State) : Out :=
  occurs (!s.dev.fatal.isEmpty && s.dev.mainsOk &&
      (decide (s.dev.mode = .loam) || decide (s.dev.mode = .sand) || decide (s.dev.mode = .startup))) s s.enterFault

/-- FATAL_FAULT_IN_MAINS_RETURN (R656): the start-up ends and the device enters Bedrock on fault. -/
def execFatalFaultInMainsReturn (s : State) : Out :=
  occurs (!s.dev.fatal.isEmpty && decide (s.dev.mode = .bedBattery) && decide (s.dev.start = some .mainsReturn)) s
    s.enterFault

/-- CORE_RESTART (R596, R597): the mains-domain parts reset and start from the house core start; a third restart
within 600 s is CORE FAULT. The mode and the hold timer are unchanged. -/
def execCoreRestart (s : State) : Out :=
  occurs (decide (s.dev.core = .running) || decide (s.dev.core = .romCheck)) s
    (let times := s.now :: recent s.now (600 * tps) s.dev.coreRestarts
     let s1 : State := { s with dev := { s.dev with coreRestarts := times, watchdogs := s.dev.watchdogs + 1 } }
     let s2 := (s1.journal 0xA8 (min 3 times.length)).mirrorDown
     let s3 := s2.resetMains
     let s4 : State := { s3 with bead := { s3.bead with
         phase := match s3.bead.phase with
           | .compiling _ _ => .idle
           | x => x } }
     if 3 ≤ times.length then (s4.journal 0xA9 0).latchFatal .coreFault
     else (s4.startCore (s.dev.start.getD .coreRestart)).resumeTime)

/-- ROM_FAULT (R596). -/
def execRomFault (s : State) : Out :=
  occurs (decide (s.dev.core = .romCheck)) s ((s.journal 0xAA 0).latchFatal .romFault)

/-- CLOCK_FAULT (R596): XO FAIL or TDC FAULT held for 1.0 s in Loam or Sand. -/
def execClockFault (s : State) : Out :=
  occurs ((decide (s.dev.mode = .loam) || decide (s.dev.mode = .sand)) && s.tdcDown &&
      (match s.dev.clockBadSince with
        | some t => decide (t + tps ≤ s.now)
        | none => false)) s
    ((s.journal 0xAB (bit s.clk.xoFail)).latchFatal .clockFault)

/-- OVERTEMP (R596): at or above 120 °C for 1.0 s; in Bedrock on fault it is only journalled. -/
def execOvertemp (dieTemp : Int) (heldTicks : Nat) (s : State) : Out :=
  occurs (s.mainsRunning && decide (120 * 128 ≤ dieTemp) && decide (tps ≤ heldTicks)) s
    (let s1 : State := { s with dev := { s.dev with dieTemp := dieTemp } }
     let s2 := s1.journal 0xAC ((dieTemp / 128) % 256).toNat
     if s.dev.mode = .bedFault then s2 else s2.latchFatal .overtemp)

/-- SERDES_FAULT (R596): the port goes OFF until the next start-up of the mains domain; fatal where every trunk or
twin-role port has the fault. -/
def execSerdesFault (p : FabPort) (s : State) : Out :=
  occurs (decide (s.portRole p ≠ .off) && decide (s.clk.pll = .locked) && !s.dev.serdesFault[p]) s
    (let s1 : State := { s with dev := { s.dev with serdesFault := s.dev.serdesFault.set p true } }
     let s2 := (s1.journal 0xAD (p.val * 16384)).portDown p .off
     if s2.allSerdes then s2.latchFatal .serdesFault else s2)

/-- STORE_SCAN_END (R264, R269, R581): the device record is written with the new power-up count, POWER-UP is
journalled; a pass is due 3,600 s later where none of this power-up is recorded. -/
def execStoreScanEnd (s : State) : Out :=
  occurs (s.tal.scanned && !s.dev.scanDone) s
    (let due := if s.tal.refireEver && s.tal.refireEpoch = s.tal.powerUps
       then (s.tal.refireDay + 365) * 86400 * tps else s.calTicks + 3600 * tps
     let s1 : State := { s with dev := { s.dev with scanDone := true }, tal := { s.tal with refireDueCal := due } }
     ((s1.requestDevice).journal 0x01 (s1.tal.powerUps.toNat % 65536)).startStep 1)

/-- The compile begins (R68) where the house core runs and the readings are there. -/
def State.beginCompile (s : State) (kind : Option ReadKind) : State :=
  { s with bead := { s.bead with phase := .compiling kind s.now } }

/-- The read that a kind of read holds (R654): it ends the bead-read step of a start-up, and is retried every 10 s. -/
def State.deferRead (s : State) (k : ReadKind) : State :=
  let s1 : State := { s with bead := { s.bead with req := none, deferred := some k, nextRetry := s.now + 10 * tps } }
  let s2 := s1.journal 0xA1 (bit s.clk.xoFail)
  match k with
  | .restrap => s2
  | _ =>
    let s3 : State := { s2 with dev := { s2.dev with readDone := true } }
    let s4 := if s.dev.start.isSome then s3.startStep 2 else s3
    let s5 : State := if k = .powerUp then
        { s4 with loc := { s4.loc with supOn := true, supNext := s4.now + 1 }, tr := { s4.tr with sounding := true } } else s4
    let s6 := if k = .powerUp then s5.applyRates else s5
    if s6.dev.core = .running then s6.beginCompile none else s6

/-- A bead read that runs when the XO fails does not go on (R137): it is held (R654). -/
def State.stopRead (s : State) : State :=
  match s.bead.phase with
  | .reading k => ({ s with bead := { s.bead with phase := .idle } } : State).deferRead k
  | _ => s

/-- ROM_CHECK_PASSED (R580, R597): the house core runs from the XO, which is ready (R136); a read that has ended is compiled, and
after a core restart, and where that read was held or its BREF failed, the readings in force are (log 70). -/
def execRomCheckPassed (s : State) : Out :=
  occurs (decide (s.dev.core = .romCheck) && s.clk.xoReady) s
    (let s1 : State := { s with dev := { s.dev with core := .running, romOk := true } }
     if s1.bead.phase = .idle ∧ s1.dev.readDone then
       s1.beginCompile (if s.dev.start = some .coreRestart ∨ s.bead.deferred.isSome then none
         else if s.dev.start = some .powerUp then some .powerUp
         else if s.bead.brefRead then none else some .mainsReturn)
     else s1)

/-- LEDA_CODE_WINDOW_END (R595). -/
def execLedaCodeWindowEnd (s : State) : Out :=
  occurs (s.loc.ledaWindow && decide (s.loc.setAssertedAt + 30 * tps ≤ s.now)) s
    { s with loc := { s.loc with ledaWindow := false } }

end Sys2Proof.Machine
end

