-- ==== Sys2Proof/Machine/Mode.lean ====
section
/-!
DEFINITION. Triggers, the Sand hold, the changeover to Loam and relay activity (§1.5 to §1.7).
-/
namespace Sys2Proof.Machine

/-- Ports in RESTART when the changeover begins go to OFF (§7.9, corner cases). -/
def State.restartsOff (s : State) : State :=
  allCams.foldl (fun t (k : CamPort) =>
    if (t.cam[k]).state = .restart then
      ((t.mclkOff k).setCam k .off).updCam k fun q => { q.stopped t.now with mclk := false }
    else t) s

/-- Ports that the beginning of a changeover put OFF enter the state of their use when it is cancelled (log 126). -/
def State.restartsBack (s : State) : State :=
  allCams.foldl (fun t (k : CamPort) => if (t.cam[k]).state = .off then t.setCam k (t.camEntry k) else t) s

/-- What an accepted trigger or a level condition does in Loam and in Sand (R26, R33, R34): the hold is loaded;
Loam becomes Sand; a drain is cancelled; a power-down phase is marked for re-entry. -/
def State.takeTrigger (s : State) : State :=
  match s.dev.mode with
  | .loam =>
    let s1 := s.enterSand
    { s1 with dev := { s1.dev with evalAt := some s1.now } }
  | .sand =>
    let s1 := s.loadHold
    (match s1.dev.changeover with
      | .idle => s1
      | .drain => ({ s1 with dev := { s1.dev with changeover := .idle } } : State).restartsBack
      | .powerDown _ => { s1 with dev := { s1.dev with changeover := .powerDown true } })
  | .startup => s.loadHold
  | _ => s

/-- ACCEPTED_EVENT_TRIGGER (R26 to R28, R33, R34, R584): all triggers of the tick are taken together. A fatal fault
that is latched goes first, and Bedrock carries no trigger. -/
def execAcceptedEventTrigger (s : State) : Out :=
  occurs (!s.dev.accepted.isEmpty) s
    (let s1 : State := { s with dev := { s.dev with accepted := [] } }
     if s.inBedrock || (!s.dev.fatal.isEmpty && decide (s.dev.mode ≠ .startup)) then s1 else s1.takeTrigger.settle)

/-- LEVEL_CONDITION_BEGINS (R26, R29). -/
def execLevelConditionBegins (s : State) : Out :=
  occurs (s.levelHolds && s.dev.fatal.isEmpty && (decide (s.dev.mode = .loam) || decide (s.dev.mode = .sand))) s
    s.takeTrigger.settle

/-- HOLD_EXPIRY (R26, R30, R32, R320): the changeover begins with its drain phase. A mains loss, a fatal fault and a trigger of the
same tick go before it. -/
def execHoldExpiry (s : State) : Out :=
  occurs (decide (s.dev.mode = .sand) && decide (s.dev.hold = 0) && !s.levelHolds && s.dev.accepted.isEmpty &&
      s.dev.fatal.isEmpty && !s.dev.mainsLow && decide (s.dev.changeover = .idle)) s
    ({ s with dev := { s.dev with changeover := .drain, drainAt := s.now } } : State).restartsOff

/-- Tiles are exported now (R491). -/
def State.exporting (s : State) : Bool :=
  decide (s.eff 10 % 2 = 1) && !s.held && !s.standby && s.fab.exportHead.isSome

/-- Slabs released through scrub: each becomes SCRUB and gets a job of channel 31 (R405, R406). -/
def State.releaseBufs (s : State) (keep : BufKind → Bool) : State :=
  let gone := s.mov.bufs.filter fun b => !keep b.kind
  let slabs := (gone.map fun b => (List.range b.count).map fun i => b.base + i).flatten
  { s with mov := { s.mov with
      bufs := s.mov.bufs.filter fun b => keep b.kind
      owner := Vector.ofFn fun i => if slabs.contains i.val && s.mov.owner[i] != 31#5 then 30#5 else s.mov.owner[i]
      jobs := s.mov.jobs ++ (slabs.filter fun n => s.mov.owner.getD n 31#5 != 31#5).map Job.scrub } }

/-- Buffers that stay allocated outside Sand (R405). -/
def keptBuffer : BufKind → Bool
  | .core => true
  | .rx _ => true
  | .tx _ => true
  | .mirror => true
  | _ => false

/-- One job of channel 31 done: a slab filled with zeros and set FREE (R406), or a tile store filled with black (R404). -/
def Mov.doJob (m : Mov) (j : Job) : Mov :=
  match j with
  | .scrub n =>
    { m with
      pool := memStore m.pool (n * 16384) (zeros 16384)
      owner := Vector.ofFn fun i => if i.val = n ∧ m.owner[i] = 30#5 then 29#5 else m.owner[i] }
  | .black base count =>
    let black : List Byte := (List.range (count * 16384)).map fun i => if i % 2 = 0 then 0x80#8 else 0x10#8
    { m with pool := memStore m.pool (base * 16384) black }

/-- Every scrub that is posted, done in order (R405, R406). -/
def Mov.scrubAll (m : Mov) : Mov :=
  let isScrub (j : Job) : Bool := match j with
    | .scrub _ => true
    | _ => false
  let done := (m.jobs.filter isScrub).foldl Mov.doJob m
  { done with jobs := m.jobs.filter fun j => !isScrub j }

/-- TILE frames of the output frame in progress are still to come: lines wait in an export ring, or on their way to it (R32). -/
def State.tilesWait (s : State) : Bool :=
  s.exporting && allCtx.any fun c =>
    decide (0 < (s.mov.queue[exportQueue c]).level) || s.kiln.out.any fun e => decide (e.2.2.1 = exportQueue c)

/-- The drain phase is over (R32): at once where the head is off and no tile is exported, or where no output frame of the Sand entry
has begun (DESIGN CHOICE, log 125); else at the end of the output frame in progress with its TILE frames, and at most one output
frame period after it began. -/
def State.drainOver (s : State) : Bool :=
  let p := framePeriodNs s.rateIdx
  (decide (headMode (s.eff 12) = .off) && !s.exporting) || !s.head.on ||
    decide (s.dev.drainAt + cdiv (p * 32768) 1000000000 ≤ s.now) ||
    (decide (s.head.startedAt + s.head.period * 65536 ≤ s.fab.time) && !s.tilesWait)

/-- The ports leave for OFF in the power-down phase (R32, R313): one that streams finishes its frame in progress, every other one is
OFF at once. -/
def State.camsLeave (s : State) : State :=
  allCams.foldl (fun t (k : CamPort) =>
    if (t.cam[k]).state = .streaming ∧ (t.cam[k]).frame.isSome = true then t.updCam k fun q => { q with leave := some .off }
    else ((t.mclkOff k).setCam k .off).updCam k fun q => { q.stopped t.now with mclk := false }) s

/-- DRAIN_END (R32, R313, R405, R439): the power-down phase begins: the ports leave for OFF, kiln and head stop, the record queue is
cleared, the Sand buffers are released. -/
def execDrainEnd (s : State) : Out :=
  occurs (decide (s.dev.changeover = .drain) && s.drainOver) s
    (let s1 : State := { s with dev := { s.dev with changeover := .powerDown false } }
     (((s1.camsLeave).videoStop true).clearRecords).releaseBufs keptBuffer)

/-- The time state with its journal entry (R502). -/
def State.setTimeState (s : State) (t : TimeState) : State :=
  if s.fab.tstate = t then s
  else ({ s with fab := { s.fab with tstate := t, fineRun := 0 } } : State).journal 0x4B t.code

/-- A FINE device returns to COARSE (R502). -/
def State.fineLost (s : State) : State := if s.fab.tstate = .fine then s.setTimeState .coarse else s

/-- POWER_DOWN_COMPLETE (R32, R34): every port is OFF, the PLL has the relay outputs only, and the mode becomes Loam; a marked
re-entry goes back to Sand on the same tick with the hold as it is loaded. -/
def execPowerDownComplete (s : State) : Out :=
  match s.dev.changeover with
  | .powerDown re =>
    let s0 := (s.camsOff).pllRelayOnly
    let s1 : State := { s0 with mov := s0.mov.scrubAll
                                dev := { s0.dev with changeover := .idle, relay := decide (s0.clk.pll ≠ .off) } }
    let s2 := s1.setMode .loam
    .next ((if re then
        let h := s2.dev.hold
        let s3 := s2.enterSand
        { s3 with dev := { s3.dev with hold := h } }
      else s2).settle)
  | _ => .next s

/-- RELAY_PLL_START (R20): in Loam a port that wakes or trains asks for the PLL with the relay outputs. -/
def execRelayPllStart (p : FabPort) (s : State) : Out :=
  occurs (decide (s.dev.mode = .loam) && decide (s.portRole p ≠ .off) && decide (s.clk.pll = .off) && !s.dev.relay &&
      (decide ((s.fab.port[p]).link = .training) || (decide ((s.fab.port[p]).link = .ember) && (s.fab.port[p]).toneAt.isSome))) s
    { s with dev := { s.dev with relay := true, portsBusyAt := s.now } }

/-- RELAY_PLL_STOP (R20, R502): no port ACTIVE or TRAINING for 1.0 s in Loam. -/
def execRelayPllStop (s : State) : Out :=
  occurs (decide (s.dev.mode = .loam) && s.dev.relay &&
      (allPorts.all fun p => decide ((s.fab.port[p]).link ≠ .active) && decide ((s.fab.port[p]).link ≠ .training)) &&
      decide (s.dev.portsBusyAt + tps ≤ s.now)) s
    ({ s with dev := { s.dev with relay := false } }.pllStop).fineLost

end Sys2Proof.Machine
end

