-- ==== Sys2Proof/Machine/Gestures.lean ====
section
/-!
DEFINITION. Presence gestures and the SET and KEY inputs (§3.1, §3.2), with the confirmation of monitor commands
(R100, R644 to R646).
-/
namespace Sys2Proof.Machine

/-- The gestures of Table 3.2 that a closed sequence can match. -/
inductive Gesture where
  | short | double | long | triple | clean | none
  deriving DecidableEq, Repr

/-- A tap is a press of 0.1 to 0.6 s (R92); lengths in ticks, both ends included. -/
def isTap (t : Nat) : Bool := decide (32768 ≤ 10 * t) && decide (10 * t ≤ 6 * 32768)

/-- The row of Table 3.2 that a closed sequence of press lengths matches (R93). -/
def classifyPresses (l : List Nat) : Gesture :=
  match l with
  | [a] =>
    if 32768 ≤ 10 * a ∧ 10 * a ≤ 15 * 32768 then .short
    else if 5 * 32768 ≤ a ∧ a ≤ 8 * 32768 then .long
    else if 10 * 32768 ≤ a ∧ a < 15 * 32768 then .clean
    else .none
  | [a, b] => if isTap a && isTap b then .double else .none
  | [a, b, c] => if isTap a && isTap b && isTap c then .triple else .none
  | _ => .none

/-- Gesture code of GESTURE [15:13]. -/
def Gesture.code : Gesture → Nat
  | .short => 1
  | .double => 2
  | .long => 3
  | .triple => 4
  | .clean => 5
  | .none => 0

/-- A GESTURE entry (R96, Table 6.8), with GEST or GREF counted. -/
def State.gestureEntry (s : State) (g : Gesture) (result failed presses : Nat) : State :=
  let data := g.code * 8192 + bit s.keyFitted * 4096 + sealCode s.loc.sealState * 1024 + result * 128 +
    failed * 16 + min 15 presses
  let s1 := s.journal 0x10 data
  if result = 0 ∨ result = 4 then s1.addTally 20 1 else s1.addTally 21 1

/-- A refused gesture (R94, R98): REFUSE and the entry. -/
def State.refuseGesture (s : State) (g : Gesture) (result failed presses : Nat) : State :=
  (s.gestureEntry g result failed presses).ackAmber .refuse

/-- The twin role without the lease (Table 3.2). -/
def State.leaseMissing (s : State) : Bool := s.trole != .none && !s.twin.holding

/-- The first precondition of a gesture that fails, in the order of its row (R94): 1 KEY not fitted, 2 Bedrock,
3 seal not OPEN, 4 lease not held; 0 none. A triple tap asks for the lease held in a twin role, so a unit without a twin role fails it. -/
def State.failedPrecondition (s : State) (g : Gesture) : Nat :=
  match g with
  | .short => if s.inBedrock then 2 else 0
  | .double => if s.inBedrock then 2 else 0
  | .long => if !s.keyFitted then 1 else if s.inBedrock then 2 else if s.leaseMissing then 4 else 0
  | .triple => if !s.keyFitted then 1 else if s.inBedrock then 2 else if s.trole = .none || s.leaseMissing then 4 else 0
  | .clean => if !s.keyFitted then 1 else if s.loc.sealState ≠ some .opened then 3 else if s.inBedrock then 2 else 0
  | .none => 0

/-- A closed sequence that matches a gesture is taken up. -/
def State.closedAs (s : State) (g : Gesture) : Option Nat :=
  match s.loc.closed with
  | some l => if classifyPresses l = g then some l.length else none
  | none => none

/-- The closed sequence is used up. -/
def State.dropClosed (s : State) : State := { s with loc := { s.loc with closed := none } }

/-- A gesture other than SET short: preconditions in their order, BUSY during a calibration, clean or hand-over
(R98), else its effect. -/
def State.gesture (s : State) (g : Gesture) (n : Nat) (effect : State → State) : State :=
  let s1 := s.dropClosed
  let f := s1.failedPrecondition g
  if s1.busyGesture then s1.refuseGesture g 2 0 n
  else if f ≠ 0 then s1.refuseGesture g 1 f n
  else effect s1

/-- A re-strap accepted (R66, R69, R654): held while a read or compile is in progress or the read of a start-up is held, with its own
BEAD READ DEFERRED where XO FAIL or TDC FAULT holds it; merged into one that is held; else its read falls due. -/
def State.requestRestrap (s : State) : State :=
  if s.bead.phase ≠ .idle ∨ s.bead.req.isSome then { s with bead := { s.bead with heldRestrap := true } }
  else if s.bead.deferred = some .restrap ∨ s.bead.heldRestrap then s
  else if s.bead.deferred.isSome then
    (let s1 : State := { s with bead := { s.bead with heldRestrap := true } }
     if s.tdcDown then s1.journal 0xA1 (bit s.clk.xoFail) else s1)
  else ({ s with bead := { s.bead with req := some .restrap } } : State).demand .beadRead

/-- The refusal that Table 16.3 gives a maintenance command at its confirmation, and the failed precondition of the
GESTURE entry. -/
def State.maintenanceBar (s : State) (c : MonCmd) : Option (String × Nat) :=
  if !s.keyFitted then some ("key", 1)
  else
    let busy : Option (String × Nat) := if s.busyGesture then some ("busy", 0) else none
    let port (p : FabPort) : Option (String × Nat) :=
      if s.portRole p = .off ∨ (s.fab.port[p]).link = .off ∨ (s.fab.port[p]).link = .quarantined then some ("port", 0) else none
    match c with
    | .cal => busy.orElse fun _ => if s.leaseMissing then some ("lease", 4) else none
    | .handover => busy.orElse fun _ =>
        if s.trole = .none || s.leaseMissing then some ("lease", 4)
        else match s.handoverBar with
          | some 1 => some ("partner not IN SYNC", 0)
          | some 2 => some ("partner in Bedrock", 0)
          | some _ => some ("mirror down", 0)
          | none => none
    | .pair p => port p
    | .quar p => port p
    | .readmit p => if (s.fab.port[p]).link = .quarantined then none else some ("port", 0)
    | _ => none

/-- SET short while a monitor command waits (R100, R645, R646): confirmed, or refused with its reason. Neither shows an
acknowledgement on the LEDs: the model's choice (log 119). -/
def State.confirmMonitor (s : State) (c : MonCmd) : State :=
  let s1 := s.dropClosed
  let s2 : State := { s1 with mon := { s1.mon with confirm := none } }
  match s2.maintenanceBar c with
  | some (why, f) => (s2.gestureEntry .short 1 f 1).endCmd ("?refused " ++ why)
  | none =>
    let s3 := (s2.gestureEntry .short 4 0 1).say "confirmed"
    { s3 with mon := { s3.mon with confirmed := some c } }

/-- SET_SHORT (R93, R94, R100, R644, R66): within its 10.0 s a monitor command is confirmed. -/
def execSetShort (s : State) : Out :=
  match s.closedAs .short with
  | none => .next s
  | some n =>
    match s.mon.confirm.filter fun e => decide (s.now < e.2) with
    | some (c, _) => .next (s.confirmMonitor c)
    | none =>
      let s1 := s.dropClosed
      let f := s1.failedPrecondition .short
      .next (if f ≠ 0 then s1.refuseGesture .short 1 f n
        else ((s1.gestureEntry .short 0 0 n).ackGreen (.ack 1)).requestRestrap)

/-- A pairing begun on a port in its window: scalar and nonce drawn, public key formed (R512); refused while the
noise source fails (R520). -/
def State.beginPairing (s : State) (p : FabPort) : State :=
  if s.fab.noiseBad then (s.updPort p fun q => { q with window := false }).journal 0x52 (p.val * 16384 + 6)
  else
    let a := s.drawBytes 32
    let n := a.2.drawBytes 16
    n.2.updPort p fun q => { q with
      window := true
      pairing := some { scalar := a.1, nonce := n.1, pub := x25519 a.1 x25519Base, offerNext := s.now } }

/-- A pairing window of 60 s on some ports (R511). -/
def State.openWindow (s : State) (ports : List FabPort) : State :=
  let s1 : State := { s with fab := { s.fab with
    windowTill := some (s.now + 60 * tps)
    windowPorts := Vector.ofFn fun p => s.fab.windowPorts[p] || ports.contains p
    windowPaired := if s.fab.windowTill.isSome then s.fab.windowPaired else 0 } }
  let s2 := ports.foldl (fun t (p : FabPort) => if (t.fab.port[p]).pairing.isSome then t else t.beginPairing p) s1
  s2.journal 0x50 (bitsNat (allPorts.map fun p => ports.contains p) + 8)

/-- Ports that a double tap opens: trunk or twin role, UNPAIRED or KEY MISMATCH (R511). -/
def State.tapPorts (s : State) : List FabPort :=
  allPorts.filter fun p => decide (s.portRole p ≠ .off) &&
    (decide ((s.fab.port[p]).trust = .unpaired) || decide ((s.fab.port[p]).trust = .keyMismatch))

/-- DOUBLE_TAP (R93, R99, R511). -/
def execDoubleTap (s : State) : Out :=
  match s.closedAs .double with
  | none => .next s
  | some n => .next (s.gesture .double n fun s1 =>
      let s2 := s1.gestureEntry .double 0 0 n
      if s2.tapPorts.isEmpty ∧ s2.fab.windowTill.isNone then s2.ackAmber .refuse
      else (s2.openWindow s2.tapPorts).ackGreen (.ack 2) (some .pairing))

/-- A still-air calibration of all configured paths begins (R218): each path runs 8 pairs and then collects. -/
def State.beginCal (s : State) (byMonitor : Bool) : State :=
  let s1 : State := { s with tr := { s.tr with
    calOn := true, calByMonitor := byMonitor
    calPassed := Vector.replicate 8 false, calRefused := Vector.replicate 8 false
    path := Vector.ofFn fun p => { s.tr.path[p] with calRun := if s.configured p then some {} else none } } }
  s1.applyRates

/-- SET_LONG (R93, R94, R218). -/
def execSetLong (s : State) : Out :=
  match s.closedAs .long with
  | none => .next s
  | some n => .next (s.gesture .long n fun s1 =>
      ((s1.gestureEntry .long 0 0 n).ackGreen (.ack 3) (some .running)).beginCal false)

/-- TRIPLE_TAP (R93, R94, R567): a unit without a twin role has no partner to hand over to. -/
def execTripleTap (s : State) : Out :=
  match s.closedAs .triple with
  | none => .next s
  | some n => .next (s.gesture .triple n fun s1 =>
      let s2 := s1.gestureEntry .triple 0 0 n
      if s1.handoverBar.isSome then (s2.beginHandover false).ackAmber .refuse
      else (s2.beginHandover false).ackGreen (.ack 4))

/-- A clean begins (R265 step 1, R652): queued requests for the records it erases are dropped, the device record
is written with CLEAN IN PROGRESS set in place of one that waits (R258), pairings are abandoned. -/
def State.beginClean (s : State) : State :=
  let s1 : State := { s with tal := { s.tal with
    cleaning := true, writes := s.tal.writes.filter fun w => !w.id.cleaned && decide (w.id ≠ .record .device) } }
  let s2 := s1.setStore (commitRecord s1.tal.store .device s1.tal.deviceContent)
  s2.pairFailAll 7

/-- CLEAN (R93, R94, R265). -/
def execClean (s : State) : Out :=
  match s.closedAs .clean with
  | none => .next s
  | some n => .next (s.gesture .clean n fun s1 =>
      ((s1.gestureEntry .clean 0 0 n).ackGreen (.ack 5) (some .cleaned)).beginClean)

/-- A press length for GESTURE DETAIL: 0.5 s units, rounded, saturating at 31 (R93). -/
def detailUnits (t : Nat) : Nat := min 31 (rdivNat t 16384)

/-- UNRECOGNISED_GESTURE (R93, R98). During a calibration, a clean or a hand-over it is refused as BUSY, with no GESTURE DETAIL: the
model's choice (log 119). -/
def execUnrecognisedGesture (s : State) : Out :=
  match s.loc.closed with
  | none => .next s
  | some l =>
    if classifyPresses l ≠ .none then .next s
    else
      let s1 := s.dropClosed
      .next (if s1.busyGesture then s1.refuseGesture .none 2 0 l.length
        else (s1.refuseGesture .none 3 0 l.length).journal 0x11
          (detailUnits (l.getD 0 0) + detailUnits (l.getD 1 0) * 32 + detailUnits (l.getD 2 0) * 1024))

/-- SET_STUCK (R95). -/
def execSetStuck (s : State) : Out :=
  occurs (!s.loc.stuck && s.loc.setF.on && (match s.loc.pressAt with
      | some t => decide (t + 15 * tps ≤ s.now)
      | none => false)) s
    (({ s with loc := { s.loc with
        stuck := true, stuckReleased := none, seqOpen := false, presses := [], pressAt := none, closed := none } }
      : State).journal 0x12 1).settle

/-- SET_STUCK_END (R95). -/
def execSetStuckEnd (s : State) : Out :=
  occurs (s.loc.stuck && !s.loc.setF.on && (match s.loc.stuckReleased with
      | some t => decide (t + tps ≤ s.now)
      | none => false)) s
    (({ s with loc := { s.loc with stuck := false, stuckReleased := none } } : State).journal 0x12 0).settle

/-- The internal pull-ups of the sampled inputs are enabled: for the one tick on which the samples are taken (R89). -/
def State.pullUps (s : State) : Bool := s.dev.released && decide (s.now % 32 = 0)

/-- The filter of SETn with samples counted on this tick (R89, R90). -/
def State.setSamples (s : State) (l : List Bool) : Option Filter := s.loc.setF.count 20 s.now l

/-- A filtered assertion of SETn (R92, R595): it joins the open sequence, or closes it and starts a new one, or starts one. -/
def State.setPressed (s : State) : State :=
  let s1 : State := { s with loc := { s.loc with
    setAssertedAt := s.now, ledaWindow := decide (s.dev.mode = .bedBattery), stuckReleased := none } }
  if s.loc.stuck then s1
  else
    let joins := s.loc.seqOpen && decide (10 * (s.now - s.loc.lastRelease) ≤ 6 * 32768) &&
      decide (s.now - s.loc.pressBegan ≤ 32768)
    let closed := if s.loc.seqOpen && !joins then some s.loc.presses else s.loc.closed
    { s1 with loc := { s1.loc with
      seqOpen := true, presses := if joins then s.loc.presses else []
      pressAt := some s.now, pressBegan := s.now, closed := closed } }

/-- A filtered release of SETn (R92, R95): the press ends; held 5.0 s or longer, it closes the sequence. -/
def State.setReleased (s : State) : State :=
  if s.loc.stuck then { s with loc := { s.loc with stuckReleased := some s.now } }
  else match s.loc.pressAt with
    | none => s
    | some t =>
      let len := s.now - t
      let l := s.loc.presses ++ [len]
      if 5 * 32768 ≤ len then
        { s with loc := { s.loc with
          seqOpen := false, presses := [], pressAt := none, lastRelease := s.now, closed := some l } }
      else { s with loc := { s.loc with presses := l, pressAt := none, lastRelease := s.now } }

/-- SET_PRESS (R89, R90, R92, R595): the samples bring the filtered assertion; samples that bring a release are no press. -/
def execSetPress (samples : List Bool) (s : State) : Out :=
  match s.setSamples samples with
  | none => .next s
  | some f =>
    let s0 : State := { s with loc := { s.loc with setF := f } }
    if f.on && !s.loc.setF.on then .next s0.setPressed
    else occurs (decide (f.on = s.loc.setF.on)) s s0

/-- SET_RELEASE (R89, R90, R92): the samples bring the filtered release; samples that bring an assertion are no release. The first
filtered level, where it is not asserted, ends no press. -/
def execSetRelease (samples : List Bool) (s : State) : Out :=
  match s.setSamples samples with
  | none => .next s
  | some f =>
    let s0 : State := { s with loc := { s.loc with setF := f } }
    if s.loc.setF.on && !f.on then .next s0.setReleased
    else occurs (decide (f.on = s.loc.setF.on)) s s0

/-- SEQUENCE_CLOSE_TIMEOUT (R92): 0.6 s after the last release. -/
def execSequenceCloseTimeout (s : State) : Out :=
  occurs (s.loc.seqOpen && s.loc.pressAt.isNone && decide (6 * 32768 ≤ 10 * (s.now - s.loc.lastRelease))) s
    { s with loc := { s.loc with seqOpen := false, presses := [], closed := some s.loc.presses } }

/-- Length of an acknowledgement in ticks (Table 3.3, R595): flashes of 150 ms on and 150 ms off, code 7 three times; none where it
runs with its state. -/
def Ack.ticks : Ack → Option Nat
  | .ack n => some (msTicks (300 * n))
  | .pairing => none
  | .running => none
  | .calRefused => some (15 * tps)
  | .cleaned => some (3 * tps)
  | .refuse => some tps
  | .tamper => some (3 * tps)

/-- The acknowledgement on LEDA has run its length. -/
def State.amberOver (s : State) : Bool :=
  match s.loc.ackA.bind Ack.ticks with
  | some n => decide (s.loc.ackAAt + n ≤ s.now)
  | none => false

/-- The state that a pattern reports holds (Table 3.3). -/
def State.ackHolds (s : State) : Ack → Bool
  | .pairing => s.fab.windowTill.isSome
  | .running => s.tr.calOn
  | .cleaned => !s.tal.cleaning
  | _ => true

/-- The acknowledgement on LEDG has run its length; PAIRING and RUNNING run while their state holds. -/
def State.greenOver (s : State) : Bool :=
  match s.loc.ackG with
  | none => false
  | some a => match a.ticks with
    | some n => decide (s.loc.ackGAt + n ≤ s.now)
    | none => !s.ackHolds a

/-- The next pattern on LEDG: the one that waits, once its own state is reached; CLEANED waits on for its clean (R97). -/
def State.nextGreen (s : State) : State :=
  let go : Bool := match s.loc.ackGNext with
    | some a => s.ackHolds a
    | none => false
  if go then { s with loc := { s.loc with ackG := s.loc.ackGNext, ackGAt := s.now, ackGNext := none } }
  else { s with loc := { s.loc with
    ackG := none, ackGNext := if s.loc.ackGNext = some .cleaned then some .cleaned else none } }

/-- ACKNOWLEDGEMENT_END (R97): LEDA's acknowledgement ends first where both are over. -/
def execAcknowledgementEnd (s : State) : Out :=
  if s.amberOver then .next { s with loc := { s.loc with ackA := none } }
  else occurs s.greenOver s s.nextGreen

/-- A seal tamper begins (R110, R111): SEAL is journalled and raised as a tamper trigger, TMP has its onset, TAMPER
shows. -/
def State.sealTamperOnset (s : State) : State :=
  let s1 : State := { s with loc := { s.loc with sealTamper := true } }
  let data := sealCode s1.loc.sealState + 4 * bit s1.keyFitted + 8
  ((((s1.raise (some .tamper) 0x13 data).onset .tmp).ackAmber .tamper).settle).stateChanged

/-- KEY_CHANGE (R89 to R91, R110, R111): removing KEY while the seal is OPEN begins a seal tamper on that tick. -/
def execKeyChange (samples : List Bool) (s : State) : Out :=
  match s.loc.keyF.count 102 s.now samples with
  | none => .next s
  | some f =>
    let s1 : State := { s with loc := { s.loc with keyF := f } }
    if s.loc.keyF.on && !f.on && decide (s.loc.sealState = some .opened) && !s.loc.sealTamper then
      .next s1.sealTamperOnset
    else .next s1

end Sys2Proof.Machine
end

