-- ==== Sys2Proof/Machine/Supervision.lean ====
section
/-!
DEFINITION. Supervision shots, the seal, the zones, the inputs ARMn, WAKEn and SILENCEn, and the alarm outputs
(§3.3 to §3.7).
-/
namespace Sys2Proof.Machine

/-- The holder of an open hand-over window fires no new pair or supervision shot (Table 13.6). -/
def State.handHolds (s : State) : Bool :=
  match s.twin.hand with
  | some h => h.asHolder
  | none => false

/-- A ring shot is in progress on receive group 3 (R102, R217). -/
def State.group3Ring (s : State) : Bool :=
  [(12 : Chan), 13, 14, 15].any fun (c : Chan) => (s.tr.chan[c]).ringBusy

/-- SUPERVISION_SHOT_DUE (R101, R102, R104, R137): the first shot and every second one after it measure the seal;
a shot takes a new reference difference where one is due. A shot delayed does not move the next, which stays on the schedule of
4,096 ticks; due times that pass meanwhile give no further shot. -/
def execSupervisionShotDue (s : State) : Out :=
  occurs (s.loc.supOn && decide (s.loc.supRun = none) && decide (s.loc.supNext ≤ s.now) && s.clk.xoReady &&
      !s.tdcDown && !s.handHolds && decide (s.tr.busy[(1 : Fin 2)] = none) && !s.group3Ring) s
    (let ref := decide (s.loc.drefNext ≤ s.now)
     { s with loc := { s.loc with
         supRun := some { withSeal := decide (s.loc.supCount % 2 = 0), withRef := ref }
         supCount := s.loc.supCount + 1
         supNext := s.loc.supNext + 4096 * (1 + (s.now - s.loc.supNext) / 4096)
         drefNext := if ref then s.loc.supNext + 64 * tps else s.loc.drefNext } })

/-- What a pin of the local wiring shows (R106, Table 14.1). -/
inductive PinDrive where
  | highZ | ground | measured
  deriving DecidableEq, Repr

/-- A zone pin (R106, R116, R547, Table 14.1): high impedance until bead 3 is in force and at a standby, measured in a supervision shot
while the zone is in use, else at ground. -/
def State.zonePin (s : State) (z : ZoneNo) : PinDrive :=
  if !s.loc.supOn || !s.drives then .highZ
  else if s.loc.supRun.isSome && (s.zoneKind z).isSome then .measured
  else .ground

/-- SEAL_A and SEAL_B (R106, Table 14.1): high impedance in reset, measured in every second supervision shot, else at ground. -/
def State.sealPin (s : State) : PinDrive :=
  if !s.dev.released then .highZ
  else match s.loc.supRun with
    | some r => if r.withSeal then .measured else .ground
    | none => .ground

/-- A new reference difference (R104, R653): a failing one keeps the previous and sets REFRESH; it is journalled
when the condition is set and when its cause changes. -/
def State.refreshRef (s : State) (bref : PinMeasure) : State :=
  match brefDelta bref with
  | .ok d => { s with loc := { s.loc with dref := some d }, bead := { s.bead with brefRefresh := false } }
  | .error c =>
    let s1 : State := { s with bead := { s.bead with brefRefresh := true, brefRefreshCause := c } }
    if s.bead.brefRefresh ∧ s.bead.brefRefreshCause = c then s1 else s1.journal 0x09 (c.toNat + 4)

/-- The reference difference in use; before any valid one, the value trimmed at manufacture. -/
def State.refNow (s : State) : Nat := s.loc.dref.getD Config.trimmedRef

/-- A tailgating event (R248, R249): TAIL counted, TAILGATE raised as a passage-policy event, INT while armed. -/
def State.tailgate (s : State) (p : PathNo) (z : ZoneNo) : State :=
  let q := s.tal.path[p]
  let s1 : State := if s.tal.cleaning then s else { s with tal := { s.tal with
    path := s.tal.path.set p { q with count := q.count.set 3 (q.count[3] + 1), dirty := true } } }
  let s2 := s1.raise (some .passagePolicy) 0x33 (p.val * 4096 + z.val * 256 + 128 * bit s.armedNow)
  if s.armedNow then s2.onset .int else s2

/-- Passages of a path in the 2.0 s up to now that have joined no opening (R248). -/
def State.loosePassages (s : State) (p : PathNo) : Nat :=
  ((s.tal.path[p]).loose.filter fun t => decide (s.now ≤ t + 2 * tps)).length

/-- An opening of a linked zone begins in this zone state: the passages of the 2.0 s before it join it. -/
def State.openingTail (s : State) (z : ZoneNo) (x : Zone) : Option PathNo :=
  match s.zoneKind z with
  | some (.intruder (some p)) =>
    if x = .alarm ∧ ¬ s.tal.openings.any (fun o => decide (o.zone = z) && o.ended.isNone) ∧ 2 ≤ s.loosePassages p then some p
    else none
  | _ => none

/-- Door openings of a linked zone (R117, R248): ALARM opens one, NORMAL ends it. Openings are dropped 64 s after
their end. -/
def State.openingsAfter (s : State) (z : ZoneNo) (x : Zone) : List Opening :=
  let l := s.tal.openings.filter fun o => match o.ended with
    | some t => decide (s.now ≤ t + 64 * tps)
    | none => true
  match s.zoneKind z with
  | some (.intruder (some p)) =>
    if x = .alarm then
      (if l.any (fun o => decide (o.zone = z) && o.ended.isNone) then l
       else l ++ [{ zone := z, onset := s.now, joined := s.loosePassages p }])
    else if x = .normal then
      l.map fun o => if o.zone = z ∧ o.ended.isNone then { o with ended := some s.now } else o
    else l
  | _ => l

/-- The passages that have joined the opening of a zone are loose no more (R248). -/
def State.looseAfter (s : State) (z : ZoneNo) (x : Zone) : State :=
  match s.zoneKind z with
  | some (.intruder (some p)) =>
    if x = .alarm ∧ ¬ s.tal.openings.any (fun o => decide (o.zone = z) && o.ended.isNone) then
      { s with tal := { s.tal with path := s.tal.path.set p { s.tal.path[p] with loose := [] } } }
    else s
  | _ => s

/-- The alarm conditions whose onset a zone's new state is (Table 3.8). -/
def State.zoneOnsets (s : State) (z : ZoneNo) (x : Zone) : List Cond :=
  match s.zoneKind z with
  | none => []
  | some k =>
    (if zoneTampering (some x) then [.tmp] else []) ++
    (if k = .hours24 then (if zoneAlarming (some x) then [.h24] else [])
     else if x = .alarm ∧ s.armedNow then [.int] else [])

/-- A zone takes a new state (R114, R115): counted where it is an onset, journalled as ZONE, and raised as a zone
alarm trigger or a tamper trigger. -/
def State.zoneAccept (s : State) (z : ZoneNo) (x : Zone) : State :=
  let data := z.val * 4096 + x.code * 256
  let u := s.looseAfter z x
  let s1 : State := { u with
    loc := { u.loc with
      zone := s.loc.zone.set z (some x)
      onsets := if x = .normal then s.loc.onsets else s.loc.onsets.set z (s.loc.onsets[z] + 1) }
    tal := { u.tal with openings := s.openingsAfter z x } }
  let s2 :=
    if x = .normal then s1.journal 0x14 data
    else s1.raise (some (if zoneAlarming (some x) then .zoneAlarm else .tamper)) 0x14 data
  let s3 := match s.openingTail z x with
    | some p => s2.tailgate p z
    | none => s2
  ((s1.zoneOnsets z x).foldl State.onset s3).stateChanged

/-- One reading of a zone (R114): three consecutive readings in a state other than the accepted one give it. -/
def State.zoneRead (s : State) (z : ZoneNo) (x : Zone) : State :=
  if s.loc.zone[z] = some x then
    { s with loc := { s.loc with zoneCand := s.loc.zoneCand.set z (some x), zoneRun := s.loc.zoneRun.set z 0 } }
  else
    let run := if s.loc.zoneCand[z] = some x then s.loc.zoneRun[z] + 1 else 1
    let s1 : State := { s with loc := { s.loc with
      zoneCand := s.loc.zoneCand.set z (some x), zoneRun := s.loc.zoneRun.set z (if 3 ≤ run then 0 else run) } }
    if 3 ≤ run then s1.zoneAccept z x else s1

/-- The seal takes a new state (R109 to R111): a tamper begins while it is BRIDGED, or OPEN without KEY, and ends at
INTACT; OPEN with KEY fitted is a seal service (Table 3.2), shown by ACK-1. -/
def State.sealAccept (s : State) (x : Seal) : State :=
  let s1 : State := { s with loc := { s.loc with sealState := some x } }
  let cond := decide (x = .bridged) || (decide (x = .opened) && !s.keyFitted)
  if cond && !s.loc.sealTamper then s1.sealTamperOnset
  else
    let tamper := s.loc.sealTamper && decide (x ≠ .intact)
    let s2 : State := { s1 with loc := { s1.loc with sealTamper := tamper } }
    let s3 := s2.journal 0x13 (sealCode (some x) + 4 * bit s2.keyFitted + 8 * bit tamper)
    (if x = .opened ∧ ¬ tamper then s3.ackGreen (.ack 1) else s3).stateChanged

/-- One reading of the seal (R109): two consecutive readings in a state other than the accepted one give it. -/
def State.sealRead (s : State) (x : Seal) : State :=
  if s.loc.sealState = some x then { s with loc := { s.loc with sealCand := some x, sealRun := 0 } }
  else
    let run := if s.loc.sealCand = some x then s.loc.sealRun + 1 else 1
    let s1 : State := { s with loc := { s.loc with sealCand := some x, sealRun := if 2 ≤ run then 0 else run } }
    if 2 ≤ run then s1.sealAccept x else s1

/-- SUPERVISION_SHOT_COMPLETE (R103, R104, R107 to R115, R127, R138, R547): a standby does not measure the shared zones;
each unit measures its own seal. -/
def execSupervisionShotComplete (bref : PinMeasure) (zones : Vector PinMeasure 4) (sm : SealMeasure) (s : State) : Out :=
  match s.loc.supRun with
  | none => .next s
  | some run =>
    let s1 : State := { s with loc := { s.loc with supRun := none } }
    let s2 := if run.withRef then s1.refreshRef (s.pin bref) else s1
    let r := s2.refNow
    let s3 := allZones.foldl (fun t (z : ZoneNo) =>
      if t.drives && (t.zoneKind z).isSome then
        t.zoneRead z (zoneClassify (t.eff 36 (zonePart z)) (zoneMeasure (s.pin zones[z]) r))
      else t) s2
    let s4 := if run.withSeal then s3.sealRead (sealClassify (s.sealPins sm) r) else s3
    .next ({ s4 with dev := { s4.dev with supDone := true } } : State).settle

/-- ARMED (R89, R90, R118, R120): the first filtered level and every change of it are journalled; a deassertion is a
silence. -/
def execArmed (samples : List Bool) (s : State) : Out :=
  match s.loc.armF.count 32 s.now samples with
  | none => .next s
  | some f =>
    let s1 : State := { s with loc := { s.loc with armF := f } }
    if f.level = s.loc.armF.level then .next s1
    else
      let s2 := s1.journal 0x15 (bit f.on)
      .next (if s.loc.armF.on then (s2.silenceNow 1).settle else s2)

/-- WAKE (R89, R90, R119): an assertion is journalled and originates one EVENT frame; the level condition itself is
what LEVEL_CONDITION_BEGINS takes up. -/
def execWake (samples : List Bool) (s : State) : Out :=
  match s.loc.wakeF.count 32 s.now samples with
  | none => .next s
  | some f =>
    let s1 : State := { s with loc := { s.loc with wakeF := f } }
    if f.on && !s.loc.wakeF.on then .next (s1.raise none 0x18 1)
    else occurs (decide (f.on = s.loc.wakeF.on)) s s1

/-- WAKEN_DEASSERTED (R29, R89, R90): the level condition ends, the hold runs down from the full bead 5 time, and the
change is journalled. -/
def execWakenDeasserted (samples : List Bool) (s : State) : Out :=
  match s.loc.wakeF.count 32 s.now samples with
  | none => .next s
  | some f =>
    let s1 : State := { s with loc := { s.loc with wakeF := f } }
    if s.loc.wakeF.on && !f.on then
      (let s2 := s1.journal 0x18 0
       .next (if s.dev.mode = .sand then s2.loadHold else s2))
    else occurs (decide (f.on = s.loc.wakeF.on)) s s1

/-- SILENCE (R89, R90, R120, R125): an assertion of SILENCEn is a silence. -/
def execSilence (samples : List Bool) (s : State) : Out :=
  match s.loc.silF.count 102 s.now samples with
  | none => .next s
  | some f =>
    let s1 : State := { s with loc := { s.loc with silF := f } }
    if f.on && !s.loc.silF.on then .next (s1.silenceNow 0).settle
    else occurs (decide (f.on = s.loc.silF.on)) s s1

/-- SILENCEN_DEASSERTED (R89, R90, R120): only the level changes. -/
def execSilencenDeasserted (samples : List Bool) (s : State) : Out :=
  match s.loc.silF.count 102 s.now samples with
  | none => .next s
  | some f => occurs (!f.on || s.loc.silF.on) s { s with loc := { s.loc with silF := f } }

/-- The state with an output changed. -/
def State.setAlm (s : State) (o : AlmOut) (f : AlmSt → AlmSt) : State :=
  { s with loc := { s.loc with alm := s.loc.alm.set o (f s.loc.alm[o]) } }

/-- The time since the onset of an output's latest condition has reached a span. -/
def State.onsetPast (s : State) (o : AlmOut) (span : Nat) : Bool :=
  match (s.loc.alm[o]).onset with
  | some t => decide (t + span ≤ s.now)
  | none => true

/-- FOLLOW_OUTPUT_TIMEOUT (R123). -/
def execFollowOutputTimeout (o : AlmOut) (s : State) : Out :=
  occurs (decide ((alarmMap (s.eff 7) o).2 = .follow) && (s.loc.alm[o]).active && s.onsetPast o tps &&
      !s.followPresent o) s
    (s.setAlm o fun a => { a with active := false }).stateChanged

/-- LATCH_CUT_OFF (R124). -/
def execLatchCutOff (o : AlmOut) (s : State) : Out :=
  occurs ((s.loc.alm[o]).active && (match (alarmMap (s.eff 7) o).2 with
      | .latched (some cut) => (match (s.loc.alm[o]).cutAt with
          | some t => decide (t ≤ s.now)
          | none => s.onsetPast o cut)
      | _ => false)) s
    (s.setAlm o fun a => { a with active := false }).stateChanged

/-- ALARM_CURRENT_LIMIT_RETRY (R613): after 10 ms in current limit the output is off for 1.0 s and then tries again;
its logical state stays. -/
def execAlarmCurrentLimitRetry (o : AlmOut) (s : State) : Out :=
  occurs ((s.loc.alm[o]).active && (match (s.loc.alm[o]).retryUntil with
      | some t => decide (t ≤ s.now)
      | none => true)) s
    (s.setAlm o fun a => { a with retryUntil := some (s.now + tps) })

end Sys2Proof.Machine
end

