-- ==== Sys2Proof/Machine/Clocks.lean ====
section
/-!
DEFINITION. Time bases, the XO, the ageing model, REFIN, the PLL and the crossings (chapter 4).
-/
namespace Sys2Proof.Machine

/-- The trim in force for the clock that runs the AON domain (R132, R133). Until the first window on a new source, the trim is the
one last measured for that source, 0 where none was: the model's choice (log 117). -/
def Clk.withSource (c : Clk) (a : AonSource) : Clk :=
  { c with source := a, trim := match a with
      | .rc => c.rcTrim
      | .crystal => c.xTrim }

/-- A qualification attempt ends. -/
def State.endQual (s : State) : State :=
  ({ s with clk := { s.clk with qualBy := none } } : State).undemand .qualify

/-- CRYSTAL_QUALIFIED (R128, R130): 4,096 consecutive good periods within the 2.0 s of the attempt change the AON domain to the
crystal. -/
def execCrystalQualified (goodPeriods : Nat) (s : State) : Out :=
  occurs (decide (s.clk.source = .rc) && s.clk.xoReady && decide (4096 ≤ goodPeriods) && (match s.clk.qualBy with
      | some t => decide (s.now ≤ t)
      | none => false)) s
    (let s1 := s.endQual
     let s2 : State := { s1 with clk := { s1.clk.withSource .crystal with x32Fail := false } }
     if s.clk.x32Fail then s2.journal 0x20 0 else s2)

/-- The condition of each cause of X32 FAIL (R130). -/
def State.x32Bad (s : State) : X32Cause → Bool
  | .deadline => decide (s.clk.source = .rc) && match s.clk.qualBy with
      | some t => decide (t ≤ s.now)
      | none => false
  | .noEdge => decide (s.clk.source = .crystal)
  | .trimWindow => decide (s.clk.source = .crystal) && s.clk.winBad

/-- X32_FAIL (R130): the domain runs from the RC oscillator; the crystal is retried every 64 s. A retry that fails
leaves the flag as it is. -/
def execX32Fail (cause : X32Cause) (s : State) : Out :=
  occurs (s.x32Bad cause) s
    (let s1 := s.endQual
     let s2 : State := { s1 with clk := { s1.clk.withSource .rc with
       x32Fail := true, winBad := false
       x32Next := if s.clk.x32Fail then s.clk.x32Next else s.now + 64 * tps } }
     if s.clk.x32Fail then s2 else s2.journal 0x20 1)

/-- X32_RETRY (R130): an attempt of at most 2.0 s. -/
def execX32Retry (s : State) : Out :=
  occurs (s.clk.x32Fail && s.clk.qualBy.isNone && decide (s.clk.x32Next ≤ s.now)) s
    (({ s with clk := { s.clk with qualBy := some (s.now + 2 * tps), x32Next := s.clk.x32Next + 64 * tps } }
      : State).demand .qualify)

/-- The stamp regressor has room for a request (R209): it is free, or fewer than four requests wait. -/
def State.regRoom (s : State) : Bool := s.tr.regJob.isNone || decide (s.tr.regQueue.length < 4)

/-- A request to the stamp regressor (R209): one job runs, up to four wait, a further one is refused. -/
def State.regRequest (s : State) (j : RegJob) : State :=
  match s.tr.regJob with
  | none => { s with tr := { s.tr with regJob := some j, regAt := s.now } }
  | some _ =>
    if s.tr.regQueue.length < 4 then { s with tr := { s.tr with regQueue := s.tr.regQueue ++ [j] } } else s

/-- A job runs or waits. -/
def State.regHas (s : State) (j : RegJob) : Bool := decide (s.tr.regJob = some j) || s.tr.regQueue.contains j

/-- While REFIN is present, a gate of 1 s is requested as soon as the one before has ended (R139). -/
def State.askRefin (s : State) : State :=
  if s.clk.refinPresent && !s.regHas .refin then s.regRequest .refin else s

/-- The running job of the stamp regressor ends, and the next one starts (R209). -/
def State.regNext (s : State) : State :=
  { s with tr := { s.tr with regJob := s.tr.regQueue.head?, regQueue := s.tr.regQueue.drop 1, regAt := s.now } }

/-- TRIM_WINDOW_START (R133, R209): every sixteenth window on the crystal has the second gate for the RC oscillator. A window whose
job the stamp regressor refuses gives no result. -/
def execTrimWindowStart (s : State) : Out :=
  occurs (s.dev.released && s.clk.win.isNone && decide (s.clk.winNext ≤ s.now)) s
    ((({ s with clk := { s.clk with
        win := some { second := decide (s.clk.source = .crystal) && decide (s.clk.winNo % 16 = 0), job := s.regRoom }
        winNo := s.clk.winNo + 1, winNext := s.clk.winNext + 8388608 } } : State).demand .trim).regRequest .trim)

/-- The trim in ppb from a measured period in 1/65,536 TDC unit (R132): nominal 30,517.578125 ns is 15,625,000 TDC
units. -/
def trimOf (period : Nat) : Int := rdiv (((period : Int) - 1024000000000) * 1000000000) 1024000000000

/-- A period within ±1% of nominal (R130). -/
def periodGood (period : Nat) : Bool :=
  decide (1013760000000 ≤ period) && decide (period ≤ 1034240000000)

/-- What a measured window does to the clock parts (R130, R132, R133). -/
def Clk.afterWindow (c : Clk) (w : TrimWindow) (period rcPeriod : Option Nat) : Clk :=
  let c1 : Clk := match period with
    | none => c
    | some x => match c.source with
      | .rc => { c with rcTrim := trimOf x, rcTrimmed := true }
      | .crystal => if periodGood x then { c with xTrim := trimOf x } else { c with winBad := true }
  let c2 : Clk := match w.second, rcPeriod with
    | true, some x => { c1 with rcTrim := trimOf x, rcTrimmed := true }
    | _, _ => c1
  { c2.withSource c2.source with win := none }

/-- TRIM_WINDOW_END (R133, R136, R138): period is the regression result for the clock of the AON domain in 1/65,536 uncorrected TDC
unit, rcPeriod that of the second gate. The window waits for its job, which ends with it; a window in which the XO is not ready
gives no result. -/
def execTrimWindowEnd (period rcPeriod : Option Nat) (s : State) : Out :=
  match s.clk.win with
  | none => .next s
  | some w =>
    occurs (decide (s.clk.winNext - 8388608 + (if w.second then 4096 else 2048) ≤ s.now) &&
        !s.tr.regQueue.contains RegJob.trim && (s.clk.xoReady || s.clk.xoFail)) s
      (let got (x : Option Nat) : Option Nat := if w.job && s.clk.xoReady then x.map s.corrected else none
       let s1 := ({ s with clk := s.clk.afterWindow w (got period) (got rcPeriod) } : State).undemand .trim
       if s.tr.regJob = some .trim then s1.regNext.askRefin else s1)

/-- A Speica port has the trunk or twin role, from the start-up of the mains domain until it is off (Table 4.2). -/
def State.trunkDemand (s : State) : Bool := s.anyPort && decide (s.dev.core ≠ .off)

/-- The XO is wanted (Table 4.2): a demand is present, a shot or supervision shot runs or is at most six ticks away, or the
tally engine or store has work. -/
def State.needXo (s : State) : Bool :=
  !s.clk.demands.isEmpty || s.trunkDemand ||
  (s.loc.supOn && decide (s.loc.supNext ≤ s.now + 6)) ||
  (allPaths.any fun p => (s.tr.path[p]).waiting.isSome || (match (s.tr.path[p]).due with
    | some t => decide (t ≤ s.now + 6)
    | none => false)) ||
  s.loc.supRun.isSome || (List.finRange 2).any (fun g => (s.tr.busy[g]).isSome) ||
  (List.finRange 16).any (fun c => (s.tr.chan[c]).ringBusy) ||
  !s.tal.writes.isEmpty || !s.tal.jQueue.isEmpty || !s.tr.handed.isEmpty ||
  (s.tal.refireOn && decide (s.tal.refireNext ≤ s.now))

/-- XO_START (R135, R136): the wake logic kick-starts the XO and powers the keep domain (R10). -/
def execXoStart (s : State) : Out :=
  occurs (s.dev.released && s.needXo && !s.clk.xoRun && !s.clk.xoFail) s
    { s with
      clk := { s.clk with xoRun := true, xoReady := false }
      dev := { s.dev with keepOn := true } }

/-- CLOCK FAULT counts from here (R596). -/
def State.markClockBad (s : State) : State :=
  let bad := s.tdcDown && (decide (s.dev.mode = .loam) || decide (s.dev.mode = .sand))
  let since := if bad then some (s.dev.clockBadSince.getD s.now) else none
  { s with dev := { s.dev with clockBadSince := since } }

/-- Locked to fabric time: COARSE or FINE (R502). -/
def State.fabricLocked (s : State) : Bool := decide (s.fab.tstate = .coarse) || decide (s.fab.tstate = .fine)

/-- The fabric-recovered clock can be the reference (R150). -/
def State.fabricRef (s : State) : Bool :=
  s.fabricLocked && match s.fab.parent with
    | some p => decide ((s.fab.port[p]).link = .active)
    | none => false

/-- The reference that a start selects (R150). -/
def State.pickRef (s : State) : PllRef :=
  if s.clk.refinPresent then .refin else if s.fabricRef then .fabric else .xo

/-- The feedback fraction in 2^-24 with the XO as reference (R150, R151). -/
def fracOf (p : Int) : Nat := (rdiv (16777216 * (16000000000 - 625 * p)) 48000000000).toNat % 16777216

/-- The integer part of the feedback divider for each reference (R150). -/
def PllRef.feedback : PllRef → Nat
  | .refin => 500
  | .fabric => 160
  | .xo => 208

/-- The rate of the phase detector for each reference, in kHz (R150). -/
def PllRef.detectorKhz : PllRef → Nat
  | .refin => 10000
  | .fabric => 31250
  | .xo => 24000

/-- The fraction of the feedback divider: 0 but for the XO (R150, R151). -/
def State.fracFor (s : State) (r : PllRef) : Nat := if r = .xo then fracOf s.prediction else 0

/-- A reference is selected (R150): its feedback divider is loaded. -/
def State.useRef (s : State) (r : PllRef) : State :=
  { s with clk := { s.clk with
      pllRef := r, pllFb := r.feedback, pllFrac := s.fracFor r, pllFrozen := false, pllRefLost := false } }

/-- An attempt at lock begins with the reference that R150 selects now. -/
def State.seekLock (s : State) : State :=
  let s1 := s.useRef s.pickRef
  { s1 with clk := { s1.clk with pll := .seeking, pllAt := s.now } }

/-- XO_READY (R136, R147, R148, R196, R655): scale is the measured interpolator scale in 1/1,000 of nominal; more than
30% off is TDC FAULT. REFIN gates begin again, a PLL that held its frequency goes on, and one that sought lock on the XO
begins a new attempt. -/
def execXoReady (scale : Nat) (s : State) : Out :=
  occurs (s.clk.xoRun && !s.clk.xoReady && !s.clk.xoFail) s
    (let bad := decide (scale < 700) || decide (1300 < scale)
     let s1 : State := { s with clk := { s.clk with
       xoReady := true, tdcCalibrated := !bad, tdcFault := bad
       refinGates := if s.clk.refinPresent then s.clk.refinGates else 0
       pllFrozen := s.clk.pllFrozen && decide (s.clk.pllRef ≠ .xo) } }
     let s1 := if s.clk.pll = .seeking ∧ s.clk.pllRef = .xo then s1.seekLock else s1
     let s2 := if bad = s.clk.tdcFault then s1 else s1.journal 0xA5 (bit bad)
     (s2.markClockBad).settle)

/-- XO_STOP (R135). -/
def execXoStop (s : State) : Out :=
  occurs (s.clk.xoRun && !s.needXo) s { s with clk := { s.clk with xoRun := false, xoReady := false } }

/-- XO_FAIL (R137, R596): silentNs is the time in ns for which the detector has shown no oscillation, since a start or since the
XO stopped while it ran. -/
def execXoFail (silentNs : Nat) (s : State) : Out :=
  occurs (s.clk.xoRun && !s.clk.xoFail && decide (1000000 ≤ silentNs)) s
    ((((({ s with clk := { s.clk with xoFail := true, xoRun := false, xoReady := false, xoRestartAt := s.now + tps } }
      : State).journal 0x21 1).stopRead).markClockBad).settle)

/-- XO_RESTART (R596): every 1.0 s; the first start that oscillates clears the flag. -/
def execXoRestart (oscillates : Bool) (s : State) : Out :=
  occurs (s.clk.xoFail && decide (s.clk.xoRestartAt ≤ s.now)) s
    (if oscillates then
       ((({ s with clk := { s.clk with xoFail := false, xoRun := true, xoReady := false } } : State).journal
         0x21 0).markClockBad).settle
     else { s with clk := { s.clk with xoRestartAt := s.clk.xoRestartAt + tps } })

/-- A day that has ended holds accepted samples with no daily point yet (R142). -/
def State.pointDue (s : State) : Bool := decide (0 < s.clk.age.dayCount) && decide (s.clk.age.day < s.day)

/-- An accepted sample (R140 to R142). -/
def Ageing.accept (a : Ageing) (offset : Int) (day : Nat) : Ageing :=
  { a with
    daySum := a.daySum + offset, dayCount := a.dayCount + 1, day := day, run := []
    resetSum := if 0 < a.resetCount then a.resetSum + offset else a.resetSum
    resetCount := if 0 < a.resetCount then a.resetCount + 1 else 0 }

/-- The latest eight of a run lie within ±200 ppb of their mean (R141). -/
def runAgrees (l : List Int) : Bool :=
  decide (l.length = 8) && l.all fun x => decide ((8 * x - sumInt l).natAbs ≤ 1600)

/-- The model cleared by a run that agrees: its eighth sample is the first of the new model (R141). -/
def Ageing.clear (a : Ageing) (offset : Int) (day : Nat) : Ageing :=
  { a with
    points := [], a := 0, run := [], daySum := offset, dayCount := 1, day := day, resetSum := offset, resetCount := 1 }

/-- The gate of a sample has ended (R139): a REFIN gate of the stamp regressor with its result, or 1,024 s of fabric time since the
gate before while REFIN is absent. -/
def State.gateEnded (s : State) : AgeSource → Bool
  | .refin => s.clk.refinPresent && s.clk.refinDone
  | .fabric => !s.clk.refinPresent && s.fabricLocked && match s.clk.fabGate with
    | some t => decide (t + 67108864000000000 ≤ s.fab.time)
    | none => false

/-- The gate is used up; the next fabric-time gate begins. -/
def State.gateUsed (s : State) : AgeSource → State
  | .refin => { s with clk := { s.clk with refinDone := false } }
  | .fabric => { s with clk := { s.clk with fabGate := some s.fab.time } }

/-- AGEING_SAMPLE (R139 to R141): offset in ppb, valid for a source that stayed valid through the gate, tempDelta the
die temperature change in 1/128 °C. -/
def execAgeingSample (src : AgeSource) (offset : Int) (valid : Bool) (tempDelta : Nat) (s : State) : Out :=
  let a := s.clk.age
  occurs (s.clk.xoReady && !s.pointDue && s.gateEnded src) s
    (let s := s.gateUsed src
     if !valid || !decide (tempDelta < 256) || !decide (offset.natAbs ≤ 30000) then s
     else if a.points.isEmpty || decide ((16 * offset - s.prediction).natAbs ≤ 32000) then
       { s with clk := { s.clk with age := a.accept offset s.day } }
     else
       let run := ((a.run ++ [offset]).reverse.take 8).reverse
       if runAgrees run then
         ({ s with clk := { s.clk with age := a.clear offset s.day } } : State).journal 0x24 0
       else { s with clk := { s.clk with age := { a with run := run } } })

/-- A 32-bit day number relative to the reference day. -/
def dayRel (d d0 : Nat) : Int := (BitVec.ofNat 32 d - BitVec.ofNat 32 d0).toInt

/-- The fit of R143 over the points, relative to d0: whether a rate was discarded, the rate in 1/65,536 ppb/day and
the offset in 1/16 ppb. -/
def fitPoints (points : List (Nat × Int)) (d0 : Nat) (oldRate : Int) : Bool × Int × Int :=
  let xs := points.map fun p => dayRel p.1 d0
  let ys := points.map (·.2)
  let n := points.length
  let sx := sumInt xs
  let sy := sumInt ys
  let mean := if n = 0 then 0 else rdiv sy n
  let span := xs.foldl max (xs.headD 0) - xs.foldl min (xs.headD 0)
  if n < 8 ∨ span < 7 then (false, 0, mean)
  else
    let den := n * sumInt (xs.map fun x => x * x) - sx * sx
    let num := n * sumInt (List.zipWith (· * ·) xs ys) - sx * sy
    let fit := if den = 0 then 0 else rdiv (4096 * num) den.natAbs
    let bad := decide (6553600 < fit.natAbs)
    let rate := if bad then oldRate else fit
    (bad, rate, rdiv (4096 * sy - rate * sx) (4096 * n))

/-- The model with the daily point of a day that ended (R142 to R146), and whether a rate was discarded. -/
def Ageing.addPoint (a : Ageing) (epoch : Nat) : Bool × Ageing :=
  let y := rdiv (16 * a.daySum) a.dayCount
  let old := if a.unknownDays then
      a.points.map fun p => ((p.1 + a.day + 2 ^ 32 - (a.dL + 1) % 2 ^ 32) % 2 ^ 32, p.2)
    else a.points
  let all := old ++ [(a.day, y)]
  let points := all.drop (all.length - 64)
  let f := fitPoints points a.day a.a
  (f.1, { a with
    points := points, a := f.2.1, o := f.2.2, d0 := a.day, dL := a.day, epoch := epoch
    daySum := 0, dayCount := 0, resetSum := 0, resetCount := 0, unverified := false, unknownDays := false })

/-- DAILY_POINT (R142 to R146). The fit is made with the point, whatever the state of the house core: the model's choice (log 118). -/
def execDailyPoint (s : State) : Out :=
  occurs s.pointDue s
    (let r := s.clk.age.addPoint s.tal.powerUps.toNat
     let s1 : State := { s with clk := { s.clk with age := r.2 } }
     let s2 := if r.1 then s1.journal 0x25 0 else s1
     let s3 := if s.clk.age.unverified then s2.journal 0x26 0 else s2
     s3.requestWrite .ageing r.2.content)

/-- TIME_BASE_UNVERIFIED (R144). -/
def execTimeBaseUnverified (s : State) : Out :=
  occurs (!s.clk.age.unverified && !s.clk.age.unknownDays && !s.clk.age.points.isEmpty &&
      decide (s.clk.age.dL + 400 < s.day)) s
    (({ s with clk := { s.clk with age := { s.clk.age with unverified := true } } } : State).journal 0x26 1)

/-- The selected reference is lost now. -/
def State.refLost (s : State) : Bool :=
  match s.clk.pllRef with
  | .refin => !s.clk.refinPresent
  | .fabric => !s.fabricRef
  | .xo => !s.clk.xoReady

/-- A loss of the selected REFIN or fabric reference is held until the PLL has changed to another (R155, R655): a locked PLL
freezes its loop. -/
def State.watchRef (s : State) : State :=
  if s.clk.pll ≠ .off ∧ s.clk.pllRef ≠ .xo ∧ s.refLost then
    { s with clk := { s.clk with pllRefLost := true, pllFrozen := s.clk.pllFrozen || decide (s.clk.pll = .locked) } }
  else s

/-- The selected reference has been lost since it was selected. -/
def State.refGone (s : State) : Bool := s.clk.pllRefLost || s.refLost

/-- REFIN lost (R148, R149, R496). -/
def State.refinLost (s : State) : State :=
  let s1 : State := { s with
    clk := { s.clk with refinGates := 0, refinPresent := false, refinAdvertised := false, refinDone := false }
    tr := { s.tr with regQueue := s.tr.regQueue.filter fun j => j != .refin } }
  let s2 := (((s1.calNoRefin).watchRef).journal 0x22 0).undemand .refin
  if s.clk.refinAdvertised then s2.lsChange else s2

/-- REFIN_GATE_END (R147 to R149). -/
def execRefinGateEnd (edges : Nat) (s : State) : Out :=
  occurs (s.clk.xoReady && s.dev.mainsOk) s
    (if 9990 ≤ edges ∧ edges ≤ 10010 then
       let n := min 4 (s.clk.refinGates + 1)
       let s1 : State := { s with clk := { s.clk with refinGates := n } }
       if n = 4 ∧ ¬ s.clk.refinPresent then
         ((({ s1 with clk := { s1.clk with refinPresent := true, refinSince := s.now, fabGate := none } } : State).journal
           0x22 1).demand .refin).askRefin
       else s1
     else if s.clk.refinPresent then s.refinLost
     else { s with clk := { s.clk with refinGates := 0 } })

/-- REFIN_EDGE_TIMEOUT (R148). -/
def execRefinEdgeTimeout (s : State) : Out := occurs s.clk.refinPresent s s.refinLost

/-- REFIN_ADVERTISED (R496): the priority rises, which changes the device's entry (R478). -/
def execRefinAdvertised (s : State) : Out :=
  occurs (s.clk.refinPresent && !s.clk.refinAdvertised && decide (s.clk.refinSince + 10 * tps ≤ s.now)) s
    (({ s with clk := { s.clk with refinAdvertised := true } } : State).lsChange)

/-- The PLL is wanted: in Sand, for relay activity in Loam, and in Bedrock on fault with the fabric kept (R20, R598). -/
def State.wantPll (s : State) : Bool :=
  decide (s.dev.core = .running) &&
  (decide (s.dev.mode = .sand) || s.dev.relay || (decide (s.dev.mode = .bedFault) && s.dev.fabricKept))

/-- PLL_START (R150, R20, R655): also the new attempt when the reference goes before lock. -/
def execPllStart (s : State) : Out :=
  occurs (s.clk.xoReady && !s.clk.pllNoLock &&
      ((s.wantPll && decide (s.clk.pll = .off)) || (decide (s.clk.pll = .seeking) && s.refGone))) s
    (if s.clk.pll = .off then ((s.armAll).seekLock).demand .pll else s.seekLock)

/-- PLL_LOCK (R152, R162): the modulator's accumulator is cleared, and the outputs are enabled and released together at the LOCK
boundary; PHASE FREE ends. -/
def execPllLock (s : State) : Out :=
  occurs (decide (s.clk.pll = .seeking) && !s.refGone) s
    (({ s with clk := { s.clk with
        pll := .locked, pllAttempts := 0, pllRelock := false, phaseFree := false, pllFrozen := false, pllAcc := 0
        pllOut := Vector.ofFn fun o => { s.clk.pllOut[o] with phase := 0 } } } : State).boundary .lock)

/-- PLL_NO_LOCK (R153): restarted up to three times in all; the third failure is fatal. An attempt whose reference was lost
does not count (R655). In Bedrock on fault the third failure ends the fabric (R38). -/
def execPllNoLock (s : State) : Out :=
  occurs (decide (s.clk.pll = .seeking) && !s.refGone && decide (s.clk.pllAt + 164 ≤ s.now)) s
    (let n := s.clk.pllAttempts + 1
     if n < 3 then ({ s with clk := { s.clk with pllAttempts := n } } : State).seekLock
     else
       let s1 := s.journal 0xA6 s.clk.pllRef.code
       let s2 := ({ s1 with clk := { s1.clk with pllNoLock := true } } : State).pllStop
       let s3 : State := { s2 with dev := { s2.dev with relay := false } }
       if s.dev.mode = .bedFault then
         (let s4 := s3.portsOff
          { s4 with dev := { s4.dev with fabricKept := false } })
       else s3.latchFatal .pllNoLock)

/-- The boundary of Table 4.5 at which an output changes while the PLL runs. -/
def outBoundary (o : PllOut) : PllBoundary :=
  if h : o.val < 12 then .portFrame ⟨o.val, h⟩ else if o.val < 14 then .outputFrame else .epoch

/-- PLL_LOST_LOCK (R154): every output but those of relay activity is disabled and waits for its boundary after the next
lock. -/
def execPllLostLock (s : State) : Out :=
  occurs (decide (s.clk.pll = .locked)) s
    { s with clk := { s.clk with
        pll := .seeking, pllRelock := true, pllAttempts := 0, pllAt := s.now
        pllOut := Vector.ofFn fun o =>
          let x := s.clk.pllOut[o]
          if relayOutput o then x
          else { now := { x.now with enable := false }
                 shadow := x.shadow.orElse fun _ => if x.now.enable then some (x.now, outBoundary o) else none } } }

/-- REF_SWITCH (R155, R163): after a loss of its reference, also one that has ended since, the PLL changes to the XO without a
step, with PHASE FREE until the next lock. -/
def execRefSwitch (s : State) : Out :=
  occurs (decide (s.clk.pll = .locked) && decide (s.clk.pllRef ≠ .xo) && s.refGone && s.clk.xoReady) s
    (let s1 := s.useRef .xo
     ({ s1 with clk := { s1.clk with phaseFree := true } } : State).journal 0x23 s.clk.pllRef.code)

/-- PHASE_FREE_XO_LOSS (R655): the XO stops while it is the reference of the locked PLL, short of XO FAIL or with it. -/
def execPhaseFreeXoLoss (s : State) : Out :=
  occurs (decide (s.clk.pll = .locked) && decide (s.clk.pllRef = .xo) && !s.clk.pllFrozen) s
    { s with clk := { s.clk with xoReady := false, pllFrozen := true, phaseFree := true } }

/-- PLL_FRACTION_UPDATE (R151). -/
def execPllFractionUpdate (s : State) : Out :=
  occurs (decide (s.clk.pll ≠ .off) && decide (s.clk.pllRef = .xo)) s
    { s with clk := { s.clk with pllFrac := fracOf s.prediction } }

/-- The boundary occurs now (Table 4.5). -/
def State.boundaryNow (s : State) : PllBoundary → Bool
  | .lock => decide (s.clk.pll = .locked)
  | .portFrame k => !(s.cam[k]).cen || (s.cam[k]).frame.isNone
  | .outputFrame => !s.head.inFrame || decide (s.head.startedAt + s.head.period * 65536 ≤ s.fab.time)
  | .epoch => decide (s.clk.pll = .locked)

/-- SHADOW_BOUNDARY (R159 to R161, R164): outputs stay disabled until lock (R152). -/
def execShadowBoundary (b : PllBoundary) (s : State) : Out :=
  occurs (decide (s.clk.pll = .locked) && s.boundaryNow b) s (s.boundary b)

/-- The house core belongs on PO15 (R165). -/
def State.corePll (s : State) : Bool :=
  decide (s.dev.mode = .sand) && decide (s.clk.pll ≠ .off) && (s.clk.pllOut[(15 : Fin 18)]).now.enable

/-- CORE_CLOCK_SWITCH (R22, R165). -/
def execCoreClockSwitch (s : State) : Out :=
  occurs (decide (s.dev.core = .running) && (s.corePll != s.clk.coreOnPll)) s
    (let s1 : State := { s with clk := { s.clk with coreOnPll := s.corePll } }
     if s.corePll then s1.undemand .core else s1.demand .core)

/-- FIFO_FLUSH (R169): both pointers of the crossing return to zero, so the words that it held are gone. -/
def execFifoFlush (x : FifoCrossing) (s : State) : Out :=
  .next (match x with
    | .pixel k => s.updCam k fun q => { q with fifo := [] }
    | .kilnOut => { s with kiln := { s.kiln with out := [] } }
    | .kilnIn => { s with kiln := { s.kiln with lineIn := [] } }
    | .headLines => { s with head := { s.head with lineIn := [] } }
    | .fabRx p => s.updPort p fun q => { q with rxFifo := [] }
    | .fabTx p => s.updPort p fun q => { q with txFifo := [] })

/-- KEEP_DOMAIN_POWER_DOWN (R10, R172): nothing wants the XO: no shot or ring shot, no tally update, record or journal write, no bead
read and no job of the stamp regressor is in progress. The XO, which is in the domain, stops with it, and what waits at the
domain's side of a crossing is gone. -/
def execKeepDomainPowerDown (s : State) : Out :=
  occurs (s.dev.keepOn && decide (s.dev.mode = .bedBattery) && !s.dev.mainsOk && !s.needXo && s.tr.regJob.isNone &&
      decide (s.bead.phase = .idle)) s
    { s with
      dev := { s.dev with keepOn := false }
      clk := { s.clk with xoRun := false, xoReady := false }
      tr := { s.tr with regQueue := [] } }

end Sys2Proof.Machine
end

