-- ==== Sys2Proof/WellFormed.lean ====
section
/-!
DEFINITION. What operands can come to the device at all: the widths and lengths that the spec gives the
quantities a command brings. A command that is not well-formed stands for no event.
-/
namespace Sys2Proof

/-- A time-to-digital result is a 40-bit count (R195). -/
def tdcCount (t : Nat) : Bool := decide (t < 2 ^ 40)

/-- One shot: at most eight stops (R187), every time a 40-bit count (R195). -/
def ShotMeasure.wellFormed (m : ShotMeasure) : Bool :=
  decide (m.stops.length ≤ 8) && m.stops.all tdcCount &&
    match m.hit with
    | some t => tdcCount t
    | none => true

/-- A ring shot: at most eight stops, every time a 40-bit count. -/
def RingMeasure.wellFormed (m : RingMeasure) : Bool :=
  decide (m.stops.length ≤ 8) && m.stops.all tdcCount

/-- A CSI-2 packet: a short packet (data types 0x00 to 0x0F) has no payload, and the word count of a long
packet has 16 bits (Table 7.4). -/
def CsiPacket.wellFormed (p : CsiPacket) : Bool :=
  decide (p.payload.length < 2 ^ 16) && (decide (0x10 ≤ p.dt.toNat) || p.payload.isEmpty)

/-- An EEPROM image lies within 64 KiB (R298). -/
def imageWellFormed : Option (List Byte) → Bool
  | some l => decide (l.length ≤ 2 ^ 16)
  | none => true

/-- The commands that stand for an event. -/
def Instr.wellFormed : Instr → Bool
  | .pairComplete _ u d => u.wellFormed && d.wellFormed
  | .ringShotResult _ m => m.wellFormed
  | .csi2PacketReceived _ p => p.wellFormed
  | .recipeCacheRead image => imageWellFormed image
  | .recipePoll image => imageWellFormed image
  | .moverProgramLoad _ prog => decide (prog.length ≤ 16)
  | _ => true

end Sys2Proof
end

