-- ==== Sys2Proof/Machine/Sounding.lean ====
section
/-!
DEFINITION. The transit unit: pairs, classification, gain and tracking, calibration, ring checks (chapter 5).
-/
namespace Sys2Proof.Machine

/-- A programme time that has come: its pair waits, and the next programme time follows at the rate in force (R213). -/
def PathSt.takeDue (q : PathSt) (now : Nat) : PathSt :=
  match q.waiting, q.due with
  | none, some t =>
    if t ≤ now then
      { q with waiting := some t, tau := q.period, period := q.nextPeriod
               due := if q.nextPeriod = 0 then none else some (t + q.nextPeriod) }
    else q
  | _, _ => q

/-- A bead read holds group 0, and a supervision shot group 3 (R217). -/
def State.groupPairFree (s : State) (g : Fin 2) : Bool :=
  decide (s.tr.busy[g] = none) &&
  (if g = 0 then (match s.bead.phase with
      | .reading _ => false
      | _ => true) else s.loc.supRun.isNone)

/-- A ring shot is in progress on a channel of a group pair. -/
def State.ringInPair (s : State) (g : Fin 2) : Bool :=
  (List.finRange 16).any fun (c : Chan) => decide (groupPair (chanPath c) = g) && (s.tr.chan[c]).ringBusy

/-- Shots may be fired now (R10, R137, R196, R213, R547, Table 13.6). -/
def State.mayFire (s : State) : Bool :=
  s.tr.sounding && s.drives && s.dev.keepOn && s.clk.xoReady && !s.tdcDown && !s.handHolds

/-- The mode sounds a path: its rate is not zero (R35, R37). -/
def State.sounds (s : State) (p : PathNo) : Bool := decide (0 < s.requestedRate s.rateMode p)

/-- No other waiting pair of the group pair comes before a path's (R215). -/
def State.firstInLine (s : State) (p : PathNo) (t : Nat) : Bool :=
  allPaths.all fun q =>
    groupPair q != groupPair p || match ((s.tr.path[q]).takeDue s.now).waiting with
      | none => true
      | some u => decide (t < u) || (decide (t = u) && decide (p.val ≤ q.val))

/-- Validity of the calibration of a path (R222). -/
def State.calibOf (s : State) (p : PathNo) : Option CalRecord :=
  match (s.tr.path[p]).calib with
  | some c => if c.freq.val = s.eff 33 ⟨p.val, p.isLt⟩ then some c else none
  | none => none

/-- The calendar ticks of a raw tick at or before now. -/
def State.calOf (s : State) (t : Nat) : Nat := s.calTicks - (s.now - t)

/-- A pair record without measured quantities: its measured fields hold zeros, the model's choice (log 123). -/
def State.emptyRecord (s : State) (p : PathNo) (prog : Nat) (status : PairStatus) (up down : ShotStatus)
    (cause : Option SkipCause) : PairRecord where
  path := p
  sec := BitVec.ofNat 48 (s.calOf prog / 32768)
  tick := BitVec.ofNat 15 (s.calOf prog)
  status := status
  up := up
  down := down
  uncal := (s.calibOf p).isNone
  ovr := decide (up = .ovr) || decide (down = .ovr)
  unverified := s.clk.age.unverified
  health := s.healthFailed p
  tAb := 0
  tBa := 0
  dt := 0
  v := 0
  c := 0
  tAir := 0
  gain := (s.tr.path[p]).gain
  peakUp := 0
  peakDown := 0
  causeUp := cause
  causeDown := cause
  period := (s.tr.path[p]).tau
  fired := decide (status ≠ .skipped)

/-- A HEALTH entry (Table 6.8). -/
def healthData (p : PathNo) (c : Chan) (start : Bool) (code : Nat) : Nat :=
  p.val * 4096 + c.val * 256 + 128 * bit start + code

/-- A channel passes: no health failure, and its latest check is PASS (R225). -/
def State.chanPasses (s : State) (c : Chan) : Bool := !s.chanFailed c && decide ((s.tr.chan[c]).last = .pass)

/-- MUTE (R225): 64 consecutive pairs with no VALID pair while both channels pass; it ends at the next VALID pair. -/
def State.muteStep (s : State) (p : PathNo) (valid : Bool) : State :=
  let q := s.tr.path[p]
  if valid then
    let s1 := s.updPath p fun q => { q with noValid := 0, mute := false }
    if q.mute then s1.journal 0x2D (healthData p (chanA p) false 4) else s1
  else
    let n := if s.chanPasses (chanA p) && s.chanPasses (chanB p) then min 64 (q.noValid + 1) else 0
    let s1 := s.updPath p fun q => { q with noValid := n, mute := q.mute || decide (n = 64) }
    if n = 64 ∧ ¬ q.mute then s1.journal 0x2D (healthData p (chanA p) true 4) else s1

/-- One more pair of a calibration run (R218): 8 pairs settle the gain, then pairs are collected. REFIN counts as present for the
collection where it is present at each of its pairs and does not go between them (Table 5.13). -/
def CalRun.pair (c : CalRun) (r : PairRecord) (td : Nat) (refin : Bool) : CalRun :=
  if c.settle < 8 then { c with settle := c.settle + 1, refin := refin }
  else
    let good := decide (r.status = .valid) && decide (r.up = .ok) && decide (r.down = .ok)
    let some_none := decide (r.up = .none) || decide (r.down = .none)
    let c1 := { c with collected := c.collected + 1, allNone := c.allNone && some_none, refin := c.refin && refin }
    if good then
      { c1 with
        diffs := ((r.tBa : Int) - r.tAb) :: c1.diffs
        means := (r.tAb + r.tBa - 2 * td) :: c1.means
        peakBad := c1.peakBad || !(decide (30 ≤ r.peakUp ∧ r.peakUp ≤ 190) && decide (30 ≤ r.peakDown ∧ r.peakDown ≤ 190)) }
    else c1

/-- The collection of a path has ended (R218). -/
def CalRun.done (c : CalRun) : Bool := decide (64 ≤ c.diffs.length) || decide (96 ≤ c.collected)

/-- The pair's record goes to the tally engine (R202); the latest record is kept, and a calibration run counts it. -/
def State.handPair (s : State) (p : PathNo) (r : PairRecord) : State :=
  let s1 : State := { s with tr := { s.tr with handed := s.tr.handed ++ [r] } }
  (s1.updPath p fun q => { q with
    lastPair := some r
    calRun := match q.calRun with
      | some c => if c.done then some c else some (c.pair r (freqTd (s.eff 33 ⟨p.val, p.isLt⟩)) s.clk.refinPresent)
      | none => none }).muteStep p (decide (r.status = .valid))

/-- The four-bit code of a shot status on bits 63 to 60, the stop index, the slope bit, the peak, the gain and the time: one stop record
(R198, Table 5.7). -/
def stopRecord (st : ShotStatus) (i : Nat) (negative : Bool) (peak gain time : Nat) : BitVec 64 :=
  BitVec.ofNat 4 st.code ++ BitVec.ofNat 3 i ++ BitVec.ofBool negative ++ BitVec.ofNat 8 peak ++ BitVec.ofNat 8 gain ++
    BitVec.ofNat 40 time

/-- The time field of a stop (Table 5.8): of a first hit at `hit` with the status EARLY, that hit. -/
def stopTime (st : ShotStatus) (hit stop : Nat) : Nat :=
  match st with
  | .skip => 0
  | .ovr => 0xFF_FFFF_FFFF
  | .early => hit
  | .none => 0
  | .shadow => stop
  | .weak => stop
  | .ok => stop

/-- The stop records of a shot (R198, R199): one for each stop, and one with index 0 where it gives no stop. -/
def stopRecords (st : ShotStatus) (negative : Bool) (peak gain hit : Nat) (stops : List Nat) : List (BitVec 64) :=
  if stops.isEmpty then [stopRecord st 0 negative peak gain (stopTime st hit 0)]
  else stops.mapIdx fun i t => stopRecord st i negative peak gain (stopTime st hit t)

/-- The slope of the stops at a group: the opposite of that of its first hit (R187, R188). -/
def State.stopNegative (s : State) (g : GroupNo) : Bool := (s.tr.rx[g]).positive

/-- The receive group of a shot of a path: the up shot is received on the b end (R174). -/
def shotGroup (p : PathNo) (up : Bool) : GroupNo := chanGroup (if up then chanB p else chanA p)

/-- A pair that is not fired: both shots SKIP with one cause, the gain does not change (§5.6). -/
def State.skipPair (s : State) (p : PathNo) (prog : Nat) (cause : SkipCause) : State :=
  let rec_ (up : Bool) : List (BitVec 64) :=
    stopRecords .skip (s.stopNegative (shotGroup p up)) 0 (s.tr.path[p]).gain 0 []
  (s.updPath p fun q => { q with
      waiting := none, slipRun := [], acq := [], badRun := 0
      stopsUp := rec_ true, stopsDown := rec_ false, fitUp := none, fitDown := none }).handPair p
    (s.emptyRecord p prog .skipped .skip .skip (some cause))

/-- A channel of the path has a SHORT failure, so it is not driven (R226). -/
def State.shorted (s : State) (p : PathNo) : Bool :=
  decide ((s.tr.chan[chanA p]).failed = some .short) || decide ((s.tr.chan[chanB p]).failed = some .short)

/-- LOW VDRV by the voltage at drive start (R183): each start and end of an episode is journalled. -/
def State.vdrvCheck (s : State) (mv : Nat) : State :=
  let low := decide (mv < 2900)
  let s1 : State := { s with tr := { s.tr with lowVdrv := low, vdrvMv := mv } }
  if low = s.tr.lowVdrv then s1 else s1.journal 0x28 (bit low)

/-- The next programme time of a path is still ahead: a pair that waits longer is dropped (R216). -/
def PathSt.inTime (q : PathSt) (now : Nat) : Bool :=
  match (q.takeDue now).due with
  | some t => decide (now < t)
  | none => true

/-- SHOT_PAIR_FIRE (R174, R183, R213 to R217, R226). -/
def execShotPairFire (path : PathNo) (vdrvMv : Nat) (s : State) : Out :=
  match ((s.tr.path[path]).takeDue s.now).waiting with
  | none => .next s
  | some prog =>
    occurs (s.mayFire && s.configured path && s.sounds path && s.groupPairFree (groupPair path) &&
        !s.ringInPair (groupPair path) && s.firstInLine path prog && (s.tr.path[path]).inTime s.now) s
      (let s1 := s.updPath path fun q => q.takeDue s.now
       if s1.shorted path then s1.skipPair path prog .short
       else
         let s2 := s1.vdrvCheck vdrvMv
         if vdrvMv < 2900 then s2.skipPair path prog .lowdrv
         else
           let s3 := s2.updPath path fun q => { q with
             waiting := none, firing := some prog, firedAt := s.now
             tripUp := false, tripDown := false, ovrUp := false, ovrDown := false }
           { s3 with tr := { s3.tr with busy := s3.tr.busy.set (groupPair path) (some path) } })

/-- One ring check outcome, or the trip that counts as one (R184, R225): a failure starts after three consecutive
checks with the same outcome, and ends after three PASS checks. -/
def State.healthCheck (s : State) (c : Chan) (o : RingOutcome) : State :=
  let h := s.tr.chan[c]
  let run := if h.last = o then min 3 (h.run + 1) else 1
  let p := chanPath c
  let put (f : Option RingOutcome) : State := { s with tr := { s.tr with
    chan := s.tr.chan.set c { h with last := o, run := run, failed := f } } }
  if run < 3 ∨ h.failed = some o ∨ (o = .pass ∧ h.failed = none) then put h.failed
  else
    let s1 := put (if o = .pass then none else some o)
    let s2 := match h.failed with
      | some old => s1.journal 0x2D (healthData p c false old.code)
      | none => s1
    (if o = .pass then s2 else s2.journal 0x2D (healthData p c true o.code)).settle

/-- DRIVER_CURRENT_LIMIT_TRIP (R184): the up shot is driven on the a end, the down shot on the b end. -/
def execDriverCurrentLimitTrip (ch : Chan) (s : State) : Out :=
  let p := chanPath ch
  occurs (s.tr.path[p]).firing.isSome s
    ((s.updPath p fun q => if ch = chanA p then { q with tripUp := true } else { q with tripDown := true }).healthCheck
      ch .short)

/-- TDC units in one raw AON tick of nominal length (R1). -/
def tickUnits : Nat := 15625000

/-- The channel that a receive group listens on: that of its ring shot, or the end of the path whose pair holds it at which the
group's shot arrives (R174, R223). -/
def State.listens (s : State) (g : GroupNo) : Option Chan :=
  match (List.finRange 16).find? fun (c : Chan) => decide (chanGroup c = g) && (s.tr.chan[c]).ringBusy with
  | some c => some c
  | none => (s.tr.busy[g.val / 2]'(by omega)).map fun p => if g.val % 2 = 1 then chanB p else chanA p

/-- OVERLOAD (R203): lastAbove is the time within this tick, in TDC units, after which the output stays within ±780 mV; the overload
ends 2 µs later. The up shot is received on the b end's group, the down shot on the a end's group; a ring shot of the group is
marked. -/
def execOverload (g : GroupNo) (lastAbove : Nat) (s : State) : Out :=
  let s1 : State := { s with tr := { s.tr with
    ovrAt := s.tr.ovrAt.set g (some (s.listens g, s.now * tickUnits + lastAbove + tdc 2000))
    chan := Vector.ofFn fun c =>
      let h := s.tr.chan[c]
      if chanGroup c = g ∧ h.ringBusy then { h with ringOvr := true } else h } }
  match s.tr.busy[g.val / 2]'(by omega) with
  | some p => .next (s1.updPath p fun q => if g.val % 2 = 1 then { q with ovrUp := true } else { q with ovrDown := true })
  | none => .next s1

/-- The acceptance window of a direction in units of 1/150 TDC unit: opening and closing (R191, R192). -/
def State.window (s : State) (p : PathNo) (up : Bool) : Nat × Nat :=
  let f := s.eff 33 ⟨p.val, p.isLt⟩
  let p3 := freqP3 f
  let lo := 50 * (freqPulses f + 4) * p3
  let hi := 150 * classClose (s.pathClass p)
  let q := s.tr.path[p]
  if q.tracking then
    let c := if up then q.cUp else q.cDown
    let w := max (3 * c) (150 * p3)
    (max lo (150 * c - w), min hi (150 * c + w))
  else (lo, hi)

/-- A stop or first hit of a shot on a channel, driven at a tick, lies in the 400 µs after the end of an overload of its group that
came on another channel (R204). -/
def State.inShadow (s : State) (c : Chan) (firedAt : Nat) (times : List Nat) : Bool :=
  match s.tr.ovrAt[chanGroup c] with
  | some (o, t) => decide (o ≠ some c) && times.any fun x => decide (firedAt * tickUnits + x ≤ t + tdc 400000)
  | none => false

/-- The times that the receive chain of a group takes from a shot (R187, R188): the first hit reaches the threshold, and the stops
follow it after P/4 within 12 periods, eight at most. P3 is three periods in TDC units. -/
def measureSeen (m : ShotMeasure) (rx : GroupRx) (p3 : Nat) : ShotMeasure :=
  match m.hit with
  | some h =>
    if m.peakMv < rx.threshold.toNat then { m with hit := none, stops := [], margin := false }
    else { m with
      stops := (m.stops.filter fun t => decide (12 * h + p3 ≤ 12 * t) && decide (t ≤ h + 4 * p3)).take 8
      margin := m.margin && decide (rx.threshold.toNat + rx.margin.toNat ≤ m.peakMv) }
  | none => { m with stops := [], margin := false }

/-- A shot of a path as its group sees it, with corrected times (R138, R187, R188). -/
def State.shotSeen (s : State) (p : PathNo) (up : Bool) (m : ShotMeasure) : ShotMeasure :=
  measureSeen (s.shotTimes m) (s.tr.rx[shotGroup p up]) (freqP3 (s.eff 33 ⟨p.val, p.isLt⟩))

/-- Status of a shot as seen, the first of Table 5.8 that applies (R193, R199). -/
def State.shotStatus (s : State) (p : PathNo) (up : Bool) (m : ShotMeasure) : ShotStatus :=
  let q := s.tr.path[p]
  let w := s.window p up
  let p3 := freqP3 (s.eff 33 ⟨p.val, p.isLt⟩)
  if (if up then q.tripUp else q.tripDown) then .skip
  else if (if up then q.ovrUp else q.ovrDown) then .ovr
  else match m.hit with
    | none => .none
    | some h =>
      if w.1 ≤ 150 * h + 100 * p3 ∧ 150 * h < w.1 then .early
      else if 150 * h < w.1 ∨ w.2 < 150 * h ∨ m.stops.length < 8 then .none
      else if s.inShadow (if up then chanB p else chanA p) q.firedAt (h :: m.stops) then .shadow
      else if !m.margin then .weak
      else .ok

/-- The stops that a shot takes: none where its hit is not accepted (R193). -/
def State.stopsTaken (s : State) (p : PathNo) (up : Bool) (m : ShotMeasure) : List Nat :=
  match m.hit with
  | none => []
  | some h =>
    let w := s.window p up
    if s.shotStatus p up m = .skip ∨ 150 * h < w.1 ∨ w.2 < 150 * h then [] else m.stops

/-- The sum of (2i − (n − 1)) × t_i over stamps t_i (R207). -/
def slopeSum (l : List Nat) : Int :=
  sumInt (l.mapIdx fun i t => (2 * (i : Int) + 1 - l.length) * t)

/-- Regression over the stamps of one shot (R207): with S the sum above, the period is 6 S / n (n² − 1), and the mean square of the
residuals is ((n² − 1)(n Σt² − (Σt)²) − 3 S²) / n² (n² − 1). -/
def shotFit (l : List Nat) : Option ShotFit :=
  let n := l.length
  if n < 2 then none
  else
    let k := n * n - 1
    let sum := slopeSum l
    let sq : Int := (k : Int) * (n * sumNat (l.map fun t => t * t) - sumNat l * sumNat l) - 3 * sum * sum
    some { period := rdiv (6 * 65536 * sum) (n * k)
           rms := (isqrt (4 * 4294967296 * sq.toNat / (n * n * k)) + 1) / 2 }

/-- The regression of a shot that has its eight stops (R208). -/
def eightFit (l : List Nat) : Option ShotFit := if l.length = 8 then shotFit l else none

/-- A result that a pair can use. -/
def ShotStatus.good (x : ShotStatus) : Bool := decide (x = .ok) || decide (x = .weak)

/-- v in 1/16 µm/s, c in µm/s and T_air in 1/128 °C from t_ab and t_ba in 1/4,096 ns, Δ0 in the same unit and L in µm
(R178). -/
def pathModel (tAb tBa delta0 : Int) (len : Nat) : Int × Nat × Int :=
  let a := 2 * tAb + delta0
  let b := 2 * tBa - delta0
  let ab := (a * b).natAbs
  if ab = 0 then (0, 0, 0)
  else
    let v := rdiv (8 * len * (b - a) * 8192000000000) ab
    let c := (rdiv (len * (a + b) * 8192000000000) (2 * ab)).natAbs
    let k : Nat := 40183008849 * 1000000000000
    (v, c, rdiv (128 * ((c : Int) * c * 10000000000 - 27315 * k)) (k * 100))

/-- What the peak detector holds, in 4 mV steps, 0xFF clipped (R189, Table 5.7): a peak between two steps is held as the lower one, the
model's choice (log 122). -/
def peakUnits (mv : Nat) : Nat := min 255 (mv / 4)

/-- Gain after a pair (R190), in dB / 2, from the peaks that the detectors hold in 4 mV steps. -/
def nextGain (g : Nat) (up down : ShotStatus) (pu pd : Nat) : Nat :=
  if up = .skip ∧ down = .skip then g
  else if up = .ovr ∨ down = .ovr then g - 3
  else if up = .none ∧ down = .none then min 30 (g + 3)
  else if 140 < pu ∨ 140 < pd then g - 1
  else if pu < 80 ∧ pd < 80 then min 30 (g + 1)
  else g

/-- A signed field of w bits of a pair record: a result that does not fit gives a free value (Table 5.9; log 123). -/
def fieldS (w : Nat) (x : Int) : Int :=
  if -(2 ^ (w - 1) : Int) ≤ x ∧ x < (2 ^ (w - 1) : Int) then x else (BitVec.ofNat w (Config.overflow w x)).toInt

/-- An unsigned field of w bits of a pair record, likewise. -/
def fieldU (w : Nat) (x : Nat) : Nat :=
  if x < 2 ^ w then x else (BitVec.ofNat w (Config.overflow w x)).toNat

/-- Four sums agree within P/4 (R201): units of 1/4,096 ns, P3 in TDC units. -/
def sumsAgree (l : List Nat) (p3 : Nat) : Bool :=
  let hi := l.foldl max 0
  let lo := l.foldl min (l.headD 0)
  decide (4 ≤ l.length) && decide (12 * (hi - lo) ≤ 8 * p3)

/-- The latest first hits of one direction agree within ±P: every two of them do. R194 does not say whether each pair is held to the one
before or to all: the model's choice (log 122). -/
def hitsAgree (l : List Nat) (p3 : Nat) : Bool :=
  decide (3 * (l.foldl max 0 - l.foldl min (l.headD 0)) ≤ p3)

/-- A path enters search (R190, R194). -/
def PathSt.search (q : PathSt) (freq : Nat) : PathSt :=
  { q with tracking := false, acq := [], badRun := 0, gain := freqGain freq }

/-- Tracking after a pair with its status (R192, R194, R201). -/
def PathSt.track (q : PathSt) (r : PairRecord) (hu hd p3 freq : Nat) : PathSt :=
  let sum := r.tAb + r.tBa
  let bad := decide (r.up = .none) || decide (r.up = .early) || decide (r.down = .none) || decide (r.down = .early)
  let badRun := if bad then q.badRun + 1 else 0
  let q1 := { q with badRun := badRun }
  match r.status with
  | .valid =>
    { q1 with cUp := hu, cDown := hd, sRef := some sum, slipRun := [], acq := []
              lastV := r.v, lastTAir := some r.tAir
              statDt := (r.dt :: q.statDt).take 256
              statSum := (((sum : Int) - 2 * freqTd freq) :: q.statSum).take 256 }
  | .acq =>
    let l := ((hu, hd) :: q.acq).take 4
    if l.length = 4 ∧ hitsAgree (l.map (·.1)) p3 ∧ hitsAgree (l.map (·.2)) p3 then
      { q1 with tracking := true, acq := [], cUp := hu, cDown := hd, slipRun := [] }
    else { q1 with acq := l, slipRun := [] }
  | .slip =>
    let l := (sum :: q.slipRun).take 4
    if sumsAgree l p3 then { q1 with sRef := some sum, slipRun := [], acq := [] }
    else { q1 with slipRun := l, acq := [] }
  | _ =>
    let q2 := { q1 with slipRun := [], acq := [] }
    if 8 ≤ badRun then (if q.tracking then q2.search freq else { q2 with badRun := 0 }) else q2

/-- The record of a completed pair (R177, R178, R184, R199 to R202): both shots as their groups saw them. -/
def State.pairRecord (s : State) (p : PathNo) (prog : Nat) (up down : ShotMeasure) : PairRecord :=
  let q := s.tr.path[p]
  let f := s.eff 33 ⟨p.val, p.isLt⟩
  let up := s.shotSeen p true up
  let down := s.shotSeen p false down
  let su := s.shotStatus p true up
  let sd := s.shotStatus p false down
  let tAb := sumNat up.stops
  let tBa := sumNat down.stops
  let slip := match q.sRef with
    | some r => decide (8 * freqP3 f < 6 * ((tAb + tBa : Nat) - (r : Int)).natAbs)
    | none => false
  let st : PairStatus :=
    if su = .skip ∧ sd = .skip then .skipped
    else if su.good && sd.good then (if !q.tracking then .acq else if slip then .slip else .valid)
    else .invalid
  let r := { s.emptyRecord p prog st su sd none with
    peakUp := peakUnits up.peakMv, peakDown := peakUnits down.peakMv
    causeUp := if su = .skip then some .short else none
    causeDown := if sd = .skip then some .short else none }
  if su.good && sd.good then
    let cal := s.calibOf p
    let d0 : Int := match cal with
      | some c => c.delta0
      | none => 0
    let len := match cal with
      | some c => c.len
      | none => classLen (s.pathClass p)
    let td : Int := freqTd f
    let m := pathModel (tAb - td) (tBa - td) d0 len
    { r with
      tAb := fieldU 40 tAb, tBa := fieldU 40 tBa, dt := fieldS 40 ((tBa : Int) - tAb - d0), v := fieldS 32 m.1
      c := fieldU 32 m.2.1, tAir := fieldS 16 m.2.2 }
  else r

/-- The end of a shot in TDC units from its drive start (R184, R188, R193, R214): a burst that stopped at once has ended, a shot with
an accepted hit ends at its eighth stop or 12 periods after the hit, any other at its window's close. -/
def State.shotEnd (s : State) (p : PathNo) (up : Bool) (m : ShotMeasure) : Nat :=
  let w := s.window p up
  if s.shotStatus p up m = .skip then 0
  else match m.hit with
    | none => w.2 / 150
    | some h =>
      if 150 * h < w.1 ∨ w.2 < 150 * h then w.2 / 150
      else m.stops.getD 7 (h + 4 * freqP3 (s.eff 33 ⟨p.val, p.isLt⟩))

/-- Both shots of the running pair are complete and 100 µs have passed by the end of this tick (R214). -/
def State.pairOver (s : State) (p : PathNo) (up down : ShotMeasure) : Bool :=
  let t := max (s.shotEnd p true (s.shotSeen p true up)) (s.shotEnd p false (s.shotSeen p false down))
  decide ((s.tr.path[p]).firedAt * tickUnits + t + tdc 100000 ≤ (s.now + 1) * tickUnits)

/-- The stop records and the regression of a shot that was fired (R198, R199, R207, R208). -/
def State.shotRecords (s : State) (p : PathNo) (up : Bool) (m : ShotMeasure) : List (BitVec 64) × Option ShotFit :=
  let m := s.shotSeen p up m
  let l := s.stopsTaken p up m
  (stopRecords (s.shotStatus p up m) (s.stopNegative (shotGroup p up)) (peakUnits m.peakMv) (s.tr.path[p]).gain
    (m.hit.getD 0) l, eightFit l)

/-- A calibration collects pairs of the path now, with its gain frozen (R190, R218). -/
def State.gainFrozen (s : State) (p : PathNo) : Bool :=
  match (s.tr.path[p]).calRun with
  | some c => decide (8 ≤ c.settle) && !c.done
  | none => false

/-- A path after a completed pair: gain, tracking, stop records (R190, R192, R194, R198, R201, R207). -/
def State.pathAfter (s : State) (p : PathNo) (r : PairRecord) (up down : ShotMeasure) : PathSt :=
  let f := s.eff 33 ⟨p.val, p.isLt⟩
  let q := s.tr.path[p]
  let hu := ((s.shotSeen p true up).hit).getD 0
  let hd := ((s.shotSeen p false down).hit).getD 0
  let t := ({ q with gain := nextGain q.gain r.up r.down r.peakUp r.peakDown } : PathSt).track r hu hd (freqP3 f) f
  { t with
    gain := bif s.gainFrozen p then q.gain else t.gain
    firing := none
    stopsUp := (s.shotRecords p true up).1, stopsDown := (s.shotRecords p false down).1
    fitUp := (s.shotRecords p true up).2, fitDown := (s.shotRecords p false down).2 }

/-- PAIR_COMPLETE (R138, R177, R178, R188 to R194, R198 to R204, R206 to R208, R214, R218, R225). -/
def execPairComplete (path : PathNo) (up down : ShotMeasure) (s : State) : Out :=
  whenFormed (up.wellFormed && down.wellFormed)
    (match (s.tr.path[path]).firing with
    | none => Host.Outcome.next s
    | some prog =>
      occurs (s.pairOver path up down) s
        (let r := s.pairRecord path prog up down
         let s1 := s.updPath path fun _ => s.pathAfter path r up down
         let anchor := decide (r.status = .slip) && (s1.tr.path[path]).slipRun.isEmpty
         let s2 : State := { s1 with tr := { s1.tr with busy := s1.tr.busy.set (groupPair path) none } }
         let s3 := s2.handPair path r
         (if anchor then s3.journal 0x29 path.val else s3).settle))

/-- PAIR_LATE (R216): a pair still waiting at its path's next programme time is dropped; the next one waits. -/
def execPairLate (path : PathNo) (s : State) : Out :=
  match (s.tr.path[path]).waiting, (s.tr.path[path]).due with
  | some prog, some next =>
    occurs (decide (next ≤ s.now) && s.drives) s
      (((s.skipPair path prog .late).updPath path fun q => q.takeDue s.now).settle)
  | _, _ => .next s

/-- STAMP_REGRESSOR_REQUEST (R209). -/
def execStampRegressorRequest (job : RegJob) (s : State) : Out := .next (s.regRequest job)

/-- The gate of a job in ticks (Table 5.10). -/
def regGate : RegJob → Nat
  | .trim => 2048
  | .refin => tps
  | .frameRate _ => tps

/-- The prescale of a job's input (R208, Table 5.10): REFIN's 10 MHz are brought within 2.5 MHz. -/
def regPrescale : RegJob → Nat
  | .trim => 1
  | .refin => 4
  | .frameRate _ => 1

/-- The period of the input from the running sums of a gate (R207, R208), in 2^-16 uncorrected TDC unit: none with fewer than two
edges. -/
def edgePeriod (e : EdgeSums) (prescale : Nat) : Option Int :=
  if e.n < 2 ∨ prescale = 0 then none
  else some (rdiv (65536 * (12 * (e.sumIT : Int) - 6 * ((e.n : Int) - 1) * e.sumT)) (e.n * (e.n * e.n - 1) * prescale))

/-- What a job leaves to its user: a REFIN sample is ready (R139), a camera's measured frame period (R318), or, after a gate with no
result, a trim window without one (R133). -/
def State.regGive (s : State) (j : RegJob) (r : Option (BitVec 64)) : State :=
  match j with
  | .trim => { s with clk := { s.clk with win := s.clk.win.map fun w => { w with job := w.job && r.isSome } } }
  | .refin => if r.isSome && s.clk.refinPresent then { s with clk := { s.clk with refinDone := true } } else s
  | .frameRate k => s.updCam k fun q => { q with measured := r }

/-- STAMP_REGRESSOR_GATE_END (R138, R207 to R209, R139): at the end of the gate the period in 2^-16 TDC unit, 64 bits wide, or no
result after a missing edge; the next job starts. -/
def execStampRegressorGateEnd (sums : Option EdgeSums) (s : State) : Out :=
  match s.tr.regJob with
  | none => .next s
  | some j =>
    occurs (sums.isNone || decide (s.tr.regAt + regGate j ≤ s.now)) s
      (let r := (sums.bind fun e => edgePeriod e (regPrescale j)).map fun p => BitVec.ofNat 64 (s.corrected p.toNat)
       let s1 : State := { s with tr := { s.tr with regResult := r } }
       ((s1.regGive j r).regNext).askRefin)

/-- The population variance of 64 values times 4,096. -/
def var4096 (l : List Int) : Int := 64 * sumInt (l.map fun x => x * x) - sumInt l * sumInt l

/-- Why a path's calibration is refused, none where it passes (R219); a path that a change of bead 32 or 33 affects is refused as weak
signal (§5.10, corner cases). -/
def State.calRefusal (s : State) (p : PathNo) (c : CalRun) : Option Nat :=
  if c.affected then some 2
  else if s.chanFailed (chanA p) || s.chanFailed (chanB p) || (decide (0 < c.collected) && c.allNone) then some 1
  else if c.diffs.length < 64 ∨ c.peakBad then some 2
  else if 1099511627776 ≤ 10000 * var4096 c.diffs ∨
      262144 ≤ 100 * (sumInt (c.diffs.take 32) - sumInt (c.diffs.drop 32)).natAbs then some 3
  else none

/-- The length of R220 in µm: the mean die temperature in 1/128 °C and the sum of t_ab + t_ba over 64 pairs. -/
def calLength (meanDie : Int) (sum : Nat) : Nat :=
  let k := (100 * meanDie + 3496320).toNat
  rdivNat (20045700 * isqrt (k * 1000000000000000000000000 / 12800) * sum) (1000000000000 * 128 * 4096000000000)

/-- The new calibration of a path that passes (R220, Table 5.13). -/
def State.calResult (s : State) (p : PathNo) (c : CalRun) (meanDie : Int) : CalRecord where
  freq := ⟨s.eff 33 ⟨p.val, p.isLt⟩ % 16, by omega⟩
  len := calLength meanDie (sumNat c.means)
  delta0 := rdiv (sumInt c.diffs) 64
  tDie := meanDie
  base := if c.refin then 0 else if s.clk.age.unverified then 2 else 1
  sec := s.clk.sec

/-- The reason of a refused calibration in words (R219, R647). -/
def calReason (why : Nat) : String :=
  match why with
  | 1 => "missing transducer"
  | 2 => "weak signal"
  | 3 => "moving air"
  | _ => "abandoned"

/-- A line about the calibration of a path, where the monitor waits for it (R647). -/
def State.calLine (s : State) (p : PathNo) (l : String) : State :=
  if s.mon.calWait then s.say ("path " ++ natStr p.val ++ " " ++ l) else s

/-- One path's result (R219, R221). -/
def State.calPath (s : State) (meanDie : Int) (p : PathNo) : State :=
  match (s.tr.path[p]).calRun with
  | none => s
  | some c =>
    let s1 := s.updPath p fun q => { q with calRun := none }
    match s.calRefusal p c with
    | some why =>
      (({ s1 with tr := { s1.tr with calRefused := s1.tr.calRefused.set p true } } : State).journal 0x2C
        (p.val * 4096 + why)).calLine p ("refused " ++ calReason why)
    | none =>
      let r := s.calResult p c meanDie
      let s2 := ({ s1 with tr := { s1.tr with calPassed := s1.tr.calPassed.set p true } } : State).journal 0x2B
        (p.val * 4096 + r.base)
      (s2.requestWrite (.calibration p) (r.content p)).calLine p
        ("done L=" ++ fixStr false 4 (rdivNat r.len 100 : Nat) ++ " m d0=" ++ fixStr true 3 (rdiv (r.delta0 * 1000) 4096) ++ " ns")

/-- Every path of the calibration has ended its collection; a path that bead 32 has removed collects no more. -/
def State.calDone (s : State) : Bool :=
  s.tr.calOn && allPaths.all fun p => match (s.tr.path[p]).calRun with
    | some c => c.done || !s.configured p
    | none => true

/-- CALIBRATION_END (R218 to R221, R97): the results of every path; ACK-3 where all pass, LEDA code 7 where any is
refused. -/
def execCalibrationEnd (meanDie : Int) (s : State) : Out :=
  occurs s.calDone s
    (let s1 := allPaths.foldl (fun t (p : PathNo) => t.calPath meanDie p) s
     let s2 : State := { s1 with tr := { s1.tr with calOn := false } }
     let refused := allPaths.any fun p => s2.tr.calRefused[p]
     let s3 := if refused then (({ s2 with loc := { s2.loc with ackG := none, ackGNext := none } } : State).ackAmber
         .calRefused) else s2.ackGreen (.ack 3)
     let s4 := if s.mon.calWait then
         ({ s3 with mon := { s3.mon with calWait := false } } : State).endCmd "ok" else s3
     s4.applyRates)

/-- The interval of ring shots on a channel (R223). -/
def State.ringInterval (s : State) : Nat := if s.dev.mode = .bedBattery then 1024 * tps else 64 * tps

/-- A pair of the group pair waits. -/
def State.pairWaits (s : State) (g : Fin 2) : Bool :=
  allPaths.any fun p => decide (groupPair p = g) && ((s.tr.path[p]).takeDue s.now).waiting.isSome

/-- An interval has passed since a tick. -/
def State.since (s : State) (at_ : Option Nat) (ticks : Nat) : Bool :=
  match at_ with
  | some t => decide (t + ticks ≤ s.now)
  | none => true

/-- The interval since the latest ring shot of a channel has passed (R223). -/
def State.ringDue (s : State) (c : Chan) : Bool := s.since (s.tr.chan[c]).ringAt s.ringInterval

/-- A ring shot drives the channel: one with a SHORT failure is driven every 1,024 s only (R226). -/
def State.ringDrives (s : State) (c : Chan) : Bool :=
  decide ((s.tr.chan[c]).failed ≠ some .short) || s.since (s.tr.chan[c]).testAt (1024 * tps)

/-- The receive group of a ring shot is free: no pair holds it, nor a bead read group 0, nor a supervision shot group 3
(R217, R223). -/
def State.groupFree (s : State) (g : GroupNo) : Bool :=
  decide (s.tr.busy[g.val / 2]'(by omega) = none) &&
  (if g = 0 then (match s.bead.phase with
      | .reading _ => false
      | _ => true) else g != 3 || s.loc.supRun.isNone)

/-- A channel's part changed. -/
def State.updSound (s : State) (c : Chan) (f : ChanHealth → ChanHealth) : State :=
  { s with tr := { s.tr with chan := s.tr.chan.set c (f s.tr.chan[c]) } }

/-- A ring shot that is not fired: SKIP with its cause (R183, R226). It is no ring check. -/
def State.skipRing (s : State) (c : Chan) (cause : SkipCause) : State :=
  s.updSound c fun h => { h with
    ringAt := some s.now, cause := some cause, fit := none
    stops := stopRecords .skip (s.stopNegative (chanGroup c)) 0 0 0 [] }

/-- RING_SHOT_DUE (R183, R223, R226): it waits behind every pair. -/
def execRingShotDue (ch : Chan) (vdrvMv : Nat) (s : State) : Out :=
  let p := chanPath ch
  occurs (s.mayFire && s.sounds p && s.ringDue ch && !(s.tr.chan[ch]).ringBusy &&
      s.groupFree (chanGroup ch) && !s.pairWaits (groupPair p) &&
      (List.finRange 16).all fun (c : Chan) => chanGroup c != chanGroup ch || !(s.tr.chan[c]).ringBusy) s
    (if !s.ringDrives ch then s.skipRing ch .short
     else
       let s1 := s.vdrvCheck vdrvMv
       if vdrvMv < 2900 then s1.skipRing ch .lowdrv
       else s1.updSound ch fun h => { h with
         ringBusy := true, ringOvr := false, ringAt := some s.now, testAt := some s.now, cause := none })

/-- The stops that a ring shot takes (R223): from 2 P after drive end, eight at most. -/
def ringStops (freq : Nat) (l : List Nat) : List Nat :=
  (l.filter fun t => decide ((freqPulses freq + 2) * freqP3 freq ≤ 3 * t)).take 8

/-- A ring shot with corrected times (R138). -/
def State.ringSeen (s : State) (c : Chan) (m : RingMeasure) : RingMeasure :=
  let f := s.eff 33 ⟨(chanPath c).val, (chanPath c).isLt⟩
  { m with stops := ringStops f (s.ringTimes m).stops }

/-- The outcome of a ring shot, the first of Table 5.14 that applies (R224), by the regression of its stops (R207). -/
def ringOutcome (m : RingMeasure) (freq : Nat) : RingOutcome :=
  if m.trip then .short
  else if m.peakMv < 20 ∨ m.stops.length < 8 then .opened
  else
    let n := slopeSum m.stops
    let f : Int := 2800 * freqP3 freq
    if 92 * n ≤ f ∧ f ≤ 108 * n then .pass else .detuned

/-- Status of a ring shot (R199, R203, R204); a ring shot has no window and no margin. -/
def State.ringStatus (s : State) (c : Chan) (m : RingMeasure) : ShotStatus :=
  let h := s.tr.chan[c]
  if m.trip then .skip
  else if h.ringOvr then .ovr
  else if m.stops.length < 8 then .none
  else if s.inShadow c (h.ringAt.getD 0) m.stops then .shadow
  else .ok

/-- RING_SHOT_RESULT (R184, R198, R199, R203, R204, R207, R208, R223 to R226): a check in which the group overloaded counts as failed
with no outcome of its own, and one in a shadow is no check (log 42). -/
def execRingShotResult (ch : Chan) (m : RingMeasure) (s : State) : Out :=
  whenFormed m.wellFormed
    (occurs (s.tr.chan[ch]).ringBusy s
      (let h := s.tr.chan[ch]
       let x := s.ringSeen ch m
       let st := s.ringStatus ch x
       let l := if x.trip then [] else x.stops
       let s1 := s.updSound ch fun h => { h with
         ringBusy := false, ringOvr := false, fit := eightFit l
         cause := if x.trip then some .short else none
         stops := stopRecords st (s.stopNegative (chanGroup ch)) (peakUnits x.peakMv) 0 (l.headD 0) l }
       let p := chanPath ch
       if h.ringOvr then s1.updSound ch fun h => { h with run := 0 }
       else if st = .shadow then s1
       else s1.healthCheck ch (ringOutcome x (s.eff 33 ⟨p.val, p.isLt⟩))))

end Sys2Proof.Machine
end

