-- ==== Sys2Proof/Machine/TallyUnit.lean ====
section
/-!
DEFINITION. The tally engine: volumes, the harmonic model, the breach rule, passages and the tally checkpoints (§6.1
to §6.5). Trigonometric values are fixed-point numbers in 2^-40, angles are turns in 2^-29: the spec names the
functions and no precision. DESIGN CHOICE.
-/
namespace Sys2Proof.Machine

/-- 1 in the fixed-point format. -/
def fxOne : Int := 1099511627776

/-- A product in the fixed-point format. -/
def fxMul (a b : Int) : Int := a * b / fxOne

/-- cos of an angle of at most a quarter of π, in radians. -/
def fxCosSmall (x : Int) : Int :=
  let y := fxMul x x
  fxOne - fxMul y (fxOne - fxMul y (fxOne - fxMul y (fxOne - fxMul y (fxOne - y / 90) / 56) / 30) / 12) / 2

/-- sin of an angle of at most a quarter of π, in radians. -/
def fxSinSmall (x : Int) : Int :=
  let y := fxMul x x
  fxMul x (fxOne - fxMul y (fxOne - fxMul y (fxOne - fxMul y (fxOne - y / 72) / 42) / 20) / 6)

/-- Radians of a number of 2^-29 turns. -/
def fxRad (a : Int) : Int := a * 6908435304715 / 536870912

/-- cos of an angle in 2^-29 turns. -/
def fxCos (a : Int) : Int :=
  let t := a % 536870912
  let q := (t + 67108864) / 134217728 % 4
  let r := fxRad (t - (t + 67108864) / 134217728 * 134217728)
  if q = 0 then fxCosSmall r else if q = 1 then -(fxSinSmall r) else if q = 2 then -(fxCosSmall r) else fxSinSmall r

/-- sin of an angle in 2^-29 turns. -/
def fxSin (a : Int) : Int := fxCos (a - 134217728)

/-- The Hann weight of R234, in fixed point: n counts the samples of the window from the oldest. -/
def hann (n : Nat) : Int := (fxOne - fxCos (n * 536870912 / 1023)) / 2

/-- A window sample with its weight, its value less the mean, and twice its midpoint in intervals. -/
structure FitPoint where
  w : Int
  y : Int
  t2 : Int
  deriving DecidableEq, Repr

/-- X at a frequency in 2^-16 of 1/(4,096 Ts), real and imaginary part, in units of 2^-20 of the sample unit. -/
def dft (l : List FitPoint) (f : Int) : Int × Int :=
  l.foldl (fun acc p =>
    let wy := p.w * p.y / 1048576
    (acc.1 + fxMul wy (fxCos (f * p.t2)), acc.2 - fxMul wy (fxSin (f * p.t2)))) (0, 0)

/-- H of a candidate frequency (R234): harmonics 1 to 31. -/
def power (l : List FitPoint) (f : Int) : Int :=
  sumInt ((List.range 31).map fun (k : Nat) =>
    let x := dft l (((k : Int) + 1) * f)
    x.1 * x.1 + x.2 * x.2)

/-- The candidate with the largest power, a tie to the lower. -/
def bestOf : List (Nat × Int) → Nat × Int
  | [] => (16, 0)
  | [x] => x
  | x :: t =>
    let b := bestOf t
    if x.2 ≥ b.2 then x else b

/-- The harmonic sum h at an angle in 2^-29 turns of the fundamental (R234), in 2^-40 of 1/16 µm/s. -/
def harmonicFx (a b : List Int) (angle : Int) : Int :=
  sumInt ((List.range 31).map fun (k : Nat) =>
    let t := ((k : Int) + 1) * angle
    a.getD k 0 * fxCos t + b.getD k 0 * fxSin t)

/-- The harmonic sum in 1/16 µm/s, rounded once (R650). -/
def harmonicSum (a b : List Int) (angle : Int) : Int := rdiv (harmonicFx a b angle) 1099511627776

/-- The re-fit of R234 and R235 over the window, oldest sample first. -/
def Harmonic.refit (h : Harmonic) (window : List Sample) : Harmonic :=
  let n := window.length
  let mean16 := rdiv (4096 * sumInt (window.map (·.x))) n
  let pts := window.mapIdx fun i x =>
    ({ w := hann i, y := x.x * 4096 - mean16, t2 := 2 * (x.interval : Int) + 1 } : FitPoint)
  let wsum := sumInt (pts.map (·.w))
  let lo := if h.locked then max 16 (h.j0 - 4) else 16
  let hi := if h.locked then min 64 (h.j0 + 4) else 64
  let cands := (List.range (hi + 1 - lo)).map fun i => (lo + i, power pts ((lo + i) * 65536))
  let j0 := (bestOf cands).1
  let at_ (j : Nat) : Int := (cands.getD (j - lo) (0, 0)).2
  let den := at_ (j0 - 1) - 2 * at_ j0 + at_ (j0 + 1)
  let f0 : Int := if j0 = lo ∨ j0 = hi ∨ den = 0 then j0 * 65536
    else j0 * 65536 + (if 0 < den then 1 else -1) * rdiv (65536 * (at_ (j0 - 1) - at_ (j0 + 1))) (2 * den.natAbs)
  let co := (List.range 31).map fun (k : Nat) => dft pts (((k : Int) + 1) * f0)
  let d := if wsum = 0 then 1 else wsum.natAbs
  let a := co.map fun x => rdiv (2 * x.1 * 1048576 / 4096) d
  let b := co.map fun x => rdiv (-2 * x.2 * 1048576 / 4096) d
  let total := sumInt (pts.map fun p => p.w * p.y * p.y)
  let left := sumInt (pts.map fun p =>
    let e := p.y - rdiv (harmonicFx a b (f0 * p.t2)) 268435456
    p.w * e * e)
  let gaps := (window.filter (·.gap)).length
  { m := mean16, f0 := f0, j0 := j0, a := a, b := b, fitted := true
    locked := decide (2 * left ≤ total) && decide (gaps ≤ 256) }

/-- The model M at a calendar tick, in 1/16 µm/s (R235); dflt is used before any pair gives a mean. -/
def PathTally.model (t : PathTally) (band : Nat) (cal : Nat) (dflt : Int) : Int :=
  match sampleTicks band with
  | none => if t.recent.isEmpty then dflt else rdiv (sumInt t.recent) t.recent.length
  | some ts =>
    if t.harm.fitted then
      let m := rdiv t.harm.m 4096
      if t.harm.locked then m + harmonicSum t.harm.a t.harm.b (2 * cal * t.harm.f0 / ts) else m
    else if t.numV = 0 then dflt
    else rdiv t.sumV t.numV

/-- The state with one path's tally part changed. -/
def State.updTal (s : State) (p : PathNo) (f : PathTally → PathTally) : State :=
  { s with tal := { s.tal with path := s.tal.path.set p (f s.tal.path[p]) } }

/-- A per-path tally increased (Table 6.1). -/
def PathTally.add (t : PathTally) (n : Fin 8) (k : Nat) : PathTally :=
  { t with count := t.count.set n (t.count[n] + BitVec.ofNat 64 k), dirty := true }

/-- A per-path tally counted, but not while a clean runs (R652). -/
def State.countPath (s : State) (p : PathNo) (n : Fin 8) : State :=
  if s.tal.cleaning then s else s.updTal p fun t => t.add n 1

/-- Volume of a VALID pair of a calibrated path (R228), with n = v × F100 × τ. -/
def PathTally.volume (t : PathTally) (n : Int) : PathTally :=
  if 0 < n then
    let x := t.accAb + n.natAbs
    { t.add 0 (x / 52428800) with accAb := x % 52428800 }
  else
    let x := t.accBa + n.natAbs
    { t.add 1 (x / 52428800) with accBa := x % 52428800 }

/-- Sounded time not integrated (R229). -/
def PathTally.gap (t : PathTally) (ticks : Nat) : PathTally :=
  let x := t.accGap + ticks
  { t.add 7 (x / 32768) with accGap := x % 32768 }

/-- Calendar ticks of a pair's programme time. -/
def PairRecord.cal (r : PairRecord) : Nat := r.sec.toNat * 32768 + r.tick.toNat

/-- |r| exceeds k times θ / d, with θ = max(K × σ_res, v_floor) (R240, R241): the residue in 1/16 µm/s, σ_res² as a
fraction. -/
def beyond (sq : Nat × Nat) (set : Nat × Nat × Nat) (r : Int) (d : Nat) : Bool :=
  let a := d * r.natAbs
  decide (16 * set.2.1 < a) && decide (set.1 * set.1 * sq.1 < sq.2 * a * a || sq.2 = 0)

/-- |r| lies below θ / 2 (R243). -/
def belowHalf (sq : Nat × Nat) (set : Nat × Nat × Nat) (r : Int) : Bool :=
  let a := 2 * r.natAbs
  decide (a < 16 * set.2.1) || decide (sq.2 * a * a < set.1 * set.1 * sq.1)

/-- The breach rule for one VALID pair (R239 to R243): the path's part, and whether a breach is declared. -/
def PathTally.residue (t : PathTally) (set : Option (Nat × Nat × Nat)) (r : Int) : PathTally × Bool :=
  match set with
  | none => ({ t with resid := (r :: t.resid).take 256, warm := min 32 (t.warm + 1), runLen := 0, notValid := 0 }, false)
  | some k =>
    let far := beyond t.sigmaSq k r 1
    let small := belowHalf t.sigmaSq k r
    let rearm := if t.refractory && small then t.rearm + 1 else 0
    let t1 := { t with notValid := 0, rearm := if 8 ≤ rearm then 0 else rearm
                       refractory := t.refractory && decide (rearm < 8) }
    if far then
      if t.warm < 32 ∨ t.refractory then ({ t1 with runLen := 0 }, false)
      else
        let neg := decide (r < 0)
        let run := if 0 < t.runLen ∧ t.runNeg = neg then t.runLen + 1 else 1
        if k.2.2 ≤ run then ({ t1 with runLen := 0, runNeg := neg, refractory := true, rearm := 0 }, true)
        else ({ t1 with runLen := run, runNeg := neg }, false)
    else ({ t1 with runLen := 0, resid := (r :: t.resid).take 256, warm := min 32 (t.warm + 1) }, false)

/-- BREACH data (Table 6.8). -/
def breachData (p : PathNo) (r : Int) : Nat :=
  p.val * 4096 + (if r < 0 then 2048 else 0) + min 2047 (rdiv r 16).natAbs

/-- A breach (R243): counted, raised as a Sand trigger, INT while armed. -/
def State.breach (s : State) (p : PathNo) (r : Int) : State :=
  let s1 := (s.countPath p 4).raise (some .breach) 0x30 (breachData p r)
  if s.armedNow then s1.onset .int else s1

/-- 10^(-g/20) for a gain in dB / 2, in units of 10^-12. -/
def gainScale (u : Nat) : Nat :=
  ([1000000000, 794328235, 630957344, 501187234, 398107171, 316227766, 251188643, 199526231, 158489319,
    125892541] : List Nat).getD (u % 10) 0 * 1000 / 10 ^ (u / 10)

/-- A received amplitude lies below 0.40 of its reference (R244, R245). -/
def weakAmp (hist : List Nat) (a : Nat) : Bool := decide (200 * a < 40 * median2 hist)

/-- The pair is OCCLUDED (R245); passage detection needs 8 clear pairs. -/
def PathTally.occluded (t : PathTally) (r : PairRecord) : Bool :=
  let au := r.peakUp * gainScale r.gain
  let ad := r.peakDown * gainScale r.gain
  decide (8 ≤ t.ampUp.length) && r.fired && decide (r.up ≠ .ovr) && decide (r.down ≠ .ovr) &&
  decide (r.up ≠ .shadow) && decide (r.down ≠ .shadow) &&
  (decide (r.up = .none) || decide (r.down = .none) || weakAmp t.ampUp au || weakAmp t.ampDown ad)

/-- The raw tick of a calendar tick at or before now. -/
def State.rawOf (s : State) (cal : Nat) : Nat := s.now - (s.calTicks - cal)

/-- The openings of zones linked to a path. -/
def State.linkedTo (s : State) (p : PathNo) (z : ZoneNo) : Bool := decide (s.zoneKind z = some (.intruder (some p)))

/-- The opening window contains a raw tick (R248). -/
def Opening.contains (o : Opening) (t : Nat) : Bool :=
  decide (o.onset ≤ t + 2 * tps) && match o.ended with
    | some e => decide (t ≤ e + 2 * tps)
    | none => true

/-- The earliest opening that contains a passage takes it; the zone whose second passage it is comes out. -/
def joinOpening (link : ZoneNo → Bool) (t : Nat) : List Opening → List Opening × Option (Option ZoneNo)
  | [] => ([], none)
  | o :: rest =>
    if link o.zone && o.contains t then
      ({ o with joined := o.joined + 1 } :: rest, some (if o.joined = 1 then some o.zone else none))
    else
      let r := joinOpening link t rest
      (o :: r.1, r.2)

/-- A passage at a raw tick (R246, R248, R249): counted, journalled, joined to an opening; a tailgating event, or a
passage while armed, is a passage-policy event. -/
def State.passage (s : State) (p : PathNo) (t : Nat) : State :=
  let s1 := (s.countPath p 2).journal 0x31 (p.val * 4096)
  let j := joinOpening (s.linkedTo p) t s1.tal.openings
  let s2 : State := { s1 with tal := { s1.tal with openings := j.1 } }
  let s3 := if j.2.isNone then s2.updTal p fun x =>
      { x with loose := t :: x.loose.filter fun u => decide (s.now ≤ u + 2 * tps) } else s2
  match j.2 with
  | some (some z) => s3.tailgate p z
  | _ =>
    if s.armedNow then (s3.raise (some .passagePolicy) 0x34 (p.val * 4096)).onset .int else s3

/-- The passage rules for one pair (R244 to R247). -/
def State.passageRules (s : State) (p : PathNo) (r : PairRecord) : State :=
  let t := s.tal.path[p]
  let occ := t.occluded r
  if occ then
    s.updTal p fun t => { t with
      clearRun := 0
      episode := match t.episode with
        | some e => some e
        | none => if 4 ≤ t.clearRun then some r.cal else none }
  else if r.status = .valid then
    let s1 := s.updTal p fun t => { t with
      clearRun := t.clearRun + 1, episode := none, blocked := false
      ampUp := (r.peakUp * gainScale r.gain :: t.ampUp).take 32
      ampDown := (r.peakDown * gainScale r.gain :: t.ampDown).take 32 }
    match t.episode with
    | none => s1
    | some e =>
      if t.blocked then s1.journal 0x32 (p.val * 4096)
      else if r.cal ≤ e + 4 * tps then s1.passage p (s.rawOf r.cal)
      else (s1.journal 0x32 (p.val * 4096 + 1)).journal 0x32 (p.val * 4096)
  else s.updTal p fun t => { t with clearRun := 0 }

/-- The volume or gap of one pair (R228, R229); while a clean runs, no tally and no accumulator (R652). -/
def State.integrate (s : State) (p : PathNo) (r : PairRecord) : State :=
  if s.tal.cleaning then s
  else s.updTal p fun t =>
    let t1 := if r.status = .valid then t.add 5 1 else t.add 6 1
    match s.aperture p with
    | some a => if r.status = .valid ∧ ¬ r.uncal then t1.volume (r.v * a.f100 * r.period) else t1.gap r.period
    | none => t1.gap r.period

/-- A VALID velocity added to its interval (R233). -/
def addInterval (iv : Nat) (v : Int) : List (Nat × Int × Nat) → List (Nat × Int × Nat)
  | [] => [(iv, v, 1)]
  | x :: t => if x.1 = iv then (iv, x.2.1 + v, x.2.2 + 1) :: t else x :: addInterval iv v t

/-- Sum and number of the VALID velocities of an interval. -/
def PathTally.interval (t : PathTally) (iv : Nat) : Int × Nat := ((t.ivs.find? fun x => x.1 = iv).map (·.2)).getD (0, 0)

/-- The intervals before one give no sample any more. -/
def PathTally.fromInterval (t : PathTally) (iv : Nat) : PathTally :=
  { t with ivNext := iv, ivs := t.ivs.filter fun x => decide (iv ≤ x.1) }

/-- The tracker of one pair (R233, R235, R237, R239 to R243). -/
def State.trackPair (s : State) (p : PathNo) (r : PairRecord) : State :=
  let part : Fin 8 := ⟨p.val, p.isLt⟩
  let band := s.eff 38 part
  if r.status ≠ .valid then
    s.updTal p fun t =>
      let n := min 9 (t.notValid + 1)
      { t with notValid := n, runLen := if n = 9 then 0 else t.runLen }
  else
    let t := s.tal.path[p]
    let res := r.v - t.model band r.cal r.v
    let set := breachSet (s.eff 35 part)
    let x := t.residue set res
    let within : Bool := match set with
      | some k => !beyond t.sigmaSq k res 1
      | none => true
    let battery := decide (s.dev.mode = .bedBattery)
    let iv := match sampleTicks band with
      | some ts => r.cal / ts
      | none => 0
    let t1 := { x.1 with
      recent := if (sampleTicks band).isNone then (r.v :: t.recent).take 256 else []
      sumV := t.sumV + r.v, numV := t.numV + 1
      ivs := if (sampleTicks band).isSome ∧ t.ivNext ≤ iv ∧ ¬ battery then addInterval iv r.v t.ivs else t.ivs
      harm := if battery ∧ within ∧ t.harm.fitted then
        { t.harm with m := t.harm.m + rdiv (4096 * r.v - t.harm.m) 256 } else t.harm }
    let s1 := s.updTal p fun _ => t1
    if x.2 then s1.breach p res else s1

/-- A bead value waits for a part (R62). -/
def State.waits (s : State) (b : BeadNo) (part : Fin 8) : Bool :=
  s.bead.waiting.any fun w => decide (w.bead = b) && decide (w.part = part)

/-- Beads 35 and 38 take what waits for the path of a record (Table 2.4): the sensitivity at a breach evaluation, the band at any
tally update, with its tracker restarted (R236). -/
def State.takeTallyBeads (s : State) (r : PairRecord) : State :=
  let part : Fin 8 := ⟨r.path.val, r.path.isLt⟩
  let s1 := if r.status = .valid then s.takeWaiting 35 part else s
  if s1.waits 38 part then (s1.takeWaiting 38 part).updTal r.path fun t => { t with restartDue := true } else s1

/-- TALLY_PAIR_UPDATE (R228, R229, R231, R233, R239 to R249): the oldest record handed over. -/
def execTallyPairUpdate (s : State) : Out :=
  match s.tr.handed with
  | [] => .next s
  | r :: rest =>
    let s0 : State := { s with tr := { s.tr with handed := rest } }
    let s0 := s0.takeTallyBeads r
    let s1 := if (s0.tal.path[r.path]).restartDue then s0.updTal r.path fun t => t.restart (s0.intervalNow r.path) else s0
    let s2 := (((s1.integrate r.path r).trackPair r.path r).passageRules r.path r).settle
    .next (if s.dev.mode = .bedBattery then s2.requestPath r.path else s2)

/-- PATH_BLOCKED (R247). -/
def execPathBlocked (path : PathNo) (s : State) : Out :=
  let t := s.tal.path[path]
  occurs (!t.blocked && match t.episode with
      | some e => decide (e + 4 * tps < s.calTicks)
      | none => false) s
    ((s.updTal path fun t => { t with blocked := true }).journal 0x32 (path.val * 4096 + 1))

/-- Every pair of the interval that ended has been taken (R233). -/
def State.intervalIn (s : State) (p : PathNo) (endCal : Nat) : Bool :=
  let q := s.tr.path[p]
  let out (t : Option Nat) : Bool := match t with
    | some x => decide (endCal ≤ s.calOf x)
    | none => true
  out q.firing && out q.waiting && s.tr.handed.all fun r => r.path != p || decide (endCal ≤ r.cal)

/-- The sample of the interval that ended: the mean of its VALID pairs, or a gap sample with the model at its midpoint (R233). -/
def PathTally.sample (t : PathTally) (band ts : Nat) : Sample :=
  let i := t.interval t.ivNext
  if 0 < i.2 then { interval := t.ivNext, x := rdiv i.1 i.2, gap := false }
  else { interval := t.ivNext, x := t.model band (t.ivNext * ts + ts / 2) 0, gap := true }

/-- The path with that sample in its window, which holds the latest 1,024 (R233). -/
def PathTally.sampled (t : PathTally) (band ts : Nat) : PathTally :=
  let all := t.window ++ [t.sample band ts]
  { t.fromInterval (t.ivNext + 1) with window := all.drop (all.length - 1024), sinceFit := t.sinceFit + 1 }

/-- HARMONIC_SAMPLE (R233 to R235, R237, R238): the sample of the interval that ended; after 64 new samples the model is
fitted again and written to the working area. In Bedrock on battery no sample is taken: the tick passes over the intervals that end
then. -/
def execHarmonicSample (path : PathNo) (s : State) : Out :=
  let band := s.eff 38 ⟨path.val, path.isLt⟩
  match sampleTicks band with
  | none => .next s
  | some ts =>
    let t := s.tal.path[path]
    occurs (s.configured path && decide (s.dev.mode ≠ .bedBattery) && !t.restartDue &&
        decide ((t.ivNext + 1) * ts ≤ s.calTicks) && s.intervalIn path ((t.ivNext + 1) * ts)) s
      (let t1 := t.sampled band ts
       if 64 ≤ t1.sinceFit ∧ 256 ≤ t1.window.length then
         let h := t.harm.refit t1.window
         let s1 := (s.updTal path fun _ => { t1 with harm := h, sinceFit := 0 }).writeWork path
         if h.locked = t.harm.locked then s1 else s1.journal 0x35 (path.val * 4096 + bit h.locked)
       else s.updTal path fun _ => t1)

/-- TRACKER_RESTART (R236, R240). -/
def execTrackerRestart (path : PathNo) (s : State) : Out :=
  occurs (s.tal.path[path]).restartDue s (s.updTal path fun t => t.restart (s.intervalNow path))

/-- PATH_TALLY_CHECKPOINT (R231). -/
def execPathTallyCheckpoint (path : PathNo) (s : State) : Out :=
  let t := s.tal.path[path]
  occurs (t.dirty && (decide (s.dev.mode = .bedBattery) || match t.writtenAt with
      | some w => decide (w + tps ≤ s.now)
      | none => true)) s
    (s.requestPath path)

/-- DEVICE_TALLY_CHECKPOINT (R230, R231, R252). -/
def execDeviceTallyCheckpoint (s : State) : Out :=
  occurs (s.tal.scanned &&
      decide (s.tal.devWrittenAt + (if s.dev.mode = .bedBattery then 3600 * tps else 10 * tps) ≤ s.now)) s
    ((s.readSources).requestDeviceTallies)

end Sys2Proof.Machine
end

