-- ==== Sys2Proof/Machine/Camera.lean ====
section
/-!
DEFINITION. The camera ports: packets, frames, the CCI master, replay, frame sync, restart (chapter 7).
-/
namespace Sys2Proof.Machine

/-- Bits of a pixel of a data type (Table 7.4). -/
def dtBits (dt : Nat) : Nat := if dt = 0x2A then 8 else if dt = 0x2B then 10 else 12

/-- Samples of a packed line as the sensor sends them, each of the type's own width (CSI-2 packing). PRESUMED. -/
def unpackRaw (dt : Nat) : List Byte → List Nat
  | a :: b :: c :: d :: e :: t =>
    if dt = 0x2A then a.toNat :: unpackRaw dt (b :: c :: d :: e :: t)
    else if dt = 0x2B then
      (a.toNat * 4 + e.toNat % 4) :: (b.toNat * 4 + e.toNat / 4 % 4) :: (c.toNat * 4 + e.toNat / 16 % 4) ::
        (d.toNat * 4 + e.toNat / 64) :: unpackRaw dt t
    else (a.toNat * 16 + c.toNat % 16) :: (b.toNat * 16 + c.toNat / 16) :: unpackRaw dt (d :: e :: t)
  | a :: b :: c :: t =>
    if dt = 0x2A then (a :: b :: c :: t).map fun x => x.toNat
    else if dt = 0x2C then [a.toNat * 16 + c.toNat % 16, b.toNat * 16 + c.toNat / 16]
    else []
  | l => if dt = 0x2A then l.map fun x => x.toNat else []

/-- The packed line of samples. -/
def packRaw (dt : Nat) : List Nat → List Byte
  | a :: b :: c :: d :: t =>
    if dt = 0x2A then BitVec.ofNat 8 a :: packRaw dt (b :: c :: d :: t)
    else if dt = 0x2B then
      [BitVec.ofNat 8 (a / 4), BitVec.ofNat 8 (b / 4), BitVec.ofNat 8 (c / 4), BitVec.ofNat 8 (d / 4),
       BitVec.ofNat 8 (a % 4 + b % 4 * 4 + c % 4 * 16 + d % 4 * 64)] ++ packRaw dt t
    else [BitVec.ofNat 8 (a / 16), BitVec.ofNat 8 (b / 16), BitVec.ofNat 8 (a % 16 + b % 16 * 16)] ++
      packRaw dt (c :: d :: t)
  | [a, b] =>
    if dt = 0x2A then [BitVec.ofNat 8 a, BitVec.ofNat 8 b]
    else if dt = 0x2C then [BitVec.ofNat 8 (a / 16), BitVec.ofNat 8 (b / 16), BitVec.ofNat 8 (a % 16 + b % 16 * 16)]
    else [BitVec.ofNat 8 (a / 4), BitVec.ofNat 8 (b / 4), 0, 0, BitVec.ofNat 8 (a % 4 + b % 4 * 4)]
  | l => if dt = 0x2A then l.map fun x => BitVec.ofNat 8 x else []

/-- A line padded to whole 128-bit words. -/
def padWords (l : List Byte) : List Byte := l ++ zeros ((16 - l.length % 16) % 16)

/-- Kiln context of a camera port. -/
def camCtx (k : CamPort) : Ctx := ⟨k.val, by omega⟩

/-- A parameter of the working set (Table 8.1). -/
def KCtx.par (k : KCtx) (i : Fin 46) : Nat := (k.work[i]).toNat

/-- A context as its next frame will find it: an armed shadow set is taken at the first line slot (R326). -/
def KCtx.next (k : KCtx) : KCtx := if k.armed then { k with work := k.shadow } else k

/-- The black level of a phase in 1/256 as the port pads with it (R286, R339): BL_FIXED with BL_MODE 1, also before the first line
slot (R338). -/
def KCtx.padLevel (k : KCtx) (i : Fin 4) : Nat :=
  let x := if k.cur.isSome then k else k.next
  if x.par 6 = 1 then 256 * x.par 7 else k.bl[i]

/-- Black-level samples of the type's own width for the columns from one on of an input row (R286, R287, R339): the
unsubtracted black level of each sample's phase. -/
def State.padSamples (s : State) (k : CamPort) (dt ob row col n : Nat) : List Nat :=
  (List.range n).map fun i =>
    (s.kiln.ctx[camCtx k]).padLevel (phaseOf ((col + i : Nat) : Int) ((row + ob : Nat) : Int)) / 256 / 2 ^ (12 - dtBits dt)

/-- Declared frame period in 1/65,536 ns. -/
def RecipeHeader.period (h : RecipeHeader) : Nat := if h.rate = 0 then 0 else 100000000000 * 65536 / h.rate
/-- Period of the frame grid in ns (R315). -/
def RecipeHeader.grid (h : RecipeHeader) : Nat := if h.rate = 0 then 1 else rdivNat 100000000000 h.rate
/-- Lines of a frame as declared. -/
def RecipeHeader.allLines (h : RecipeHeader) : Nat := h.ob + h.lines
/-- FSYNC triggered. -/
def RecipeHeader.triggered (h : RecipeHeader) : Bool := h.flags.getLsbD 2

/-- Two descriptions of one frame. -/
def CamFrame.same (f g : CamFrame) : Bool := decide (g.counter = f.counter) && decide (g.stamp = f.stamp)

/-- The frame is given to the kiln's context at its start. -/
def State.newFrame (s : State) (k : CamPort) (f : CamFrame) : State :=
  let c := s.kiln.ctx[camCtx k]
  { s with kiln := { s.kiln with ctx := s.kiln.ctx.set (camCtx k) { c with frames := c.frames ++ [f] } } }

/-- What the kiln knows of a frame brought up to date at its close; a frame it no longer holds stays forgotten. -/
def State.putFrame (s : State) (k : CamPort) (f : CamFrame) : State :=
  let c := s.kiln.ctx[camCtx k]
  let c1 : KCtx := { c with
    cur := match c.cur with
      | some g => if f.same g then some f else some g
      | none => none
    frames := c.frames.map fun g => if f.same g then f else g }
  { s with kiln := { s.kiln with ctx := s.kiln.ctx.set (camCtx k) c1 } }

/-- The largest exposure in lines that a map allows. -/
def ExpMap.maxExp (m : ExpMap) : Nat := max m.minExp (m.frameLen - m.margin)

/-- The loops of a context at the port's entry to STREAMING (R338, R360, Table 8.4): P starts at the last converged values
where the recipe is the same, else at half the maximum exposure and 1×; the starting values go out as a burst at the end
of frame 0. -/
def State.loopsStart (s : State) (k : CamPort) : State :=
  let c := s.kiln.ctx[camCtx k]
  let c0 := { c with blSet := false, updates := 0, quiet := 0, awbFrames := 0, updFrame := 0, maxSince := none, lowSince := none,
                     aePend := false, awbPend := false, statsNew := false }
  match (s.cam[k]).expmap, s.portRecipe k with
  | some m, some r =>
    let kept := match c.lastConv with
      | some (e, g, code, r0) => if r0 = r then some (e, g, code) else none
      | none => none
    let v := kept.getD (m.maxExp / 2, 4096, m.code1)
    let c1 := { c0 with exposure := v.1, gain := v.2.1, converged := c.converged && kept.isSome }
    ({ s with kiln := { s.kiln with ctx := s.kiln.ctx.set (camCtx k) c1 } } : State).updCam k fun q => { q with
      burst := some (v.1, v.2.2) }
  | _, _ => { s with kiln := { s.kiln with ctx := s.kiln.ctx.set (camCtx k) c0 } }

/-- The flags that a port gives a frame (Table 8.6, bits 0 to 7). -/
def CamFrame.flagWord (f : CamFrame) : Nat :=
  bitsNat [f.longLine, f.shortLine, f.longFrame, f.shortFrame, f.stall, f.crcErr, f.expLate, f.free]

/-- A bad frame (R290). -/
def CamFrame.bad (f : CamFrame) : Bool :=
  f.shortFrame || f.longFrame || f.stall || decide (f.matched = 0) || decide (f.lines < 16 * f.badLines)

/-- What a port keeps through RESTART: MCLK and the restarts counted (R313, R320). -/
def CamSt.halt (q : CamSt) (now : Nat) : CamSt := { q.stopped now with restarts := q.restarts }

/-- The port stops in a state other than OFF: CEN deasserted; MCLK runs on in RESTART only. -/
def State.camStop (s : State) (k : CamPort) (st : PortState) : State :=
  let s1 := if st = .restart then s else s.mclkOff k
  (s1.setCam k st).updCam k fun q => { q.halt s.now with mclk := q.mclk && decide (st = .restart) }

/-- RESTART, or FAILED at the third restart within 60 s (R320); a frame in progress is finished first (R313). -/
def State.toRestart (s : State) (k : CamPort) : State :=
  let times := s.now :: recent s.now (60 * tps) (s.cam[k]).restarts
  let s1 := s.updCam k fun q => { q with restarts := times }
  let st : PortState := if 3 ≤ times.length then .failed else .restart
  let s2 := if (s.cam[k]).frame.isSome then
      (s1.setCam k st).updCam k fun q => { q with leave := some st, failCause := none, burst := none, burstBusy := false }
    else s1.camStop k st
  if st = .failed then s2.journal 0x76 (k.val * 4096) else s2

/-- A port enters the state of its use as though on a Sand entry (R281, R321). -/
def State.camStart (s : State) (k : CamPort) : State :=
  let down : Bool := match s.dev.changeover with
    | .powerDown _ => true
    | _ => false
  if s.dev.mode = .sand ∧ ¬ down then ((s.mclkOff k).updCam k fun q => { q.stopped s.now with mclk := false }).setCam k (s.camEntry k)
  else s

/-- What a port does that leaves its state at a frame boundary (R302, R313, R321). -/
def State.leaveNow (s : State) (k : CamPort) (st : PortState) : State :=
  let s1 : State := if (s.cam[k]).held.isSome then { s with mov := { s.mov with syncDue := true } } else s
  match st with
  | .restart => if (s.cam[k]).state = .restart then s1.camStop k .restart else s1.toRestart k
  | .replay => s1.camStart k
  | x => s1.camStop k x

/-- A channel waits for a frame start of the port, so that its FIFO discards the lines it is given (R394). -/
def State.fifoDiscards (s : State) (k : CamPort) : Bool :=
  allChannels.any fun c => decide ((s.mov.chan[c]).state = .wait) && decide ((s.mov.chan[c]).waitFrame = some (k, false))

/-- A frame start delivered by a port: a WAIT for it may complete, and the first line that the FIFO delivers then is the
first of this frame (R394). -/
def State.frameStartSeen (s : State) (k : CamPort) : State :=
  if s.fifoDiscards k then
    let mark (q : MChan) : MChan :=
      if q.state = .wait ∧ q.waitFrame = some (k, false) then { q with waitFrame := some (k, true) } else q
    let ch : Vector MChan 32 := Vector.ofFn fun (c : MovCh) => mark s.mov.chan[c]
    ({ s with mov := { s.mov with chan := ch } } : State).updCam k fun q => { q with fifo := [] }
  else s

/-- A frame closes (R287, R288, R290): short frames are filled with black-level lines; the frame is checked and
delivered; after 8 bad frames in a row the port restarts. -/
def State.closeFrame (s : State) (k : CamPort) (stall : Bool) : State :=
  match (s.cam[k]).frame, s.portRecipe k with
  | some f, some r =>
    let missing := r.hdr.allLines - f.lines
    let f1 := { f with stall := stall, shortFrame := decide (0 < missing) }
    let blank (row : Nat) : List Byte := padWords (packRaw r.hdr.dt (s.padSamples k r.hdr.dt r.hdr.ob row 0 r.hdr.width))
    let bad := f1.bad && !f.discard
    let s1 := s.updCam k fun q => { q with
      frame := none, fePend := false
      badRun := if f.discard then q.badRun else if bad then q.badRun + 1 else 0
      lastFlags := if f.discard then q.lastFlags else BitVec.ofNat 16 f1.flagWord
      fifo := bif f.discard || s.fifoDiscards k then q.fifo else q.fifo ++ (List.range missing).map fun i => blank (f.lines + i) }
    let s2 := if f.discard then s1 else s1.putFrame k f1
    match (s.cam[k]).leave with
    | some st => (s2.updCam k fun q => { q with leave := none }).leaveNow k st
    | none => if 8 ≤ (s2.cam[k]).badRun then (s2.updCam k fun q => { q with badRun := 0 }).toRestart k else s2
  | some _, none =>
    let s1 := s.updCam k fun q => { q with frame := none, fePend := false, leave := none }
    match (s.cam[k]).leave with
    | some st => s1.leaveNow k st
    | none => s1
  | none, _ => s.updCam k fun q => { q with fePend := false }

/-- A pixel line of the recipe's data type in an open frame (R285 to R287). -/
def State.pixelLine (s : State) (k : CamPort) (h : RecipeHeader) (f : CamFrame) (p : CsiPacket) : State :=
  if h.allLines ≤ f.lines then
    s.updCam k fun q => { q with frame := some { f with longFrame := true, matched := f.matched + 1 }
                                 crcErr := q.crcErr + (if p.crcBad then 1 else 0) }
  else
    let samples := unpackRaw h.dt p.payload
    let long := decide (h.width < samples.length)
    let short := decide (samples.length < h.width)
    let line := (samples ++ s.padSamples k h.dt h.ob f.lines samples.length (h.width - samples.length)).take h.width
    let f1 := { f with
      lines := f.lines + 1, matched := f.matched + 1, longLine := f.longLine || long, shortLine := f.shortLine || short
      crcErr := f.crcErr || p.crcBad, badLines := f.badLines + (if long || short || p.crcBad then 1 else 0) }
    s.updCam k fun q => { q with
      frame := some f1
      crcErr := q.crcErr + (if p.crcBad then 1 else 0)
      fifo := bif f.discard || s.fifoDiscards k then q.fifo else q.fifo ++ [padWords (packRaw h.dt line)] }

/-- CSI2_PACKET_RECEIVED (R284 to R287, Table 7.4): by data type and virtual channel; nothing is received while CEN is
deasserted. -/
def execCsi2PacketReceived (k : CamPort) (pkt : CsiPacket) (s : State) : Out :=
  whenFormed pkt.wellFormed
    (match s.portRecipe k with
    | none => Host.Outcome.next s
    | some r =>
      occurs (s.cam[k]).cen s
        (let dt := pkt.dt.toNat
         if pkt.hdrBad then s.updCam k fun q => { q with hdrErr := q.hdrErr + 1 }
         else if pkt.vc.val ≠ r.hdr.vc then s.updCam k fun q => { q with otherVc := q.otherVc + 1 }
         else if dt = 0 then s.updCam k fun q => { q with fsPend := q.fsPend ++ [pkt.word] }
         else if dt = 1 then s.updCam k fun q => { q with fePend := true }
         else if dt = 2 ∨ dt = 3 ∨ (8 ≤ dt ∧ dt ≤ 15) ∨ dt = 0x12 then s
         else if 0x2A ≤ dt ∧ dt ≤ 0x2C then
           (match (s.cam[k]).frame with
             | some f => if dt = r.hdr.dt then s.pixelLine k r.hdr f pkt else s
             | none => s)
         else s.updCam k fun q => { q with unsupported := q.unsupported + 1 }))

/-- Fabric time of an event at a phase of the present tick, in 1/65,536 ns. -/
def State.stampAt (s : State) (phase : Nat) : Nat := s.fab.time + phase % 2000000000

/-- Distance of a time stamp from its nearest grid point, in 1/65,536 ns (R316). -/
def gridError (stamp grid : Nat) : Nat :=
  let r := stamp % (grid * 65536)
  min r (grid * 65536 - r)

/-- A change of the port's bead waits for its frame boundary (R321). -/
def State.useWaits (s : State) (k : CamPort) : Bool := s.bead.waiting.any fun w => decide (w.bead = camBead k)

/-- CAM_FRAME_START (R288, R289, R291, R307, R311, R314, R316, R318): phase places the packet inside the present tick. An open frame
closes, whatever the port's state; where a change of its bead waits, that is the port's frame boundary, and the change goes before
the frame that starts (R321). -/
def execCamFrameStart (k : CamPort) (phase : Nat) (s : State) : Out :=
  match (s.cam[k]).fsPend, s.portRecipe k with
  | word :: rest, some r =>
    occurs (decide ((s.cam[k]).state = .waiting) || decide ((s.cam[k]).state = .streaming) || (s.cam[k]).frame.isSome) s
      (let closes := (s.cam[k]).frame.isSome
       let s0 := s.updCam k fun q => { q with fsPend := if closes && s.useWaits k then q.fsPend else rest }
       let s1 := if closes then s0.closeFrame k false else s0
       if (closes && s.useWaits k) || (decide ((s1.cam[k]).state ≠ .waiting) && decide ((s1.cam[k]).state ≠ .streaming)) then s1
       else
         let first := decide ((s1.cam[k]).state = .waiting)
         let s2 := if first then
             (((s1.setCam k .streaming).updCam k fun q => { q with
               frames := 0, rateNext := s.now + 60 * tps, measured := none, joined := false }).loopsStart
               k).regRequest (.frameRate k)
           else s1
         let q := s2.cam[k]
         let stamp := s.stampAt phase
         let drop := match q.lastStart with
           | some t => decide (100 * (stamp - t) < 95 * r.hdr.period)
           | none => false
         let trig := r.hdr.triggered && !q.freeRun
         let off := trig && decide (r.hdr.grid * 65536 < 10 * gridError stamp r.hdr.grid)
         let offRun := if off then q.offGrid + 1 else 0
         let ignored := decide (8 ≤ offRun)
         let codes := match q.codesNext with
           | some (e, g, n) => if n ≤ q.frames then (e, g) else (q.exposure, q.gain)
           | none => (q.exposure, q.gain)
         let f : CamFrame := {
           stamp := stamp, num := word, counter := q.counter, startTick := s.now, index := q.frames, discard := drop
           expLate := q.burstBusy, free := !trig || ignored, exposure := codes.1, gain := codes.2 }
         let s3 := s2.updCam k fun q => { q with
           frame := some f, frames := q.frames + 1
           counter := if drop then q.counter else q.counter + 1
           dropped := if drop then q.dropped + 1 else q.dropped
           lastStart := if drop then q.lastStart else some stamp
           exposure := codes.1, gain := codes.2
           codesNext := match q.codesNext with
             | some (e, g, n) => if n ≤ q.frames then none else some (e, g, n)
             | none => none
           offGrid := if ignored then 0 else offRun, freeRun := q.freeRun || ignored }
         let s4 := if drop then s3 else (s3.newFrame k f).frameStartSeen k
         if ignored then s4.journal 0x79 (k.val * 4096) else s4)
  | _, _ => .next s

/-- CAM_FRAME_END (R288, R290). -/
def execCamFrameEnd (k : CamPort) (s : State) : Out := occurs (s.cam[k]).fePend s (s.closeFrame k false)

/-- CAM_FRAME_STALL (R288): twice the declared frame period without a close. -/
def execCamFrameStall (k : CamPort) (s : State) : Out :=
  match (s.cam[k]).frame, s.portRecipe k with
  | some f, some r =>
    occurs (decide (f.startTick + cdiv (2 * r.hdr.period) 2000000000 ≤ s.now)) s (s.closeFrame k true)
  | _, _ => .next s

/-- The writes of an exposure burst (R307): hold where a hold register is declared, exposure, gain, release. -/
def ExpMap.burstWrites (m : ExpMap) (e g : Nat) : List (Nat × List Byte) :=
  let hold := m.holdReg ≠ 0
  (if hold then [(m.holdReg, [m.holdVal])] else []) ++
    [(m.expReg, bytesBE m.expWidth e), (m.gainReg, bytesBE m.gainWidth g)] ++
    (if hold then [(m.holdReg, [m.relVal])] else [])

/-- A write of a recipe's port on its CCI bus (R292, Table 7.6): with 1-byte register addressing the high byte is ignored (R304). -/
def RecipeHeader.cciWrite (h : RecipeHeader) (w : Nat × List Byte) : CciWrite where
  addr := h.cciAddr
  khz := if h.cciOpts.toNat % 4 = 0 then 100 else if h.cciOpts.toNat % 4 = 1 then 400 else 1000
  width := if h.cciOpts.getLsbD 2 then 2 else 1
  reg := if h.cciOpts.getLsbD 2 then w.1 else w.1 % 256
  data := w.2

/-- The writes of a port's transfer. -/
def State.cciWrites (s : State) (k : CamPort) (l : List (Nat × List Byte)) : List CciWrite :=
  match s.portRecipe k with
  | some r => l.map r.hdr.cciWrite
  | none => []

/-- A transfer receives a NACK (R293): repeated after 1 ms, or failed after three repetitions. -/
def CamSt.nack (q : CamSt) (now : Nat) : CamSt :=
  if 3 ≤ q.reps then { q with nacks := none, failCause := some 1 }
  else { q with nacks := some q.reps, cciNext := now + msTicks 1 }

/-- SDA and SCL of a port are high-impedance (R295). -/
def CamSt.cciReleased (q : CamSt) : Bool := !q.cen

/-- A burst ends (R307, R308): its codes take effect from the frame of the latency, or it has failed; an update that
waited comes next. -/
def State.burstEnd (s : State) (k : CamPort) (ok : Bool) : State :=
  let q := s.cam[k]
  let fails := if ok then 0 else q.burstFails + 1
  let written := if q.burstBusy then q.burstAt else q.frames - 1
  let s0 := if ok then s.updCtx (camCtx k) fun x => { x with updFrame := max x.updFrame written } else s
  let s1 := s0.updCam k fun q => { q with
    burst := q.burstWait, burstWait := none, burstBusy := false, nacks := none, burstFails := fails
    codesNext := match ok, q.burst, q.expmap with
      | true, some (e, g), some m => some (e, g, written + m.latency)
      | _, _, _ => q.codesNext
    cciLast := match ok, q.burst, q.expmap with
      | true, some (e, g), some m => s.cciWrites k (m.burstWrites e g)
      | _, _, _ => q.cciLast }
  if 8 ≤ fails then (s1.updCam k fun q => { q with burstFails := 0 }).toRestart k else s1

/-- EXPOSURE_BURST (R307, R308): at a frame end the hold, exposure, gain and release writes go out as one burst. -/
def execExposureBurst (k : CamPort) (ack : Bool) (s : State) : Out :=
  let q := s.cam[k]
  occurs (decide (q.state = .streaming) && q.burst.isSome && q.expmap.isSome && !q.burstBusy && q.frame.isNone && !q.cciReleased &&
      decide (0 < q.frames)) s
    (if ack then s.burstEnd k true else s.updCam k fun q => { q with burstBusy := true, burstAt := q.frames - 1, nacks := some 0, cciNext := s.now + msTicks 1 })

/-- The entry that a replay has reached. -/
def State.entryAt (s : State) (k : CamPort) : Option Entry :=
  match s.portRecipe k with
  | some r => some (r.entries.getD (s.cam[k]).pc .done)
  | none => none

/-- The sequence runs, the bus is driven (R295), and no transfer waits for its repetition. -/
def State.seqRuns (s : State) (k : CamPort) : Bool :=
  decide ((s.cam[k]).state = .replay) && !(s.cam[k]).cciReleased && (s.cam[k]).nacks.isNone && (s.cam[k]).failCause.isNone &&
  match (s.cam[k]).phase with
  | .run => true
  | .pollTill _ => true
  | _ => false

/-- The next entry. -/
def CamSt.advance (q : CamSt) : CamSt := { q with pc := q.pc + 1, phase := .run, nacks := none, reps := 0 }

/-- CCI_NACK_RETRY (R293, R308, R311): the repetition after 1 ms, at most three; then a replay or a burst has failed.
An RMW or POLL whose repetition is answered goes on at its own step, with the repetitions that it has had. -/
def execCciNackRetry (k : CamPort) (ack : Bool) (s : State) : Out :=
  let q := s.cam[k]
  match q.nacks with
  | none => .next s
  | some n =>
    occurs (decide (q.cciNext ≤ s.now)) s
      (if ack then
        (if q.burstBusy then s.burstEnd k true
         else match s.entryAt k with
           | some (.write reg data) => s.updCam k fun q => { q.advance with cciLast := s.cciWrites k [(reg, data)] }
           | _ => s.updCam k fun q => { q with nacks := none, reps := n + 1 })
       else if n + 1 < 3 then s.updCam k fun q => { q with nacks := some (n + 1), cciNext := s.now + msTicks 1 }
       else if q.burstBusy then s.burstEnd k false
       else s.updCam k fun q => { q with nacks := none, failCause := some 1 })

/-- CCI_STUCK (R294, R308, R311): SDA or SCL has been low for 35 ms; nine SCL pulses and a STOP. A burst has failed. Freed, the
transfer is tried again; else the port is power cycled, and a replay fails. -/
def execCciStuck (k : CamPort) (freed : Bool) (s : State) : Out :=
  occurs (!(s.cam[k]).cciReleased) s
    (let s1 := (s.journal 0x74 (k.val * 4096 + bit freed)).updCam k fun q => { q with sclPulses := q.sclPulses + 9 }
     if freed then
       (if (s.cam[k]).burstBusy then s1.burstEnd k false else s1.updCam k fun q => { q with nacks := none })
     else if (s.cam[k]).state = .replay then s1.updCam k fun q => { q with nacks := none, failCause := some 4 }
     else s1.toRestart k)

/-- The divider of an MCLK in units of 10 kHz, in 1/64: the nearest, of two the lower (R158). -/
def mclkDiv (mclk : Nat) : Nat :=
  let q := 32000000 / mclk
  if mclk < 2 * (32000000 % mclk) then q + 1 else q

/-- REPLAY_START (R158, R309, R310): MCLK enabled, CEN asserted after at least 10 ms of deassertion, and the power-up
delay begins. -/
def execReplayStart (k : CamPort) (s : State) : Out :=
  match s.portRecipe k with
  | none => .next s
  | some r =>
    let q := s.cam[k]
    occurs (decide (q.state = .replay) && decide (q.phase = .idle) && !q.cen && q.failCause.isNone &&
        decide (s.clk.pll = .locked) && decide (q.cenAt + msTicks 10 ≤ s.now ∨ q.cenAt = 0)) s
      (let o : PllOut := ⟨k.val, by omega⟩
       let d := mclkDiv r.hdr.mclk
       let out : PllOutput := { now := { n := d / 64, k := d % 64, delay := (s.clk.pllOut[o]).now.delay, enable := true } }
       let s1 : State := { s with clk := { s.clk with pllOut := s.clk.pllOut.set o out } }
       s1.updCam k fun q => { q.setCen s.now true with
         mclk := true, pc := 0, phase := .powerUp (s.now + msTicks r.hdr.powerUp), expmap := none, nacks := none
         reps := 0, exposure := 0, gain := 0, freeRun := false, offGrid := 0, badRun := 0, fsyncLast := 0, fsyncTill := 0 })

/-- POWER_UP_DELAY_END (R309). -/
def execPowerUpDelayEnd (k : CamPort) (s : State) : Out :=
  match (s.cam[k]).phase with
  | .powerUp t => occurs (decide (t ≤ s.now) && decide ((s.cam[k]).state = .replay)) s
      (s.updCam k fun q => { q with phase := .run })
  | _ => .next s

/-- RECIPE_WRITE (R293, R304). -/
def execRecipeWrite (k : CamPort) (ack : Bool) (s : State) : Out :=
  match s.entryAt k with
  | some (.write reg data) =>
    occurs (s.seqRuns k) s
      (if ack then s.updCam k fun q => { q.advance with cciLast := s.cciWrites k [(reg, data)] }
       else s.updCam k fun q => q.nack s.now)
  | _ => .next s

/-- RECIPE_RMW (R293, R304): old is the byte read. -/
def execRecipeRmw (k : CamPort) (old : Byte) (ack : Bool) (s : State) : Out :=
  match s.entryAt k with
  | some (.rmw reg mask val) =>
    occurs (s.seqRuns k) s
      (if ack then s.updCam k fun q => { q.advance with cciLast := s.cciWrites k [(reg, [(old &&& ~~~ mask) ||| (val &&& mask)])] }
       else s.updCam k fun q => q.nack s.now)
  | _ => .next s

/-- RECIPE_POLL_ENTRY (R293, R304, R311): val is the byte read; the next read comes 1.0 ms later. -/
def execRecipePollEntry (k : CamPort) (val : Byte) (ack : Bool) (s : State) : Out :=
  match s.entryAt k with
  | some (.poll _ mask want ms) =>
    occurs (s.seqRuns k && (decide ((s.cam[k]).phase = .run) || decide ((s.cam[k]).cciNext ≤ s.now))) s
      (if !ack then s.updCam k fun q => q.nack s.now
       else if val &&& mask = want then s.updCam k CamSt.advance
       else match (s.cam[k]).phase with
         | .pollTill t =>
           if t ≤ s.now then s.updCam k fun q => { q with failCause := some 2 }
           else s.updCam k fun q => { q with reps := 0, cciNext := s.now + msTicks 1 }
         | _ => s.updCam k fun q => { q with reps := 0, phase := .pollTill (s.now + msTicks ms), cciNext := s.now + msTicks 1 })
  | _ => .next s

/-- RECIPE_DELAY (R304): the wait begins, or ends when its time has passed. -/
def execRecipeDelay (k : CamPort) (s : State) : Out :=
  match s.entryAt k, (s.cam[k]).phase with
  | some (.delay ms), .run => occurs (s.seqRuns k) s (s.updCam k fun q => { q with phase := .delayTill (s.now + msTicks ms) })
  | some (.delay _), .delayTill t =>
    occurs (decide ((s.cam[k]).state = .replay) && decide (t ≤ s.now)) s (s.updCam k CamSt.advance)
  | _, _ => .next s

/-- RECIPE_EXPMAP (R304, R306, Table 7.8). -/
def execRecipeExpmap (k : CamPort) (s : State) : Out :=
  match s.entryAt k with
  | some (.expmap m) => occurs (s.seqRuns k) s (s.updCam k fun q => { q.advance with expmap := some m })
  | _ => .next s

/-- RECIPE_END (R304, R306, R311). -/
def execRecipeEnd (k : CamPort) (s : State) : Out :=
  match s.entryAt k with
  | some .done => occurs (s.seqRuns k) s ((s.setCam k .waiting).updCam k fun q => { q with phase := .ended s.now })
  | _ => .next s

/-- RECIPE_SKIPPED (R305). -/
def execRecipeSkipped (k : CamPort) (s : State) : Out :=
  match s.entryAt k with
  | some (.skip op) => occurs (s.seqRuns k) s ((s.updCam k CamSt.advance).journal 0x72 (k.val * 4096 + op.toNat))
  | _ => .next s

/-- START_TIMEOUT (R311). -/
def execStartTimeout (k : CamPort) (s : State) : Out :=
  match (s.cam[k]).phase, s.portRecipe k with
  | .ended t, some r =>
    occurs (decide ((s.cam[k]).state = .waiting) && (s.cam[k]).failCause.isNone &&
        decide (t + msTicks r.hdr.startTimeout ≤ s.now)) s
      (s.updCam k fun q => { q with failCause := some 3 })
  | _, _ => .next s

/-- REPLAY_FAIL (R311, R312). -/
def execReplayFail (k : CamPort) (s : State) : Out :=
  match (s.cam[k]).failCause with
  | none => .next s
  | some c => .next (((s.updCam k fun q => { q with failCause := none }).journal 0x73 (k.val * 4096 + c)).toRestart k)

/-- PORT_RESTART (R310, R320): after 10 ms of CEN deassertion a full replay follows; none starts in a changeover (§7.9). -/
def execPortRestart (k : CamPort) (s : State) : Out :=
  let q := s.cam[k]
  occurs (decide (q.state = .restart) && decide (s.dev.changeover = .idle) && !q.cen && decide (q.cenAt + msTicks 10 ≤ s.now)) s
    ((s.setCam k .replay).updCam k fun q => { q with phase := .idle, pc := 0 })

/-- FSYNC_EDGE (R315, R317): an edge at a grid point less the latency; the first at least 1.0 ms after END. The pulse has the
declared width. -/
def execFsyncEdge (k : CamPort) (s : State) : Out :=
  match s.portRecipe k, (s.cam[k]).phase with
  | some r, .ended t =>
    let q := s.cam[k]
    let lat := r.hdr.latency * 1000 * 65536
    let g := (s.fab.time + lat) / (r.hdr.grid * 65536)
    let edge := g * (r.hdr.grid * 65536) - lat
    occurs ((decide (q.state = .waiting) || decide (q.state = .streaming)) && r.hdr.triggered && !q.freeRun &&
        s.fab.timeRun && decide (q.fsyncLast < g) &&
        decide (t + 33 + cdiv (s.fab.time - edge) 2000000000 ≤ s.now)) s
      (s.updCam k fun q => { q with fsyncLast := g, fsyncTill := edge + r.hdr.fsyncWidth * 1000 * 65536 })
  | _, _ => .next s

/-- The level of FSYNC at a port (R315, R317, Table 7.6): active during a pulse in WAITING and STREAMING, of the declared polarity. -/
def State.fsyncLevel (s : State) (k : CamPort) : Bool :=
  let q := s.cam[k]
  match s.portRecipe k with
  | none => false
  | some r =>
    let active := (decide (q.state = .waiting) || decide (q.state = .streaming)) && r.hdr.triggered && !q.freeRun &&
      decide (s.fab.time < q.fsyncTill)
    active != r.hdr.flags.getLsbD 3

/-- The frame rate in 0.1 frame/s of a period in 2^-16 TDC unit, 2^28 of which are a nanosecond (Table 5.10). -/
def rateOf (period : Nat) : Nat := if period = 0 then 0 else rdivNat (10000000000 * 2 ^ 28) period

/-- A measured period differs from the declared rate, in 0.01 frame/s, by more than 2% (R318). -/
def rateDiffers (declared period : Nat) : Bool :=
  decide (declared * period < 50 * (((100000000000 * 2 ^ 28 : Nat) : Int) - (declared * period : Nat)).natAbs)

/-- FRAME_RATE_CHECK (R209, R318): the period that the stamp regressor has measured is checked; where none waits, the job of a
minute is requested when it falls due. -/
def execFrameRateCheck (k : CamPort) (s : State) : Out :=
  match s.portRecipe k with
  | none => .next s
  | some r =>
    let q := s.cam[k]
    match q.measured with
    | some p =>
      occurs (decide (q.state = .streaming)) s
        (let s1 := s.updCam k fun q => { q with measured := none, rate := rateOf p.toNat }
         if rateDiffers r.hdr.rate p.toNat then s1.journal 0x78 (k.val * 4096 + min 4095 (rateOf p.toNat)) else s1)
    | none =>
      occurs (decide (q.state = .streaming) && decide (q.rateNext ≤ s.now)) s
        ((s.updCam k fun q => { q with rateNext := s.now + 60 * tps }).regRequest (.frameRate k))

/-- A port joins the output (R319). -/
def State.joinPort (s : State) (k : CamPort) : State :=
  let s1 := s.updCam k fun q => { q with joined := true }
  ({ s1 with head := { s1.head with tile := s1.head.tile.set k { freshAt := s.now, held := false } } } : State).journal
    0x77 (k.val * 4096)

/-- PORT_JOINED (R319): at the first output frame that starts after the kiln wrote the port's first output line; a
device whose head is off joins for its exported tile. -/
def execPortJoined (k : CamPort) (s : State) : Out :=
  let q := s.cam[k]
  occurs (decide (q.state = .streaming) && q.joinReady && !q.joined &&
      (decide (headMode (s.eff 12) = .off) || (s.head.inFrame && decide (q.joinAt ≤ s.head.startedAt)))) s
    (s.joinPort k)

end Sys2Proof.Machine
end

