-- ==== Sys2Proof/Machine/Movers.lean ====
section
/-!
DEFINITION. The mover engine: instruction words, endpoints, transfers, queues, arbitration (§9.1 to §9.6) and the
latching of faults (R407).
-/
namespace Sys2Proof.Machine

/-- Bits hi to lo of an instruction word. -/
def fld (w : BitVec 128) (hi lo : Nat) : Nat := w.toNat / 2 ^ lo % 2 ^ (hi - lo + 1)

/-- One bit of an instruction word. -/
def fbit (w : BitVec 128) (n : Nat) : Bool := w.getLsbD n

/-- Fields of MOVE and FILL (Table 9.3). -/
structure MoveFields where
  half : Bool
  full : Bool
  crc : Bool
  desc : Bool
  src : Nat
  dst : Nat
  len : Nat
  count : Nat
  srcW : Nat
  dstW : Nat
  q : Bool
  qDec : Bool
  queue : Fin 64
  sc : Bool
  dc : Bool
  deriving DecidableEq, Repr

/-- A mover instruction (Table 9.3). -/
inductive MovInstr where
  | fin (readBack event : Bool)
  | move (m : MoveFields)
  | loop (target count : Nat) (ctr : Fin 2)
  | wait (queue : Fin 64) (cond timeout target : Nat)
  | signal (queue : Fin 64) (op : Nat) (event : Bool) (code : Nat)
  | fill (m : MoveFields)
  | compare (operand : Nat) (queue : Fin 64) (rel : Nat) (halt : Bool) (target addr imm : Nat)
  | crc (reset store : Bool) (addr : Nat)
  | set (reg : Fin 10) (value : BitVec 32)
  deriving DecidableEq, Repr

/-- Width in bytes of a width code. -/
def widthBytes (c : Nat) : Nat := 2 ^ c

/-- The fields of a MOVE or FILL word. -/
def moveFields (w : BitVec 128) : MoveFields where
  half := fbit w 123
  full := fbit w 122
  crc := fbit w 121
  desc := fbit w 120
  src := fld w 119 88
  dst := fld w 87 56
  len := fld w 55 40
  count := if fld w 39 28 = 0 then 4096 else fld w 39 28
  srcW := fld w 27 25
  dstW := fld w 24 22
  q := fbit w 21
  qDec := fbit w 20
  queue := ⟨fld w 19 14 % 64, by omega⟩
  sc := fbit w 13
  dc := fbit w 12

/-- A number below 64. -/
def fin64 (n : Nat) : Fin 64 := ⟨n % 64, by omega⟩

/-- The instruction of a word; none is an illegal instruction (R383): an opcode above 8 or a field outside its range.
A line length of 0, a width code above 4, a descriptor with more than one line (R389), a port above 11 and a register
above 0x09 are outside their range. -/
def decodeWord (w : BitVec 128) : Option MovInstr :=
  match fld w 127 124 with
  | 0 => some (.fin (fbit w 119) (fbit w 118))
  | 1 =>
    let m := moveFields w
    if m.len = 0 ∨ 4 < m.srcW ∨ 4 < m.dstW ∨ (m.desc ∧ m.count ≠ 1) then none else some (.move m)
  | 2 => some (.loop (fld w 119 111) (fld w 110 95) (if fbit w 94 then 1 else 0))
  | 3 =>
    if fld w 113 112 = 3 ∧ 11 < fld w 119 114 then none
    else some (.wait (fin64 (fld w 119 114)) (fld w 113 112) (fld w 111 96) (fld w 95 87))
  | 4 => some (.signal (fin64 (fld w 119 114)) (fld w 113 112) (fbit w 111) (fld w 110 103))
  | 5 =>
    let m := moveFields w
    if m.len = 0 ∨ 4 < m.dstW then none
    else some (.fill { m with crc := false, desc := false, src := 0, srcW := 0, sc := false })
  | 6 => some (.compare (fld w 119 118) (fin64 (fld w 117 112)) (fld w 111 110) (fbit w 109) (fld w 108 100)
      (fld w 95 64) (fld w 63 32))
  | 7 => some (.crc (fbit w 119) (fbit w 118) (fld w 95 64))
  | 8 => if h : fld w 119 112 < 10 then some (.set ⟨fld w 119 112, h⟩ (BitVec.ofNat 32 (fld w 31 0))) else none
  | _ => none

/-- An endpoint of the mover address space (Table 9.2). -/
inductive Endpoint where
  | pool (a : Nat)
  | cam (k : CamPort)
  | kilnIn
  | kilnOut
  | headLines
  | rx (p : FabPort)
  | tx (p : FabPort)
  | null
  deriving DecidableEq, Repr

/-- Size of the clay pool in bytes. -/
def poolBytes : Nat := 0x600000

/-- The endpoint at an address, none where Table 9.2 has nothing (a bus error, R378). -/
def endpointOf (a : Nat) : Option Endpoint :=
  if a < poolBytes then some (.pool a)
  else if h : 0x10000000 ≤ a ∧ (a - 0x10000000) / 65536 < 12 ∧ a % 65536 = 0 then
    some (.cam ⟨(a - 0x10000000) / 65536, h.2.1⟩)
  else if a = 0x20000000 then some .kilnIn
  else if a = 0x21000000 then some .kilnOut
  else if a = 0x28000000 then some .headLines
  else if h : 0x30000000 ≤ a ∧ (a - 0x30000000) / 65536 < 3 ∧ a % 65536 = 0 then
    some (.rx ⟨(a - 0x30000000) / 65536, h.2.1⟩)
  else if h : 0x31000000 ≤ a ∧ (a - 0x31000000) / 65536 < 3 ∧ a % 65536 = 0 then
    some (.tx ⟨(a - 0x31000000) / 65536, h.2.1⟩)
  else if a = 0x3F000000 then some .null
  else none

/-- Fault causes (Table 9.7). -/
def cBus : BitVec 3 := 1
def cEcc : BitVec 3 := 2
def cOwner : BitVec 3 := 3
def cFormat : BitVec 3 := 4
def cIllegal : BitVec 3 := 5
def cReadback : BitVec 3 := 6
def cCheck : BitVec 3 := 7

/-- A fault that a channel detects. -/
structure MFault where
  cause : BitVec 3
  write : Bool
  addr : Nat
  owner : BitVec 5
  deriving DecidableEq, Repr

/-- What an instruction does: it holds because a source has no data, it goes on in a state, or it faults in one. -/
inductive MRes where
  | hold
  | ok (s : State)
  | fault (s : State) (f : MFault)

/-- The state with one mover channel changed. -/
def State.updChan (s : State) (c : MovCh) (f : MChan → MChan) : State :=
  { s with mov := { s.mov with chan := s.mov.chan.set c (f s.mov.chan[c]) } }

/-- The state with one queue changed. -/
def State.updQueue (s : State) (q : Fin 64) (f : MQueue → MQueue) : State :=
  { s with mov := { s.mov with queue := s.mov.queue.set q (f s.mov.queue[q]) } }

/-- Owner of the slab that holds a pool address. -/
def Mov.ownerAt (m : Mov) (a : Nat) : BitVec 5 := m.owner.getD (a / 16384) 31#5

/-- A slab may be read (R400). -/
def readable (o : BitVec 5) : Bool := o != 29#5 && o != 30#5 && o != 31#5

/-- The first address of some bytes, at most a slab of them, that fails a test which is one for a whole slab. -/
def firstBad (test : Nat → Bool) (a n : Nat) : Option Nat :=
  let last := (a + n - 1) / 16384 * 16384
  if !test a then some a else if !test last then some last else none

/-- An address lies in the transmit ring of the port with the twin role (R401). -/
def State.inTwinRing (s : State) (a : Nat) : Bool :=
  match s.twinPort with
  | some p => s.mov.bufs.any fun b => decide (b.kind = .tx p) && decide (b.base ≤ a / 16384) && decide (a / 16384 < b.base + b.count)
  | none => false

/-- A channel with an owner may write at a pool address (R400, R401). -/
def State.mayWrite (s : State) (c : MovCh) (owner : BitVec 5) (a : Nat) : Bool :=
  s.mov.ownerAt a = owner || (decide (c.val = 31) && (s.mov.ownerAt a = 30#5 || s.inTwinRing a))

/-- The running CRC over bytes written (R398). -/
def MChan.crcOver (q : MChan) (k : Bool) (l : List Byte) : MChan :=
  if k then { q with regs := q.regs.set 8 (crcRun q.regs[(8 : Fin 10)] l) } else q

/-- The last word that a channel has written, with its running CRC (R397, R398); an endpoint keeps its address (R379). -/
def State.noteWrite (s : State) (c : MovCh) (width : Nat) (k : Bool) (a : Nat) (l : List Byte) : State :=
  let n := l.length - widthBytes width
  if l.isEmpty then s
  else s.updChan c fun q => { q.crcOver k l with last := some (if a < poolBytes then a + n else a, l.drop n) }

/-- A crossing of the movers is in reset on one side (R169): the port is OFF, the kiln or the head does not run, or the port of the
fabric is off. -/
def State.crossingReset (s : State) : Endpoint → Bool
  | .pool _ => false
  | .null => false
  | .cam k => decide ((s.cam[k]).state = .off)
  | .kilnIn => !s.kiln.running
  | .kilnOut => !s.kiln.running
  | .headLines => !s.head.on
  | .rx p => decide ((s.fab.port[p]).link = .off)
  | .tx p => decide ((s.fab.port[p]).link = .off)

/-- Bytes that a crossing of the fabric transmit side holds (Table 4.7: 64 words). -/
def txDepth : Nat := 64 * 16

/-- Write the bytes of a burst at a destination (R374, R379, R388, R400), or hold where it has no room. The kiln input and the head
line FIFO are written by descriptor only (Table 9.2). -/
def State.moverWrite (s : State) (c : MovCh) (owner : BitVec 5) (a : Nat) (width : Nat) (k : Bool) (l : List Byte) :
    MRes :=
  let bus : MRes := .fault s { cause := cBus, write := true, addr := a, owner := owner }
  match endpointOf a with
  | some (.pool a) =>
    match firstBad (s.mayWrite c owner) a l.length with
    | some x => .fault s { cause := cOwner, write := true, addr := x, owner := owner }
    | none => .ok (({ s with mov := { s.mov with pool := memStore s.mov.pool a l } } : State).noteWrite c width k a l)
  | some (.tx p) =>
    if width ≠ 4 || s.crossingReset (.tx p) then bus
    else if txDepth < (s.fab.port[p]).txFifo.length + l.length then .hold
    else .ok ((s.updPort p fun q => { q with txFifo := q.txFifo ++ l }).noteWrite c width k a l)
  | some .null => .ok (s.noteWrite c width k a l)
  | _ => bus

/-- The first n bytes of a stream of lines, and what stays; none where it holds fewer. -/
def takeStream : Nat → List (List Byte) → Option (List Byte × List (List Byte))
  | 0, l => some ([], l)
  | _ + 1, [] => none
  | n + 1, x :: t =>
    if n + 1 < x.length then some (x.take (n + 1), x.drop (n + 1) :: t)
    else if x.length = n + 1 then some (x, t)
    else (takeStream (n + 1 - x.length) t).map fun r => (x ++ r.1, r.2)
termination_by structural _ l => l

/-- What reading a burst gives: no data yet, the bytes, or a fault. -/
inductive MRead where
  | hold
  | ok (s : State) (l : List Byte)
  | fault (f : MFault)

/-- A read of the pool corrects single-bit errors and counts them (R380). -/
def State.countEcc (s : State) (a len : Nat) : State :=
  { s with mov := { s.mov with ecc := s.mov.ecc + BitVec.ofNat 32 (Config.bitErrors s.now a len) } }

/-- Read the bytes of a burst at a source (R379, R380, R400). -/
def State.moverRead (s : State) (owner : BitVec 5) (a : Nat) (width : Nat) (len : Nat) : MRead :=
  let bus : MRead := .fault { cause := cBus, write := false, addr := a, owner := owner }
  match endpointOf a with
  | some (.pool a) =>
    match firstBad (fun x => readable (s.mov.ownerAt x)) a len with
    | some x => .fault { cause := cOwner, write := false, addr := x, owner := owner }
    | none => .ok (s.countEcc a len) (memRange s.mov.pool a len)
  | some (.cam k) =>
    if width ≠ 4 || s.crossingReset (.cam k) then bus
    else match takeStream len (s.cam[k]).fifo with
      | some (l, rest) => .ok (s.updCam k fun q => { q with fifo := rest }) l
      | none => .hold
  | some (.rx p) =>
    if width ≠ 4 || s.crossingReset (.rx p) then bus
    else
      let l := (s.fab.port[p]).rxFifo
      if l.length < len then .hold else .ok (s.updPort p fun q => { q with rxFifo := l.drop len }) (l.take len)
  | _ => bus

/-- Bytes of the next burst of a line of which some bytes are done (R374): at most four words, within 64 bytes of the pool on each
side that lies there, and within the line. -/
def burstBytes (src dst len off : Nat) : Nat :=
  let room (a : Nat) : Nat := if a < poolBytes then 64 - (a + off) % 64 else 64
  min (len - off) (min (room src) (room dst))

/-- The address of a byte of a line: an endpoint address never advances (R379). -/
def byteAddr (a off : Nat) : Nat := if a < poolBytes then a + off else a

/-- A line that starts in the pool crosses its end (R388). -/
def pastPool (a len : Nat) : Bool := decide (a < poolBytes) && decide (poolBytes < a + len)

/-- One increment or decrement of a queue (R392); none is a FORMAT fault. -/
def MQueue.signal (q : MQueue) (dec : Bool) : Option MQueue :=
  if dec then (if q.level = 0 then none else some { q with level := q.level - 1 })
  else if q.level = 65535 then none
  else some { q with level := q.level + 1 }

/-- One signal to a queue in the state. -/
def State.signalQueue (s : State) (owner : BitVec 5) (q : Fin 64) (dec : Bool) : MRes :=
  match (s.mov.queue[q]).signal dec with
  | some x => .ok (s.updQueue q fun _ => x)
  | none => .fault s { cause := cFormat, write := true, addr := 0, owner := owner }

/-- A register of a channel as a number. -/
def MChan.reg (q : MChan) (i : Fin 10) : Nat := (q.regs[i]).toNat

/-- A cursor advanced by its stride in its ring (R388); an endpoint address never advances (R379). -/
def ringAdvance (cur stride base size : Nat) : BitVec 32 :=
  let n := if cur < poolBytes then cur + stride else cur
  BitVec.ofNat 32 (if size ≠ 0 ∧ base + size ≤ n then n - size else n)

/-- The rules of a ring for one line (R388): the stride divides the ring and the line does not cross its end. -/
def ringOk (cur len stride base size : Nat) : Bool :=
  decide (size = 0) || (decide (stride ≠ 0) && decide (size % stride = 0) && decide (cur + len ≤ base + size))

/-- Stride of a side: the register, 0 meaning the line length. -/
def strideOf (r len : Nat) : Nat := if r = 0 then len else r

/-- An address that advances on its side: an endpoint address never does (R379). -/
def lineAddr (a n stride : Nat) : Nat := if a < poolBytes then a + n * stride else a

/-- The event of a line count reached (R391). -/
def MChan.event (q : MChan) (raised : Bool) : MChan := if raised then { q with events := q.events + 1 } else q

/-- The half and full events after line n, counting from 0 (R391). -/
def MChan.lineEvents (q : MChan) (m : MoveFields) (n : Nat) : MChan :=
  (q.event (m.half && decide (n + 1 = max 1 (m.count / 2)))).event (m.full && decide (n + 1 = m.count))

/-- The bytes of a FILL from a place in its line on (R390). -/
def fillBytes (pattern : BitVec 32) (width off n : Nat) : List Byte :=
  let p := bytesLE 4 pattern.toNat
  (List.range n).map fun i => p.getD ((off + i) % min 4 (widthBytes width)) 0

/-- Every line is a multiple of the larger width (R387). -/
def MoveFields.lengthOk (m : MoveFields) (isFill : Bool) : Bool :=
  decide (m.len % widthBytes (if isFill then m.dstW else max m.srcW m.dstW) = 0)

/-- The next word: nothing of it is done. -/
def MChan.step (q : MChan) : MChan := { q with pc := q.pc + 1, line := 0, off := 0 }

/-- The next word. -/
def State.nextWord (s : State) (c : MovCh) : State := s.updChan c MChan.step

/-- Where the line in hand of a MOVE or FILL starts at its source (R388). -/
def MChan.lineSrc (q : MChan) (m : MoveFields) : Nat :=
  if m.sc then q.reg 6 else lineAddr m.src q.line (strideOf (q.reg 0) m.len)

/-- Where the line in hand of a MOVE or FILL starts at its destination (R388). -/
def MChan.lineDst (q : MChan) (m : MoveFields) : Nat :=
  if m.dc then q.reg 7 else lineAddr m.dst q.line (strideOf (q.reg 1) m.len)

/-- A channel after the last burst of a line (R388, R391): its cursors advance, its events are raised, and after the last line the
next word follows. -/
def MChan.endLine (q : MChan) (m : MoveFields) : MChan :=
  let r1 := if m.sc then q.regs.set 6 (ringAdvance (q.lineSrc m) (strideOf (q.reg 0) m.len) (q.reg 2) (q.reg 3)) else q.regs
  let r2 := if m.dc then r1.set 7 (ringAdvance (q.lineDst m) (strideOf (q.reg 1) m.len) (q.reg 4) (q.reg 5)) else r1
  let q1 := ({ q with regs := r2 } : MChan).lineEvents m q.line
  if m.count ≤ q.line + 1 then q1.step else { q1 with line := q.line + 1, off := 0 }

/-- What a MOVE or FILL faults on before its line in hand moves (R387, R388): its length, its rings and the end of the pool. -/
def MChan.lineFault (q : MChan) (m : MoveFields) (isFill : Bool) : Option MFault :=
  let src := q.lineSrc m
  let dst := q.lineDst m
  let rd : MFault := { cause := cFormat, write := false, addr := src, owner := q.owner }
  let wr : MFault := { cause := cFormat, write := true, addr := dst, owner := q.owner }
  if !m.lengthOk isFill then some (if isFill then wr else rd)
  else if !isFill && m.sc && !ringOk src m.len (strideOf (q.reg 0) m.len) (q.reg 2) (q.reg 3) then some rd
  else if m.dc && !ringOk dst m.len (strideOf (q.reg 1) m.len) (q.reg 4) (q.reg 5) then some wr
  else if !isFill && pastPool src m.len then some rd
  else if pastPool dst m.len then some wr
  else none

/-- The next burst of a MOVE or FILL (R374, R387, R388, R390 to R392): it holds where the source has no data or the destination no
room. -/
def State.lineBurst (s : State) (c : MovCh) (m : MoveFields) (isFill : Bool) : MRes :=
  let q := s.mov.chan[c]
  match q.lineFault m isFill with
  | some f => .fault s f
  | none =>
    let src := q.lineSrc m
    let dst := q.lineDst m
    let n := burstBytes (if isFill then dst else src) dst m.len q.off
    let rd := if isFill then MRead.ok s (fillBytes q.regs[(9 : Fin 10)] m.dstW q.off n)
      else s.moverRead q.owner (byteAddr src q.off) m.srcW n
    match rd with
    | .hold => .hold
    | .fault f => .fault s f
    | .ok s1 l =>
      match s1.moverWrite c q.owner (byteAddr dst q.off) m.dstW m.crc l with
      | .ok s2 =>
        if q.off + n < m.len then .ok (s2.updChan c fun x => { x with off := q.off + n })
        else
          let s3 := s2.updChan c fun x => x.endLine m
          if m.q then s3.signalQueue q.owner m.queue m.qDec else .ok s3
      | r => r

/-- A descriptor for a line (R389): its pool address, length and owner. -/
structure Desc where
  addr : Nat
  len : Nat
  owner : BitVec 5
  deriving DecidableEq, Repr

/-- The descriptor that the endpoint of a MOVE with X supplies (R389): that of the line slot in progress, of the oldest output line,
or of the next segment of the lines that the head sends. -/
def State.descOf (s : State) (m : MoveFields) : Option Desc :=
  match endpointOf m.dst, endpointOf m.src with
  | some .kilnIn, _ => match s.kiln.feed with
    | (a, x, len) :: _ => some { addr := a, len := len, owner := BitVec.ofNat 5 x.val }
    | [] => none
  | some .headLines, _ => match s.head.segs with
    | g :: _ => some { addr := g.addr, len := g.len, owner := BitVec.ofNat 5 g.ctx.val }
    | [] => none
  | _, some .kilnOut => match s.kiln.out with
    | (a, x, _, l) :: _ => some { addr := a, len := l.length, owner := BitVec.ofNat 5 x.val }
    | [] => none
  | _, _ => none

/-- Bytes put over a line from an offset. -/
def overlay (line : List Byte) (off : Nat) (l : List Byte) : List Byte :=
  line.take off ++ l.take (line.length - off) ++ line.drop (off + l.length)

/-- A segment that has come whole placed in its packet (R434). -/
def HeadFrame.place (f : HeadFrame) (g : HeadSeg) (l : List Byte) : HeadFrame :=
  { f with packets := f.packets.modify g.packet fun p => { p with bytes := overlay p.bytes g.at_ (slice l g.skip g.take) } }

/-- The bytes of a burst given to the kiln (R389); the line begins with its first burst and is whole with its last. -/
def State.feedKiln (s : State) (l : List Byte) (first last : Bool) : State :=
  { s with kiln := { s.kiln with lineIn := if first then l else s.kiln.lineIn ++ l, feed := if last then s.kiln.feed.drop 1 else s.kiln.feed } }

/-- The bytes of a burst given to the head (R389, R434); a segment that has come whole takes its place in the frame. -/
def State.feedHead (s : State) (l : List Byte) (first last : Bool) : State :=
  let line := if first then l else s.head.lineIn ++ l
  match s.head.segs with
  | g :: rest =>
    if last then
      { s with head := { s.head with segs := rest, lineIn := [], last := s.head.last.map fun f => f.place g line } }
    else { s with head := { s.head with lineIn := line } }
  | [] => s

/-- The next burst of a line that a descriptor names, from the pool to an endpoint of 128 bits (R374, R387, R389). -/
def State.descRead (s : State) (c : MovCh) (m : MoveFields) (d : Desc) (take : State → List Byte → Bool → Bool → State) : MRes :=
  let q := s.mov.chan[c]
  let n := burstBytes d.addr m.dst d.len q.off
  if m.dstW ≠ 4 then .fault s { cause := cBus, write := true, addr := m.dst, owner := d.owner }
  else if d.len % 16 ≠ 0 || pastPool d.addr d.len then
    .fault s { cause := cFormat, write := false, addr := d.addr, owner := d.owner }
  else
    match s.moverRead d.owner (d.addr + q.off) m.srcW n with
    | .ok s0 l =>
      let s1 := (take s0 l (decide (q.off = 0)) (decide (d.len ≤ q.off + n))).noteWrite c 4 m.crc m.dst l
      .ok (s1.updChan c fun x => if d.len ≤ q.off + n then (x.lineEvents m 0).step else { x with off := q.off + n })
    | .fault f => .fault s f
    | .hold => .hold

/-- The next burst of the oldest line in the kiln output FIFO (R374, R389): its queue is signalled with its last burst. -/
def State.descWrite (s : State) (c : MovCh) (m : MoveFields) (d : Desc) : MRes :=
  let q := s.mov.chan[c]
  match s.kiln.out with
  | [] => .hold
  | (_, _, qn, line) :: rest =>
    let n := burstBytes d.addr m.src d.len q.off
    if m.srcW ≠ 4 then .fault s { cause := cBus, write := false, addr := m.src, owner := d.owner }
    else if d.len % 16 ≠ 0 || pastPool d.addr d.len then
      .fault s { cause := cFormat, write := true, addr := d.addr, owner := d.owner }
    else
      match s.moverWrite c d.owner (d.addr + q.off) m.dstW m.crc (slice line q.off n) with
      | .ok s1 =>
        if q.off + n < d.len then .ok (s1.updChan c fun x => { x with off := q.off + n })
        else
          (({ s1 with kiln := { s1.kiln with out := rest } } : State).updChan c fun x => (x.lineEvents m 0).step).signalQueue
            d.owner qn false
      | r => r

/-- The next burst of a MOVE with X (R374, R389); it holds until a descriptor comes. An endpoint in reset, or one that supplies none,
is a bus error (R378, R379). -/
def State.descBurst (s : State) (c : MovCh) (m : MoveFields) : MRes :=
  let bus (write : Bool) (a : Nat) : MRes := .fault s { cause := cBus, write := write, addr := a, owner := (s.mov.chan[c]).owner }
  match endpointOf m.dst, endpointOf m.src with
  | some .kilnIn, _ =>
    if s.crossingReset .kilnIn then bus true m.dst
    else match s.descOf m with
      | some d => s.descRead c m d State.feedKiln
      | none => .hold
  | some .headLines, _ =>
    match s.descOf m with
    | some d => if s.crossingReset .headLines then bus true m.dst else s.descRead c m d State.feedHead
    | none => .hold
  | _, some .kilnOut =>
    if s.crossingReset .kilnOut then bus false m.src
    else match s.descOf m with
      | some d => s.descWrite c m d
      | none => .hold
  | _, _ => bus false m.src

/-- The next burst of the transfer that a channel executes: a MOVE or a FILL. -/
def State.nextBurst (s : State) (c : MovCh) : MovInstr → MRes
  | .move m => if m.desc then s.descBurst c m else s.lineBurst c m false
  | .fill m => s.lineBurst c m true
  | _ => .hold

/-- Levels of COMPARE relations (Table 9.3). -/
def relHolds (rel a b : Nat) : Bool :=
  match rel with
  | 0 => decide (a = b)
  | 1 => decide (a ≠ b)
  | 2 => decide (b ≤ a)
  | _ => decide (a < b)

/-- A jump. -/
def MChan.jump (q : MChan) (target : Nat) : MChan := { q with pc := target, line := 0, off := 0 }

/-- A jump by COMPARE or by a WAIT timeout: both loop counters go inactive (R385). -/
def MChan.jumpClear (q : MChan) (target : Nat) : MChan := { q.jump target with loops := Vector.replicate 2 none }

/-- LOOP (R384). -/
def MChan.loopStep (q : MChan) (target count : Nat) (ctr : Fin 2) : MChan :=
  if count = 0 then q.jump target
  else match q.loops[ctr] with
    | none =>
      if count = 1 then { q with pc := q.pc + 1 }
      else { q with loops := q.loops.set ctr (some (BitVec.ofNat 16 (count - 1))), pc := target }
    | some n =>
      if n = 1 then { q with loops := q.loops.set ctr none, pc := q.pc + 1 }
      else { q with loops := q.loops.set ctr (some (n - 1)), pc := target }

/-- The condition of a WAIT holds (Table 9.3). -/
def State.waitHolds (s : State) (q : Fin 64) (cond : Nat) : Bool :=
  let x := s.mov.queue[q]
  match cond with
  | 0 => decide (x.low ≤ x.level)
  | 1 => decide (x.level < x.high)
  | _ => decide (1 ≤ x.level)

/-- A queue abandoned (R386, R396): its level 0, its resync word the signalling channel's DCUR; the abandonment of an
input queue is armed at the kiln. -/
def State.abandonQueue (s : State) (c : MovCh) (q : Fin 64) : State :=
  let s1 := s.updQueue q fun x => { x with level := 0, resync := (s.mov.chan[c]).regs[(7 : Fin 10)] }
  if h : q.val < 12 then
    { s1 with kiln := { s1.kiln with
      ctx := s1.kiln.ctx.set q.val { s1.kiln.ctx[q.val] with resync := true, frames := [] } } }
  else s1

/-- What the instruction at a channel's word does, but for WAIT and END, which hold the channel; of a MOVE or a FILL its next burst. -/
def State.moverEffect (s : State) (c : MovCh) (i : MovInstr) : MRes :=
  let q := s.mov.chan[c]
  let ow := q.owner
  match i with
  | .fin _ _ => .hold
  | .wait _ _ _ _ => .hold
  | .move _ => s.nextBurst c i
  | .fill _ => s.nextBurst c i
  | .loop t n k => .ok (s.updChan c fun q => q.loopStep t n k)
  | .signal qn op ev code =>
    let r : MRes := match op with
      | 0 => .ok s
      | 1 => s.signalQueue ow qn false
      | 2 => s.signalQueue ow qn true
      | _ => .ok (s.abandonQueue c qn)
    match r with
    | .ok s1 =>
      .ok ((s1.updChan c fun q =>
        if ev then { q with events := q.events + 1, lastEvent := BitVec.ofNat 8 code } else q).nextWord c)
    | r => r
  | .compare operand qn rel halt target addr imm =>
    let act (s : State) (v : Nat) : MRes :=
      if relHolds rel v imm then
        (if halt then .fault s { cause := cCheck, write := false, addr := addr, owner := ow }
         else .ok (s.updChan c fun q => q.jumpClear target))
      else .ok (s.nextWord c)
    match operand with
    | 0 => act s (s.mov.queue[qn]).level
    | 1 => act s (q.reg 8)
    | 2 =>
      match endpointOf addr with
      | some (.pool a) =>
        if pastPool a 4 then .fault s { cause := cFormat, write := false, addr := a, owner := ow }
        else match s.moverRead ow a 2 4 with
        | .ok s1 l => act s1 (natLE l)
        | .fault f => .fault s f
        | .hold => .hold
      | _ => .fault s { cause := cBus, write := false, addr := addr, owner := ow }
    | _ => act s (match q.loops[(0 : Fin 2)] with
      | some n => n.toNat
      | none => 0)
  | .crc reset store addr =>
    let w : MRes := if store then
        (match endpointOf addr with
          | some (.pool a) =>
            if pastPool a 4 then .fault s { cause := cFormat, write := true, addr := a, owner := ow }
            else s.moverWrite c ow a 2 false (bytesLE 4 (~~~ (q.regs[(8 : Fin 10)])).toNat)
          | some .null => .ok s
          | _ => .fault s { cause := cBus, write := true, addr := addr, owner := ow })
      else .ok s
    match w with
    | .ok s1 =>
      .ok ((s1.updChan c fun q => if reset then { q with regs := q.regs.set 8 0xFFFFFFFF#32 } else q).nextWord c)
    | r => r
  | .set r v => .ok ((s.updChan c fun q => { q with regs := q.regs.set r v }).nextWord c)

/-- The movers run: the house core runs and PO16 clocks them. -/
def State.moversOn (s : State) : Bool := decide (s.dev.core = .running) && decide (s.clk.pll = .locked)

/-- The word that a channel executes. -/
def State.wordAt (s : State) (c : MovCh) : BitVec 128 := s.mov.prog.getD (s.mov.chan[c]).pc 0

/-- The instruction of a channel in RUN. -/
def State.running (s : State) (c : MovCh) : Option MovInstr :=
  if s.moversOn ∧ (s.mov.chan[c]).state = .run then decodeWord (s.wordAt c) else none

/-- A channel latches a fault and halts (R407): its grant is released, and MOVER FAULT is journalled. -/
def State.latchMover (s : State) (c : MovCh) (f : MFault) : State :=
  let s1 := s.updChan c fun q => { q with
    state := .halted, waitTill := none, waitFrame := none
    latch := some { cause := f.cause, write := f.write, addr := BitVec.ofNat 32 f.addr, word := q.pc, owner := f.owner } }
  let s2 : State := { s1 with mov := { s1.mov with
    granted := if s1.mov.granted = some c then none else s1.mov.granted
    faultAt := (f.owner, s.now) :: s1.mov.faultAt.filter fun e => decide (s.now < e.2 + 60 * tps) } }
  s2.journal 0x88 (c.val * 2048 + f.cause.toNat * 256 + 128 * bit f.write + f.owner.toNat)

/-- The outcome of an instruction of one kind at a channel. -/
def State.execWord (s : State) (c : MovCh) (kind : MovInstr → Bool) : Out :=
  match s.running c with
  | some i =>
    if kind i then
      (match s.moverEffect c i with
        | .hold => Host.Outcome.next s
        | .ok t => Host.Outcome.next t
        | .fault t f => Host.Outcome.next (t.latchMover c f))
    else .next s
  | none => .next s

/-- Level of a channel (Table 9.9). -/
def chanLevel (c : MovCh) : Fin 8 :=
  if c.val < 12 then 6
  else if c.val < 14 then 3
  else if c.val = 14 then 5
  else if c.val < 18 then 4
  else if c.val < 21 then 2
  else if c.val = 21 then 1
  else if c.val = 31 then 7
  else 0

/-- Owner of a channel (Table 9.9). Channels 12 and 13 take the owner of each descriptor; theirs is FREE, which may write
nothing. -/
def chanOwner (c : MovCh) : BitVec 5 :=
  if c.val < 12 then BitVec.ofNat 5 c.val
  else if c.val = 14 then 13
  else if c.val = 15 ∨ c.val = 18 then 14
  else if c.val = 16 ∨ c.val = 19 then 15
  else if c.val = 17 ∨ c.val = 20 then 16
  else if c.val = 21 then 17
  else if c.val = 31 then 18
  else 29

/-- The channel is used (Table 9.9). -/
def chanUsed (c : MovCh) : Bool := decide (c.val ≤ 21) || decide (c.val = 31)

/-- Program words of a channel from a list; the rest of its sixteen are zero. -/
def Mov.putProg (m : Mov) (c : MovCh) (l : List (BitVec 128)) : Mov :=
  { m with prog := Vector.ofFn fun i =>
      if i.val / 16 = c.val then l.getD (i.val % 16) 0 else m.prog[i] }

/-- Load a program and start the channel (R373, R381, R382, R415). -/
def State.loadProg (s : State) (c : MovCh) (l : List (BitVec 128)) : State :=
  let s1 : State := { s with mov := s.mov.putProg c l }
  s1.updChan c fun q => { q with
    state := .run, level := chanLevel c, owner := chanOwner c, pc := 16 * c.val, line := 0, off := 0
    regs := (Vector.replicate 10 0#32).set 8 0xFFFFFFFF#32, loops := Vector.replicate 2 none
    last := none, latch := none, stopReq := false, waitTill := none, waitFrame := none }

/-- The CAPTURE program of a context (R417, Table 9.11): ring base, line bytes and lines of a frame. -/
def captureProgram (k : CamPort) (base rl lines : Nat) : List (BitVec 128) :=
  let w := 16 * k.val
  let word (n : Nat) : BitVec 128 := BitVec.ofNat 128 n
  [word (8 * 2 ^ 124 + 4 * 2 ^ 112 + base),
   word (8 * 2 ^ 124 + 5 * 2 ^ 112 + 16 * rl),
   word (8 * 2 ^ 124 + 7 * 2 ^ 112 + base),
   word (3 * 2 ^ 124 + k.val * 2 ^ 114 + 3 * 2 ^ 112),
   word (6 * 2 ^ 124 + k.val * 2 ^ 112 + 2 * 2 ^ 110 + (w + 9) * 2 ^ 100 + 13 * 2 ^ 32),
   word (2 ^ 124 + (0x10000000 + k.val * 65536) * 2 ^ 88 + rl * 2 ^ 40 + 2 ^ 28 + 4 * 2 ^ 25 + 4 * 2 ^ 22 + 2 ^ 21 +
     k.val * 2 ^ 14 + 2 ^ 12),
   word (2 * 2 ^ 124 + (w + 4) * 2 ^ 111 + lines * 2 ^ 95),
   word (4 * 2 ^ 124 + 2 ^ 111 + 1 * 2 ^ 103),
   word (2 * 2 ^ 124 + (w + 3) * 2 ^ 111),
   word (4 * 2 ^ 124 + k.val * 2 ^ 114 + 3 * 2 ^ 112 + 2 ^ 111 + 2 * 2 ^ 103),
   word (2 * 2 ^ 124 + (w + 3) * 2 ^ 111)]

/-- The FEED, DRAIN and HEAD programs (Table 9.9): a MOVE with X, which waits for its descriptor, in a loop for ever. The
spec gives the template's parts and no words. DESIGN CHOICE. -/
def descProgram (c : MovCh) : List (BitVec 128) :=
  let src := if c.val = 13 then 0x21000000 else 0
  let dst := if c.val = 12 then 0x20000000 else if c.val = 14 then 0x28000000 else 0
  [BitVec.ofNat 128 (2 ^ 124 + 2 ^ 120 + src * 2 ^ 88 + dst * 2 ^ 56 + 16 * 2 ^ 40 + 2 ^ 28 + 4 * 2 ^ 25 + 4 * 2 ^ 22),
   BitVec.ofNat 128 (2 * 2 ^ 124 + 16 * c.val * 2 ^ 111)]

/-- MOVER_PROGRAM_LOAD (R373, R381, R382, R412, R415): a channel of Table 9.9 that does not run takes a program. -/
def execMoverProgramLoad (ch : MovCh) (prog : List (BitVec 128)) (s : State) : Out :=
  whenFormed (decide (prog.length ≤ 16))
    (occurs (s.moversOn && chanUsed ch && (match (s.mov.chan[ch]).state with
        | .idle => true
        | .done => true
        | .stopped => true
        | _ => false)) s
      (s.loadProg ch prog))

/-- The burst that a channel has ready (R374), as the state after it: its transfer's source holds the data, its destination has room. -/
def State.readyBurst (s : State) (c : MovCh) : Option State :=
  match s.running c with
  | some i => match s.nextBurst c i with
    | .ok t => some t
    | _ => none
  | none => none

/-- A channel requests a burst (R374). -/
def State.requests (s : State) (c : MovCh) : Bool := (s.readyBurst c).isSome

/-- The channel that the arbiter grants among those that request (R375, R376): the highest level, and in it the first after the
one served last. -/
def State.arbitrate (s : State) : Option MovCh :=
  let others := allChannels.any fun c => decide (c.val ≠ 31) && s.requests c
  let can (c : MovCh) : Bool := s.requests c && (decide (c.val ≠ 31) || !others || decide (7 ≤ s.mov.since31))
  let levels : List (Fin 8) := (List.finRange 8).reverse
  levels.findSome? fun l =>
    let from_ := (s.mov.served[l]).val + 1
    ((List.range 32).map fun i => (⟨(from_ + i) % 32, by omega⟩ : MovCh)).find? fun c =>
      decide ((s.mov.chan[c]).level = l) && can c

/-- A burst granted to a channel (R375, R376): its level's round-robin pointer and the count since channel 31's latest grant move on. -/
def State.grant (s : State) (c : MovCh) : State :=
  { s with mov := { s.mov with
    granted := some c
    served := s.mov.served.set (s.mov.chan[c]).level c
    since31 := if c.val = 31 then 0 else min 7 (s.mov.since31 + 1) } }

/-- ARBITER_GRANT (R374 to R376): the channel granted makes its burst. -/
def execArbiterGrant (s : State) : Out :=
  match s.arbitrate with
  | none => .next s
  | some c => .next ((s.grant c).readyBurst c |>.getD s)

/-- The bursts of the transfer at a channel's word, one after another while the arbiter grants each of them to the channel (R374,
R375); a fault is latched. -/
def State.runBursts (c : MovCh) (i : MovInstr) : Nat → State → State
  | 0, s => s
  | fuel + 1, s =>
    match s.nextBurst c i with
    | .hold => s
    | .fault t f => t.latchMover c f
    | .ok _ =>
      if s.arbitrate = some c then
        match (s.grant c).readyBurst c with
        | some t => if (t.mov.chan[c]).line = 0 ∧ (t.mov.chan[c]).off = 0 then t else State.runBursts c i fuel t
        | none => s
      else s

/-- More bursts than a line has. -/
def lineBursts (len : Nat) : Nat := len / 16 + 3

/-- A transfer at a channel, as far as the arbiter grants it its bursts. -/
def State.execTransfer (s : State) (c : MovCh) (kind : MovInstr → Bool) : Out :=
  match s.running c with
  | some i =>
    if kind i then
      (match i with
        | .move m => Host.Outcome.next (State.runBursts c i (if m.desc then 65536 else m.count * lineBursts m.len) s)
        | .fill m => Host.Outcome.next (State.runBursts c i (m.count * lineBursts m.len) s)
        | _ => Host.Outcome.next s)
    else .next s
  | none => .next s

/-- The read-back of an END with R (R397): the word read from the pool equals the word written; an endpoint reports it as
accepted. -/
def State.readsBack (s : State) (c : MovCh) (accepted : Bool) : Bool :=
  match (s.mov.chan[c]).last with
  | none => true
  | some (a, l) => if a < poolBytes then decide (memRange s.mov.pool a l.length = l) else accepted

/-- Address of the last write. -/
def MChan.lastAddr (q : MChan) : Nat :=
  match q.last with
  | some (a, _) => a
  | none => 0

/-- MOVER_END (R397, R412). -/
def execMoverEnd (ch : MovCh) (accepted : Bool) (s : State) : Out :=
  match s.running ch with
  | some (.fin r e) =>
    if r && !s.readsBack ch accepted then
      .next (s.latchMover ch { cause := cReadback, write := false, addr := (s.mov.chan[ch]).lastAddr
                               owner := (s.mov.chan[ch]).owner })
    else
      .next (s.updChan ch fun q => { q.event e with state := if q.stopReq then .stopped else .done, stopReq := false })
  | _ => .next s

/-- MOVER_MOVE (R374, R379, R387 to R391, R398, R400). -/
def execMoverMove (ch : MovCh) (s : State) : Out :=
  s.execTransfer ch fun i => match i with
    | .move _ => true
    | _ => false

/-- MOVER_LOOP (R384). -/
def execMoverLoop (ch : MovCh) (s : State) : Out :=
  s.execWord ch fun i => match i with
    | .loop _ _ _ => true
    | _ => false

/-- A WAIT completes: the next word. -/
def MChan.waitEnd (q : MChan) : MChan := { q with state := .run, pc := q.pc + 1, waitTill := none, waitFrame := none }

/-- Microseconds in ticks, rounded up. -/
def usTicks (us : Nat) : Nat := cdiv (us * 32768) 1000000

/-- MOVER_WAIT (R394, R412): a channel that is to stop stops here; a condition that holds lets the channel go on; else it is
held, with its timeout from the time the WAIT is reached. -/
def execMoverWait (ch : MovCh) (s : State) : Out :=
  let q := s.mov.chan[ch]
  match (if s.moversOn && (decide (q.state = .run) || decide (q.state = .wait)) then decodeWord (s.wordAt ch) else none) with
  | some (.wait qn cond timeout _) =>
    if q.stopReq then .next (s.updChan ch fun q => { q with state := .stopped, stopReq := false, waitTill := none, waitFrame := none })
    else if cond = 3 then
      (let seen : Bool := match q.waitFrame with
         | some (_, b) => b
         | none => false
       if q.state = .wait ∧ seen then .next (s.updChan ch MChan.waitEnd)
       else if q.state = .wait then .next s
       else
         let k : CamPort := ⟨qn.val % 12, by omega⟩
         .next ((s.updChan ch fun q => { q with
           state := .wait, waitFrame := some (k, false), waitTill := if timeout = 0 then none else some (s.now + usTicks timeout) }).updCam
             k fun p => { p with fifo := [] }))
    else if s.waitHolds qn cond then .next (s.updChan ch MChan.waitEnd)
    else if q.state = .wait then .next s
    else .next (s.updChan ch fun q => { q with
      state := .wait, waitTill := if timeout = 0 then none else some (s.now + usTicks timeout) })
  | _ => .next s

/-- MOVER_WAIT_TIMEOUT (R385, R395). -/
def execMoverWaitTimeout (ch : MovCh) (s : State) : Out :=
  let q := s.mov.chan[ch]
  match decodeWord (s.wordAt ch), q.waitTill with
  | some (.wait _ _ _ target), some t =>
    occurs (s.moversOn && decide (q.state = .wait) && decide (t ≤ s.now)) s
      (s.updChan ch fun q => { (q.jumpClear target) with state := .run, waitTill := none, waitFrame := none })
  | _, _ => .next s

/-- MOVER_SIGNAL (R386, R392, R393). -/
def execMoverSignal (ch : MovCh) (s : State) : Out :=
  s.execWord ch fun i => match i with
    | .signal _ _ _ _ => true
    | _ => false

/-- MOVER_FILL (R374, R388, R390, R391). -/
def execMoverFill (ch : MovCh) (s : State) : Out :=
  s.execTransfer ch fun i => match i with
    | .fill _ => true
    | _ => false

/-- MOVER_COMPARE (R383, R385). -/
def execMoverCompare (ch : MovCh) (s : State) : Out :=
  s.execWord ch fun i => match i with
    | .compare _ _ _ _ _ _ _ => true
    | _ => false

/-- MOVER_CRC (R398): the store comes before the reset. -/
def execMoverCrc (ch : MovCh) (s : State) : Out :=
  s.execWord ch fun i => match i with
    | .crc _ _ _ => true
    | _ => false

/-- MOVER_SET (R383, Table 9.4). -/
def execMoverSet (ch : MovCh) (s : State) : Out :=
  s.execWord ch fun i => match i with
    | .set _ _ => true
    | _ => false

/-- READBACK_TIMEOUT (R397): no answer to the read-back of an END with R. -/
def execReadbackTimeout (ch : MovCh) (s : State) : Out :=
  match s.running ch with
  | some (.fin true _) =>
    .next (s.latchMover ch { cause := cReadback, write := false, addr := (s.mov.chan[ch]).lastAddr
                             owner := (s.mov.chan[ch]).owner })
  | _ => .next s

/-- The owner in force at a channel (R400, R407): the descriptor's for a MOVE with X, or the owner of the slab where none
waits. -/
def State.ownerInForce (s : State) (c : MovCh) (addr : Nat) : BitVec 5 :=
  match decodeWord (s.wordAt c) with
  | some (.move m) =>
    if m.desc then
      (match s.descOf m with
        | some d => d.owner
        | none => if c.val = 12 ∨ c.val = 13 then s.mov.ownerAt addr else (s.mov.chan[c]).owner)
    else (s.mov.chan[c]).owner
  | _ => (s.mov.chan[c]).owner

/-- The fault that the instruction of a channel meets by itself, with the state it leaves. -/
def State.ownFault (s : State) (c : MovCh) : Option (State × MFault) :=
  if s.moversOn ∧ (s.mov.chan[c]).state = .run then
    match decodeWord (s.wordAt c) with
    | none => some (s, { cause := cIllegal, write := false, addr := 0, owner := (s.mov.chan[c]).owner })
    | some i => match s.moverEffect c i with
      | .fault t f => some (t, f)
      | _ => none
  else none

/-- MOVER_FAULT (R378 to R381, R383, R400, R407): a fault that the instruction meets by itself, or one of cause BUS, ECC,
ILLEGAL or READBACK that the pool, an endpoint in reset or the parity of program memory reports at an address. -/
def execMoverFault (ch : MovCh) (cause : BitVec 3) (write : Bool) (addr : BitVec 32) (s : State) : Out :=
  let live := s.moversOn && (decide ((s.mov.chan[ch]).state = .run) || decide ((s.mov.chan[ch]).state = .wait))
  let own := match s.ownFault ch with
    | some (t, f) => if f.cause = cause then some (t, f) else none
    | none => none
  match own with
  | some (t, f) => .next (t.latchMover ch f)
  | none =>
    occurs (live && (cause = cBus || cause = cEcc || cause = cIllegal || cause = cReadback)) s
      (s.latchMover ch { cause := cause, write := write, addr := addr.toNat, owner := s.ownerInForce ch addr.toNat })

/-- CHANNEL_STOP_REQUEST (R412): a running channel stops at its next WAIT or END; one held at a WAIT stops there. -/
def execChannelStopRequest (ch : MovCh) (s : State) : Out :=
  let q := s.mov.chan[ch]
  occurs (s.moversOn && (decide (q.state = .run) || decide (q.state = .wait))) s
    (if q.state = .wait then s.updChan ch fun q => { q with state := .stopped, stopReq := false, waitTill := none, waitFrame := none }
     else s.updChan ch fun q => { q with stopReq := true })

end Sys2Proof.Machine
end

