-- ==== Sys2Proof/Machine/Geometry.lean ====
section
/-!
DEFINITION. The geometry that the strap compiler gives each kiln context (§8.1, R429 to R433, R492) and the parameters
of Table 8.1 compiled from the beads and recipes in effect.
-/
namespace Sys2Proof.Machine

/-- Head mode in effect. -/
def State.hmode (s : State) : HeadMode := headMode (s.eff 12)

/-- The head takes tiles for these ports (R432): each port whose bead reads index 1 to 14, in port order. -/
def State.tilePorts (s : State) : List CamPort :=
  allCams.filter fun k => decide (1 ≤ s.camUse k) && decide (s.camUse k ≤ 14)

/-- The tiles of the layout. -/
def State.tiles (s : State) : List (Nat × Nat × Nat × Nat) := (layoutOf (s.eff 14)).2.2

/-- Canvas width and height. -/
def State.canvas (s : State) : Nat × Nat := let l := layoutOf (s.eff 14); (l.1, l.2.1)

/-- Each port with its tile in mosaic mode (R432). -/
def State.tileMap (s : State) : List (CamPort × Nat × Nat × Nat × Nat) :=
  if s.hmode = .mosaic then s.tilePorts.zip s.tiles else []

/-- Ports left without a tile (R432). -/
def State.tileless (s : State) : List CamPort :=
  if s.hmode = .mosaic then s.tilePorts.drop s.tiles.length else []

/-- Ports that read index 13 and were not dropped (R324). -/
def State.testPorts (s : State) : List CamPort :=
  allCams.filter fun k => decide (s.camUse k = 13) && !s.bead.dropped[k]

/-- Camera port of a context. -/
def ctxCam (c : Ctx) : Option CamPort := if h : c.val < 12 then some ⟨c.val, h⟩ else none

/-- The recipe of a context. -/
def State.ctxRecipe (s : State) (c : Ctx) : Option Recipe :=
  match ctxCam c with
  | some k => s.portRecipe k
  | none => none

/-- A context is in use (R324). -/
def State.ctxUsed (s : State) (c : Ctx) : Bool :=
  if c.val < 12 then (s.ctxRecipe c).isSome else !s.testPorts.isEmpty

/-- Contexts in use. -/
def State.ctxs (s : State) : List Ctx := allCtx.filter s.ctxUsed

/-- Input width and active lines of a context (R353). -/
def State.ctxSize (s : State) (c : Ctx) : Nat × Nat :=
  match s.ctxRecipe c with
  | some r => (r.hdr.width, r.hdr.lines)
  | none => (1920, 1080)

/-- Lines of an input frame with its optical black (R333). -/
def State.ctxLines (s : State) (c : Ctx) : Nat :=
  match s.ctxRecipe c with
  | some r => r.hdr.allLines
  | none => 1080

/-- The tile of least area, the first of equals. -/
def leastTile : List (Nat × Nat × Nat × Nat) → Option (Nat × Nat × Nat × Nat)
  | [] => none
  | t :: rest =>
    match leastTile rest with
    | none => some t
    | some u => if t.2.2.1 * t.2.2.2 ≤ u.2.2.1 * u.2.2.2 then some t else some u

/-- The tile that sets the geometry of a context (R433). -/
def State.ctxTile (s : State) (c : Ctx) : Option (Nat × Nat × Nat × Nat) :=
  match ctxCam c with
  | some k => (s.tileMap.find? fun e => e.1 = k).map fun e => e.2
  | none => leastTile ((s.tileMap.filter fun e => s.testPorts.contains e.1).map fun e => e.2)

/-- Bead 10 bit [0]: tiles are exported (R487, R494). -/
def State.exportBit (s : State) : Bool := decide (s.eff 10 % 2 = 1)

/-- Crop, output size and packing of a context. -/
structure Geometry where
  cx : Nat
  cy : Nat
  cw : Nat
  ch : Nat
  ow : Nat
  oh : Nat
  pack : Nat
  dest : Nat
  deriving DecidableEq, Repr

/-- The crop of an active area for a tile (R433 steps 1 and 2). -/
def tileCrop (w a wt ht : Nat) : Nat × Nat :=
  let p : Nat × Nat := if a * wt ≤ w * ht then (evenDown (a * wt / ht), a) else (w, evenDown (w * ht / wt))
  let p : Nat × Nat := if 8 * wt < p.1 then (evenDown (8 * wt), evenDown (p.2 * (8 * wt) / p.1)) else p
  if 8 * ht < p.2 then (evenDown (p.1 * (8 * ht) / p.2), evenDown (8 * ht)) else p

/-- The geometry of an active area in a tile (R433). -/
def tileGeometry (w a wt ht pack dest : Nat) : Geometry :=
  let c := tileCrop w a wt ht
  { cx := evenDown ((w - c.1) / 2), cy := evenDown ((a - c.2) / 2), cw := c.1, ch := c.2
    ow := if wt ≤ c.1 then wt else c.1, oh := if wt ≤ c.1 then ht else c.2, pack := pack, dest := dest }

/-- The port of a context reads index 14, so its output keeps the last frame that it carried (R279). -/
def State.holdsLast (s : State) (c : Ctx) : Bool :=
  match ctxCam c with
  | some k => decide (s.camUse k = 14)
  | none => false

/-- The geometry of a context (R349, R429, R433, R492). -/
def State.geometry (s : State) (c : Ctx) : Geometry :=
  if s.holdsLast c then
    let k := s.kiln.ctx[c]
    { cx := 0, cy := 0, cw := k.par 37, ch := k.par 38, ow := k.par 37, oh := k.par 38, pack := k.par 41, dest := 0 }
  else
  let z := s.ctxSize c
  let e := 2 * bit s.exportBit
  match s.hmode, s.ctxTile c with
  | .vc, _ => { cx := 0, cy := 0, cw := z.1, ch := z.2, ow := z.1, oh := z.2, pack := headPack (s.eff 12), dest := 1 + e }
  | .mosaic, some t => tileGeometry z.1 z.2 t.2.2.1 t.2.2.2 (headPack (s.eff 12)) (1 + e)
  | _, _ =>
    if s.exportBit then tileGeometry z.1 z.2 640 360 1 2
    else { cx := 0, cy := 0, cw := z.1, ch := z.2, ow := z.1, oh := z.2, pack := 0, dest := 0 }

/-- OL (R402): bytes of an output line. -/
def outLineBytes (w pack : Nat) : Nat := cdiv (if pack = 0 then w * 2 else cdiv (w * 3) 2) 16 * 16

/-- OL of a geometry. -/
def Geometry.ol (g : Geometry) : Nat := outLineBytes g.ow g.pack

/-- Scaler ratio (R350). -/
def scaleRatio (crop out : Nat) : Nat := if out = 0 then 0 else rdivNat (4096 * crop) out

/-- RL (R402): bytes of an input line. -/
def RecipeHeader.rl (h : RecipeHeader) : Nat := cdiv (h.width * dtBits h.dt) 128 * 16

/-- The exposure map that a recipe declares. -/
def Recipe.expmap (r : Recipe) : Option ExpMap :=
  r.entries.findSome? fun e => match e with
    | .expmap m => some m
    | _ => none

/-- A context works in monochrome (R346, R363, Table 8.4). -/
def State.monochrome (s : State) (c : Ctx) : Bool :=
  decide (c.val < 12) && (decide (s.eff 29 = 5) || (decide (s.eff 29 = 6) && (s.kiln.ctx[c]).mono))

/-- Colour filter order of a context. -/
def State.ctxCfa (s : State) (c : Ctx) : Nat :=
  match s.ctxRecipe c with
  | some r => r.hdr.cfa
  | none => 0

/-- The gains of a context are held at 1,024 (R354, R364, Table 8.4). -/
def State.unityGains (s : State) (c : Ctx) : Bool :=
  decide (c.val = 12) || decide (s.eff 29 = 4) || decide (s.eff 29 = 5) || decide (s.ctxCfa c = 4)

/-- A zone size (R342): an eighth of the crop, even, at least 2. -/
def zoneSize (n : Nat) : Nat := max 2 (evenDown (n / 8))

/-- Lines of the frame that carries a context's output (R348). -/
def State.carrierLines (s : State) (c : Ctx) : Nat :=
  let g := s.geometry c
  if s.hmode = .mosaic ∧ g.dest % 2 = 1 then s.canvas.2 else g.oh

/-- A parameter of a context as compiled (Table 8.1). -/
def State.ctxParam (s : State) (c : Ctx) (i : Fin 46) : Int :=
  let g := s.geometry c
  let h := (s.ctxRecipe c).map Recipe.hdr
  let set601 := decide (s.carrierLines c < 720)
  let n : Nat :=
    match i.val with
    | 0 => bit (s.ctxUsed c)
    | 1 => match h with
      | some h => h.dt
      | none => 0x2C
    | 2 => s.ctxCfa c
    | 3 => (s.ctxSize c).1
    | 4 => match h with
      | some h => h.ob
      | none => 0
    | 5 => (s.ctxSize c).2
    | 6 => match h with
      | some h => if 0 < h.ob then 0 else 1
      | none => 1
    | 7 => 256
    | 8 => 1
    | 9 => 512
    | 10 => s.eff 28 / 8 % 2
    | 11 => if s.eff 28 / 8 % 2 = 1 then 614 else 0
    | 12 => zoneSize g.cw
    | 13 => zoneSize g.ch
    | 14 => 4032
    | 15 => 16 * 2 ^ (s.eff 30 % 4)
    | 16 => ([0, 256, 512, 1024] : List Nat).getD (s.eff 30 / 4 % 4) 0
    | 17 => if s.unityGains c then 1024 else (s.kiln.ctx[c]).wb[(0 : Fin 3)]
    | 18 => if s.unityGains c then 1024 else (s.kiln.ctx[c]).wb[(1 : Fin 3)]
    | 19 => if s.unityGains c then 1024 else (s.kiln.ctx[c]).wb[(2 : Fin 3)]
    | 29 => if c.val = 12 then 4 else s.eff 28 % 8
    | 30 => bit set601
    | 31 => g.cx
    | 32 => g.cy
    | 33 => g.cw
    | 34 => g.ch
    | 35 => scaleRatio g.cw g.ow
    | 36 => scaleRatio g.ch g.oh
    | 37 => g.ow
    | 38 => g.oh
    | 39 => if s.eff 31 = 5 then 1 else s.eff 31
    | 40 => if s.eff 31 = 5 then 2 else 1
    | 41 => g.pack
    | 42 => g.dest
    | 43 => rdivNat (framePeriodNs s.rateIdx) 1000
    | 44 => 737
    | 45 => s.eff 29
    | j =>
      if s.monochrome c then
        (if set601 then ([77, 150, 29] : List Nat) else [54, 183, 19]).getD ((j - 20) % 3) 0
      else if (j - 20) % 4 = 0 then 256 else 0
  n

/-- The 46 parameters of a context as compiled (R325). -/
def State.ctxParams (s : State) (c : Ctx) : Vector Int 46 := Vector.ofFn fun i => s.ctxParam c i

end Sys2Proof.Machine
end

