-- ==== Sys2Proof/Machine/Budget.lean ====
section
/-!
DEFINITION. The allocation of pool buffers (R402) and the budgets of the strap compiler (Table 2.5) with the fallback of
R78 and R82.
-/
namespace Sys2Proof.Machine

/-- Owner of a buffer (Table 9.6). -/
def BufKind.owner : BufKind → BitVec 5
  | .core => 17
  | .rx p => BitVec.ofNat 5 (14 + p.val)
  | .tx p => BitVec.ofNat 5 (14 + p.val)
  | .mirror => 18
  | .head => 13
  | .input k => BitVec.ofNat 5 k.val
  | .tile c => BitVec.ofNat 5 c.val
  | .export_ c => BitVec.ofNat 5 c.val

/-- Allocated from the top (Table 9.6). -/
def BufKind.fromTop : BufKind → Bool
  | .core => true
  | .rx _ => true
  | .tx _ => true
  | .mirror => true
  | _ => false

/-- Number of FREE slabs in a row from a slab, at most n, with the slabs of the list left out. -/
def freeRun (owner : Vector (BitVec 5) 384) (avoid : List Nat) : Nat → Nat → Bool
  | _, 0 => true
  | i, n + 1 => decide (owner.getD i 31#5 = 29#5) && !avoid.contains i && freeRun owner avoid (i + 1) n

/-- The base of a run of n slabs: the lowest or the highest that fits (R402). -/
def findRun (owner : Vector (BitVec 5) 384) (avoid : List Nat) (n : Nat) (top : Bool) : Option Nat :=
  let bases := List.range (385 - n)
  (if top then bases.reverse else bases).find? fun b => freeRun owner avoid b n

/-- Place one buffer (R402); the slabs to avoid are used only where nothing else fits (R408). -/
def placeBuf (owner : Vector (BitVec 5) 384) (avoid : List Nat) (kind : BufKind) (n : Nat) :
    Option (Nat × Vector (BitVec 5) 384) :=
  let base := match findRun owner avoid n kind.fromTop with
    | some b => some b
    | none => if avoid.isEmpty then none else findRun owner [] n kind.fromTop
  base.map fun b =>
    (b, Vector.ofFn fun i => if b ≤ i.val ∧ i.val < b + n then kind.owner else owner[i])

/-- Place buffers in order; none where one does not fit. -/
def placeAll (avoid : List Nat) : List (BufKind × Nat) → Vector (BitVec 5) 384 → Option (List Buffer × Vector (BitVec 5) 384)
  | [], o => some ([], o)
  | (k, n) :: rest, o =>
    match placeBuf o avoid k n with
    | none => none
    | some (b, o1) =>
      match placeAll avoid rest o1 with
      | none => none
      | some (l, o2) => some ({ kind := k, base := b, count := n } :: l, o2)

/-- Buffers of the start-up of the mains domain, in order (R402). -/
def State.startNeeds (s : State) : List (BufKind × Nat) :=
  [(.core, 16)] ++
  ((allPorts.filter fun p => s.portRole p != .off).map fun p => [(.rx p, 8), (.tx p, 8)]).flatten ++
  (if s.twinPort.isSome then [(.mirror, 2)] else [])

/-- Buffers of one context, in order (R402, Table 9.6). -/
def State.ctxNeeds (s : State) (c : Ctx) : List (BufKind × Nat) :=
  let g := s.geometry c
  (match ctxCam c, s.ctxRecipe c with
    | some k, some r => [(.input k, cdiv (16 * r.hdr.rl) 16384)]
    | _, _ => []) ++
  (if g.dest % 2 = 1 then [(.tile c, cdiv (g.oh * g.ol) 16384)] else []) ++
  (if 2 ≤ g.dest then [(.export_ c, cdiv (32 * g.ol) 16384)] else [])

/-- The tile stores of ports that came to read index 14 in Sand, which keep the last frame that they carried (R279). -/
def State.heldStores (s : State) : List (BufKind × Nat) :=
  (s.mov.bufs.filter fun b => match b.kind with
    | .tile c => s.holdsLast c
    | _ => false).map fun b => (b.kind, b.count)

/-- Buffers of a Sand entry, in order (R402). -/
def State.sandNeeds (s : State) : List (BufKind × Nat) :=
  (if s.hmode = .off then [] else [(.head, 4)]) ++ (s.ctxs.map s.ctxNeeds).flatten ++ s.heldStores

/-- The rate of a context in 0.01 frame/s (R333). -/
def State.ctxRate (s : State) (c : Ctx) : Nat :=
  let out := 10 * frameRate10 s.rateIdx
  match s.ctxRecipe c with
  | some r => min r.hdr.rate out
  | none => out

/-- Row 1, the kiln pixel rate (R333). -/
def State.kilnPixels (s : State) : Nat :=
  sumNat (s.ctxs.map fun c => s.ctxRate c * s.ctxLines c * ((s.ctxSize c).1 + 48))

/-- The slot round in kiln clocks (R334). -/
def State.kilnRound (s : State) : Nat := sumNat (s.ctxs.map fun c => cdiv (s.ctxSize c).1 2 + 24)

/-- Row 2, the slot budget (R334, R335): context 12 has no declared line time and sets no limit. -/
def State.slotsFit (s : State) : Bool :=
  s.ctxs.all fun c => match s.ctxRecipe c with
    | some r => match r.expmap with
      | some m => decide (s.kilnRound ≤ 8 * m.lineTime)
      | none => decide (s.kilnRound * r.hdr.rate * r.hdr.allLines ≤ 64000000000)
    | none => true

/-- Ports that send on VC 0 to 11 in virtual-channel mode, with their contexts (R427). -/
def State.vcPorts (s : State) : List (CamPort × Ctx) :=
  (allCams.filter fun k => (s.portRecipe k).isSome || s.testPorts.contains k).map fun k =>
    (k, if s.testPorts.contains k then 12 else camCtx k)

/-- Bytes that the head sends in 100 seconds (R440). -/
def State.headBytes (s : State) : Nat :=
  let rate := 10 * frameRate10 s.rateIdx
  let entries := if s.hmode = .mosaic then s.tileMap.length else s.vcPorts.length
  let fixed := (32 + 64 * entries + 38 + 72) + (512 + 38 + 72)
  if s.hmode = .mosaic then
    rate * (fixed + s.canvas.2 * (outLineBytes s.canvas.1 (headPack (s.eff 12)) + 38) + 72)
  else
    rate * fixed + sumNat (s.vcPorts.map fun e =>
      let g := s.geometry e.2
      s.ctxRate e.2 * (g.oh * (g.ol + 38) + (max (2 * g.ow) 48 + 38) + 72))

/-- Row 3, the head link (R425, R440, R441). -/
def State.headFits (s : State) : Bool :=
  if s.hmode = .off then true
  else
    let d := laneDiv (s.eff 13)
    let ol := outLineBytes s.canvas.1 (headPack (s.eff 12))
    decide (s.headBytes * 8 * d ≤ 3600000000000) &&
      (decide (s.hmode ≠ .mosaic) ||
        decide (ol + 38 ≤ 4 * (framePeriodNs s.rateIdx / (s.canvas.2 + 8) * 10 / (8 * d))))

/-- An owner table with only its QUARANTINED slabs. -/
def quarantinedOnly (o : Vector (BitVec 5) 384) : Vector (BitVec 5) 384 :=
  Vector.ofFn fun i => if o[i] = 31#5 then 31#5 else 29#5

/-- Row 4, the clay pool (R413). -/
def State.poolFits (s : State) : Bool :=
  (placeAll [] (s.startNeeds ++ s.sandNeeds) (quarantinedOnly s.mov.owner)).isSome

/-- Mover channels in use with their levels and demands in 0.01 byte/s (Table 9.8). -/
def State.moverDemands (s : State) : List (Nat × Nat) :=
  let ports := allPorts.filter fun p => s.portRole p != .off
  let withInput := s.ctxs.filter fun c => c.val < 12
  [(7, 125000000000), (1, 5000000000)] ++
  (withInput.map fun c => match s.ctxRecipe c with
    | some r => (6, r.hdr.rate * r.hdr.allLines * r.hdr.rl)
    | none => (6, 0)) ++
  (if s.hmode = .off then [] else [(5, 500000000000 / laneDiv (s.eff 13))]) ++
  (ports.map fun _ => (4, 31250000000)) ++ (ports.map fun _ => (2, 31250000000)) ++
  (if withInput.isEmpty then [] else [(3, sumNat (withInput.map fun c => match s.ctxRecipe c with
    | some r => s.ctxRate c * s.ctxLines c * r.hdr.rl
    | none => 0))]) ++
  (if s.ctxs.isEmpty then [] else [(3, sumNat (s.ctxs.map fun c =>
    let g := s.geometry c
    s.ctxRate c * g.oh * g.ol * (g.dest % 2 + g.dest / 2)))])

/-- Row 5, the movers (R414). -/
def State.moversFit (s : State) : Bool :=
  let l := s.moverDemands
  (List.range 8).all fun p =>
    let at_ := l.filter fun e => e.1 = p
    let above := sumNat ((l.filter fun e => p < e.1).map fun e => e.2)
    at_.isEmpty || (decide (above + sumNat (at_.map fun e => e.2) ≤ 800000000000) &&
      at_.all fun e => decide (e.2 * at_.length + above ≤ 800000000000))

/-- Row 6, tile export (R494). -/
def State.exportBytes (s : State) : Nat :=
  sumNat ((s.ctxs.filter fun c => decide (2 ≤ (s.geometry c).dest)).map fun c =>
    let g := s.geometry c
    s.ctxRate c * cdiv (48 + g.oh * g.ol) 2032 * 2080)

/-- Row 7, the scaler ratio (R350). -/
def State.scalersFit (s : State) : Bool :=
  s.ctxs.all fun c =>
    let g := s.geometry c
    let ok (x : Nat) : Bool := decide (4096 ≤ x) && decide (x ≤ 32768)
    ok (scaleRatio g.cw g.ow) && ok (scaleRatio g.ch g.oh)

/-- The budgets of Table 2.5 by row for the configuration in effect at the rate in force. -/
def State.budgetRow (s : State) (row : Nat) : Bool :=
  match row with
  | 1 => decide (s.kilnPixels ≤ 144000000000)
  | 2 => s.slotsFit
  | 3 => s.headFits
  | 4 => s.poolFits
  | 5 => s.moversFit
  | 6 => decide (s.exportBytes ≤ 15625000000)
  | _ => s.scalersFit

/-- The first budget that fails, none where all fit (R76, R79). -/
def State.budgetFails (s : State) : Option Nat := [1, 2, 3, 4, 5, 6, 7].find? fun r => !s.budgetRow r

/-- The configuration with another output frame rate. -/
def State.atRate (s : State) (i : Nat) : State :=
  { s with bead := { s.bead with rate := ⟨i % 16, by omega⟩ } }

/-- The rates from one on in descending order (R78). -/
def ratesFrom (i : Nat) : List Nat := ratesDescending.dropWhile fun x => x != i

/-- The first rate at which the configuration fits, from a rate down (R78). -/
def State.fitRate (s : State) (start : Nat) : Option Nat :=
  (ratesFrom start).find? fun i => (s.atRate i).budgetFails.isNone

/-- The first budget that fails at the lowest rate (R79). -/
def State.failedAtLowest (s : State) : Nat := ((s.atRate 0).budgetFails).getD 0

/-- The configuration of some readings, whole (R76). -/
def State.withReadings (s : State) (r : Vector Reading 40) : State :=
  { s with bead := { s.bead with eff := Vector.ofFn fun b => Vector.replicate 8 (valueUsed b r[b]) } }

/-- A port with a frame in progress keeps the recipe it has until its frame boundary (R302, R313). -/
def State.holdRecipe (s : State) (k : CamPort) : State :=
  if (s.cam[k]).frame.isSome then s.updCam k fun q => { q with held := s.portRecipe k } else s

/-- The configuration with a camera port dropped (R82): what the check counts, so without a frame in progress. -/
def State.dropPort (s : State) (k : CamPort) : State :=
  { s.updCam k fun q => { q with held := none } with bead := { s.bead with dropped := s.bead.dropped.set k true } }

/-- Camera ports that a drop can take, the highest first (R82). A port at index 14 and one without a valid recipe take part in no
budget, so they are never dropped: the model's choice (log 62). -/
def State.droppable (s : State) : List CamPort :=
  allCams.reverse.filter fun k => !s.bead.dropped[k] && ((s.portRecipe k).isSome || decide (s.camUse k = 13))

/-- Drop ports until a rate fits (R82): the configuration, its rate if one fits, and the ports dropped. -/
def dropUntil (start : Nat) : List CamPort → State → List CamPort → State × Option Nat × List CamPort
  | [], s, l => (s, s.fitRate start, l)
  | k :: rest, s, l =>
    match s.fitRate start with
    | some i => (s, some i, l)
    | none => dropUntil start rest (s.dropPort k) (l ++ [k])

/-- Journal that ports were left without a tile (R432). -/
def State.headExcess (s : State) : State :=
  if s.tileless.isEmpty then s
  else s.journal 0x91 (sumNat (s.tileless.map fun k => 2 ^ k.val))

/-- Journal codes of the strap compiler with their data (Table 6.8): requested and applied rates, refused budget, port. -/
def State.journalFallback (s : State) (wanted applied : Nat) : State := s.journal 0x0C (wanted * 256 + applied)

end Sys2Proof.Machine
end

