-- ==== Sys2Proof/Machine/KilnUnit.lean ====
section
/-!
DEFINITION. The kiln: line slots, frames, tags, statistics, auto-exposure, white balance and kiln faults (chapter 8).
-/
namespace Sys2Proof.Machine

/-- Base address of an allocated buffer. -/
def Mov.base (m : Mov) (k : BufKind) : Option Nat := (m.bufs.find? fun b => b.kind = k).map fun b => b.base * 16384

/-- RL and the input ring of a context: base address, line bytes. -/
def State.inRing (s : State) (c : Ctx) : Option (Nat × Nat) :=
  match ctxCam c, s.ctxRecipe c with
  | some k, some r => (s.mov.base (.input k)).map fun b => (b, r.hdr.rl)
  | _, _ => none

/-- Input lines of a frame by the working set. -/
def KCtx.lines (k : KCtx) : Nat := k.par 4 + k.par 5

/-- A position in a ring of 16 lines moved on by some lines. -/
def ringStep (base rl pos n : Nat) : Nat := base + (pos - base + n * rl) % (16 * rl)

/-- A frame start lies at least 0.95 × FR_MIN after the latest one processed (R331). Stamps are in 1/65,536 ns. -/
def KCtx.frameWanted (k : KCtx) (stamp : Nat) : Bool :=
  match k.lastStart with
  | some t => decide (95 * k.par 43 * 1000 * 65536 ≤ 100 * (stamp - t))
  | none => true

/-- The output queue has room for one line (R330): no line of the context waits in the kiln output FIFO, and its export
ring of 32 lines is not full. -/
def State.kilnRoom (s : State) (c : Ctx) : Bool :=
  (s.kiln.out.all fun o => o.2.1 != c) &&
  ((s.kiln.ctx[c]).par 42 < 2 || decide ((s.mov.queue[exportQueue c]).level < 32))

/-- Input lines of the frame in progress that have been taken: the rows and the line of the slot in progress. -/
def State.taken (s : State) (c : Ctx) : Nat := (s.kiln.ctx[c]).rows.length + bit (decide (s.kiln.slot = some c))

/-- The start of the test frame that is due (R353): frames start at the output frame rate in force, the first one now. -/
def State.testStart (s : State) (k : KCtx) : Option Nat :=
  let p := framePeriodNs s.rateIdx * 65536
  match k.lastStart with
  | none => some s.fab.time
  | some t => if t + p ≤ s.fab.time then some (t + (s.fab.time - t) / p * p) else none

/-- The frame that a context works on or would begin, with the lines it has left; a frame that is not to be processed is none
(R331, R353). -/
def State.kilnFrame (s : State) (c : Ctx) : Option (CamFrame × Nat) :=
  let k := s.kiln.ctx[c]
  if c.val = 12 then
    match k.cur with
    | some f => some (f, 1080 - s.taken c)
    | none => (s.testStart k).map fun t =>
        ({ stamp := t, num := BitVec.ofNat 16 k.testFrame, counter := BitVec.ofNat 32 k.testFrame, startTick := s.now }, 1080)
  else match k.cur with
    | some f => some (f, k.lines - s.taken c)
    | none => match k.frames with
      | f :: _ => if k.next.frameWanted f.stamp then some (f, k.next.lines) else none
      | [] => none

/-- The tile store of a context has had its first fill (R404). -/
def State.storeFilled (s : State) (c : Ctx) : Bool :=
  s.mov.jobs.all fun j => match j with
    | .black b _ => decide (s.mov.base (.tile c) ≠ some (b * 16384))
    | .scrub _ => true

/-- A context is ready for a slot (R324, R330): it is in use, its next input line and the two after it, or the last lines of its frame, are in
the pool, and there is room for its output. In the drain of a changeover only a frame in progress goes on. -/
def State.ctxReady (s : State) (c : Ctx) : Bool :=
  let k := s.kiln.ctx[c]
  s.kiln.running && s.ctxUsed c && !k.fault && !k.resync && !k.skipping && s.kilnRoom c && s.storeFilled c &&
  (s.dev.changeover = .idle || (s.dev.changeover = .drain && k.cur.isSome)) &&
  match s.kilnFrame c with
  | none => false
  | some (_, left) =>
    decide (0 < left) && (c.val = 12 || ((s.inRing c).isSome && decide (min 3 left ≤ (s.mov.queue[inQueue c]).level)))

/-- The kiln is clocked: the mains domain runs in Sand with the PLL locked. -/
def State.kilnOn (s : State) : Bool := s.kiln.running && s.moversOn && decide (s.dev.mode = .sand)

/-- A frame whose lines are to be released without a slot is begun as such (R331), and the lines it has in the pool are
released. -/
def State.releaseLines (s : State) (c : Ctx) : State :=
  let k0 := s.kiln.ctx[c]
  let k1 : KCtx := match k0.cur, k0.frames with
    | none, f :: rest =>
      if k0.next.frameWanted f.stamp || k0.resync then k0
      else { k0 with cur := some f, frames := rest, skipping := true, rows := [], outDone := 0 }
    | _, _ => k0
  if !k1.skipping then s
  else match s.inRing c with
    | none => s.updCtx c fun _ => { k1 with cur := none, skipping := false }
    | some (b, rl) =>
      let all := k1.next.lines
      let n := min (s.mov.queue[inQueue c]).level (all - k1.outDone)
      let s1 := s.updQueue (inQueue c) fun q => { q with level := q.level - n }
      s1.updCtx c fun _ =>
        if all ≤ k1.outDone + n then
          { k1 with cur := none, skipping := false, outDone := 0, readPos := ringStep b rl k1.readPos n }
        else { k1 with outDone := k1.outDone + n, readPos := ringStep b rl k1.readPos n }

/-- The tag record of a frame (Tables 8.5 and 8.6). -/
def State.tagRecord (s : State) (c : Ctx) (k : KCtx) (f : CamFrame) : List Byte :=
  let test := decide (c.val = 12)
  let flags := f.flagWord + 256 * bitsNat [!k.heldConv && !test, decide (k.par 20 ≠ 256), test, burnLeftOut k.work,
    s.clk.age.unverified, k.obFixed]
  let body := [1, BitVec.ofNat 8 c.val] ++ bytesLE 2 s.fab.addr.toNat ++ bytesLE 2 flags ++ bytesLE 2 f.num.toNat ++
    bytesLE 8 (f.stamp / 65536) ++ bytesLE 2 (f.stamp % 65536) ++ bytesLE 4 f.counter.toNat ++
    bytesLE 3 f.exposure ++ [0] ++ bytesLE 2 f.gain ++ bytesLE 2 (k.par 17) ++ bytesLE 2 (k.par 18) ++
    bytesLE 2 (k.par 19) ++ bytesLE 2 k.heldMeasure ++ bytesLE 2 (k.par 37) ++ bytesLE 2 (k.par 38) ++ zeros 4
  body ++ crcLE body

/-- The first line slot of a frame (R326, R365): an armed shadow set is taken, and the loop state that the tag reports is
held. -/
def KCtx.begin (k : KCtx) (f : CamFrame) : KCtx :=
  { k with
    work := if k.armed then k.shadow else k.work
    armed := false, cur := some f, frames := k.frames.drop 1, rows := [], outDone := 0, lastStart := some f.stamp
    heldConv := k.converged, heldMeasure := k.measure }

/-- The active rows of the frame in progress as samples of 12 bits. -/
def KCtx.active (k : KCtx) : Img := rowsImg (k.rows.drop (k.par 4))

/-- The pixels that the output stages take. -/
def KCtx.source (c : Ctx) (k : KCtx) (f : CamFrame) : Int → Int → Pixel :=
  if c.val = 12 then patternPixel f.counter.toNat
  else rawPixel k.work k.bl k.active (k.par 3) (k.par 5)

/-- An output line with its padding to OL (R402). -/
def KCtx.outBytes (c : Ctx) (k : KCtx) (f : CamFrame) (j : Nat) : List Byte :=
  let l := outLine k.work (k.source c f) (burnText c.val (f.stamp / 65536) f.counter.toNat) j
  l ++ zeros (outLineBytes (k.par 37) (k.par 41) - l.length)

/-- The output lines that are ready after some active rows (R332). -/
def KCtx.ready (k : KCtx) (rows : Nat) : List Nat :=
  ((List.range (k.par 38)).drop k.outDone).takeWhile fun j => decide (lastNeeded k.work j < rows) || decide (k.par 5 ≤ rows)

/-- The descriptors and bytes of one output line for every destination (R352, R389). -/
def State.outEntries (s : State) (c : Ctx) (k : KCtx) (f : CamFrame) (j : Nat) : List (Nat × Ctx × Fin 64 × List Byte) :=
  let ol := outLineBytes (k.par 37) (k.par 41)
  let bytes := k.outBytes c f j
  (match s.mov.base (.tile c) with
    | some b => if k.par 42 % 2 = 1 then [(b + j * ol, c, tileQueue c, bytes)] else []
    | none => []) ++
  (match s.mov.base (.export_ c) with
    | some b => if 2 ≤ k.par 42 then [(b + (k.expWrite + j - k.outDone) % 32 * ol, c, exportQueue c, bytes)] else []
    | none => [])

/-- Output lines sent to the kiln output FIFO; the first one of a frame brings the frame's tag record to its export image (R493), and
that of the first processed frame lets the port join (R319). -/
def State.emitLines (s : State) (c : Ctx) (f : CamFrame) (rows : Nat) : State :=
  let k := s.kiln.ctx[c]
  let l := k.ready rows
  let out := (l.map fun j => s.outEntries c k f j).flatten
  let s1 := s.updCtx c fun k => { k with
    outDone := k.outDone + l.length
    expWrite := if 2 ≤ k.par 42 then (k.expWrite + l.length) % 32 else k.expWrite
    expTags := if 2 ≤ k.par 42 ∧ k.outDone = 0 ∧ l ≠ [] then k.expTags ++ [s.tagRecord c k f] else k.expTags }
  let s2 : State := { s1 with kiln := { s1.kiln with out := s1.kiln.out ++ out } }
  match ctxCam c with
  | some p =>
    if !l.isEmpty && !(s2.cam[p]).joinReady && decide ((s2.cam[p]).state = .streaming) then
      s2.updCam p fun q => { q with joinReady := true, joinAt := s.fab.time }
    else s2
  | none => s2

/-- The samples of statistics: the active rows after stages 2 to 4. -/
def KCtx.rawStages (k : KCtx) : Img :=
  let w := k.par 3
  let h := k.par 5
  let m := mirrored w h
  let black := m (blackStage k.bl k.active)
  let dp := m (if k.work[(8 : Fin 46)] = 1 then defectStage k.work[(9 : Fin 46)] (if k.par 2 = 4 then 1 else 2) black else black)
  lensStage k.work[(11 : Fin 46)] w h dp

/-- The last slot of a frame: statistics (R342), the tag record (R365), and the frame is complete in its store. -/
def State.endFrame (s : State) (c : Ctx) (f : CamFrame) : State :=
  let k := s.kiln.ctx[c]
  let st := if c.val = 12 then none
    else some (frameStats (k.par 2) k.rawStages (k.par 31) (k.par 32) (k.par 33) (k.par 34) (k.par 12) (k.par 13)
      k.work[(14 : Fin 46)])
  let left := burnLeftOut k.work
  let s1 := s.updCtx c fun k => { k with
    cur := none, rows := [], outDone := 0
    stats := st, statsNew := st.isSome, statFrame := f.index, statLate := f.expLate
    tag := s.tagRecord c k f, doneCounter := f.counter, doneNew := true
    testFrame := if c.val = 12 then k.testFrame + 1 else k.testFrame
    burnOmitted := left }
  let s2 := if left && !k.burnOmitted then s1.journal 0x85 (c.val * 4096) else s1
  match ctxCam c with
  | some p => { s2 with head := { s2.head with tile := s2.head.tile.set p { freshAt := s.now, held := false } } }
  | none => s2

/-- Black levels where the optical-black lines of the frame have come (R338); OB FIXED is journalled at the first frame
of a run. -/
def State.blackLevels (s : State) (c : Ctx) : State :=
  let k := s.kiln.ctx[c]
  let n := k.rows.length
  if c.val = 12 then s
  else if k.par 6 = 1 then
    (if n = 1 then s.updCtx c fun k => { k with bl := Vector.replicate 4 (256 * k.par 7), blSet := true, obFixed := false } else s)
  else if n = k.par 4 then
    let r := obLevels k.rows (k.par 4) (k.par 3) (k.par 7) k.bl (!k.blSet)
    let s1 := s.updCtx c fun k => { k with bl := r.1, blSet := true, obFixed := r.2 }
    if r.2 && !k.obFixed then s1.journal 0x86 (c.val * 4096) else s1
  else s

/-- A line slot begins (R326, R329, R389, R396): the context's queue is one less, its read position moves on, and the descriptor of the
line is given to the kiln feed. -/
def State.beginSlot (s : State) (c : Ctx) (f : CamFrame) : State :=
  let s1 := if (s.kiln.ctx[c]).cur.isNone then
      (s.updCtx c fun k => k.begin f).updQueue (tileQueue c) fun q => { q with level := 0 }
    else s
  let pos := (s1.kiln.ctx[c]).readPos
  let s2 : State := match s1.inRing c with
    | none => s1
    | some (b, rl) =>
      let t := (s1.updQueue (inQueue c) fun q => { q with level := q.level - 1 }).updCtx c fun k => { k with
        readPos := ringStep b rl k.readPos 1 }
      { t with kiln := { t.kiln with feed := [(pos, c, rl)] } }
  { s2 with kiln := { s2.kiln with slot := some c, lineIn := [], last := c, readySince := none } }

/-- The samples of 12 bits of an input line (R337). -/
def KCtx.unpacked (k : KCtx) (line : List Byte) : List Nat :=
  ((unpackRaw (k.par 1) line).take (k.par 3)).map fun x => x * 2 ^ (12 - dtBits (k.par 1))

/-- A line slot ends (R329, R332, R336): the line that the kiln feed brought is processed. -/
def State.endSlot (s : State) (c : Ctx) : State :=
  let s1 := s.updCtx c fun k => { k with rows := k.rows ++ [if c.val = 12 then [] else k.unpacked s.kiln.lineIn] }
  let s2 := ({ s1 with kiln := { s1.kiln with slot := none, lineIn := [] } } : State).blackLevels c
  let k := s2.kiln.ctx[c]
  match k.cur with
  | none => s2
  | some g =>
    let s3 := if k.par 4 < k.rows.length then s2.emitLines c g (k.rows.length - k.par 4) else s2
    if k.lines ≤ k.rows.length then s3.endFrame c g else s3

/-- The slot boundary (R330): a slot whose line has come whole, or which has none to wait for, ends. -/
def State.slotBoundary (s : State) : State :=
  match s.kiln.slot with
  | some c => if s.kiln.feed.isEmpty then s.endSlot c else s
  | none => s

/-- The contexts in round-robin order after the one served last (R330). -/
def State.slotOrder (s : State) : List Ctx :=
  (List.range 13).map fun i => ⟨(s.kiln.last.val + 1 + i) % 13, by omega⟩

/-- KILN_LINE_SLOT (R326, R329 to R332, R336 to R354, R365 to R368, R396): a slot boundary ends the slot in progress, and the next
context that is ready begins one. -/
def execKilnLineSlot (s : State) : Out :=
  if s.kilnOn then
    let s0 := (allCtx.foldl (fun t (c : Ctx) => if c.val < 12 then t.releaseLines c else t) s).slotBoundary
    if s0.kiln.slot.isSome then .next s0
    else match s0.slotOrder.find? s0.ctxReady with
      | none => .next s0
      | some c =>
        match s0.kilnFrame c with
        | some (f, _) => .next (s0.beginSlot c f)
        | none => .next s0
  else .next s

/-- Latency of the AE loop in frames. -/
def State.aeLatency (s : State) (c : Ctx) : Nat :=
  match ctxCam c with
  | some k => match (s.cam[k]).expmap with
    | some m => m.latency
    | none => 0
  | none => 0

/-- Luma of a zone in 1/65,536 (R356). -/
def ZoneStat.luma (z : ZoneStat) : Nat :=
  if z.counted = 0 then 4095 * 65536 else rdivNat ((z.r + z.g + z.b) * 65536) (4 * z.counted)

/-- The measure M (R356): the weighted mean of the zone lumas, rounded, at least 1. -/
def Stats.measure (st : Stats) : Nat :=
  let w (i : Nat) : Nat := if 2 ≤ i % 8 ∧ i % 8 ≤ 5 ∧ 2 ≤ i / 8 ∧ i / 8 ≤ 5 then 2 else 1
  max 1 (rdivNat (sumNat ((List.range 64).map fun i => w i * (st.zones.getD i {}).luma)) (80 * 65536))

/-- KILN_STATISTICS_READY (R342, R355): the statistics of a frame reach the house core; a usable frame updates M. -/
def execKilnStatisticsReady (c : Ctx) (s : State) : Out :=
  let k := s.kiln.ctx[c]
  match k.stats, ctxCam c with
  | some st, some p =>
    occurs (k.statsNew && s.moversOn) s
      (let usable := decide ((s.cam[p]).state = .streaming) && !k.statLate && decide (k.updFrame + s.aeLatency c ≤ k.statFrame)
       s.updCtx c fun k => { k with
         statsNew := false
         aePend := usable, awbPend := usable
         measure := if usable then st.measure else k.measure })
  | _, _ => .next s

/-- The error ratio e as a fraction (R356). -/
def KCtx.errorRatio (k : KCtx) (st : Stats) : Nat × Nat :=
  let left := sumNat (st.zones.map fun z => z.left)
  let cells := k.par 33 / 2 * (k.par 34 / 2)
  let m := st.measure
  if cells < 50 * left ∧ 7 * m < 10 * 737 then (7, 10) else (737, m)

/-- |log2 (a / b)| ≥ n / 10, by tenth powers. -/
def logAtLeast (a b n : Nat) : Bool :=
  decide (2 ^ n * b ^ 10 ≤ a ^ 10) || decide (2 ^ n * a ^ 10 ≤ b ^ 10)

/-- The largest x below 2^n for which a test that holds up to some number still holds. -/
def largest (p : Nat → Bool) : Nat → Nat → Nat
  | 0, x => x
  | n + 1, x => if p (x + 2 ^ n) then largest p n (x + 2 ^ n) else largest p n x

/-- 10^(x / 2,000) in 1/4,096, rounded: the gain of x in 0.01 dB. -/
def gainOfDb (x : Nat) : Nat := (largest (fun m => decide (m ^ 2000 ≤ 8192 ^ 2000 * 10 ^ x)) 32 0 + 1) / 2

/-- round(20 log10(gain) / step) for a gain in 1/4,096 of at least 1 and a step in 0.01 dB (R359). -/
def dbSteps (gain step : Nat) : Nat :=
  largest (fun n => n = 0 || decide (4096 ^ 4000 * 10 ^ ((2 * n - 1) * step) ≤ gain ^ 4000)) 12 0

/-- The gain of a code in 1/4,096 (R359). -/
def ExpMap.gainOf (m : ExpMap) (code : Nat) : Nat :=
  if m.law = 0 then (if m.code1 = 0 then 4096 else rdivNat (code * 4096) m.code1)
  else gainOfDb ((code - m.code1) * m.step)

/-- The gain code of a gain in 1/4,096 (R359). -/
def ExpMap.codeOf (m : ExpMap) (gain : Nat) : Nat :=
  let code := if m.law = 0 then rdivNat (m.code1 * gain) 4096 else m.code1 + dbSteps gain m.step
  min code m.codeMax

/-- The largest gain in 1/4,096. -/
def ExpMap.maxGain (m : ExpMap) : Nat := max 4096 (m.gainOf m.codeMax)

/-- P after an update (R358), in 1/4,096 line. -/
def nextProduct (p : Nat) (e : Nat × Nat) (early : Bool) : Nat :=
  if early then
    (if e.1 * 8 < e.2 then rdivNat p 8 else if 8 * e.2 < e.1 then 8 * p else rdivNat (p * e.1) e.2)
  else
    let r := isqrt (e.1 * 2 ^ 32 / e.2)
    rdivNat (p * clampNat 32768 131072 r) 65536

/-- Exposure, gain in 1/4,096 and gain code of a product (R359). -/
def ExpMap.splitProduct (m : ExpMap) (p : Nat) : Nat × Nat × Nat :=
  let ex := clampNat m.minExp m.maxExp (rdivNat p 4096)
  let g := clampNat 4096 m.maxGain (if ex = 0 then 4096 else rdivNat p ex)
  let code := m.codeOf g
  (ex, m.gainOf code, code)

/-- An exposure burst asked for (R307): one that is running makes it wait. -/
def CamSt.askBurst (q : CamSt) (v : Nat × Nat) : CamSt :=
  if q.burstBusy then { q with burstWait := some v } else { q with burst := some v }

/-- Since when a condition has held. -/
def since (holds : Bool) (old : Option Nat) (now : Nat) : Option Nat :=
  if holds then some (old.getD now) else none

/-- The convergence of a context changes, with its journal entry (R357). -/
def State.setConverged (s : State) (c : Ctx) (b : Bool) : State :=
  if (s.kiln.ctx[c]).converged = b then s
  else (s.updCtx c fun k => { k with converged := b }).journal 0x83 (c.val * 4096 + bit b)

/-- AE_UPDATE (R355 to R359, R363): one usable frame. -/
def execAeUpdate (c : CamPort) (s : State) : Out :=
  let x := camCtx c
  let k := s.kiln.ctx[x]
  match k.stats, (s.cam[c]).expmap, s.portRecipe c with
  | some st, some m, some r =>
    occurs (k.aePend && decide ((s.cam[c]).state = .streaming)) s
      (let e := k.errorRatio st
       let s0 := s.updCtx x fun k => { k with aePend := false }
       let big := logAtLeast e.1 e.2 1
       let far := logAtLeast e.1 e.2 3
       let s1 := if far then s0.setConverged x false else s0
       let s2 :=
         if big then
           let v := m.splitProduct (nextProduct (k.exposure * k.gain) e (decide (k.updates < 4)))
           (s1.updCtx x fun k => { k with
             exposure := v.1, gain := v.2.1, updates := k.updates + 1, quiet := 0, updFrame := k.statFrame }).updCam c
               fun q => q.askBurst (v.1, v.2.2)
         else
           let t := s1.updCtx x fun k => { k with quiet := k.quiet + 1 }
           let t1 := if 4 ≤ k.quiet + 1 then t.setConverged x true else t
           t1.updCtx x fun k => { k with
             lastConv := if k.converged || decide (4 ≤ k.quiet + 1) then some (k.exposure, k.gain, m.codeOf k.gain, r) else k.lastConv }
       s2.updCtx x fun k => { k with
         maxSince := since (decide (m.maxExp ≤ k.exposure) && decide (m.codeMax ≤ m.codeOf k.gain)) k.maxSince s.now
         lowSince := since (decide (4 * k.exposure * k.gain ≤ m.maxExp * m.maxGain)) k.lowSince s.now })
  | _, _, _ => .next s

/-- The rate α of the AWB loop as a divider (Table 8.4); none where it does not run. -/
def State.awbDivider (s : State) (c : CamPort) : Option Nat :=
  if s.ctxCfa (camCtx c) = 4 then none
  else match s.eff 29 with
    | 0 => some 8
    | 1 => some 64
    | 2 => some 2
    | 3 => if (s.kiln.ctx[camCtx c]).awbFrames < 60 then some 2 else none
    | 6 => some 8
    | _ => none

/-- Zones that the white balance uses (R361). -/
def Stats.awbZones (st : Stats) : List ZoneStat :=
  st.zones.filter fun z => decide (205 * 65536 ≤ z.luma) && decide (z.luma ≤ 3686 * 65536) &&
    decide (16 * z.left < z.counted + z.left)

/-- A white-balance target (R361). -/
def awbTarget (g x : Nat) : Nat := if x = 0 then 4096 else clampNat 512 4096 (rdivNat (1024 * g) (2 * x))

/-- The shadow entries of the white-balance gains and the matrix written and armed (R326, R327). -/
def State.armColour (s : State) (c : Ctx) : State :=
  s.updCtx c fun k => { k with
    armed := true
    shadow := Vector.ofFn fun (i : Fin 46) => if 17 ≤ i.val ∧ i.val ≤ 28 then s.ctxParam c i else k.shadow[i] }

/-- AWB_UPDATE (R327, R361, R362, R364). -/
def execAwbUpdate (c : CamPort) (s : State) : Out :=
  let x := camCtx c
  let k := s.kiln.ctx[x]
  match k.stats with
  | none => .next s
  | some st =>
    occurs (k.awbPend && decide ((s.cam[c]).state = .streaming)) s
      (let s0 := s.updCtx x fun k => { k with awbPend := false, awbFrames := k.awbFrames + 1 }
       match s.awbDivider c with
       | none => s0
       | some d =>
         let z := st.awbZones
         if z.length < 8 then s0
         else
           let g := sumNat (z.map fun a => a.g)
           let move (old target : Nat) : Nat := rdivNat (old * (d - 1) + target) d
           let s1 := s0.updCtx x fun k => { k with wb := #v[
             move k.wb[(0 : Fin 3)] (awbTarget g (sumNat (z.map fun a => a.r))), move k.wb[(1 : Fin 3)] 1024,
             move k.wb[(2 : Fin 3)] (awbTarget g (sumNat (z.map fun a => a.b)))] }
           s1.armColour x)

/-- NIGHT_MODE (R363). -/
def execNightMode (c : CamPort) (s : State) : Out :=
  let x := camCtx c
  let k := s.kiln.ctx[x]
  let long (t : Option Nat) : Bool := match t with
    | some t => decide (t + 10 * tps ≤ s.now)
    | none => false
  occurs (decide (s.eff 29 = 6) && s.ctxUsed x && (if k.mono then long k.lowSince else long k.maxSince)) s
    (((s.updCtx x fun k => { k with mono := !k.mono }).armColour x).journal 0x84 (c.val * 4096 + bit (!k.mono)))

/-- The frame in progress of a context is abandoned (R369 to R371): what it has left is released as it comes. -/
def KCtx.abandon (k : KCtx) : KCtx :=
  match k.cur with
  | some _ => { k with skipping := true, outDone := if k.skipping then k.outDone else k.rows.length, rows := [] }
  | none => k

/-- The abandonment of a test frame, which has no lines in the pool. -/
def KCtx.abandonFor (c : Ctx) (k : KCtx) : KCtx :=
  if c.val = 12 then { k with cur := none, rows := [], outDone := 0 } else k.abandon

/-- The slot in progress of a context is given up: its line counts as taken, and the kiln feed has no descriptor. -/
def State.cancelSlot (s : State) (c : Ctx) : State :=
  if s.kiln.slot = some c then
    let s1 := (s.updCtx c fun k => { k with rows := k.rows ++ [[]] }).updChan 12 fun q => { q with off := 0 }
    { s1 with kiln := { s1.kiln with slot := none, lineIn := [], feed := [] } }
  else s

/-- The export image of a frame that is abandoned after its first line is given up: its lines in the ring and on their way go. -/
def State.dropImage (s : State) (c : Ctx) : State :=
  let k := s.kiln.ctx[c]
  if k.cur.isSome ∧ 0 < k.outDone ∧ ¬ k.skipping ∧ 2 ≤ k.par 42 then
    let s1 := (s.updQueue (exportQueue c) fun q => { q with level := 0 }).updCtx c fun k => { k with
      expRead := k.expWrite, expBuf := [], expOff := 0, expTags := [], expDest := none }
    { s1 with kiln := { s1.kiln with out := s1.kiln.out.filter fun e => e.2.2.1 != exportQueue c } }
  else s

/-- The frame in progress of a context is abandoned with its slot and its export image (R369 to R371). -/
def State.abandonFrame (s : State) (c : Ctx) : State :=
  let s1 := (s.cancelSlot c).dropImage c
  s1.updCtx c fun k => k.abandonFor c

/-- KILN_OVERRUN (R369, R396): the frame in progress is dropped and the read position comes from the queue's resync
word. -/
def execKilnOverrun (c : Ctx) (s : State) : Out :=
  occurs (s.kiln.running && (s.kiln.ctx[c]).resync) s
    (let s1 := (s.abandonFrame c).updCtx c fun k => { k with
       resync := false, cur := none, rows := [], outDone := 0, skipping := false
       readPos := ((s.mov.queue[inQueue c]).resync).toNat }
     ({ s1 with kiln := { s1.kiln with overruns := s1.kiln.overruns + 1 } } : State).journal 0x80 (c.val * 4096))

/-- The kiln is reset (R371): its FIFO crossings flush (R169), every working set is loaded again, and each context goes on
at its next frame start; a second hang within 60 s is KILN FAULT. -/
def State.kilnReset (s : State) : State :=
  let hangs := s.now :: recent s.now (60 * tps) s.kiln.hangs
  let fatal := decide (2 ≤ hangs.length)
  let s0 := allCtx.foldl (fun t (c : Ctx) => t.abandonFrame c) s
  let s1 : State := { s0 with kiln := { s0.kiln with
    hangs := hangs, hangCount := s.kiln.hangCount + 1, feed := [], out := [], readySince := none
    ctx := Vector.ofFn fun (c : Ctx) =>
      { s0.kiln.ctx[c] with work := s.ctxParams c, shadow := s.ctxParams c, armed := false } } }
  let s2 := s1.journal 0x82 (bit (!fatal))
  if fatal then s2.latchFatal .kilnFault else s2

/-- KILN_PARITY (R370): the frame is abandoned, the shadow set rewritten and armed; a third within 60 s is a hang. -/
def execKilnParity (c : Ctx) (slot : Fin 46) (s : State) : Out :=
  occurs (s.kilnOn && s.ctxUsed c) s
    (let times := s.now :: recent s.now (60 * tps) (s.kiln.ctx[c]).parityAt
     let s1 := (s.abandonFrame c).updCtx c fun k => { k with parityAt := times, shadow := s.ctxParams c, armed := true }
     let s2 := ({ s1 with kiln := { s1.kiln with parities := s1.kiln.parities + 1 } } : State).journal 0x81
       (c.val * 4096 + slot.val)
     if 3 ≤ times.length then s2.kilnReset else s2)

/-- KILN_HANG (R371): no slot for 1.0 ms while a context is ready. -/
def execKilnHang (s : State) : Out :=
  occurs (s.kilnOn && (allCtx.any s.ctxReady) && (match s.kiln.readySince with
      | some t => decide (t + msTicks 1 ≤ s.now)
      | none => false)) s
    s.kilnReset

end Sys2Proof.Machine
end

