-- ==== Sys2Proof/Machine/Pool.lean ====
section
/-!
DEFINITION. The clay pool: allocation of the buffers, scrubbing, and the recovery of mover faults (§9.7 to §9.9).
-/
namespace Sys2Proof.Machine

/-- Place buffers that the owner table has room for, one after another (R402); one without room is left out. -/
def State.placeBufs (s : State) (avoid : List Nat) : List (BufKind × Nat) → State
  | [] => s
  | (k, n) :: rest =>
    match placeBuf s.mov.owner avoid k n with
    | none => State.placeBufs s avoid rest
    | some (b, o) =>
      State.placeBufs { s with mov := { s.mov with
        owner := o, bufs := s.mov.bufs ++ [{ kind := k, base := b, count := n }]
        jobs := s.mov.jobs ++ (match k with
          | .tile _ => [Job.black b n]
          | _ => []) } } avoid rest

/-- The watermarks of the input queues (R416). -/
def State.setWatermarks (s : State) : State :=
  { s with mov := { s.mov with queue := Vector.ofFn fun (q : Fin 64) =>
      if q.val < 13 then { s.mov.queue[q] with high := 13, low := 3 } else s.mov.queue[q] } }

/-- The allocation of a start-up of the mains domain (R402), with the levels and owners of the channels (R415). -/
def State.allocStart (s : State) : State :=
  let s1 : State := { s with mov := { s.mov with
    chan := Vector.ofFn fun (c : MovCh) =>
      if chanUsed c then { s.mov.chan[c] with level := chanLevel c, owner := chanOwner c } else s.mov.chan[c] } }
  (s1.placeBufs [] s.startNeeds).setWatermarks

/-- Start the capture of a context (R415, R417). -/
def State.startCapture (s : State) (c : Ctx) : State :=
  match ctxCam c, s.inRing c with
  | some k, some (b, rl) =>
    let s1 := s.loadProg (⟨k.val, by omega⟩ : MovCh) (captureProgram k b rl (s.ctxLines c))
    s1.updCtx c fun x => { x with readPos := b }
  | _, _ => s

/-- Start the feed, drain and head channels that are in use (Table 9.9). -/
def State.startShared (s : State) : State :=
  let s1 := if s.ctxs.isEmpty then s else (s.loadProg 12 (descProgram 12)).loadProg 13 (descProgram 13)
  if s.hmode = .off then s1 else s1.loadProg 14 (descProgram 14)

/-- SAND_ENTRY_ALLOCATION (R328, R402, R404, R415 to R417): once in a Sand entry, when the slabs that it needs are FREE. -/
def execSandEntryAllocation (s : State) : Out :=
  occurs (decide (s.dev.mode = .sand) && decide (s.dev.changeover = .idle) && s.moversOn && !s.kiln.running &&
      (placeAll [] s.sandNeeds s.mov.owner).isSome) s
    (let s1 := s.placeBufs [] s.sandNeeds
     let s2 : State := { s1 with kiln := { s1.kiln with
       running := true, last := 12
       ctx := Vector.ofFn fun (c : Ctx) =>
         { s1.kiln.ctx[c] with work := s1.ctxParams c, shadow := s1.ctxParams c, armed := false, fault := false } } }
     (s2.ctxs.foldl (fun t (c : Ctx) => t.startCapture c) s2).startShared)

/-- A buffer whose kind and size the configuration still needs. -/
def bufNeeded (needs : List (BufKind × Nat)) (b : Buffer) : Bool := needs.any fun n => n.1 = b.kind && n.2 = b.count

/-- Start those of the feed, drain and head channels that the configuration has come to use (R415). -/
def State.startMissing (s : State) : State :=
  let off (c : MovCh) : Bool := decide ((s.mov.chan[c]).state = .idle) || decide ((s.mov.chan[c]).state = .stopped)
  let s1 := if !s.ctxs.isEmpty && off 12 then s.loadProg 12 (descProgram 12) else s
  let s2 := if !s.ctxs.isEmpty && off 13 then s1.loadProg 13 (descProgram 13) else s1
  if s.hmode ≠ .off ∧ off 14 = true then s2.loadProg 14 (descProgram 14) else s2

/-- The capture channel of an input ring runs: its ring stays until the channel has stopped (R412). -/
def Mov.captureRuns (m : Mov) (k : BufKind) : Bool :=
  match k with
  | .input c => decide ((m.chan.getD c.val {}).state = .run)
  | _ => false

/-- The frame in progress of a context whose output buffer has moved is abandoned (R403): its lines in the kiln output FIFO
and in the export ring are gone. -/
def State.dropOutput (s : State) (c : Ctx) : State :=
  let s1 := (s.abandonFrame c).updCtx c fun x => { x with
    expBuf := [], expOff := 0, expTags := [], expRead := 0, expWrite := 0, expDest := none }
  { s1 with kiln := { s1.kiln with out := s1.kiln.out.filter fun e => e.2.1 != c } }

/-- The capture of a context after its ring has changed (R403, R412): started again on a new ring; a channel held at its
WAIT whose ring is gone stops there; one that runs is asked to stop. -/
def State.syncCapture (s : State) (k : CamPort) (fresh stale : Bool) : State :=
  let c := camCtx k
  let ch : MovCh := ⟨k.val, by omega⟩
  let st := (s.mov.chan[ch]).state
  let gone := (s.mov.base (.input k)).isNone
  if st = .run ∧ (stale = true ∨ gone = true ∨ fresh = true) then s.updChan ch fun q => { q with stopReq := true }
  else if fresh = true ∧ (st = .idle ∨ st = .done ∨ st = .stopped ∨ st = .wait) then
    (s.startCapture c).updCtx c fun x => { x with cur := none, frames := [], rows := [], outDone := 0, skipping := false }
  else if gone = true ∧ st = .wait then
    s.updChan ch fun q => { q with state := .stopped, stopReq := false, waitTill := none, waitFrame := none }
  else s

/-- The buffers of Sand brought to the configuration (R403): those no longer needed are released through scrub, those
missing are placed, and the captures of new input rings start; a capture that runs is asked to stop (R412), and its ring
is changed once it has. -/
def State.syncBufs (s : State) : State :=
  if !s.kiln.running then s
  else
    let needs := s.sandNeeds
    let stale (k : BufKind) : Bool := !keptBuffer k && s.mov.bufs.any fun b => decide (b.kind = k) && !bufNeeded needs b
    let waits (k : BufKind) : Bool := stale k && s.mov.captureRuns k
    let s1 := s.releaseBufs fun k => !stale k || waits k
    let missing := needs.filter fun n => !(s1.mov.bufs.any fun b => b.kind = n.1)
    let s2 := s1.placeBufs [] missing
    let moved (c : Ctx) : Bool :=
      missing.any fun n => (n.1 = .tile c || n.1 = .export_ c) && (s2.mov.base n.1).isSome
    let s3 := allCtx.foldl (fun t (c : Ctx) => if moved c || stale (.tile c) || stale (.export_ c) then t.dropOutput c else t) s2
    let placed (k : CamPort) : Bool :=
      (missing.any fun n => n.1 = .input k) && (s3.mov.base (.input k)).isSome
    let s4 := allCams.foldl (fun t (k : CamPort) => t.syncCapture k (placed k) (waits (.input k))) s3
    ({ s4 with mov := { s4.mov with syncDue := allCams.any fun k => waits (.input k) } } : State).startMissing

/-- SCRUB_JOB (R404, R406): the oldest scrub, or else the oldest other job of channel 31, is done. -/
def execScrubJob (s : State) : Out :=
  let st := (s.mov.chan[(31 : MovCh)]).state
  let job := match s.mov.jobs.find? (fun j => match j with
      | .scrub _ => true
      | _ => false) with
    | some j => some j
    | none => s.mov.jobs.head?
  match job with
  | none => .next s
  | some j =>
    occurs (s.moversOn && decide (st ≠ .halted) && decide (st ≠ .fenced)) s
      ({ s with mov := { s.mov.doJob j with jobs := s.mov.jobs.erase j } } : State).syncBufs

/-- Slabs of an owner. -/
def Mov.slabsOf (m : Mov) (o : BitVec 5) : List Nat := (List.range 384).filter fun i => decide (m.owner.getD i 31#5 = o)

/-- The queues of an owner (R416). -/
def ownerQueue (o : BitVec 5) (q : Fin 64) : Bool :=
  let n := o.toNat
  if n < 13 then q.val = n || q.val = 16 + n || q.val = 32 + n
  else if n = 13 then q.val = 56
  else if n < 17 then q.val = 48 + (n - 14) || q.val = 51 + (n - 14)
  else n = 17 && q.val = 60

/-- The buffers that an owner has in the configuration (R408 step 5). -/
def State.ownerNeeds (s : State) (o : BitVec 5) : List (BufKind × Nat) :=
  (s.startNeeds ++ (if s.kiln.running then s.sandNeeds else [])).filter fun n => n.1.owner = o

/-- The context of an owner. -/
def ownerCtx (o : BitVec 5) : Option Ctx := if h : o.toNat < 13 then some ⟨o.toNat, h⟩ else none

/-- Reclaim and scrub the slabs of an owner (R408 steps 2 to 4): its channels stop, its queues are 0, its FIFO crossings
flush, its buffers go; a context loses the frame in progress with no entry of its own. -/
def State.reclaim (s : State) (o : BitVec 5) : State :=
  let slabs := s.mov.slabsOf o
  let s0 : State := { s with fab := { s.fab with port := Vector.ofFn fun (p : FabPort) =>
    if o.toNat = 14 + p.val then { s.fab.port[p] with
      rxFifo := [], txFifo := [], granted := if (s.fab.port[p]).link = .active then ringCredits else (s.fab.port[p]).granted } else s.fab.port[p] } }
  let s1 : State := { s0 with mov := { s.mov with
    owner := Vector.ofFn fun i => if s.mov.owner[i] = o then 30#5 else s.mov.owner[i]
    bufs := s.mov.bufs.filter fun b => b.kind.owner != o
    queue := Vector.ofFn fun (q : Fin 64) => if ownerQueue o q then { s.mov.queue[q] with level := 0 } else s.mov.queue[q]
    chan := Vector.ofFn fun (c : MovCh) =>
      if (s.mov.chan[c]).owner = o ∧ c.val ≠ 31 ∧ (s.mov.chan[c]).state ≠ .idle then { s.mov.chan[c] with state := .stopped }
      else s.mov.chan[c] } }
  let s2 : State := { s1 with mov := (slabs.map Job.scrub).foldl Mov.doJob s1.mov }
  match ownerCtx o with
  | some c =>
    let s3 := (s2.cancelSlot c).updCtx c fun x => { x with
      cur := none, frames := [], rows := [], outDone := 0, skipping := false, resync := false, expBuf := [], expOff := 0
      expTags := [], expRead := 0, expWrite := 0, expDest := none }
    let s4 : State := { s3 with kiln := { s3.kiln with
      feed := s3.kiln.feed.filter fun e => e.2.1 != c, out := s3.kiln.out.filter fun e => e.2.1 != c } }
    (match ctxCam c with
      | some k => s4.updCam k fun q => { q with fifo := [] }
      | none => s4)
  | none => if o = 13#5 then { s2 with head := { s2.head with segs := [], lineIn := [] } } else s2

/-- The words of a channel's program. -/
def Mov.progOf (m : Mov) (c : MovCh) : List (BitVec 128) := (List.range 16).map fun i => m.prog.getD (16 * c.val + i) 0

/-- Start a channel again with the program it has (R408 step 6). -/
def State.restartChan (s : State) (c : MovCh) : State := s.loadProg c (s.mov.progOf c)

/-- Start the channels of an owner again (R408 step 6): the capture of a context from its template, every other one that
was stopped with its own program; a port sends again what waited for its transmit channel. -/
def State.restartOwner (s : State) (o : BitVec 5) : State :=
  let s1 := match ownerCtx o with
    | some c => s.startCapture c
    | none => s
  let s2 := allChannels.foldl (fun t (c : MovCh) =>
    if (t.mov.chan[c]).owner = o ∧ 12 ≤ c.val ∧ c.val ≠ 31 ∧ (t.mov.chan[c]).state = .stopped then t.restartChan c else t) s1
  allPorts.foldl (fun t (p : FabPort) => if o.toNat = 14 + p.val then t.updPort p fun q => q.drain t.now (t.txCarries p) else t) s2

/-- What a third fault of an owner within 60 s does (R409). -/
def State.ownerFatal (s : State) (o : BitVec 5) : State :=
  let n := o.toNat
  if h : n < 12 then s.camStop ⟨n, h⟩ .failed
  else if n = 12 then s.updCtx 12 fun x => { x with fault := true }
  else if n = 13 ∨ n = 17 then s.latchFatal .moverFault
  else if h : 14 ≤ n ∧ n < 17 then s.updPort ⟨n - 14, by omega⟩ fun q => { q with quarPend := some 7 }
  else s

/-- The faulted channel that is recovered next (R411): the lowest that is halted, after channel 31. -/
def State.faulted (s : State) : Option MovCh :=
  if (s.mov.chan[(31 : MovCh)]).state = .halted then none
  else allChannels.find? fun c => decide (c.val ≠ 31) && decide ((s.mov.chan[c]).state = .halted)

/-- MOVER_RECOVERED (R408, R409, R411): fence, stop siblings, reclaim, scrub, reallocate, restart. During the changeover to
Loam no restart follows. A shared channel goes on for the other owners. -/
def execMoverRecovered (s : State) : Out :=
  match s.faulted with
  | none => .next s
  | some c =>
    match (s.mov.chan[c]).latch with
    | none => .next s
    | some l =>
      occurs (decide (s.dev.core = .running)) s
        (let o := l.owner
         let real := decide (o.toNat < 19)
         let s1 := s.updChan c fun q => { q with state := .fenced, latch := none }
         let avoid := s.mov.slabsOf o
         let s2 := if real then s1.reclaim o else s1
         let s3 := s2.updChan c fun q => { q with state := .stopped }
         if s.dev.changeover ≠ .idle then s3
         else
           let s4 := if real then s3.placeBufs avoid (s3.ownerNeeds o) else s3
           let s5 := if (s4.mov.chan[c]).owner ≠ o then s4.restartChan c else s4
           let times := (s.mov.faultAt.filter fun e => e.1 = o && decide (s.now < e.2 + 60 * tps)).length
           if 3 ≤ times then (s5.ownerFatal o).journal 0x8B (c.val * 2048 + o.toNat)
           else (s5.restartOwner o).journal 0x89 (c.val * 2048 + o.toNat))

/-- The kiln parameters compiled again and armed for the next frame (R325 to R327). -/
def State.armKiln (s : State) : State :=
  let arm (c : Ctx) : KCtx :=
    if s.ctxParams c = (s.kiln.ctx[c]).shadow then s.kiln.ctx[c]
    else { s.kiln.ctx[c] with shadow := s.ctxParams c, armed := true }
  if s.kiln.running then { s with kiln := { s.kiln with ctx := Vector.ofFn arm } } else s

/-- A port that loses its recipe or its place goes to a state: at its frame boundary where a frame is open (R313). -/
def State.camLeave (s : State) (k : CamPort) (st : PortState) : State :=
  if (s.cam[k]).state = .off ∨ (s.cam[k]).state = st then s
  else if (s.cam[k]).frame.isSome then s.updCam k fun q => { q with leave := some st }
  else s.leaveNow k st

/-- The configuration in force checked again after a quarantine of slabs (R82): the first rate that fits from the rate in
force down; camera ports dropped, the highest first, until one does. A higher rate that waits for its boundary is given up: the
rate never rises above the one in force. -/
def State.recheck (s : State) : State :=
  let old := s.rateIdx
  let r := dropUntil old s.droppable s []
  let s1 := r.2.2.foldl (fun t (k : CamPort) => ((t.holdRecipe k).camLeave k .disabled).journal 0x0E k.val) s
  let rate := r.2.1.getD old
  let s2 : State := { s1 with bead := { s1.bead with
    dropped := r.1.bead.dropped, rate := ⟨rate % 16, by omega⟩, rateNext := none, fallback := decide (rate ≠ s.eff 15) } }
  let s3 := if rate ≠ old then s2.journalFallback (s.eff 15) rate else s2
  s3.armKiln.syncBufs

/-- CHANNEL_31_FAULT (R410, R411): the slab being written and every slab that waits for its scrub are QUARANTINED, the
budgets are checked again, and channel 31 goes on; a third fault within 60 s is MOVER FAULT. -/
def execChannel31Fault (s : State) : Out :=
  match (s.mov.chan[(31 : MovCh)]).latch with
  | none => .next s
  | some l =>
    occurs (decide ((s.mov.chan[(31 : MovCh)]).state = .halted) && decide (s.dev.core = .running)) s
      (let waits := s.mov.jobs.filterMap fun j => match j with
         | .scrub n => some n
         | _ => none
       let at_ := if l.addr.toNat < poolBytes ∧ ¬ waits.contains (l.addr.toNat / 16384) then [l.addr.toNat / 16384] else []
       let slabs := at_ ++ waits
       let times := s.now :: recent s.now (60 * tps) s.mov.fault31At
       let s1 : State := { s with mov := { s.mov with
         owner := Vector.ofFn fun i => if slabs.contains i.val then 31#5 else s.mov.owner[i]
         jobs := s.mov.jobs.filter fun j => match j with
           | .scrub _ => false
           | _ => true
         fault31At := times } }
       let s2 := s1.updChan 31 fun q => { q with state := .run, latch := none, line := 0, off := 0 }
       let s3 := slabs.foldl (fun t (n : Nat) => t.journal 0x8A n) s2
       let s4 := s3.recheck
       if 3 ≤ times.length then s4.latchFatal .moverFault else s4)

end Sys2Proof.Machine
end

