-- ==== Sys2Proof/Machine/Recipes.lean ====
section
/-!
DEFINITION. The recipe EEPROM, the recipe cache and its poll (§7.5, §7.6).
-/
namespace Sys2Proof.Machine

/-- A 16-bit field at an offset (R296). -/
def field16 (l : List Byte) (o : Nat) : Nat := natLE (slice l o 2)

/-- A byte at an offset. -/
def field8 (l : List Byte) (o : Nat) : Nat := (l.getD o 0).toNat

/-- The bit rate that a header declares lies within 0.9 of its lanes (R303). -/
def RecipeHeader.rateFits (h : RecipeHeader) : Bool :=
  decide (h.width * dtBits h.dt * h.allLines * h.rate * 10 ≤ 9 * h.lanes * h.laneRate * 100000000)

/-- Every field of a header in its range (Table 7.6). -/
def RecipeHeader.inRange (h : RecipeHeader) : Bool :=
  decide (0x08 ≤ h.cciAddr.toNat ∧ h.cciAddr.toNat ≤ 0x77) &&
  decide (h.cciOpts.toNat < 8 ∧ h.cciOpts.toNat % 4 ≤ 2) &&
  decide (1 ≤ h.lanes ∧ h.lanes ≤ 2) && decide (80 ≤ h.laneRate ∧ h.laneRate ≤ 2500) &&
  decide (600 ≤ h.mclk ∧ h.mclk ≤ 5400) && decide (0x2A ≤ h.dt ∧ h.dt ≤ 0x2C) && decide (h.vc ≤ 3) && decide (h.cfa ≤ 4) &&
  decide (h.flags.toNat < 16) && (decide (h.laneRate ≤ 1500) || h.flags.getLsbD 1) &&
  decide (64 ≤ h.width ∧ h.width ≤ 4096 ∧ h.width % 2 = 0) && decide (64 ≤ h.lines ∧ h.lines ≤ 3072 ∧ h.lines % 2 = 0) &&
  decide (h.ob ≤ 16) && (if h.triggered then decide (1 ≤ h.fsyncWidth ∧ h.fsyncWidth ≤ 127) else decide (h.fsyncWidth = 0)) &&
  decide (100 ≤ h.rate ∧ h.rate ≤ 12000) && decide (h.powerUp ≤ 500) &&
  decide (50 ≤ h.startTimeout ∧ h.startTimeout ≤ 2000) && h.rateFits

/-- The header of a recipe (Table 7.6), none where it is out of range (R303). -/
def parseHeader (l : List Byte) : Option RecipeHeader :=
  let h : RecipeHeader := {
    cciAddr := l.getD 1 0, cciOpts := l.getD 2 0, lanes := field8 l 3, laneRate := field16 l 4, mclk := field16 l 6
    dt := field8 l 8, vc := field8 l 9, cfa := field8 l 10, flags := l.getD 11 0, width := field16 l 12
    lines := field16 l 14, ob := field8 l 16, fsyncWidth := field8 l 17, rate := field16 l 18, latency := field16 l 20
    powerUp := field16 l 22, startTimeout := field16 l 24 }
  if field8 l 0 = 1 ∧ slice l 26 6 = zeros 6 ∧ h.inRange = true then some h else none

/-- The exposure map of a payload (Table 7.8), none where it is not 26 bytes or out of range. -/
def parseExpMap (p : List Byte) : Option ExpMap :=
  let m : ExpMap := {
    expReg := field16 p 0, expWidth := field8 p 2, latency := field8 p 3, lineTime := field16 p 4, frameLen := field16 p 6
    minExp := field16 p 8, margin := field16 p 10, gainReg := field16 p 12, gainWidth := field8 p 14, law := field8 p 15
    code1 := field16 p 16, codeMax := field16 p 18, step := field16 p 20, holdReg := field16 p 22
    holdVal := p.getD 24 0, relVal := p.getD 25 0 }
  if p.length = 26 ∧ 1 ≤ m.expWidth ∧ m.expWidth ≤ 3 ∧ 1 ≤ m.latency ∧ m.latency ≤ 3 ∧ 100 ≤ m.lineTime ∧ 64 ≤ m.frameLen ∧
      1 ≤ m.minExp ∧ m.minExp ≤ m.frameLen ∧ 1 ≤ m.gainWidth ∧ m.gainWidth ≤ 2 ∧ m.law ≤ 1 ∧
      (if m.law = 1 then 1 ≤ m.step ∧ m.step ≤ 600 else m.step = 0)
  then some m else none

/-- One entry from its opcode and payload (Table 7.7, R305); hasMap is whether an exposure map was declared before. -/
def parseEntry (op : Byte) (p : List Byte) (hasMap : Bool) : Entry :=
  let reg := field16 p 0
  match op.toNat with
  | 0 => if p.isEmpty then .done else .skip op
  | 1 => if 3 ≤ p.length ∧ p.length ≤ 34 then .write reg (p.drop 2) else .skip op
  | 2 => if p.length = 4 then .rmw reg (p.getD 2 0) (p.getD 3 0) else .skip op
  | 3 =>
    let t := field16 p 4
    if p.length = 6 ∧ 1 ≤ t ∧ t ≤ 2000 then .poll reg (p.getD 2 0) (p.getD 3 0) t else .skip op
  | 4 =>
    let t := field16 p 0
    if p.length = 2 ∧ 1 ≤ t ∧ t ≤ 1000 then .delay t else .skip op
  | 5 =>
    if hasMap then .skip op
    else match parseExpMap p with
      | some m => .expmap m
      | none => .skip op
  | _ => .skip op

/-- The entry is an exposure map. -/
def Entry.isMap : Entry → Bool
  | .expmap _ => true
  | _ => false

/-- The entries of a sequence up to its END or the end of the recipe (R304 to R306). A payload cut short by the end of the
recipe is outside its opcode's range. -/
def parseEntries : Nat → List Byte → Bool → List Entry
  | 0, _, _ => []
  | n + 1, op :: len :: rest, hasMap =>
    if rest.length < len.toNat then [.skip op]
    else match parseEntry op (rest.take len.toNat) hasMap with
      | .done => [.done]
      | e => e :: parseEntries n (rest.drop len.toNat) (hasMap || e.isMap)
  | _ + 1, _, _ => []

/-- The directory is valid, or the cause of RECIPE BUS (R298, Table 7.9). -/
def directoryFault : Option (List Byte) → Option Nat
  | none => some 1
  | some l =>
    if l.take 5 ≠ [0x52#8, 0x43#8, 0x50#8, 0x31#8, 0x01#8] then some 2
    else if natLE (slice l 108 4) ≠ (crc32 (slice l 0 108)).toNat then some 3
    else none

/-- The generation of a directory. -/
def directoryGen (l : List Byte) : BitVec 32 := BitVec.ofNat 32 (natLE (slice l 8 4))

/-- The slot table of a directory. -/
def directoryEntries (l : List Byte) : Vector (BitVec 64) 12 :=
  Vector.ofFn fun i => BitVec.ofNat 64 (natLE (slice l (12 + 8 * i.val) 8))

/-- What the EEPROM holds in a slot (R298): the verified recipe or the reason of Table 7.9. -/
def readSlot (l : List Byte) (e : BitVec 64) : SlotSt :=
  let off := e.toNat % 65536
  let len := e.toNat / 65536 % 65536
  if off = 0 ∧ len = 0 then .bad 1
  else if 65536 < off + len ∨ l.length < off + len then .bad 4
  else if len < 64 ∨ 8192 < len then .bad 3
  else
    let r := slice l off len
    if (crc32 r).toNat ≠ e.toNat / 2 ^ 32 then .bad 2
    else match parseHeader r with
      | none => .bad 3
      | some h => .good { hdr := h, entries := parseEntries len (r.drop 32) false }

/-- The slot of a use of Table 7.1, as an index from 0. -/
def slotOf (use : Nat) : Option (Fin 12) := if h : 1 ≤ use ∧ use ≤ 12 then some ⟨use - 1, by omega⟩ else none

/-- The use that a port has or waits for (R62). -/
def State.nextUse (s : State) (k : CamPort) : Nat :=
  match s.bead.waiting.find? (fun w => w.bead = camBead k) with
  | some w => w.value.val
  | none => s.camUse k

/-- A slot is used: some port has it or waits for it (R299). -/
def State.slotUsed (s : State) (i : Fin 12) : Bool :=
  allCams.any fun k => decide (slotOf (s.camUse k) = some i) || decide (slotOf (s.nextUse k) = some i)

/-- RECIPE BAD for a port and slot (Table 7.9). -/
def State.recipeBad (s : State) (k : CamPort) (i : Fin 12) (why : Nat) : State :=
  s.journal 0x71 (k.val * 4096 + i.val * 256 + why)

/-- A port after a read of R299 in Sand (R300, R302): without a valid slot it goes to DISABLED; a DISABLED port whose slot
is valid again replays. -/
def State.afterCacheRead (s : State) (k : CamPort) : State :=
  match slotOf (s.camUse k) with
  | none => s
  | some _ =>
    if s.dev.mode ≠ .sand ∨ s.dev.changeover ≠ .idle then s
    else
      let fresh := s.updCam k fun q => { q with held := none }
      match fresh.portRecipe k with
      | none => s.camLeave k .disabled
      | some _ => if (s.cam[k]).state = .disabled then fresh.camStart k else fresh

/-- Ports that use a slot now. -/
def State.slotPorts (s : State) (i : Fin 12) : List CamPort := allCams.filter fun k => decide (slotOf (s.camUse k) = some i)

/-- The slots of a cache with those left out that the budgets have no room for at any rate from the start down, the slot of the
highest port first (Table 7.9 reason 5), and the rate that fits. -/
def fitSlots (start : Nat) : List CamPort → State → State × Option Nat
  | [], s => (s, s.fitRate start)
  | k :: rest, s =>
    match s.fitRate start with
    | some i => (s, some i)
    | none => fitSlots start rest (match slotOf (s.camUse k) with
        | some i => if (s.portRecipe k).isSome then { s with rcp := { s.rcp with slots := s.rcp.slots.set i (.bad 5) } } else s
        | none => s)

/-- The budgets checked with recipes that a compile did not have in the cache (R76, R301): the rate falls as R78 states, and a slot
that fits at no rate is over budget. The spec reads the cache after the compile and states no more of it: DESIGN CHOICE
(log 120). -/
def State.cacheBudget (s : State) : State :=
  let open_ := s.updCams fun q => { q with held := none }
  let want := match s.bead.rateNext with
    | some r => r.val
    | none => s.rateIdx
  let r := fitSlots want allCams.reverse (open_.withReadings s.bead.inForce)
  let s1 : State := { s with rcp := { s.rcp with slots := r.1.rcp.slots } }
  match r.2 with
  | some i =>
    if i = want then s1
    else
      let rt : Fin 16 := ⟨i % 16, by omega⟩
      let now := decide (s.dev.mode ≠ .sand)
      let s2 : State := { s1 with bead := { s1.bead with
        rate := if now then rt else s1.bead.rate, rateNext := if now then none else some rt, fallback := true, result := .fallback } }
      s2.journalFallback (valueUsed 15 s.bead.inForce[(15 : BeadNo)]).val i
  | none => s1

/-- RECIPE_CACHE_READ (R299 to R301): at each start-up of the mains domain and after each compile that changes a bead of rods
E to G. -/
def execRecipeCacheRead (image : Option (List Byte)) (s : State) : Out :=
  whenFormed (imageWellFormed image)
    (occurs (decide (s.dev.core = .running) && s.dev.compileDone && !s.dev.cacheDone) s
      (let s0 := allCams.foldl State.holdRecipe s
       let s1 : State := { s0 with dev := { s0.dev with cacheDone := true } }
       let s2 := match directoryFault image with
         | some why => ({ s1 with rcp := { pollNext := s.rcp.pollNext } } : State).journal 0x70 why
         | none =>
           let l := image.getD []
           let e := directoryEntries l
           let slots : Vector SlotSt 12 := Vector.ofFn fun i => if s.slotUsed i then readSlot l e[i] else .bad 1
           let t := ({ s1 with rcp := {
             valid := true, gen := directoryGen l, entries := e, slots := slots, pollNext := s.rcp.pollNext } } : State).cacheBudget
           allCams.foldl (fun u (k : CamPort) => match slotOf (s.nextUse k) with
             | none => u
             | some i => match t.rcp.slots[i] with
               | .bad why => u.recipeBad k i why
               | .good _ => u) t
       let s3 := allCams.foldl State.afterCacheRead s2
       let s4 := if s.dev.start.isSome then s3.startStep 4 else s3
       s4.armKiln.syncBufs))

/-- The state with a slot of the cache replaced and its entry taken over; each port with a frame in progress keeps the
recipe it has until its frame boundary. -/
def State.setSlot (s : State) (i : Fin 12) (e : BitVec 64) (x : SlotSt) : State :=
  let s1 := (s.slotPorts i).foldl State.holdRecipe s
  { s1 with rcp := { s1.rcp with
    slots := s1.rcp.slots.set i x, entries := s1.rcp.entries.set i e, crcFails := s1.rcp.crcFails.set i 0 } }

/-- The ports of a slot that a poll finds not usable go to DISABLED and are flagged (R302). -/
def State.pollDisable (s : State) (i : Fin 12) (e : BitVec 64) (why : Nat) : State :=
  let s1 := s.setSlot i e (.bad why)
  let s2 : State := { s1 with rcp := { s1.rcp with pollBad := s1.rcp.pollBad.set i true } }
  (s.slotPorts i).foldl (fun t (k : CamPort) => (t.camLeave k .disabled).recipeBad k i why) s2

/-- A port whose recipe was replaced goes to RESTART at its next frame boundary (R302); a FAILED port begins anew
(R320). -/
def State.restartUpdated (s : State) (k : CamPort) (i : Fin 12) : State :=
  let s1 := if (s.cam[k]).state = .failed then s.updCam k fun q => { q with restarts := [] } else s
  let s2 := if s.rcp.pollBad[i] then s1 else s1.camLeave k .restart
  s2.journal 0x7A (k.val * 4096 + i.val * 256)

/-- One slot at a poll (R302). -/
def State.pollSlot (s : State) (l : List Byte) (i : Fin 12) : State :=
  let e := (directoryEntries l)[i]
  if !s.slotUsed i then s
  else if e = s.rcp.entries[i] then { s with rcp := { s.rcp with crcFails := s.rcp.crcFails.set i 0 } }
  else match readSlot l e with
    | .good r =>
      let s1 := s.setSlot i e (.good r)
      let open_ := s.updCams fun q => { q with held := none }
      let fits : State := { open_ with rcp := { s.rcp with
        slots := s.rcp.slots.set i (.good r), pollBad := s.rcp.pollBad.set i false } }
      if fits.budgetFails.isNone then (s.slotPorts i).foldl (fun t (k : CamPort) => t.restartUpdated k i) s1
      else s.pollDisable i e 5
    | .bad why =>
      if why = 2 then
        let n := s.rcp.crcFails[i] + 1
        if 3 ≤ n then s.pollDisable i e 2
        else { s with rcp := { s.rcp with crcFails := s.rcp.crcFails.set i n } }
      else s.pollDisable i e why

/-- RECIPE_POLL (R302): every 2.0 s in Sand; only a valid directory of another generation is acted on. While the CRC of a
changed slot fails, the generation counts as new. -/
def execRecipePoll (image : Option (List Byte)) (s : State) : Out :=
  whenFormed (imageWellFormed image)
    (occurs (decide (s.dev.mode = .sand) && decide (s.dev.core = .running) && s.dev.cacheDone &&
        decide (s.rcp.pollNext ≤ s.now)) s
      (let s1 : State := { s with rcp := { s.rcp with pollNext := s.now + 2 * tps } }
       if (directoryFault image).isSome ∨ ¬ s.rcp.valid then s1
       else
         let l := image.getD []
         if directoryGen l = s.rcp.gen then s1
         else
           let s2 := (List.finRange 12).foldl (fun t (i : Fin 12) => t.pollSlot l i) s1
           let waits := (List.finRange 12).any fun (i : Fin 12) => decide (0 < s2.rcp.crcFails[i])
           let s3 : State := { s2 with rcp := { s2.rcp with gen := if waits then s2.rcp.gen else directoryGen l } }
           s3.armKiln.syncBufs))

end Sys2Proof.Machine
end

