-- ==== Sys2Proof/Machine/Beads.lean ====
section
/-!
DEFINITION. Bead reads, the strap compiler and the boundaries at which changes take effect (chapter 2).
-/
namespace Sys2Proof.Machine

/-- Receive group 0 fires nothing: no pair of its group pair and no ring shot of its channels is in flight. A read that falls due
meanwhile waits for its end: the model's choice (log 112). -/
def State.group0Free (s : State) : Bool :=
  decide (s.tr.busy[(0 : Fin 2)] = none) &&
    (List.finRange 16).all fun (c : Chan) => chanGroup c != 0 || !(s.tr.chan[c]).ringBusy

/-- A read may run: the XO is ready, the TDC is calibrated, and receive group 0 is free (R58, R60, R61, R217). -/
def State.readMayRun (s : State) : Bool :=
  s.clk.xoReady && s.clk.tdcCalibrated && !s.tdcDown && s.group0Free

/-- BEAD_READ (R58, R60, R66, R654, R583): a requested read begins, or is held while XO FAIL or TDC FAULT is set. -/
def execBeadRead (s : State) : Out :=
  match s.bead.req with
  | none => .next s
  | some k =>
    occurs (decide (s.bead.phase = .idle) && (s.tdcDown || s.readMayRun)) s
      (if s.tdcDown then s.deferRead k
       else { s with bead := { s.bead with req := none, phase := .reading k } })

/-- What a read does to the BREF condition READ (R653, R51). -/
def State.brefRead (s : State) (b : PinMeasure) : State :=
  match brefDelta b with
  | .ok _ => { s with bead := { s.bead with brefRead := false } }
  | .error c =>
    let s1 : State := { s with bead := { s.bead with brefRead := true, brefReadCause := c } }
    if s.bead.brefRead ∧ s.bead.brefReadCause = c then s1 else s1.journal 0x09 c.toNat

/-- The readings that a read gives: with a failed BREF every bead is O (§2.3, corner cases). -/
def readReadings (bref : PinMeasure) (beads : Vector PinMeasure 40) : Vector Reading 40 :=
  match brefDelta bref with
  | .ok r => Vector.ofFn fun b => beadReading beads[b] r
  | .error _ => Vector.replicate 40 .o

/-- The resistances that a read computes (R49): BREF first. -/
def readOhms (bref : PinMeasure) (beads : Vector PinMeasure 40) : Vector (Option Nat) 41 :=
  match brefDelta bref with
  | .ok r => Vector.ofFn fun i => if h : 0 < i.val then beadOhms beads[i.val - 1] r else some 10000
  | .error _ => Vector.replicate 41 none

/-- Findings of a completed read (R56, R57, R74, R75): BEAD FAULT for each faulty bead whose reading differs from the
previous read, every faulty bead at the first; RESTART PENDING likewise for the power-up-only beads. -/
def State.findings (s : State) (r : Vector Reading 40) : State :=
  let first := !s.bead.everRead
  let isNew (b : BeadNo) : Bool := first || decide (r[b] ≠ s.bead.latest[b])
  let s1 := allBeads.foldl (fun t (b : BeadNo) =>
    if beadFaulty b r[b] && isNew b then t.journal 0x08 (b.val * 1024 + r[b].code) else t) s
  let pend := if first then [] else allBeads.filter fun b => powerUpOnly b && decide (r[b] ≠ s.bead.inForce[b])
  let s2 := pend.foldl (fun t (b : BeadNo) =>
    if isNew b then t.journal 0x0B (b.val * 1024 + (s.bead.inForce[b]).code * 32 + r[b].code) else t) s1
  { s2 with bead := { s2.bead with
    fault := Vector.ofFn fun b => beadFaulty b r[b], restartPending := !pend.isEmpty, latest := r, everRead := true } }

/-- A bead with its value in effect at every part. -/
def State.setEff (s : State) (b : BeadNo) (v : Fin 16) : State :=
  { s with bead := { s.bead with eff := s.bead.eff.set b (Vector.replicate 8 v) } }

/-- A bead with its value in effect at one part. -/
def State.setEffPart (s : State) (b : BeadNo) (part : Fin 8) (v : Fin 16) : State :=
  { s with bead := { s.bead with eff := s.bead.eff.set b ((s.bead.eff[b]).set part v) } }

/-- Rods B, I and J and bead 3, which the tally engine puts into force itself (R582). -/
def engineBead (b : BeadNo) : Bool := b.val = 3 || (4 ≤ b.val && b.val ≤ 7) || 32 ≤ b.val

/-- The rods with a changed reading, bit 0 for rod A (R67, RE-STRAP data). -/
def changedRods (old new : Vector Reading 40) : Nat :=
  sumNat ((List.range 10).map fun r =>
    if allBeads.any (fun b => decide (rodOf b = r) && decide (old[b] ≠ new[b])) then 2 ^ r else 0)

/-- The health conditions of a path that leaves the map end (§5.1, corner cases). -/
def State.endHealth (s : State) (p : PathNo) : State :=
  let one (t : State) (c : Chan) : State := match (t.tr.chan[c]).failed with
    | some o =>
      ({ t with tr := { t.tr with chan := t.tr.chan.set c { t.tr.chan[c] with failed := none, run := 0 } } } : State).journal
        0x2D (healthData p c false o.code)
    | none => t
  let s1 := one (one s (chanA p)) (chanB p)
  if (s1.tr.path[p]).mute then
    (s1.updPath p fun q => { q with mute := false, noValid := 0 }).journal 0x2D (healthData p (chanA p) false 4)
  else s1

/-- What a change of the path map or of the frequency class does to a path (R175, R176, R185, R236, §5.10): a change of the frequency
class voids its calibration; a calibration that runs is affected where the path's aperture type or its class changes. -/
def State.pathChanged (s old : State) (p : PathNo) (freqNew : Bool) : State :=
  let was := old.configured p
  let isNow := s.configured p
  let hit := freqNew || decide (s.aperture p ≠ old.aperture p)
  let s1 := s.updPath p fun q => { q with
    calRun := q.calRun.map fun c => { c with affected := c.affected || hit }
    calib := if freqNew then none else q.calib }
  let s2 := if was && !isNow then s1.endHealth p else s1
  let voided := (old.calibOf p).isSome && (s1.calibOf p).isNone
  let s3 := if voided || (isNow && !was) then s2.updTal p fun t => { t with restartDue := true } else s2
  if freqNew || (isNow && !was) || (was && isNow && decide (s.pathClass p ≠ old.pathClass p)) then
    s3.updPath p fun q => q.search (s.eff 33 ⟨p.val, p.isLt⟩)
  else s3

/-- One output at a change of bead 7 (R64): recomputed from the state conditions present under the new mapping; one that
a present condition drives and that no silence covers stays driven from its latest onset, or begins now. -/
def State.outputRemap (s : State) (o : AlmOut) : AlmSt :=
  let a := s.loc.alm[o]
  let m := alarmMap (s.eff 7) o
  let held := s.outputsOn && m.1.any fun c => s.condPresent c && !s.condSilenced c
  match m.2 with
  | .latched _ => if held then { a with active := true, onset := if a.active then a.onset else some s.now }
                  else { a with active := false, onset := none, cutAt := none }
  | .follow => if s.outputsOn && s.followPresent o then { a with active := true } else { a with active := false, onset := none }
  | .never => { a with active := false, onset := none, cutAt := none }

/-- Both outputs recomputed (R64). -/
def State.remapOutputs (s : State) : State :=
  { s with loc := { s.loc with alm := Vector.ofFn fun o => s.outputRemap o } }

/-- What a change does to the part that takes it, beyond the value (R62 to R64, R114, R236, R321, R449). -/
def State.partTakes (s old : State) (b : BeadNo) (part : Fin 8) : State :=
  match b.val with
  | 6 => s.setPeriods
  | 7 => s.remapOutputs
  | 9 =>
    if h : part.val < 3 then
      let p : FabPort := ⟨part.val, h⟩
      let l := (s.fab.port[p]).link
      if l = .active ∨ l = .ember ∨ l = .training then s.portDown p .down else s
    else s
  | 12 => s.armOut 13 (s.wantOut 13) .outputFrame
  | 13 => s.armOut 13 (s.wantOut 13) .outputFrame
  | 32 => (s.pathChanged old part false).setPeriods
  | 33 => s.pathChanged old part true
  | 34 => s.setPeriods
  | 36 =>
    if h : part.val < 4 then
      { s with loc := { s.loc with zoneCand := s.loc.zoneCand.set part.val none, zoneRun := s.loc.zoneRun.set part.val 0 } }
    else s
  | 37 =>
    if h : part.val < 4 then
      { s with loc := { s.loc with
        zoneCand := s.loc.zoneCand.set part.val none, zoneRun := s.loc.zoneRun.set part.val 0
        zone := if (s.zoneKind ⟨part.val, h⟩).isNone then s.loc.zone.set part.val none else s.loc.zone } }
    else s
  | 38 => s.updTal part fun t => { t with restartDue := true }
  | n => if h : 16 ≤ n ∧ n ≤ 27 then s.leaveNow ⟨n - 16, by omega⟩ .replay else s

/-- The effects of the power-up read before any compile (R582, R584): bead 3 and rods B, I and J in force; the readings of
rod A and bead 8 kept as those in force; gains and working areas for the path map and band; sounding and supervision
begin. A read that was held until the device ran (R583) changes what runs as a change of each of those beads does. -/
def State.powerUpRead (s : State) (r : Vector Reading 40) : State :=
  let s1 := (allBeads.filter engineBead).foldl (fun t (b : BeadNo) => t.setEff b (valueUsed b r[b])) s
  let s2 : State := { s1 with
    bead := { s1.bead with inForce := Vector.ofFn fun b => if engineBead b || powerUpOnly b then r[b] else s1.bead.inForce[b] } }
  if s.tr.sounding then
    ((allBeads.filter engineBead).foldl (fun t (b : BeadNo) =>
      (List.finRange 8).foldl (fun u (i : Fin 8) =>
        if i.val < beadParts b ∧ (s.bead.eff[b])[i] ≠ valueUsed b r[b] then u.partTakes s b i else u) t) s2).applyRates
  else
    let s3 : State := { s2 with
      loc := { s2.loc with supOn := true, supNext := s2.now + 1 }
      tr := { s2.tr with
        sounding := true
        path := Vector.ofFn fun p => (s2.tr.path[p]).search (s2.eff 33 ⟨p.val, p.isLt⟩) } }
    (if s3.tal.scanned then allPaths.foldl State.loadWork s3 else s3).applyRates

/-- A re-strap that was held begins (R69). -/
def State.startHeld (s : State) : State :=
  if s.bead.heldRestrap then
    ({ s with bead := { s.bead with heldRestrap := false, req := some .restrap } } : State).demand .beadRead
  else s

/-- BEAD_READ_END (R51 to R57, R66, R67, R72, R74, R75, R582, R583, R653): flags and entries of the read, RE-STRAP, then the
compile, where there is something to compile and the house core runs. The XO demand of the read lasts until its compile ends
(Table 4.2). -/
def execBeadReadEnd (bref : PinMeasure) (beads : Vector PinMeasure 40) (s : State) : Out :=
  match s.bead.phase with
  | .reading kind =>
    let bref := s.pin bref
    let beads := beads.map s.pin
    let first := !s.bead.everRead
    let s0 : State := { s with bead := { s.bead with phase := .idle, ohms := readOhms bref beads } }
    let s1 := s0.brefRead bref
    let bad := s1.bead.brefRead
    let r := readReadings bref beads
    let starts := s.dev.start.isSome && kind != .restrap
    let done (t : State) : State :=
      let t1 : State := if kind = .restrap then t else { t with dev := { t.dev with readDone := true } }
      if starts && !s.dev.readDone then t1.startStep 2 else t1
    let running := decide (s.dev.core = .running)
    let stop (t : State) : State := (t.undemand .beadRead).startHeld
    .next (if first then
        let s2 := done ((s1.findings r).powerUpRead r)
        (if running then s2.beginCompile (some kind) else stop s2).settle
      else if bad then
        let s2 := done { s1 with bead := { s1.bead with result := .refused } }
        (if running && kind != .restrap then s2.beginCompile none else stop s2).settle
      else
        let s2 := done ((s1.findings r).journal 0x0A (changedRods s.bead.inForce r))
        let todo := allBeads.any fun b => !powerUpOnly b && decide (r[b] ≠ s.bead.inForce[b])
        let lift := s.bead.fallback || allCams.any fun k => s.bead.dropped[k]
        (if running && (kind != .restrap || todo || lift || !s.bead.compiled) then s2.beginCompile (some kind)
         else stop { s2 with bead := { s2.bead with result := .applied } }).settle)
  | _ => .next s

/-- BEAD_READ_DEFERRED_RETRY (R654, R583): the held read runs at the first retry with the XO ready and the TDC calibrated; where
receive group 0 is in use then, it begins when that shot ends. -/
def execBeadReadDeferredRetry (s : State) : Out :=
  match s.bead.deferred with
  | none => .next s
  | some k =>
    occurs (decide (s.bead.nextRetry ≤ s.now) && decide (s.bead.phase = .idle) && s.bead.req.isNone) s
      (if s.clk.xoReady && s.clk.tdcCalibrated && !s.tdcDown then
         { s with bead := { s.bead with
             deferred := none, req := if s.readMayRun then none else some k
             phase := if s.readMayRun then .reading k else .idle } }
       else { s with bead := { s.bead with nextRetry := s.bead.nextRetry + 10 * tps } })

/-- The readings that a compile considers (R67, R73, R74, R582): those of the latest read, but for the power-up-only beads,
which keep theirs; the readings in force where no read completed. -/
def State.candidate (s : State) (kind : Option ReadKind) : Vector Reading 40 :=
  match kind with
  | none => s.bead.inForce
  | some _ => Vector.ofFn fun b => if powerUpOnly b then s.bead.inForce[b] else s.bead.latest[b]

/-- Beads that a failing first compile leaves at their open defaults (R80). -/
def defaultedBead (b : BeadNo) : Bool := b.val = 10 || (12 ≤ b.val && b.val ≤ 31)

/-- LINK UNUSED at each compile (R117), for the configuration that it puts or leaves in force. -/
def State.linkEntries (s t : State) : State :=
  allZones.foldl (fun u (z : ZoneNo) => match t.zoneKind z with
    | some (.intruder (some p)) => if t.configured p then u else u.journal 0x17 (z.val * 4096 + p.val)
    | _ => u) s

/-- Entries of a compile about the configuration it applies: LINK UNUSED (R117), NO HEAD (R491), HEAD EXCESS (R432). -/
def State.compileEntries (s t : State) : State :=
  let s1 := s.linkEntries t
  let s2 := if t.exportBit ∧ s.dev.mode = .sand ∧ ¬ s.held ∧ s.fab.exportHead.isNone then s1.journal 0x4D 0 else s1
  if t.tileless.isEmpty then s2 else s2.journal 0x91 (sumNat (t.tileless.map fun k => 2 ^ k.val))

/-- A compile puts a part of a bead in effect at once (R62, R65): no configuration is in force yet for the bead, it is taken at power-up
only, or outside Sand the part is the camera ports, the kiln, the head or the tile export. -/
def State.atOnce (s : State) (b : BeadNo) (part : Fin 8) : Bool :=
  (!s.bead.compiled && !engineBead b) || powerUpOnly b ||
    (decide (s.dev.mode ≠ .sand) && ((12 ≤ b.val && b.val ≤ 31) || (decide (b.val = 10) && decide (part = 0))))

/-- Every change of a compile put where it belongs (R62, R65, R70): in effect, or in the list of changes that wait for their
boundaries. -/
def State.placeChanges (s : State) (r : Vector Reading 40) : State :=
  let s1 := allBeads.foldl (fun t (b : BeadNo) =>
    (List.finRange 8).foldl (fun u (i : Fin 8) =>
      if s.atOnce b i then u.setEffPart b i (valueUsed b r[b]) else u) t) s
  let waits := (allBeads.map fun b =>
    ((List.finRange 8).filter fun (i : Fin 8) =>
        !s.atOnce b i && decide (i.val < beadParts b) && decide ((s.bead.eff[b])[i] ≠ valueUsed b r[b])).map fun i =>
      { bead := b, part := i, value := valueUsed b r[b] : Waiting }).flatten
  { s1 with bead := { s1.bead with waiting := waits } }

/-- The Speica ports and the address follow a change of the power-up-only beads at a running device (R583). -/
def State.rerole (s old : State) : State :=
  allPorts.foldl (fun t (p : FabPort) =>
    if s.portRole p = old.portRole p then t
    else t.portDown p (if s.portRole p = .off then .off else .down)) s

/-- A compiled configuration applied with its rate (R77, R78, R81). A rate goes with bead 15: at once outside Sand, else at
the next output frame. -/
def State.applyCompile (s : State) (r : Vector Reading 40) (rate : Nat) (keepDrops : Bool) : State :=
  let rt : Fin 16 := ⟨rate % 16, by omega⟩
  let t := s.withReadings r
  let cams := allBeads.any fun b => decide (16 ≤ b.val ∧ b.val ≤ 27) && decide (s.bead.inForce[b] ≠ r[b])
  let ls := [(10 : BeadNo), 11].any fun b => decide (valueUsed b s.bead.inForce[b] ≠ valueUsed b r[b])
  let now := !s.bead.compiled || decide (s.dev.mode ≠ .sand)
  let s1 := s.placeChanges r
  let s2 : State := { s1 with
    bead := { s1.bead with
      inForce := r, compiled := true
      rate := if now then rt else s1.bead.rate
      rateNext := if now || decide (rt = s1.bead.rate) then none else some rt
      fallback := decide (rate ≠ (valueUsed 15 r[(15 : BeadNo)]).val)
      dropped := if keepDrops then s1.bead.dropped else Vector.replicate 12 false }
    dev := { s1.dev with cacheDone := s1.dev.cacheDone && !cams } }
  let back := allCams.foldl (fun u (k : CamPort) =>
    if s.bead.dropped[k] && !s2.bead.dropped[k] && decide ((u.cam[k]).state = .disabled) then u.camStart k else u) s2
  let s3 := if ls then back.lsChange else back
  ((s3.rerole s).compileEntries t).stateChanged

/-- The rates and clamps of the configuration that a compile puts or leaves in force (R212). -/
def State.compileRates (s : State) : State := s.clampRates (s.withReadings s.bead.inForce)

/-- The strap compiler's budget check with its outcome (R76 to R81). A read starts at the bead 15 rate and lifts drops; a
compile without a read starts at the rate in force and keeps them. -/
def State.compileResult (s : State) (kind : Option ReadKind) : State :=
  let r := s.candidate kind
  let t0 := s.withReadings r
  let keep := kind.isNone && s.bead.compiled
  let t : State := if keep then t0 else { t0 with bead := { t0.bead with dropped := Vector.replicate 12 false } }
  let want := if keep then s.rateIdx else t.eff 15
  let first := !s.bead.compiled && decide (kind ≠ some .mainsReturn) && decide (s.dev.start ≠ some .mainsReturn)
  match t.fitRate want with
  | some i =>
    let s1 := s.applyCompile r i keep
    let s2 := if i = want then s1 else s1.journalFallback want i
    { s2 with bead := { s2.bead with result := if i = want then .applied else .fallback, failedBudget := 0 } }
  | none =>
    let row := t.failedAtLowest
    let s1 := s.journal 0x0D row
    let s2 := if first then
        let d : Vector Reading 40 := Vector.ofFn fun b => if defaultedBead b then .o else r[b]
        s1.applyCompile d 6 false
      else
        let u := s1.linkEntries s
        if kind = some .restrap then u.ackAmber .refuse else u
    { s2 with bead := { s2.bead with result := .refused, failedBudget := row } }

/-- The address that beads 0 to 2 give (R63). -/
def State.beadAddr (s : State) : Nat := s.eff 0 * 256 + s.eff 1 * 16 + s.eff 2

/-- A port whose role in force R448 takes away. -/
def State.roleTaken (s : State) (p : FabPort) : Bool :=
  decide (s.eff 3 = 0) || (beadPortRole (s.eff 8) p != .off && decide (s.portRole p = .off)) ||
  (s.trole != .none && s.twinPort.isNone && decide (s.portRole p = .off))

/-- The unique ID that a unit carries in the fabric: a holder's is the twin-primary's (R565). -/
def State.netUid (s : State) : BitVec 64 :=
  if s.trole = .secondary && s.twin.holding then
    match s.twinPort with
    | some p => match (s.fab.port[p]).key with
      | some k => k.partner
      | none => s.fab.uid
    | none => s.fab.uid
  else s.fab.uid

/-- The address of this unit in the fabric set from the beads (R473, R565, R566): a standby has none. -/
def State.claimBeads (s : State) : State :=
  let a : BitVec 12 := BitVec.ofNat 12 s.beadAddr
  let a := if a = 0xFFF then 0 else a
  let s1 : State := { s with twin := { s.twin with pairAddr := if s.trole = .none then 0 else a } }
  if a = 0 ∨ s.standby then { s1 with fab := { s1.fab with addr := 0, kind := .unassigned } }
  else { s1 with fab := { s1.fab with addr := a, kind := .beadSet } }

/-- A Speica port at a start of the mains domain (R505, R535): a trunk or twin-role port goes to DOWN and trains; a key
record of another role is not used. -/
def State.startPort (s : State) (p : FabPort) : State :=
  let role := s.portRole p
  if role = .off then s
  else
    let s1 := s.setLink p .down
    s1.updPort p fun q =>
      let key := q.key.filter fun k => decide (k.role.toNat = role.code)
      { q with
        key := key, trust := if key.isSome then .sessionSetup else .unpaired, retrainAt := s.now, trainRun := 0
        quarTill := none, quarForever := false, quarPend := none, q := 0 }

/-- The fabric at a start of the mains domain, when its compile ends: PORT ROLE once, BAD ADDRESS, the address of the beads,
the ports (R448, R473, R505, R535). A device with no trunk port or role 0 is its own time root (R496). -/
def State.fabricStart (s : State) (firstCompile : Bool) : State :=
  let s1 := if firstCompile then
      allPorts.foldl (fun t (p : FabPort) => if s.roleTaken p then t.journal 0x46 (p.val * 16384) else t) s else s
  let s2 := if s.beadAddr = 0xFFF then s1.journal 0x4F 0 else s1
  let s3 := allPorts.foldl State.startPort s2.claimBeads
  if s3.anyTrunk then s3.lsChange
  else
    let t : State := { s3 with fab := { s3.fab with tstate := .root, rootUid := s3.fab.uid, steps := 0 } }
    if s3.fab.tstate = .root then t else t.journal 0x4B 4

/-- STRAP_COMPILE_END (R68, R69, R76 to R81, R402): the outcome, the start-up buffers at a start of the mains domain, the
changes armed, and a held re-strap begins. -/
def execStrapCompileEnd (s : State) : Out :=
  match s.bead.phase with
  | .compiling kind at_ =>
    occurs (decide (s.dev.core = .running)) s
      (let s1 : State := { s with bead := { s.bead with
         phase := .idle, compileMs := (s.now - at_) * 1000 / 32768 } }
       let s2 := ((s1.undemand .beadRead).compileResult kind).compileRates
       let s3 : State := { s2 with dev := { s2.dev with compileDone := true } }
       let s4 := if s.dev.start.isSome ∧ ¬ s.dev.compileDone then s3.startStep 3 else s3
       let s5 := if s4.mov.bufs.any fun b => b.kind = .core then s4 else (s4.allocStart).fabricStart (!s.bead.compiled)
       (((s5.armKiln).syncBufs).startHeld).settle)
  | _ => .next s

/-- A LINKSTATE origination is due, or the unit originates none. -/
def State.lsBoundary (s : State) : Bool :=
  s.trunkPorts.isEmpty || decide (s.fab.addr = 0) || match s.fab.lsDue with
    | some t => decide (t ≤ s.now)
    | none => decide (s.fab.lsSentAt + 30 * tps ≤ s.now)

/-- The boundary of a part occurs now (Table 2.4, R62, R65). A load of the hold, an entry into Bedrock on battery, a LINKSTATE
origination and a tally update take what waits for them themselves. -/
def State.partBoundary (s : State) (b : BeadNo) (part : Fin 8) : Bool :=
  let sand := decide (s.dev.mode = .sand)
  let heads (p : Fin 8) : Bool := match s.tr.handed.head? with
    | some r => decide (r.path.val = p.val)
    | none => false
  match b.val with
  | 5 => sand && s.levelHolds
  | 6 => decide (s.dev.mode = .bedBattery) && decide (s.dev.start ≠ some .mainsReturn)
  | 10 => if part = 0 then !sand || s.boundaryNow .outputFrame
          else s.lsBoundary
  | 11 => s.lsBoundary
  | 32 => ((s.tr.path[part]).firing).isNone
  | 33 => ((s.tr.path[part]).firing).isNone
  | 34 => ((s.tr.path[part]).firing).isNone
  | 35 => heads part
  | 38 => heads part
  | 36 => s.loc.supRun.isNone
  | 37 => s.loc.supRun.isNone
  | 39 => part = 0 || s.mon.out.isEmpty
  | n =>
    if h : 16 ≤ n ∧ n ≤ 27 then
      !sand || (s.cam[n - 16]).frame.isNone
    else if 12 ≤ n ∧ n ≤ 31 then !sand || s.boundaryNow .outputFrame
    else true

/-- One part takes the value that waits for it (R62, R64, R70). -/
def State.takeBead (s : State) (b : BeadNo) (part : Fin 8) : State :=
  match s.bead.waiting.find? (fun w => decide (w.bead = b) && decide (w.part = part)) with
  | some w =>
    let s1 : State := { s with bead := { s.bead with
      waiting := s.bead.waiting.filter fun x => !(decide (x.bead = b) && decide (x.part = part)) } }
    let s2 := s1.setEffPart b part w.value
    let s3 : State := if b.val = 15 then
        { s2 with bead := { s2.bead with rate := s2.bead.rateNext.getD s2.bead.rate, rateNext := none } } else s2
    s3.partTakes s b part
  | none =>
    if b.val = 15 ∧ s.bead.rateNext.isSome then
      { s with bead := { s.bead with rate := s.bead.rateNext.getD s.bead.rate, rateNext := none } }
    else s

/-- What follows a change of the configuration: alarm outputs, kiln parameters, buffers, STATE. -/
def State.afterBeads (s : State) : State := (((s.settle).armKiln).syncBufs).stateChanged

/-- A value or a rate waits for a part. -/
def State.beadWaits (s : State) (b : BeadNo) (part : Fin 8) : Bool :=
  (s.bead.waiting.any fun w => decide (w.bead = b) && decide (w.part = part)) ||
  (decide (b.val = 15) && s.bead.rateNext.isSome)

/-- BEAD_CHANGE_AT_BOUNDARY (R62, R64, R65, R70, R321): one part takes the value that waits for it. -/
def execBeadChangeAtBoundary (b : BeadNo) (part : Fin 8) (s : State) : Out :=
  occurs (s.beadWaits b part && s.partBoundary b part) s (s.takeBead b part).afterBeads

/-- Beads that change at the start of an output frame (Table 2.4). -/
def outputBead (b : BeadNo) : Bool :=
  b.val = 10 || (12 ≤ b.val && b.val ≤ 15) || (28 ≤ b.val && b.val ≤ 31)

/-- Every change that waits for the start of an output frame is taken. -/
def State.takeOutputBeads (s : State) : State :=
  let l := (allBeads.filter outputBead).filter fun b => s.beadWaits b 0
  if l.isEmpty then s else (l.foldl (fun t (b : BeadNo) => t.takeBead b 0) s).afterBeads

end Sys2Proof.Machine
end

