-- ==== Sys2Proof/Machine/HeadUnit.lean ====
section
/-!
DEFINITION. The head output: frames, composite lines, metadata, event records and received tile images (chapter 10, R495).
-/
namespace Sys2Proof.Machine

/-- A record of the event frame (Table 10.8). -/
def headRecord (seq : BitVec 32) (r : HeadRec) : List Byte :=
  let l := [BitVec.ofNat 8 r.kind.val, 0] ++ bytesLE 2 r.src.toNat ++ bytesLE 4 seq.toNat ++ slice r.content 0 16 ++ zeros 4
  l ++ crcLE l

/-- A tile is held after this many ticks without a frame (R435): the greater of 4 output periods and 200 ms. -/
def State.holdLimit (s : State) : Nat := max (cdiv (4 * framePeriodNs s.rateIdx * 32768) 1000000000) (msTicks 200)

/-- A context is being recovered (R408). -/
def State.ctxRecovering (s : State) (c : Ctx) : Bool :=
  allChannels.any fun ch =>
    let q := s.mov.chan[ch]
    (decide (q.state = .halted) || decide (q.state = .fenced)) && match q.latch with
      | some l => decide (l.owner.toNat = c.val)
      | none => decide (q.owner.toNat = c.val)

/-- The context whose store a port's tile shows. -/
def State.tileCtx (s : State) (k : CamPort) : Ctx := if s.camUse k = 13 then 12 else camCtx k

/-- A tile is held (R435). -/
def State.tileHeld (s : State) (k : CamPort) : Bool :=
  let q := s.cam[k]
  let t := s.head.tile[k]
  decide (q.state ≠ .streaming) || !q.joined || decide (s.camUse k = 14) || s.ctxRecovering (s.tileCtx k) || t.held ||
    decide (t.freshAt + s.holdLimit < s.now)

/-- Bytes of n pixels of a packing. -/
def pixelBytes (pack n : Nat) : Nat := if pack = 0 then 2 * n else 3 * n / 2

/-- Black pixels of a packing (R432): Y 16, Cb and Cr 128. -/
def blackBytes (pack n : Nat) : List Byte :=
  if pack = 0 then (List.range (2 * n)).map fun i => if i % 2 = 0 then 0x80#8 else 0x10#8
  else (List.range (3 * n / 2)).map fun i => if i % 3 = 0 then 0x80#8 else 0x10#8

/-- A line of a tile without the output of its context: black, or the grey hold marker 4 pixels wide around it (R432, R435). -/
def tileBlank (pack wt ht j : Nat) (held : Bool) : List Byte :=
  let grey (n : Nat) : List Byte := List.replicate (pixelBytes pack n) 0x80#8
  if held then
    (if j < 4 ∨ ht ≤ j + 4 then grey wt else grey 4 ++ blackBytes pack (wt - 8) ++ grey 4)
  else blackBytes pack wt

/-- One composite line as it stands before the head feed brings its tile segments (R432, R434). -/
def State.compositeLine (s : State) (tiles : List ((CamPort × Nat × Nat × Nat × Nat) × Bool)) (y : Nat) : List Byte :=
  let pack := headPack (s.eff 12)
  let w := s.canvas.1
  let l := tiles.foldl (fun line (t : (CamPort × Nat × Nat × Nat × Nat) × Bool) =>
    let (_, tx, ty, wt, ht) := t.1
    if ty ≤ y ∧ y < ty + ht then overlay line (pixelBytes pack tx) (tileBlank pack wt ht (y - ty) t.2) else line)
    (blackBytes pack w)
  l ++ zeros (outLineBytes w pack - l.length)

/-- The segment that a tile brings to a composite line (R389, R433 step 4, R434): the output of its context stands centred in the
tile, under the hold marker of a held tile. -/
def State.tileSeg (s : State) (t : (CamPort × Nat × Nat × Nat × Nat) × Bool) (packet y : Nat) : Option HeadSeg :=
  let (k, tx, ty, wt, ht) := t.1
  let c := s.tileCtx k
  let g := s.geometry c
  let pack := headPack (s.eff 12)
  let ox := evenDown ((wt - g.ow) / 2)
  let oy := evenDown ((ht - g.oh) / 2)
  let j := y - ty
  let lo := if t.2 then max ox 4 else ox
  let hi := if t.2 then min (ox + g.ow) (wt - 4) else min (ox + g.ow) wt
  match s.mov.base (.tile c) with
  | none => none
  | some b =>
    if ty ≤ y ∧ oy ≤ j ∧ j < oy + g.oh ∧ j < ht ∧ lo < hi ∧ ¬ (t.2 = true ∧ (j < 4 ∨ ht ≤ j + 4)) then
      some { addr := b + (j - oy) * g.ol, ctx := c, len := g.ol, packet := packet
             at_ := pixelBytes pack (tx + lo), skip := pixelBytes pack (lo - ox), take := pixelBytes pack (hi - lo) }
    else none

/-- The frame of a context that is in progress in its store and how many of its lines are there (R434). -/
def State.inProgress (s : State) (c : Ctx) : Option (CamFrame × Nat) :=
  match (s.kiln.ctx[c]).cur with
  | some f => let n := (s.mov.queue[tileQueue c]).level; if 0 < n then some (f, n) else none
  | none => none

/-- The tag record of the frame that supplied the first line of a store (R436). -/
def State.storeTag (s : State) (c : Ctx) : List Byte :=
  match s.inProgress c with
  | some (f, _) => s.tagRecord c s.kiln.ctx[c] f
  | none => slice (s.kiln.ctx[c]).tag 0 48

/-- A metadata entry (Tables 10.7 and 8.5): tile header and tag record. -/
def State.tileEntry (s : State) (tile : Nat) (k : CamPort) (held : Bool) (split : Option (Nat × BitVec 32)) (tag : List Byte) :
    List Byte :=
  let line := match split with
    | some x => x.1
    | none => 0
  let counter := match split with
    | some x => x.2
    | none => 0
  [BitVec.ofNat 8 tile, BitVec.ofNat 8 k.val,
    BitVec.ofNat 8 (bit held + 2 * bit split.isSome + 4 * (s.cam[k]).state.code), 0] ++
    bytesLE 2 line ++ bytesLE 4 counter.toNat ++ zeros 6 ++ tag

/-- The split that a tile shows (R434): the lines of the frame in progress stand above the kiln's write position, so the
first tile line that it gives is the first line of the output in the tile (Table 10.7). -/
def State.tileSplit (s : State) (k : CamPort) (ht : Nat) : Option (Nat × BitVec 32) :=
  let c := s.tileCtx k
  let oh := (s.geometry c).oh
  match s.inProgress c with
  | some (f, n) => if n < oh then some (evenDown ((ht - oh) / 2), f.counter) else none
  | none => none

/-- The metadata payload (Table 10.6, R436). -/
def State.metadata (s : State) (counter : BitVec 32) (entries : List (List Byte)) : List Byte :=
  let vc := decide (s.hmode = .vc)
  let l := [1, BitVec.ofNat 8 (s.eff 12), if vc then 0xFF#8 else BitVec.ofNat 8 (s.eff 14), BitVec.ofNat 8 entries.length] ++
    bytesLE 4 counter.toNat ++ bytesLE 8 (s.head.startedAt / 65536) ++ bytesLE 2 s.fab.addr.toNat ++
    [BitVec.ofNat 8 s.rateIdx, BitVec.ofNat 8 (bitsNat [s.bead.fallback, s.standby, s.head.underrunPrev])] ++ zeros 8
  l ++ crcLE l ++ entries.flatten

/-- Frame number of a short packet (R428). -/
def frameNumber (counter : BitVec 32) : Nat := counter.toNat % 65535 + 1

/-- A frame of packets on a virtual channel: frame start, long packets, frame end. -/
def headFrame (vc num : Nat) (l : List (Nat × List Byte)) : List HeadPacket :=
  [{ vc := vc, dt := 0x00, bytes := bytesLE 2 num : HeadPacket }] ++
    (l.map fun p => { vc := vc, dt := p.1, bytes := p.2 : HeadPacket }) ++
    [{ vc := vc, dt := 0x01, bytes := bytesLE 2 num : HeadPacket }]

/-- Data type of the pixel lines of a packing (Table 10.4): YUV422 8-bit, or YUV420 8-bit legacy. -/
def packDt (pack : Nat) : Nat := if pack = 0 then 0x1E else 0x1A

/-- The frame of a context on the virtual channel of a port (R427, R366), its lines as they stand before the head feed brings
them. -/
def State.vcFrame (s : State) (k : CamPort) (c : Ctx) : List HeadPacket :=
  let g := s.geometry c
  let tag := slice (s.kiln.ctx[c]).tag 0 48
  headFrame k.val (frameNumber (s.kiln.ctx[c]).doneCounter) ((0x12, tag ++ zeros (max (2 * g.ow) 48 - 48)) ::
    (List.range g.oh).map fun _ => (packDt g.pack, zeros g.ol))

/-- The lines of a port frame as segments: the first one belongs to a packet. -/
def State.vcSegs (s : State) (c : Ctx) (packet : Nat) : List HeadSeg :=
  let g := s.geometry c
  match s.mov.base (.tile c) with
  | some b => (List.range g.oh).map fun j =>
      { addr := b + j * g.ol, ctx := c, len := g.ol, packet := packet + j, at_ := 0, skip := 0, take := g.ol }
  | none => []

/-- Ports whose context has completed a frame in the previous output period, on the channels of virtual-channel mode
(R319, R427, R436). -/
def State.vcDone (s : State) : List (CamPort × Ctx) :=
  s.vcPorts.filter fun e => (s.kiln.ctx[e.2]).doneNew && (e.2 = 12 || (s.cam[e.1]).joined)

/-- The tiles with whether each is held. -/
def State.heldTiles (s : State) : List ((CamPort × Nat × Nat × Nat × Nat) × Bool) :=
  s.tileMap.map fun t => (t, s.tileHeld t.1)

/-- The metadata entries of an output frame (R436). -/
def State.metaEntries (s : State) : List (List Byte) :=
  if s.hmode = .mosaic then
    (s.heldTiles.zip (List.range 12)).map fun e =>
      let k := e.1.1.1
      s.tileEntry e.2 k e.1.2 (s.tileSplit k e.1.1.2.2.2.2) (s.storeTag (s.tileCtx k))
  else
    s.vcDone.map fun e => s.tileEntry 0xFF e.1 false none (slice (s.kiln.ctx[e.2]).tag 0 48)

/-- The image packets of an output frame: the composite on VC 0, or the port frames. -/
def State.imagePackets (s : State) (counter : BitVec 32) : List HeadPacket :=
  if s.hmode = .mosaic then
    let t := s.heldTiles
    headFrame 0 (frameNumber counter)
      ((List.range s.canvas.2).map fun y => (packDt (headPack (s.eff 12)), s.compositeLine t y))
  else (s.vcDone.map fun e => s.vcFrame e.1 e.2).flatten

/-- The port frames of an output frame as segments; the first frame begins at a packet. -/
def State.portSegs (s : State) : List (CamPort × Ctx) → Nat → List HeadSeg
  | [], _ => []
  | e :: rest, packet => s.vcSegs e.2 (packet + 2) ++ s.portSegs rest (packet + (s.geometry e.2).oh + 3)

/-- The segments that the head feed brings to an output frame, in the order sent (R389): the tile segments of the composite lines, or
the lines of the port frames. Three packets of metadata come first. -/
def State.segments (s : State) : List HeadSeg :=
  if s.hmode = .mosaic then
    let tiles := s.heldTiles
    ((List.range s.canvas.2).map fun y => tiles.filterMap fun t => s.tileSeg t (y + 4) y).flatten
  else s.portSegs s.vcDone 3

/-- The records of the next event frame (R437, R438): an overflow since the latest one is journalled and comes first. -/
def State.takeRecords (s : State) : List (List Byte) × State :=
  if 0 < s.head.droppedNew then
    let e := s.journalEntry 0x92 (min 65535 s.head.droppedNew)
    let r := headRecord e.2.head.seq { kind := 1, src := s.fab.addr, content := e.1.bytes }
    (r :: s.head.records.take 15,
      { e.2 with head := { e.2.head with seq := e.2.head.seq + 1, droppedNew := 0, records := s.head.records.drop 15 } })
  else (s.head.records.take 16, { s with head := { s.head with records := s.head.records.drop 16 } })

/-- The payload of an event frame (R437). -/
def eventPayload (l : List (List Byte)) : List Byte := if l.isEmpty then zeros 32 else l.flatten

/-- The deskew of an output frame in UI (R421). -/
def State.deskewUi (s : State) : Nat :=
  if 6 < laneDiv (s.eff 13) then 0
  else if s.head.deskewDue then 32768
  else if s.head.deskewNext ≤ s.now then 8192 else 0

/-- The first processed lines of this Sand entry are ready (R43). -/
def State.firstLines (s : State) : Bool :=
  (allCams.any fun k => (s.cam[k]).joinReady) ||
    decide (0 < (s.kiln.ctx[(12 : Ctx)]).outDone) || (s.kiln.ctx[(12 : Ctx)]).doneNew

/-- An output frame may start (R43, R424, R442, R443): outputs of the PLL on, no changeover, the period of the previous
frame over. -/
def State.frameDue (s : State) : Bool :=
  decide (s.dev.mode = .sand) && decide (s.dev.changeover = .idle) && decide (s.dev.core = .running) &&
  decide (s.clk.pll = .locked) && decide (s.head.lp11Till ≤ s.now) &&
  (if s.head.on then decide (s.head.startedAt + s.head.period * 65536 ≤ s.fab.time) else s.firstLines)

/-- The start of an output frame in fabric time (R424): the latest one of the period that has come; the first of a Sand
entry starts now. -/
def State.frameStart (s : State) : Nat :=
  let p := s.head.period * 65536
  if s.head.on ∧ 0 < p then s.head.startedAt + (s.fab.time - s.head.startedAt) / p * p else s.fab.time

/-- OUTPUT_FRAME_START (R319, R421, R424 to R439, R442 to R444): the changes that wait for the boundary are taken, ports
join, and the frame is sent, with the lines that the head feed brings while it lasts (R434); a standby unit forms its metadata and
sends nothing. -/
def execOutputFrameStart (s : State) : Out :=
  occurs s.frameDue s
    (let start := s.frameStart
     let s1 := (s.boundary .outputFrame).takeOutputBeads
     if s1.hmode = .off then
       { s1 with head := { s1.head with on := true, inFrame := false, startedAt := start, period := framePeriodNs s1.rateIdx } }
     else
       let s2 : State := { s1 with head := { s1.head with
         on := true, inFrame := true, startedAt := start, period := framePeriodNs s1.rateIdx } }
       let s3 := allCams.foldl (fun t (k : CamPort) =>
         let q := t.cam[k]
         if q.state = .streaming ∧ q.joinReady ∧ ¬ q.joined ∧ q.joinAt ≤ start then t.joinPort k else t) s2
       let counter := s3.head.counter
       let info := s3.metadata counter s3.metaEntries
       let s4 : State := { s3 with
         head := { s3.head with counter := counter + 1, segs := [], lineIn := [] }
         mov := { s3.mov with chan := s3.mov.chan.set 14 { s3.mov.chan[(14 : MovCh)] with off := 0 } }
         kiln := { s3.kiln with ctx := Vector.ofFn fun (c : Ctx) => { s3.kiln.ctx[c] with doneNew := false } } }
       if !s3.drives then
         { s4 with head := { s4.head with last := none }, twin := { s4.twin with standbyMeta := info } }
       else
         let rec_ := s4.takeRecords
         let ui := s3.deskewUi
         let packets := headFrame 12 (frameNumber counter) [(0x12, info)] ++ s3.imagePackets counter ++
           headFrame 13 (frameNumber counter) [(0x12, eventPayload rec_.1)]
         let s5 := rec_.2
         { s5 with head := { s5.head with
           last := some { counter := counter, packets := packets, deskew := ui }, segs := s3.segments
           underrunPrev := false, deskewDue := s5.head.deskewDue && decide (ui ≠ 32768)
           deskewNext := if ui = 0 then s5.head.deskewNext else s5.now + tps } })

/-- Places of the long packets of a frame on a virtual channel. -/
def HeadFrame.onVc (f : HeadFrame) (vc : Nat) : List Nat :=
  (List.range f.packets.length).filter fun i => match f.packets[i]? with
    | some p => decide (p.vc = vc) && decide (2 ≤ p.dt)
    | none => false

/-- A packet completed with zeros after some of its bytes (R430). -/
def HeadPacket.padded (p : HeadPacket) (sent : Nat) : HeadPacket :=
  { p with bytes := p.bytes.take sent ++ zeros (p.bytes.length - sent) }

/-- HEAD_UNDERRUN (R430): counted, journalled, and reported by the next metadata; what the head feed had still to bring to the packet
comes too late. Which packet ran empty and after how many bytes is timing that the spec leaves open: free values. -/
def execHeadUnderrun (vc : Fin 16) (s : State) : Out :=
  match s.head.last with
  | none => .next s
  | some f =>
    let l := f.onVc vc.val
    occurs (s.head.inFrame && s.drives && !l.isEmpty) s
      (let d := s.draw l.length
       let e := d.2.draw 65536
       let s1 := e.2
       let n := l.getD d.1 0
       ({ s1 with
         head := { s1.head with
           underruns := s1.head.underruns + 1, underrunPrev := true
           segs := s1.head.segs.filter fun g => decide (n < g.packet), lineIn := []
           last := some { f with packets := f.packets.modify n fun p => p.padded e.1 } }
         mov := { s1.mov with chan := s1.mov.chan.set 14 { s1.mov.chan[(14 : MovCh)] with off := 0 } } } : State).journal 0x90 vc.val)

/-- EVENT_RECORD_QUEUE (R438): the oldest record offered is queued, or dropped and counted where 256 wait. -/
def execEventRecordQueue (s : State) : Out :=
  match s.head.offered with
  | [] => .next s
  | r :: rest =>
    .next (if 256 ≤ s.head.records.length then
      { s with head := { s.head with
        offered := rest, dropped := s.head.dropped + 1, droppedNew := s.head.droppedNew + 1 } }
    else
      { s with head := { s.head with
        offered := rest, records := s.head.records ++ [headRecord s.head.seq r], seq := s.head.seq + 1 } })

/-- A tally as the content of a type 3 record (Table 10.8); path 0xFF is a device tally. -/
def tallyContent (num path : Nat) (v : BitVec 64) : List Byte :=
  [BitVec.ofNat 8 num, BitVec.ofNat 8 path] ++ zeros 6 ++ bytesLE 8 v.toNat

/-- The local tallies that differ from a snapshot: number, path and value (Table 6.1). -/
def State.changedTallies (s : State) (dev : Vector (BitVec 64) 17) (path : Vector (Vector (BitVec 64) 8) 8) :
    List (Nat × Nat × BitVec 64) :=
  (allPaths.map fun p => (List.finRange 8).filterMap fun (n : Fin 8) =>
    let v := ((s.tal.path[p]).count)[n]
    if v = (path[p])[n] then none else some (n.val, p.val, v)).flatten ++
  (List.finRange 17).filterMap fun (n : Fin 17) =>
    if s.tal.dev[n] = dev[n] then none else some (n.val + 8, 0xFF, s.tal.dev[n])

/-- The tallies of every path. -/
def State.pathCounts (s : State) : Vector (Vector (BitVec 64) 8) 8 := Vector.ofFn fun p => (s.tal.path[p]).count

/-- TALLY_SNAPSHOT (R438): every 60 s in Sand the changed local tallies are offered to the head. -/
def execTallySnapshot (s : State) : Out :=
  occurs (decide (s.dev.mode = .sand) && decide (s.head.snapNext ≤ s.now)) s
    (let l := s.changedTallies s.head.snapDev s.head.snapPath
     let s1 := l.foldl (fun t (x : Nat × Nat × BitVec 64) =>
       t.offerRecord { kind := 3, src := s.fab.addr, content := tallyContent x.1 x.2.1 x.2.2 }) s
     { s1 with head := { s1.head with
       snapNext := s.head.snapNext + 60 * tps, snapDev := s.tal.dev, snapPath := s.pathCounts } })

/-- TILE_HOLD_TIMEOUT (R435). -/
def execTileHoldTimeout (k : CamPort) (s : State) : Out :=
  occurs (decide (s.dev.mode = .sand) && !(s.head.tile[k]).held && decide ((s.head.tile[k]).freshAt + s.holdLimit < s.now)) s
    { s with head := { s.head with tile := s.head.tile.set k { s.head.tile[k] with held := true } } }

/-- The frame of a received image on VC 14 (R495): source address, tile header and tag record, then its lines. -/
def TileImage.packets (t : TileImage) (header : List Byte) (num : Nat) : List HeadPacket :=
  let pack := (header.getD 1 0).toNat
  let ow := natLE (slice header 2 2)
  let oh := natLE (slice header 4 2)
  let ol := outLineBytes ow pack
  headFrame 14 num ((0x12, bytesLE 2 t.src.toNat ++ header ++ slice t.bytes 0 48) ::
    (List.range oh).map fun j => (packDt pack, slice t.bytes (48 + j * ol) ol))

/-- TILE_IMAGE_OUTPUT (R495): the oldest complete image is sent while the head transmits, or dropped where two output
periods have passed since its completion. -/
def execTileImageOutput (s : State) : Out :=
  match s.head.images.find? (fun t => t.doneAt.isSome) with
  | none => .next s
  | some t =>
    let rest := s.head.images.erase t
    let late := decide (t.doneAt.getD 0 + cdiv (2 * framePeriodNs s.rateIdx * 32768) 1000000000 < s.now)
    if late then
      .next (({ s with head := { s.head with images := rest, imageDrops := s.head.imageDrops + 1 } } : State).journal 0x4E
        (4096 * (t.ctx % 16) + 1))
    else
      occurs (s.head.on && s.head.inFrame && s.drives && s.carries 14) s
        { s with head := { s.head with
          images := rest, imageOut := some (t.packets t.header (frameNumber (s.head.counter - 1))) } }

end Sys2Proof.Machine
end

