-- ==== Sys2Proof/Machine/Links.lean ====
section
/-!
DEFINITION. Speica links: training, ember idle, credits, beacons, and the checks, delivery and forwarding of received frames
(§11.2 to §11.8, §12.4, §12.5).
-/
namespace Sys2Proof.Machine

/-- The counters of a port changed. -/
def State.bump (s : State) (p : FabPort) (f : Counters → Counters) : State :=
  s.updPort p fun q => { q with cnt := f q.cnt }

/-- A counter of probation stage 1 has increased: CLEAN restarts, and the TEST count is 0 (R537). -/
def State.errorSeen (s : State) (p : FabPort) : State :=
  s.updPort p fun q => match q.trust with
    | .clean => { q with cleanAt := s.now }
    | .test => { q with cleanCount := 0 }
    | _ => q

/-- A trust state carries a type and flow (Table 12.1). -/
def FPort.trustCarries (q : FPort) (typ flow : Nat) : Bool :=
  let pairing := typ = 7 && decide (1 ≤ flow ∧ flow ≤ 3) && (q.window || q.pairing.isSome)
  match q.trust with
  | .unpaired => typ = 0 || pairing
  | .keyMismatch => typ = 0 || pairing
  | .sessionSetup => typ = 7 && flow = 0x10
  | .clean => typ = 0 || (typ = 7 && (flow = 0x10 || flow = 0x20))
  | .test => typ = 0 || (typ = 7 && (flow = 0x10 || flow = 0x20))
  | .admitted => true

/-- A role carries a type (R465); reserved types and PROBE flows are carried by none (Table 11.7, R510). -/
def roleCarries (role : PortRole) (typ flow : Nat) : Bool :=
  let known := typ != 7 || flow = 1 || flow = 2 || flow = 3 || flow = 0x10 || flow = 0x20
  known && match role with
    | .off => false
    | .twin => typ = 0 || typ = 6 || typ = 7
    | .trunk => decide (typ ≤ 7) && typ != 6

/-- The fabric clocks run: the SerDes reference is there (R154, R457). -/
def State.serdesOn (s : State) : Bool := s.fabricOn && decide (s.clk.pll = .locked)

/-- Burst and rate of a control type (Table 12.4), with its place among the buckets. -/
def bucketOf (typ : Nat) : Option (Fin 5 × Nat × Nat) :=
  match typ with
  | 0 => some (0, 20, 4)
  | 1 => some (1, 5000, 4608)
  | 2 => some (2, 500, 256)
  | 5 => some (3, 40, 8)
  | 7 => some (4, 1200, 64)
  | _ => none

/-- The buckets of a port that has become ACTIVE, all full (R529), in 1/32,768 frame. -/
def fullBuckets : Vector Nat 5 := Vector.ofFn fun i =>
  ([4, 4608, 256, 8, 64] : List Nat).getD i.val 0 * 32768

/-- The buckets filled up to now (R529). -/
def FPort.fillBuckets (q : FPort) (now : Nat) : FPort :=
  { q with
    bucketAt := now
    bucket := Vector.ofFn fun i =>
      min (([4, 4608, 256, 8, 64] : List Nat).getD i.val 0 * 32768)
        (q.bucket[i] + ([20, 5000, 500, 40, 1200] : List Nat).getD i.val 0 * (now - q.bucketAt)) }

/-- A new session setup begins (R522, R526): a fresh nonce, the first HELLO due at once; none while the noise source
fails (R520). -/
def State.beginSetup (s : State) (p : FabPort) : State :=
  let q := s.fab.port[p]
  let d := if s.fab.noiseBad then ([], s) else s.drawBytes 16
  d.2.updPort p fun x => { x with
    trust := if q.rekeying then x.trust else .sessionSetup
    nonce := d.1, partnerNonce := none, setupAt := s.now, helloNext := s.now, badHello := 0, noCmac := 0 }

/-- A port goes ACTIVE (R454, R467, R472, R474, R509, R526, R529, R532): no credits yet, full buckets, the whole receive ring granted to the partner, a new error interval;
after ember idle the session is kept, else a port with a key record sets one up. -/
def State.goActive (s : State) (p : FabPort) : State :=
  let s1 := (s.setLink p .active).updPort p fun q => { q with
    credits := Vector.replicate 2 0, granted := ringCredits, frameAt := s.now, beaconAt := s.now, beaconNext := s.now, toneAt := none
    emberSent := false, ivAt := s.now, ivBase := q.cnt, bucket := fullBuckets, bucketAt := s.now
    trainRun := if q.key.isSome then q.trainRun else 0 }
  let q := s1.fab.port[p]
  let s2 := if q.key.isSome && !q.established && q.trust != .unpaired && q.trust != .keyMismatch then s1.beginSetup p else s1
  let s3 : State := if s.portRole p = .trunk ∧ ¬ s2.fab.trunkUp then
      { s2 with fab := { s2.fab with
        trunkUp := true
        discoverAt := if s2.fab.kind = .unassigned ∧ ¬ s2.standby then some (s.now + 3 * tps) else s2.fab.discoverAt } }
    else s2
  if s.portRole p = .trunk then s3.lsChange else s3

/-- A failed training (R455, R526, R538): the port goes to DOWN; while the receiver detected signal it counts, and the
eighth in a row is a quarantine cause. -/
def State.failTrain (s : State) (p : FabPort) (signal : Bool) : State :=
  let s1 := s.portDown p .down
  if signal then
    let n := (s.fab.port[p]).trainRun + 1
    s1.updPort p fun q => { q with
      trainRun := n, cnt := { q.cnt with trainFail := q.cnt.trainFail + 1 }
      quarPend := if 8 ≤ n then some 6 else q.quarPend }
  else s1

/-- The link leaves ember idle (R459): EMBER journalled. -/
def State.leaveEmber (s : State) (p : FabPort) : State :=
  if (s.fab.port[p]).link = .ember then s.journal 0x41 (p.val * 16384) else s

/-- The training of a port can still end in ACTIVE: 10 ms from its start have not passed (R455), which in ember idle is at most 10 ms
after the own wake tone (R459). -/
def FPort.mayTrain (q : FPort) (now : Nat) : Bool :=
  match q.link, q.toneAt with
  | .training, _ => decide (now < q.trainAt + msTicks 10)
  | .ember, some t => decide (now < t + msTicks 20)
  | _, _ => false

/-- LINK_TRAINING (R454, R455, R460): the port is ACTIVE after its 16 step 1 sets each way; another role of the partner is ROLE
MISMATCH, and the port tries again after 1.0 s. -/
def execLinkTraining (p : FabPort) (partnerRole : BitVec 2) (s : State) : Out :=
  let q := s.fab.port[p]
  occurs (s.serdesOn && decide (s.portRole p ≠ .off) && !s.dev.serdesFault[p] && q.mayTrain s.now) s
    (if partnerRole.toNat = (s.portRole p).code then (s.leaveEmber p).goActive p
     else
       let s1 := ((s.leaveEmber p).journal 0x42 (p.val * 16384 + partnerRole.toNat * 4 + (s.portRole p).code)).portDown p .down
       s1.updPort p fun q => { q with retrainAt := s.now + tps, trainAt := 0 })

/-- TRAINING_TIMEOUT (R455): 10 ms without ACTIVE. -/
def execTrainingTimeout (p : FabPort) (signal : Bool) (s : State) : Out :=
  let q := s.fab.port[p]
  occurs (decide (q.link = .training) && decide (q.trainAt + msTicks 10 ≤ s.now)) s (s.failTrain p signal)

/-- RETRAIN_TIMER (R455, R456): a DOWN port trains again every 100 ms with a signal, else every 1.0 s. -/
def execRetrainTimer (p : FabPort) (signal : Bool) (s : State) : Out :=
  let q := s.fab.port[p]
  occurs (s.fabricOn && decide (s.portRole p ≠ .off) && !s.dev.serdesFault[p] && decide (q.link = .down) &&
      decide (q.retrainAt + (if signal || q.trainAt = 0 then 0 else msTicks 900) ≤ s.now)) s
    ((s.setLink p .training).updPort p fun q => { q with trainAt := s.now })

/-- LINK_DOWN (R456): loss of signal or alignment for 2 µs, or no BEACON for 3.5 s. -/
def execLinkDown (p : FabPort) (cause : DownCause) (s : State) : Out :=
  let q := s.fab.port[p]
  occurs (decide (q.link = .active) && match cause with
      | .lossOfSignal => true
      | .noBeacon => decide (q.beaconAt + 114688 ≤ s.now)) s (s.portDown p .down)

/-- EMBER (R457): in Loam, or in Bedrock on fault with the fabric kept, after 200 ms of silence with nothing queued and every
credit returned. -/
def execEmber (p : FabPort) (s : State) : Out :=
  let q := s.fab.port[p]
  occurs (decide (q.link = .active) && (decide (s.dev.mode = .loam) || (decide (s.dev.mode = .bedFault) && s.dev.fabricKept)) &&
      decide (q.frameAt + msTicks 200 ≤ s.now) && (q.txq[(0 : Fin 2)]).isEmpty && (q.txq[(1 : Fin 2)]).isEmpty &&
      decide (128 ≤ q.credits[(0 : Fin 2)]) && decide (896 ≤ q.credits[(1 : Fin 2)])) s
    ((s.updPort p fun q => { q with
      link := .ember, emberSent := true, pulseNext := s.now + tps, pulseAt := s.now, toneAt := none
      stallAt := Vector.replicate 2 none }).journal 0x41 (p.val * 16384 + 1))

/-- EMBER_PULSE (R458): each end pulses every 1.000 s; a pulse of the partner is detected. -/
def execEmberPulse (p : FabPort) (received : Bool) (s : State) : Out :=
  let q := s.fab.port[p]
  occurs (decide (q.link = .ember) && (received || decide (q.pulseNext ≤ s.now))) s
    (s.updPort p fun q => if received then { q with pulseAt := s.now } else { q with pulseNext := q.pulseNext + tps })

/-- EMBER_PULSE_TIMEOUT (R458): no pulse of the partner for 3.5 s. -/
def execEmberPulseTimeout (p : FabPort) (s : State) : Out :=
  let q := s.fab.port[p]
  occurs (decide (q.link = .ember) && decide (q.pulseAt + 114688 ≤ s.now)) s ((s.leaveEmber p).portDown p .down)

/-- WAKE_TONE (R459, R20): a tone of 8 µs or more wakes the port, which trains. -/
def execWakeTone (p : FabPort) (s : State) : Out :=
  occurs (decide ((s.fab.port[p]).link = .ember)) s
    (((s.leaveEmber p).setLink p .training).updPort p fun q => { q with trainAt := s.now, toneAt := none })

/-- WAKE_TONE_REPEAT (R459): a tone that drew no TRAIN within 10 ms is sent again after 100 ms. -/
def execWakeToneRepeat (p : FabPort) (s : State) : Out :=
  let q := s.fab.port[p]
  occurs (decide (q.link = .ember) && match q.toneAt with
      | some t => decide (t + msTicks 110 ≤ s.now)
      | none => false) s
    (s.updPort p fun q => { q with toneAt := some s.now })

/-- CREDIT_RETURN (R467): the credits of a CREDIT set, and what they let go. -/
def execCreditReturn (p : FabPort) (cls : Fin 2) (count : Byte) (s : State) : Out :=
  occurs (decide ((s.fab.port[p]).link = .active) && decide (count ≠ 0)) s
    (s.updPort p fun q => { q with credits := q.credits.set cls (q.credits[cls] + count.toNat) }.drain s.now (s.txCarries p))

/-- The class whose head has waited 10 ms for credits (R470). -/
def FPort.stalled (q : FPort) (now : Nat) : Option (Fin 2) :=
  (List.finRange 2).find? fun (c : Fin 2) => match q.stallAt[c] with
    | some t => decide (t + msTicks 10 ≤ now)
    | none => false

/-- CREDIT_STALL (R470, Table 12.6): the third within 60 s is a quarantine cause. -/
def execCreditStall (p : FabPort) (s : State) : Out :=
  let q := s.fab.port[p]
  match q.stalled s.now with
  | none => .next s
  | some c =>
    occurs (decide (q.link = .active)) s
      (let times := s.now :: recent s.now (60 * tps) q.stallTimes
       let s1 := (s.journal 0x43 (p.val * 16384 + c.val)).portDown p .down
       s1.updPort p fun q => { q with
         stallTimes := times, cnt := { q.cnt with stalls := q.cnt.stalls + 1 }
         quarPend := if 3 ≤ times.length then some (q.quarPend.getD 5) else q.quarPend })

/-- A forwarded TILE frame that has waited 50 ms (R471). -/
def TxFrame.tooOld (t : TxFrame) (now : Nat) : Bool :=
  t.forwarded && decide (t.frame.hdr.typ = 4#4) && decide (t.at_ + msTicks 50 ≤ now)

/-- TILE_WAIT_DISCARD (R471). -/
def execTileWaitDiscard (p : FabPort) (s : State) : Out :=
  let q := s.fab.port[p]
  let l := q.txq[(1 : Fin 2)]
  occurs (l.any fun t => t.tooOld s.now) s
    (s.updPort p fun q =>
      let keep := l.filter fun t => !t.tooOld s.now
      { q with
        txq := q.txq.set 1 keep, stallAt := if (l.take 1).any fun t => t.tooOld s.now then q.stallAt.set 1 none else q.stallAt
        cnt := { q.cnt with tileDrop := q.cnt.tileDrop + BitVec.ofNat 32 (l.length - keep.length) } }.drain s.now (s.txCarries p))

/-- Address with its kind (Table 11.8); a standby has kind 0 (R566). -/
def State.addrWord (s : State) : Nat := s.fab.addr.toNat + 4096 * s.fab.kind.code

/-- The BEACON payload (Table 11.8). -/
def State.beaconPayload (s : State) (p : FabPort) : List Byte :=
  bytesLE 8 s.netUid.toNat ++ bytesLE 2 s.addrWord ++
    [BitVec.ofNat 8 (s.eff 3), BitVec.ofNat 8 s.siteGroup, BitVec.ofNat 8 (p.val + 4 * (s.portRole p).code),
      BitVec.ofNat 8 (s.fab.tstate.code + 8 * s.timePrio), BitVec.ofNat 8 s.fab.steps, BitVec.ofNat 8 s.modeCode] ++
    bytesLE 8 s.fab.rootUid.toNat ++ [BitVec.ofNat 8 (s.eff 9 (portPart p))] ++ zeros 7

/-- A BEACON from its payload. -/
def Beacon.parse (l : List Byte) (standby : Bool) : Beacon :=
  let a := natLE (slice l 8 2)
  let pt := (l.getD 12 0).toNat
  let tm := (l.getD 13 0).toNat
  { uid := BitVec.ofNat 64 (natLE (slice l 0 8)), addr := BitVec.ofNat 12 a, kind := BitVec.ofNat 2 (a / 4096)
    role := l.getD 10 0, site := BitVec.ofNat 6 (l.getD 11 0).toNat, port := BitVec.ofNat 2 pt
    portRole := BitVec.ofNat 2 (pt / 4), timeState := BitVec.ofNat 3 tm, prio := BitVec.ofNat 2 (tm / 8)
    steps := (l.getD 14 0).toNat, mode := l.getD 15 0, root := BitVec.ofNat 64 (natLE (slice l 16 8))
    cable := l.getD 24 0, standby := standby }

/-- BEACON_SEND (R472). -/
def execBeaconSend (p : FabPort) (s : State) : Out :=
  let q := s.fab.port[p]
  occurs (decide (q.link = .active) && q.carries (s.portRole p) 0 0 && decide (q.beaconNext ≤ s.now)) s
    (let s1 := s.originate tBeacon 0 0xFFF s.ownAddr (s.beaconPayload p) [p]
     s1.updPort p fun q => { q with beaconNext := s.now + (if s.dev.mode = .sand then msTicks 100 else tps) })

/-- A frame discarded by a check: its counter, and for the counters of probation what R537 says. -/
def State.discard (s : State) (p : FabPort) (stage1 : Bool) (f : Counters → Counters) : Option Frame × State :=
  let s1 := s.bump p f
  (none, if stage1 then s1.errorSeen p else s1)

/-- A HELLO verified (R523): the CMAC under the partner's link key with counter 0, the key ID and the unique ID. -/
def FPort.helloGood (q : FPort) (body mac payload : List Byte) : Bool :=
  match q.key with
  | some k => decide (linkMac k.kRx 0 body = mac) && decide (natLE (slice payload 0 8) = k.partner.toNat) &&
      decide (natLE (slice payload 8 4) = k.keyId.toNat)
  | none => false

/-- The counter under which a CMAC verifies (R528). -/
def FPort.macCounter (q : FPort) (body mac : List Byte) : Option Nat :=
  ((List.range 16).map fun i => q.rxCount + 1 + i).find? fun c => linkMac q.sRx c body = mac

/-- An entry journalled at most once in 60 s may be journalled again (R530, Table 12.7). -/
def minutePassed (t : Option Nat) (now : Nat) : Bool :=
  match t with
  | some x => decide (x + 60 * tps ≤ now)
  | none => true

/-- REPLAY journalled at most once in 60 s (Table 12.7). -/
def State.replayEntry (s : State) (p : FabPort) : State :=
  if minutePassed (s.fab.port[p]).replayJournalAt s.now then
    (s.updPort p fun q => { q with replayJournalAt := some s.now }).journal 0x59 (p.val * 16384)
  else s

/-- Check 4 on a paired link (R523, R526, R528). -/
def State.checkMac (s : State) (p : FabPort) (f : Frame) (body mac : List Byte) : Option Frame × State :=
  let q := s.fab.port[p]
  if f.isHello then
    if q.helloGood body mac f.payload then (some f, s.updPort p fun q => { q with badHello := 0, noCmac := 0 })
    else
      let s1 := s.updPort p fun q => { q with badHello := q.badHello + 1, noCmac := 0 }
      s1.discard p true fun c => { c with cmacErr := c.cmacErr + 1 }
  else match q.macCounter body mac with
    | some n =>
      (some f, s.updPort p fun q => { q with rxCount := n, recentMacs := mac :: q.recentMacs.take 15, macFails := 0 })
    | none =>
      let s1 := s.updPort p fun q => { q with macFails := q.macFails + 1 }
      if q.recentMacs.contains mac then
        (s1.replayEntry p).discard p true fun c => { c with replay := c.replay + 1 }
      else s1.discard p true fun c => { c with cmacErr := c.cmacErr + 1 }

/-- The source of a frame is one that R468 and check 6 of R464 accept. -/
def sourceGood (role : PortRole) (f : Frame) : Bool :=
  f.hdr.src != 0xFFF && (f.hdr.src != 0 || role = .twin || f.hdr.typ = 0 || f.hdr.typ = 1 || f.hdr.typ = 5)

/-- A PROBE is for this unit (R510). -/
def State.probeGood (s : State) (f : Frame) : Bool :=
  f.hdr.typ != 7 || f.hdr.dest = 0xFFF || (f.hdr.dest = s.fab.addr && f.hdr.dest != 0)

/-- The rate limit (R529, R530). -/
def State.rateLimit (s : State) (p : FabPort) (f : Frame) : Option Frame × State :=
  match bucketOf f.hdr.typ.toNat with
  | none => (some f, s)
  | some (i, _) =>
    let s1 := s.updPort p fun q => q.fillBuckets s.now
    let b := (s1.fab.port[p]).bucket[i]
    if 32768 ≤ b then (some f, s1.updPort p fun q => { q with bucket := q.bucket.set i (b - 32768) })
    else
      let q := s1.fab.port[p]
      let s2 := if minutePassed q.floodJournalAt s.now then
          (s1.updPort p fun q => { q with floodJournalAt := some s.now }).journal 0x58 (p.val * 16384 + f.hdr.typ.toNat) else s1
      s2.discard p false fun c => { c with flood := c.flood + 1 }

/-- Checks 4 to 6 of R464 with R506, then the rate limit. -/
def State.checkContent (s : State) (p : FabPort) (f : Frame) (body mac : List Byte) : Option Frame × State :=
  let q := s.fab.port[p]
  let typ := f.hdr.typ.toNat
  let flow := f.hdr.flow.toNat
  if !q.trustCarries typ flow then s.discard p false fun c => { c with notPerm := c.notPerm + 1 }
  else
    let m := if q.macFormat then s.checkMac p f body mac else (some f, s)
    match m.1 with
    | none => m
    | some _ =>
      if !roleCarries (s.portRole p) typ flow then m.2.discard p false fun c => { c with unkType := c.unkType + 1 }
      else if !sourceGood (s.portRole p) f || !s.probeGood f then
        m.2.discard p false fun c => { c with badAddr := c.badAddr + 1 }
      else m.2.rateLimit p f

/-- A HELLO under the key that a pairing has just committed, at a port that still takes frames without CMAC (R515). -/
def FPort.newKeyHello (q : FPort) (f : Frame) (body mac : List Byte) : Bool :=
  !q.macFormat && f.isHello && q.helloGood body mac f.payload &&
    match q.pairing with
    | some g => g.committedAt.isSome
    | none => false

/-- The checks of R464 in order: the frame where it passes, and the counters. -/
def State.checkFrame (s : State) (p : FabPort) (f : RxFrame) : Option Frame × State :=
  let q := s.fab.port[p]
  let n := f.bytes.length
  let h := Header.unpack (natBE (f.bytes.take 8))
  let plain := 8 + (h.len.toNat + 1) + 4
  if 0 < f.symErrors ∨ f.aborted then
    s.discard p true fun c => { c with symErr := c.symErr + BitVec.ofNat 32 (f.symErrors + bit f.aborted) }
  else if n = plain + 8 ∧ crcLE (f.bytes.take (n - 4)) = f.bytes.drop (n - 4) ∧
      q.newKeyHello { hdr := h, payload := slice f.bytes 8 (h.len.toNat + 1) } (f.bytes.take (9 + h.len.toNat))
        (slice f.bytes (9 + h.len.toNat) 8) then
    (some { hdr := h, payload := slice f.bytes 8 (h.len.toNat + 1) }, s)
  else if n < 13 ∨ n ≠ plain + 8 * bit q.macFormat then
    let bare := decide (13 ≤ n) && decide (n = plain) && q.macFormat
    let s1 := s.updPort p fun q => { q with noCmac := if bare then q.noCmac + 1 else 0 }
    s1.discard p true fun c => { c with lenErr := c.lenErr + 1 }
  else if crcLE (f.bytes.take (n - 4)) ≠ f.bytes.drop (n - 4) then
    s.discard p true fun c => { c with crcErr := c.crcErr + 1 }
  else
    let len := h.len.toNat + 1
    s.checkContent p { hdr := h, payload := slice f.bytes 8 len } (f.bytes.take (8 + len)) (slice f.bytes (8 + len) 8)

/-- The port of a unicast frame that leaves (R486): a TILE flow keeps the port that it uses, up to and including its next frame with the
end-of-frame marker, while that port has a link. -/
def State.flowPort (s : State) (f : Frame) (route : FabPort) : FabPort :=
  if f.hdr.typ = 4#4 then
    let c := BitVec.ofNat 4 (f.hdr.flow.toNat / 16)
    match s.fab.pinned.find? (fun x => x.src = f.hdr.src && x.dest = f.hdr.dest && x.ctx = c) with
    | some x => if (s.fab.port[x.port]).linked then x.port else route
    | none => route
  else route

/-- The port that a TILE flow uses after one of its frames has gone to a port (R486): the next hop after the end-of-frame marker. -/
def State.pinFlow (s : State) (f : Frame) (p route : FabPort) : State :=
  if f.hdr.typ = 4#4 then
    let c := BitVec.ofNat 4 (f.hdr.flow.toNat / 16)
    let rest := s.fab.pinned.filter fun x => !(x.src = f.hdr.src && x.dest = f.hdr.dest && x.ctx = c)
    let e : PinnedFlow := { src := f.hdr.src, dest := f.hdr.dest, ctx := c, port := if f.hdr.flow.getLsbD 2 then route else p }
    { s with fab := { s.fab with pinned := rest ++ [e] } }
  else s

/-- A frame for a destination is queued on a port other than one. -/
def State.queuedElsewhere (s : State) (dest : BitVec 12) (p : FabPort) : Bool :=
  allPorts.any fun q => decide (q ≠ p) && ((s.fab.port[q]).txq[(1 : Fin 2)]).any fun t => decide (t.frame.hdr.dest = dest)

/-- Send a unicast frame on the port that the Sieve and R486 give: one that is no TILE frame waits while an earlier one for its destination
is queued elsewhere or waits itself. -/
def State.routeFrame (s : State) (f : Frame) (forwarded : Bool) (route : FabPort) : State :=
  let p := s.flowPort f route
  if f.hdr.typ != 4#4 && (s.queuedElsewhere f.hdr.dest p || s.fab.parked.any fun g => decide (g.hdr.dest = f.hdr.dest)) then
    { s with fab := { s.fab with parked := s.fab.parked ++ [f] } }
  else (s.queueOn f forwarded [p]).pinFlow f p route

/-- Frames that waited under R486 go to the port of their destination now, as far as they may. -/
def State.unpark (s : State) : State :=
  s.fab.parked.foldl (fun t f => match t.sieve f.hdr.dest with
    | some h => if hp : h.val < 3 then t.routeFrame f true ⟨h.val, hp⟩ else t
    | none => t) { s with fab := { s.fab with parked := [] } }

/-- A frame passed on: the hop limit decremented (R463); none where it reaches 0, which is counted. -/
def State.hop (s : State) (p : FabPort) (f : Frame) : Option Frame × State :=
  if f.hdr.hop.toNat ≤ 1 then (none, s.bump p fun c => { c with hopLimit := c.hopLimit + 1 })
  else (some { f with hdr := { f.hdr with hop := f.hdr.hop - 1 } }, s)

/-- Flood a frame on every other trunk port with a link; a standby forwards nothing (R566). -/
def State.flood (s : State) (p : FabPort) (f : Frame) : State :=
  if s.standby then s
  else match s.hop p f with
    | (some g, t) => t.queueOn g true (t.trunkPorts.filter fun x => x != p)
    | (none, t) => t

/-- Kind of a GROUP EVENT from the carried entry (Table 11.14): breach, passage policy, zone alarm, tamper, WAKEn. -/
def groupKind (code : Nat) (data : Nat) : Nat :=
  if code = 0x30 then 1
  else if code = 0x32 ∨ code = 0x33 ∨ code = 0x34 then 2
  else if code = 0x14 then (if data % 16 = 1 ∨ data % 16 = 3 then 3 else 4)
  else if code = 0x13 ∨ code = 0x67 then 4
  else if code = 0x18 then 5
  else 0

/-- An EVENT of the own site group delivered (R17, R23, R27, R489); GRP is present for a breach, a passage-policy event, a zone alarm or a
tamper received while armed (Table 3.8). -/
def State.groupEvent (s : State) (f : Frame) : State :=
  let code := (f.payload.getD 10 0).toNat
  let kind := groupKind code (natLE (slice f.payload 12 2))
  let s1 := s.journal 0x5B (kind * 4096 + f.hdr.src.toNat)
  let s2 := if s.armedNow && decide (1 ≤ kind) && decide (kind ≤ 4) then s1.onset .grp else s1
  let s3 := if s.isHead then s2.offerRecord { kind := 2, src := f.hdr.src, content := f.payload.take 16 } else s2
  if s.accepts .siteEvent && !s.inBedrock then
    { s3 with dev := { s3.dev with accepted := s3.dev.accepted ++ [.siteEvent] } } else s3

/-- An EVENT received (R485, R489): taken only from the next hop toward its source, delivered, and passed on. -/
def State.eventIn (s : State) (p : FabPort) (f : Frame) : State :=
  match s.sieve f.hdr.src with
  | none => s.bump p fun c => { c with noRoute := c.noRoute + 1 }
  | some h =>
    if h.val ≠ p.val then s
    else
      let s1 := if f.hdr.flow.toNat % 64 = s.siteGroup then s.groupEvent f else s
      s1.flood p f

/-- The records of a TALLY frame offered to the head (R438, R490). -/
def State.tallyIn (s : State) (f : Frame) : State :=
  (List.range (f.payload.length / 10)).foldl (fun t i =>
    let r := slice f.payload (10 * i) 10
    t.offerRecord { kind := 3, src := f.hdr.src, content := r.take 2 ++ zeros 6 ++ r.drop 2 }) s

/-- A TILE fragment at a head (R493, R495): a first fragment begins an image, a fragment whose offset does not follow on or that is of
another image discards it, the last one completes it. A head whose output is off discards received tiles. -/
def State.tileIn (s : State) (f : Frame) : State :=
  let first := f.hdr.flow.getLsbD 3
  let last := f.hdr.flow.getLsbD 2
  let header := slice f.payload 0 16
  let frag := f.payload.drop 16
  let ctx := f.hdr.flow.toNat / 16
  let off := natLE (slice header 10 4)
  let mine (t : TileImage) : Bool := decide (t.src = f.hdr.src) && decide (t.ctx = ctx) && t.doneAt.isNone
  if s.hmode = .off ∨ s.isHead = false then s
  else
    let old := s.head.images.find? mine
    let others := s.head.images.filter fun t => !mine t
    let start : Option TileImage :=
      if first then some { src := f.hdr.src, ctx := ctx, header := header, bytes := [], nextSeq := 0 } else old
    let images := match start with
      | none => others
      | some t =>
        if off ≠ t.nextSeq ∨ slice header 0 10 ≠ slice t.header 0 10 then others
        else
          let t1 : TileImage := { t with
            bytes := t.bytes ++ frag, nextSeq := t.nextSeq + frag.length, doneAt := if last then some s.now else none }
          others ++ [t1]
    { s with head := { s.head with images := images } }

/-- A unicast frame received (R484): delivered, forwarded or discarded. -/
def State.unicastIn (s : State) (p : FabPort) (f : Frame) : State :=
  match s.sieve f.hdr.dest with
  | none => s.bump p fun c => { c with noRoute := c.noRoute + 1 }
  | some h =>
    if hp : h.val < 3 then
      (if s.standby then s
       else match s.hop p f with
         | (some g, t) => t.routeFrame g true ⟨h.val, hp⟩
         | (none, t) => t)
    else if f.hdr.typ = 3#4 then s.tallyIn f
    else s.tileIn f

/-- A BEACON received (R472, R508, R566): liveness and display; on an ADMITTED port a change of the neighbour's identity is a
change of the link-state. -/
def State.beaconIn (s : State) (p : FabPort) (f : Frame) : State :=
  let b := Beacon.parse f.payload f.hdr.standby
  let q := s.fab.port[p]
  let s1 := s.updPort p fun q => { q with beaconAt := s.now, beacon := some b }
  let same : Bool := match q.beacon with
    | some o => decide (o.uid = b.uid) && decide (o.addr = b.addr) && decide (o.kind = b.kind)
    | none => false
  if q.trust = .admitted ∧ s.portRole p = .trunk ∧ !b.standby ∧ !same then s1.lsChange else s1

/-- The pattern of a TEST frame holds (Table 12.2). -/
def testPattern (l : List Byte) : Bool :=
  let n := natLE (slice l 0 4)
  decide (l.length = 256) && (List.range 248).all fun i => l.getD (i + 8) 0 = BitVec.ofNat 8 ((i + 8) * 0x3D + n)

/-- A TEST frame received (R537). -/
def State.testIn (s : State) (p : FabPort) (f : Frame) : State :=
  s.updPort p fun q => match q.trust with
    | .test =>
      if testPattern f.payload then
        { q with cleanCount := q.cleanCount + 1, partnerClean := natLE (slice f.payload 4 4) }
      else { q with cleanCount := 0 }
    | _ => q

/-- A COMMITTED received (R515): it names the key of the pairing. -/
def State.committedIn (s : State) (p : FabPort) (f : Frame) : State :=
  s.updPort p fun q => { q with pairing := q.pairing.map fun g =>
    match g.partner with
    | some (u, _, _) =>
      if natLE (slice f.payload 0 8) = u.toNat ∧ natLE (slice f.payload 8 4) = g.keyId.toNat then
        { g with partnerCommitted := true } else g
    | none => g }

/-- A frame that passed every check, delivered or forwarded as its type states (R463 to R465). Frames whose handling is a
step of its own wait for it. -/
def State.frameIn (s : State) (p : FabPort) (f : Frame) : State :=
  let wait : State := { s with fab := { s.fab with inbox := s.fab.inbox ++ [(p, f)] } }
  match f.hdr.typ.toNat with
  | 0 => s.beaconIn p f
  | 2 => s.eventIn p f
  | 3 => s.unicastIn p f
  | 4 => s.unicastIn p f
  | 7 =>
    if f.hdr.flow = 0x20 then s.testIn p f
    else if f.hdr.flow = 0x03 then s.committedIn p f
    else wait
  | _ => wait

/-- FRAME_RECEIVED (R464, R506, R508, R510, R526 to R530, and what each type states): the checks in order, then delivery or
forwarding. The bytes pass through the receive FIFO of the port, which its receive channel empties into the receive ring (R15): they
stay there for the MOVEs of a program that runs, and a frame that meets a halted channel stays there and goes no further. The credits
of a frame return as its space is freed (R467): in this step, or not before a halted channel is recovered. -/
def execFrameReceived (p : FabPort) (f : RxFrame) (s : State) : Out :=
  occurs (decide ((s.fab.port[p]).link = .active) && s.fabricOn) s
    (let s1 := s.updPort p fun q => { q with frameAt := s.now, emberSent := false }
     match s1.checkFrame p f with
     | (none, t) => t
     | (some g, t) =>
       let ch := t.mov.chan.getD (15 + p.val) {}
       if !t.rxCarries p then t.updPort p fun q => { q with
         rxFifo := (q.rxFifo ++ f.bytes).take 1024
         granted := let c := typeClass g.hdr.typ.toNat
                    q.granted.set c (q.granted[c] - q.frameCredits g) }
       else
         let kept := decide (ch.state = .run) || decide (ch.state = .wait)
         let t1 := if kept then t.updPort p fun q => { q with rxFifo := q.rxFifo ++ f.bytes } else t
         (t1.frameIn p g).unpark.settle)

end Sys2Proof.Machine
end

