-- ==== Sys2Proof/Machine/Addresses.lean ====
section
/-!
DEFINITION. Addresses, the link-state database, routes and the Sieve, tally frames and tile export (§11.6 to §11.9).
-/
namespace Sys2Proof.Machine

/-- The claims of a database: addresses held as bead-set or discovered. -/
def LsEntry.claims (e : LsEntry) : Bool := (e.kind = 1#2 || e.kind = 2#2) && e.addr != 0

/-- The free list (R474 step 1). -/
def State.freeAddr (s : State) (a : Nat) : Bool :=
  !s.fab.lsdb.any fun e => e.claims && decide (e.addr.toNat = a)

/-- The n-th lowest address on the free list. -/
def State.nthFree (s : State) (n : Nat) : Option Nat :=
  (((List.range 0xFFE).map fun i => i + 1).filter s.freeAddr)[n]?

/-- The rank of this device among the unassigned devices of the database, itself included (R474 step 3). -/
def State.rank (s : State) : Nat :=
  (s.fab.lsdb.filter fun e => decide (e.kind = 0#2) && decide (e.uid.toNat < s.netUid.toNat)).length

/-- The address that discovery claims (R474). -/
def State.discovered (s : State) : Option Nat :=
  let l := s.fab.lastAddr.toNat
  if 1 ≤ l ∧ l ≤ 0xFFE ∧ s.freeAddr l then some l else s.nthFree s.rank

/-- ADDRESS (R474, R475). -/
def execAddress (s : State) : Out :=
  let due : Bool := match s.fab.discoverAt with
    | some t => decide (t ≤ s.now)
    | none => false
  occurs (due && decide (s.fab.kind = .unassigned) && !s.standby && s.anyTrunk && s.fabricOn) s
    (match s.discovered with
     | none => s
     | some a =>
       let w : BitVec 12 := BitVec.ofNat 12 a
       let s1 : State := { s with
         fab := { s.fab with addr := w, kind := .discovered, lastAddr := w, discoverAt := none }
         twin := { s.twin with pairAddr := if s.trole = .none then s.twin.pairAddr else w } }
       ((s1.journal 0x44 (AddrKind.discovered.code * 4096 + a)).lsChange).stateChanged)

/-- The claim of another device beats this device's (R476). -/
def State.losesTo (s : State) (e : LsEntry) : Bool :=
  decide (e.uid ≠ s.netUid) && e.claims && decide (e.addr = s.fab.addr) && decide (s.fab.addr ≠ 0) &&
    match s.fab.kind with
    | .beadSet => decide (e.kind = 1#2) && decide (e.uid.toNat < s.netUid.toNat)
    | .discovered => decide (e.kind = 1#2) || decide (e.uid.toNat < s.netUid.toNat)
    | _ => false

/-- ADDRESS_CONFLICT (R476, R477): a discovered loser becomes unassigned and discovers again after 1.0 s, a bead-set loser
becomes held. -/
def execAddressConflict (s : State) : Out :=
  occurs (s.fab.lsdb.any s.losesTo && s.fabricOn) s
    (let s1 := s.journal 0x45 (4096 + s.fab.addr.toNat)
     let s2 : State := if s.fab.kind = .discovered then
         { s1 with fab := { s1.fab with addr := 0, kind := .unassigned, discoverAt := some (s.now + tps) } }
       else { s1 with fab := { s1.fab with kind := .held } }
     (s2.lsChange).stateChanged)

/-- The metric of a trunk port: none where its link is not listed (R478, Table 12.1). -/
def State.portMetric (s : State) (p : FabPort) : Option Nat :=
  let q := s.fab.port[p]
  if q.linked && decide (s.portRole p = .trunk) then
    match q.trust with
    | .clean => some 255
    | .test => some 255
    | .admitted => some (if q.penalty then 9 else 1)
    | _ => none
  else none

/-- The link that a port adds to the own LINKSTATE (Table 11.9). -/
def State.ownLink (s : State) (p : FabPort) : Option LsLink :=
  match s.portMetric p, (s.fab.port[p]).beacon with
  | some m, some b =>
    some { port := BitVec.ofNat 2 p.val, metric := m, addr := BitVec.ofNat 16 (b.addr.toNat + 4096 * b.kind.toNat), uid := b.uid }
  | _, _ => none

/-- The own LINKSTATE entry with a sequence (Table 11.9). -/
def State.ownEntry (s : State) (seq : BitVec 32) : LsEntry where
  uid := s.netUid
  addr := s.fab.addr
  kind := BitVec.ofNat 2 s.fab.kind.code
  role := BitVec.ofNat 8 (s.eff 3)
  site := BitVec.ofNat 6 s.siteGroup
  prio := BitVec.ofNat 2 s.timePrio
  refin := s.clk.refinAdvertised
  links := allPorts.filterMap s.ownLink
  seq := seq
  at_ := s.now

/-- The LINKSTATE payload of an entry (Table 11.9). -/
def LsEntry.payload (e : LsEntry) : List Byte :=
  bytesLE 8 e.uid.toNat ++ bytesLE 2 (e.addr.toNat + 4096 * e.kind.toNat) ++
    [e.role, e.site.setWidth 8, BitVec.ofNat 8 (e.prio.toNat + 4 * bit e.refin), BitVec.ofNat 8 e.links.length] ++
    bytesLE 4 e.seq.toNat ++ zeros 2 ++
    (e.links.map fun l => [l.port.setWidth 8, BitVec.ofNat 8 l.metric] ++ bytesLE 2 l.addr.toNat ++ bytesLE 8 l.uid.toNat).flatten

/-- An entry from a LINKSTATE payload. -/
def LsEntry.parse (now : Nat) (l : List Byte) : LsEntry :=
  let a := natLE (slice l 8 2)
  let t := (l.getD 12 0).toNat
  { uid := BitVec.ofNat 64 (natLE (slice l 0 8)), addr := BitVec.ofNat 12 a, kind := BitVec.ofNat 2 (a / 4096)
    role := l.getD 10 0, site := BitVec.ofNat 6 (l.getD 11 0).toNat, prio := BitVec.ofNat 2 t, refin := decide (t / 4 % 2 = 1)
    links := (List.range (min 3 (l.getD 13 0).toNat)).map fun j =>
      let r := slice l (20 + 12 * j) 12
      { port := BitVec.ofNat 2 (r.getD 0 0).toNat, metric := (r.getD 1 0).toNat, addr := BitVec.ofNat 16 (natLE (slice r 2 2))
        uid := BitVec.ofNat 64 (natLE (slice r 4 8)) }
    seq := BitVec.ofNat 32 (natLE (slice l 14 4)), at_ := now }

/-- The entry of an origin. -/
def State.lsOf (s : State) (u : BitVec 64) : Option LsEntry := s.fab.lsdb.find? fun e => e.uid = u

/-- An entry stored under its origin (R479, R480); a new one that finds the database full is refused, and FABRIC FULL is
journalled once until there is room (R481). -/
def State.storeEntry (s : State) (e : LsEntry) : State :=
  let others := s.fab.lsdb.filter fun x => x.uid != e.uid
  if 4608 ≤ others.length then
    (if s.fab.fullJournalled then s else ({ s with fab := { s.fab with fullJournalled := true } } : State).journal 0x49 0)
  else
    { s with fab := { s.fab with
        lsdb := others ++ [e], dbChangedAt := some (s.fab.dbChangedAt.getD s.now)
        fullJournalled := s.fab.fullJournalled && decide (4608 ≤ others.length + 1) } }

/-- The site group and the time-source priority take what waits for the next LINKSTATE (Table 2.4). -/
def State.takeSite (s : State) : State := (s.takeWaiting 10 1).takeWaiting 11 0

/-- LINKSTATE_ORIGINATION (R478, R479): the own entry under the next sequence, with the beads that wait for it, is stored and sent on
every trunk port. -/
def execLinkstateOrigination (s : State) : Out :=
  let due : Bool := match s.fab.lsDue with
    | some t => decide (t ≤ s.now)
    | none => false
  occurs (s.anyTrunk && s.fabricOn && !s.standby && (due || decide (s.fab.lsSentAt + 30 * tps ≤ s.now))) s
    (let s := s.takeSite
     let seq := s.fab.ownSeq + 1
     let e := s.ownEntry seq
     let s1 : State := { s with fab := { s.fab with ownSeq := seq, lsSentAt := s.now, lsDue := none } }
     ((s1.storeEntry e).originate tLinkstate 0 0xFFF s.ownAddr e.payload s.trunkPorts).stateChanged)

/-- A sequence is newer than another (R479). -/
def newerSeq (s t : BitVec 32) : Bool :=
  let d := (s - t).toNat
  decide (1 ≤ d) && decide (d < 2 ^ 31)

/-- The oldest frame of a type that waits for its handling, with what stays. -/
def State.takeInbox (s : State) (want : FabPort × Frame → Bool) : Option (FabPort × Frame × State) :=
  (s.fab.inbox.find? want).map fun x =>
    (x.1, x.2, { s with fab := { s.fab with inbox := s.fab.inbox.erase x } })

/-- LINKSTATE_RECEIVED (R479 to R481): a newer entry is stored and flooded, an equal one discarded, an older one answered
with the stored entry, except by a standby (R566); a newer copy of the own entry sets the own sequence and originates again. -/
def execLinkstateReceived (s : State) : Out :=
  match s.takeInbox fun x => x.2.hdr.typ = 1#4 with
  | none => .next s
  | some (p, f, t) =>
    let e := LsEntry.parse s.now f.payload
    let stored := t.lsOf e.uid
    let newer : Bool := match stored with
      | some o => newerSeq e.seq o.seq
      | none => true
    .next (
      if e.uid = s.netUid ∧ ¬ s.standby then
        (if newerSeq e.seq t.fab.ownSeq then
           { t with fab := { t.fab with ownSeq := e.seq, lsDue := some s.now } }
         else if e.seq = t.fab.ownSeq then t
         else match stored with
           | some o => t.originate tLinkstate 0 0xFFF s.ownAddr o.payload [p]
           | none => t)
      else if newer then (t.storeEntry e).flood p f
      else match stored with
        | some o => if o.seq = e.seq ∨ s.standby then t else t.originate tLinkstate 0 0xFFF s.ownAddr o.payload [p]
        | none => t)

/-- An entry not refreshed for 95 s. -/
def LsEntry.stale (e : LsEntry) (now : Nat) : Bool := decide (e.at_ + 95 * tps ≤ now)

/-- LINKSTATE_AGE_OUT (R481). -/
def execLinkstateAgeOut (s : State) : Out :=
  occurs (s.fab.lsdb.any fun e => e.stale s.now) s
    { s with fab := { s.fab with
        lsdb := s.fab.lsdb.filter fun e => !e.stale s.now, dbChangedAt := some (s.fab.dbChangedAt.getD s.now), fullJournalled := false } }

/-- The least metric under which an entry lists a neighbour, none where no link to it is usable (R482, R507). -/
def LsEntry.metricTo (e : LsEntry) (u : BitVec 64) : Option Nat :=
  (e.links.filterMap fun l => if l.uid = u ∧ l.metric < 255 then some l.metric else none).min?

/-- The cost of a link of an entry and the entry at its other end, where both ends list it (R482). -/
def linkCost (db : List LsEntry) (a : LsEntry) (l : LsLink) : Option (LsEntry × Nat) :=
  if l.metric < 255 then
    match db.find? fun e => e.uid = l.uid with
    | some b => (b.metricTo a.uid).map fun m => (b, max m l.metric)
    | none => none
  else none

/-- A label of the path computation: least cost, least hops of a path of that cost, and the own ports that begin one. -/
structure Label where
  cost : Nat
  hops : Nat
  ports : List FabPort
  deriving DecidableEq, Repr

/-- The better of two labels; ports of paths of equal cost are joined. -/
def Label.join (a b : Label) : Label :=
  if a.cost < b.cost then a
  else if b.cost < a.cost then b
  else { cost := a.cost, hops := min a.hops b.hops, ports := a.ports ++ b.ports.filter fun p => !a.ports.contains p }

/-- The join of several labels. -/
def joinLabels : List Label → Option Label
  | [] => none
  | [x] => some x
  | x :: t => match joinLabels t with
    | some y => some (x.join y)
    | none => some x

/-- The labels of the neighbours that own ports reach, with one hop. -/
def State.firstLabels (s : State) (own : LsEntry) : List (BitVec 64 × Label) :=
  own.links.filterMap fun l =>
    if hp : l.port.toNat < 3 then
      let p : FabPort := ⟨l.port.toNat, hp⟩
      if (s.fab.port[p]).linked && decide (s.portRole p = .trunk) then
        (linkCost s.fab.lsdb own l).map fun x => (l.uid, { cost := x.2, hops := 1, ports := [p] })
      else none
    else none

/-- One round of relaxation: each origin's label from its neighbours' labels and from the own ports. -/
def relaxRound (db : List LsEntry) (me : BitVec 64) (start labels : List (BitVec 64 × Label)) : List (BitVec 64 × Label) :=
  db.filterMap fun v =>
    if v.uid = me then none
    else
      let direct := (start.filter fun x => x.1 = v.uid).map fun x => x.2
      let through := v.links.filterMap fun l =>
        if l.uid = me then none
        else match linkCost db v l, labels.find? (fun x => x.1 = l.uid) with
          | some (_, c), some (_, y) => some { y with cost := y.cost + c, hops := y.hops + 1 }
          | _, _ => none
      (joinLabels (direct ++ through)).map fun y => (v.uid, y)

/-- Rounds of relaxation until nothing changes, at most as many as given. -/
def relax (db : List LsEntry) (me : BitVec 64) (start : List (BitVec 64 × Label)) :
    Nat → List (BitVec 64 × Label) → List (BitVec 64 × Label)
  | 0, l => l
  | n + 1, l =>
    let l' := relaxRound db me start l
    if l' = l then l else relax db me start n l'

/-- Least-cost labels from this device to every origin (R483). -/
def State.labels (s : State) : List (BitVec 64 × Label) :=
  match s.lsOf s.netUid with
  | some own =>
    let st := s.firstLabels own
    relax s.fab.lsdb s.netUid st (s.fab.lsdb.length + 1) []
  | none => []

/-- The lowest port letter among some ports. -/
def lowestPort (l : List FabPort) : Option FabPort := allPorts.find? fun p => l.contains p

/-- The entry that holds an address where several claim it (R476). -/
def betterClaim (a b : LsEntry) : LsEntry :=
  if a.kind = b.kind then (if a.uid.toNat ≤ b.uid.toNat then a else b)
  else if a.kind = 1#2 then a else b

/-- The destinations of the Sieve: for each address the entry that holds it (R476, R483). -/
def destinations : List LsEntry → List LsEntry
  | [] => []
  | e :: t =>
    let l := destinations t
    if !e.claims then l
    else match l.find? (fun x => x.addr = e.addr) with
      | some x => (betterClaim e x) :: l.filter fun y => y.addr != e.addr
      | none => e :: l

/-- What the path computation says of one destination: a route, or too many hops (R483). -/
def routeTo (labels : List (BitVec 64 × Label)) (e : LsEntry) : Option (RouteEnt × Bool) :=
  match labels.find? fun x => x.1 = e.uid with
  | some (_, y) =>
    (lowestPort y.ports).map fun p => ({ addr := e.addr, port := p, cost := y.cost, hops := y.hops }, decide (63 < y.hops))
  | none => none

/-- The better candidate for the time root (R496). -/
def betterRoot (a b : LsEntry) : LsEntry :=
  if a.prio = b.prio then (if a.uid.toNat ≤ b.uid.toNat then a else b)
  else if b.prio.toNat < a.prio.toNat then a else b

/-- The time root of a database (R496). -/
def timeRoot (db : List LsEntry) : Option LsEntry :=
  (db.filter LsEntry.claims).foldl (fun r e => match r with
    | none => some e
    | some x => some (betterRoot x e)) none

/-- The time state changes, and is journalled (R502). -/
def State.setTime (s : State) (t : TimeState) : State :=
  if s.fab.tstate = t then s
  else ({ s with fab := { s.fab with tstate := t, fineRun := 0 } } : State).journal 0x4B t.code

/-- The root and the time parent after a route computation (R496, R497, R502): a change of root is journalled; a device that
becomes root is ROOT; a root that is so no more has no parent yet; a FINE device whose parent changes is COARSE. -/
def State.electRoot (s : State) : State :=
  match timeRoot s.fab.lsdb with
  | none => { s with fab := { s.fab with parent := none, exch := none } }
  | some r =>
    let s1 := if s.fab.rootUid = r.uid then s
      else ({ s with fab := { s.fab with rootUid := r.uid } } : State).journal 0x4A r.addr.toNat
    if r.uid = s.netUid then
      ({ s1 with fab := { s1.fab with parent := none, exch := none, steps := 0 } } : State).setTime .root
    else
      let parent := (s.fab.routes.find? fun x => x.addr = r.addr).map fun x => x.port
      let s2 := if s1.fab.tstate = .root then s1.setTime .holdover else s1
      if parent = s2.fab.parent then s2
      else
        let s3 := if s2.fab.tstate = .fine then s2.setTime .coarse else s2
        { s3 with fab := { s3.fab with
            parent := parent, exch := none, exchNext := s.now
            steps := match parent with
              | some p => match (s.fab.port[p]).beacon with
                | some b => b.steps + 1
                | none => s3.fab.steps
              | none => s3.fab.steps } }

/-- A better export head: less cost, then the lower unique ID (R491). -/
def betterHead (a b : Nat × LsEntry) : Nat × LsEntry :=
  if a.1 < b.1 then a else if b.1 < a.1 then b else if a.2.uid.toNat ≤ b.2.uid.toNat then a else b

/-- The export head (R491). -/
def State.findHead (s : State) (dest : List LsEntry) : Option (BitVec 12) :=
  let l := dest.filterMap fun e =>
    if headRole e.role.toNat ∧ e.site.toNat = s.siteGroup ∧ e.uid ≠ s.netUid then
      (s.fab.routes.find? fun r => r.addr = e.addr).map fun r => (r.cost, e)
    else none
  (l.foldl (fun h x => match h with
    | none => some x
    | some y => some (betterHead y x)) none).map fun x => x.2.addr

/-- ROUTE (R483, R484, R491, R496, R497): the Sieve rewritten, changed next hops journalled, DIAMETER once for a destination
beyond 63 hops, the time root and parent, the export head, NO HEAD. -/
def execRoute (s : State) : Out :=
  occurs (s.fab.dbChangedAt.isSome && decide (s.fab.routedAt + msTicks 50 ≤ s.now) && s.fabricOn) s
    (let labels := s.labels
     let dest := destinations s.fab.lsdb
     let found := (dest.filter fun e => e.uid != s.netUid).filterMap (routeTo labels)
     let routes := (found.filter fun x => !x.2).map fun x => x.1
     let far := (found.filter fun x => x.2).map fun x => x.1.addr
     let s1 := (far.filter fun a => !s.fab.diameter.contains a).foldl (fun t (a : BitVec 12) => t.journal 0x48 a.toNat) s
     let changed := routes.filter fun r => match s.fab.routes.find? (fun o => o.addr = r.addr) with
       | some o => decide (o.port ≠ r.port)
       | none => true
     let s2 := changed.foldl (fun t (r : RouteEnt) => t.journal 0x47 (r.port.val * 16384 + r.addr.toNat)) s1
     let s3 : State := { s2 with fab := { s2.fab with
       routes := routes, routedAt := s.now, dbChangedAt := none, diameter := far } }
     let s4 := s3.electRoot
     let head := s4.findHead dest
     let s5 : State := { s4 with fab := { s4.fab with exportHead := head } }
     let s6 := if s5.exportBit ∧ s5.dev.mode = .sand ∧ ¬ s5.held ∧ head.isNone then s5.journal 0x4D 0 else s5
     s6.unpark)

/-- A list cut into pieces of a length, at most as many as the fuel. -/
def chunks {α : Type} (n : Nat) : Nat → List α → List (List α)
  | 0, _ => []
  | fuel + 1, l => if l.isEmpty then [] else l.take n :: chunks n fuel (l.drop n)

/-- A unicast frame of this device on its way by the Sieve (R484); none leaves while the address is held (R477). -/
def State.sendRouted (s : State) (typ flow : Nat) (dest : BitVec 12) (payload : List Byte) : State :=
  match s.sieve dest with
  | some h =>
    if hp : h.val < 3 then
      let r := s.makeFrame typ flow dest s.ownAddr payload
      r.2.routeFrame r.1 false ⟨h.val, hp⟩
    else s
  | none => s

/-- TALLY_FRAME_SEND (R490): every 60 s in Sand the changed tallies go to the export head, 204 records to a frame. -/
def execTallyFrameSend (s : State) : Out :=
  occurs (decide (s.dev.mode = .sand) && !headRole (s.eff 3) && !s.standby && decide (s.fab.tallyNext ≤ s.now)) s
    (let s0 : State := { s with fab := { s.fab with tallyNext := s.fab.tallyNext + 60 * tps } }
     match s.fab.exportHead with
     | none => s0
     | some h =>
       if s.held then s0
       else
         let recs := (s.changedTallies s.fab.sentDev s.fab.sentPath).map fun x =>
           [BitVec.ofNat 8 x.1, BitVec.ofNat 8 x.2.1] ++ bytesLE 8 x.2.2.toNat
         let s1 := (chunks 204 (recs.length + 1) recs).foldl (fun t (l : List (List Byte)) => t.sendRouted tTally 0 h l.flatten) s0
         { s1 with fab := { s1.fab with sentDev := s.tal.dev, sentPath := s.pathCounts } })

/-- The bytes of a frame image of a context: its tag record and its lines (R493). -/
def KCtx.imageBytes (k : KCtx) : Nat := 48 + k.par 38 * outLineBytes (k.par 37) (k.par 41)

/-- One line of the export ring added to the image in progress; the first one begins an image with its tag record and the
head of now (R491, R493). -/
def State.exportLine (s : State) (c : Ctx) (base : Nat) : State :=
  s.updCtx c fun k =>
    let ol := outLineBytes (k.par 37) (k.par 41)
    let line := memRange s.mov.pool (base + k.expRead * ol) ol
    let new := k.expOff = 0 ∧ k.expBuf.isEmpty
    { k with
      expRead := (k.expRead + 1) % 32
      expBuf := (if new then k.expTags.headD (zeros 48) else k.expBuf) ++ line
      expDest := if new then (if s.dev.mode = .sand ∧ s.exporting then s.fab.exportHead else none) else k.expDest }

/-- The tile header of a fragment (R493). -/
def KCtx.tileHeader (k : KCtx) (c : Ctx) : List Byte :=
  [BitVec.ofNat 8 c.val, BitVec.ofNat 8 (k.par 41)] ++ bytesLE 2 (k.par 37) ++ bytesLE 2 (k.par 38) ++
    slice (k.expTags.headD []) 18 4 ++ bytesLE 4 k.expOff ++ zeros 2

/-- The fragments that the bytes at hand complete: each of 2,032 bytes, the last with the rest (R493). -/
def State.sendFragments (c : Ctx) : Nat → State → State
  | 0, s => s
  | fuel + 1, s =>
    let k := s.kiln.ctx[c]
    let left := k.imageBytes - k.expOff
    let n := min 2032 left
    if k.expBuf.length < n ∨ n = 0 then s
    else
      let last := decide (left ≤ 2032)
      let flow := c.val * 16 + 8 * bit (decide (k.expOff = 0)) + 4 * bit last
      let s1 := match k.expDest with
        | some h => s.sendRouted tTile flow h (k.tileHeader c ++ k.expBuf.take n)
        | none => s
      let s2 := s1.updCtx c fun k =>
        if last then { k with expBuf := k.expBuf.drop n, expOff := 0, expTags := k.expTags.drop 1, expDest := none }
        else { k with expBuf := k.expBuf.drop n, expOff := k.expOff + n }
      if last then s2 else State.sendFragments c fuel s2

/-- One line read from the export ring, and the fragments that it completes. -/
def State.exportOne (s : State) (c : Ctx) (base : Nat) : State :=
  let s1 := s.exportLine c base
  State.sendFragments c ((s1.kiln.ctx[c]).expBuf.length + 1) s1

/-- TILE_EXPORT (R486, R491, R493): the lines that wait in the export ring of a context go out as TILE fragments. -/
def execTileExport (c : Ctx) (s : State) : Out :=
  let n := (s.mov.queue[exportQueue c]).level
  match s.mov.base (.export_ c) with
  | none => .next s
  | some base =>
    occurs (decide (0 < n) && s.kiln.running) s
      (let s1 := (List.range n).foldl (fun t _ => t.exportOne c base) s
       s1.updQueue (exportQueue c) fun q => { q with level := 0 })

end Sys2Proof.Machine
end

