-- ==== Sys2Proof/Machine/FabricTime.lean ====
section
/-!
DEFINITION. Fabric time: the exchange with the time parent, the servo and the time states (§11.10). Times are in 1/65,536 ns,
modulo 2^80.
-/
namespace Sys2Proof.Machine

/-- Fabric time at a point of the present tick. -/
def State.stamp (s : State) (phase : Nat) : Nat := (s.fab.time + phase) % 2 ^ 80

/-- The signed difference of two stamps. -/
def stampDiff (a b : Nat) : Int :=
  let d : Nat := (a + 2 ^ 80 - b) % 2 ^ 80
  if d < 2 ^ 79 then (d : Int) else (d : Int) - (2 ^ 80 : Nat)

/-- A time state with which a neighbour is usable as a parent (R497). -/
def usableState (code : Nat) : Bool := code = 1 || code = 2 || code = 4

/-- The time parent is usable (R497). -/
def State.parentUsable (s : State) : Bool :=
  match s.fab.parent with
  | some p => match (s.fab.port[p]).beacon with
    | some b => usableState b.timeState.toNat && decide (b.steps < 63)
    | none => false
  | none => false

/-- Exchanges run every 62.5 ms: in Sand and during relay activity (R499). -/
def State.fastTime (s : State) : Bool := decide (s.dev.mode = .sand) || s.dev.relay

/-- The TIME request of an exchange: e and t1. -/
def timeRequest (e : Byte) (t1 : Nat) : List Byte := e :: bytesLE 10 t1

/-- The TIME response of an exchange: e, t2, t3, state, steps removed, root unique ID. -/
def State.timeResponse (s : State) (e : Byte) (t2 t3 : Nat) : List Byte :=
  e :: (bytesLE 10 t2 ++ bytesLE 10 t3 ++ [BitVec.ofNat 8 s.fab.tstate.code, BitVec.ofNat 8 s.fab.steps] ++
    bytesLE 8 s.fab.rootUid.toNat)

/-- A FINE device whose exchange interval lengthens is COARSE (R502). -/
def State.slower (s : State) : State := if s.fab.tstate = .fine then s.setTime .coarse else s

/-- TIME_EXCHANGE_START (R499): a TIME request to the parent every 62.5 ms or 1.0 s; on a port in EMBER the port is woken every
64 s for a burst of 4 exchanges 62.5 ms apart. -/
def execTimeExchangeStart (phase : Nat) (s : State) : Out :=
  match s.fab.parent with
  | none => .next s
  | some p =>
    let q := s.fab.port[p]
    if q.link = .ember then
      occurs (s.serdesOn && decide (s.fab.burstAt + 64 * tps ≤ s.now) && q.toneAt.isNone) s
        (let s1 := s.slower
         let s2 : State := { s1 with fab := { s1.fab with burstAt := s.now, exchBurst := 4, exchNext := s.now, exch := none } }
         s2.updPort p fun q => { q with toneAt := some s.now })
    else
      occurs (decide (q.link = .active) && s.serdesOn && decide (q.trust = .admitted) && s.fab.exch.isNone &&
          decide (s.fab.exchNext ≤ s.now)) s
        (let fast := s.fastTime || decide (0 < s.fab.exchBurst)
         let iv := if fast then 2048 else tps
         let e := s.fab.exchNo + 1
         let t1 := s.stamp phase
         let s1 := if s.fastTime then s else s.slower
         let s2 : State := { s1 with fab := { s1.fab with
           exch := some { e := e, t1 := t1, at_ := s.now }, exchNo := e, exchNext := s.now + iv, exchInterval := iv
           exchBurst := s.fab.exchBurst - 1 } }
         s2.originate tTime 0 0xFFF s.ownAddr (timeRequest e t1) [p])

/-- TIME_REQUEST_RECEIVED (R499): t2 at the child's TSYNC, t3 at the own one, and the response; a standby originates none (R566). -/
def execTimeRequestReceived (t2phase t3phase : Nat) (s : State) : Out :=
  match s.takeInbox fun x => x.2.hdr.typ = 5#4 && x.2.hdr.flow = 0#8 with
  | none => .next s
  | some (p, f, t) =>
    .next (if t.standby then t else t.originate tTime 1 0xFFF s.ownAddr
      (t.timeResponse (f.payload.getD 0 0) (s.stamp t2phase) (s.stamp t3phase)) [p])

/-- TIME STEP data: the sign of θ and its size in µs (Table 11.14). -/
def stepData (theta : Int) : Nat :=
  bit (decide (theta < 0)) * 32768 + sat 32767 (theta.natAbs / 65536000)

/-- The servo at an accepted exchange (R501, R502). -/
def State.servo (s : State) (theta : Int) (parentState : Nat) : State :=
  let n := theta.natAbs
  let iv := s.fab.exchInterval
  let sure := parentState = 2 ∨ parentState = 4
  if s.fab.tstate = .free ∨ 65536000 < n then
    let t : Int := (s.fab.time : Int) + theta
    let s1 : State := { s with fab := { s.fab with time := (t % (2 ^ 80 : Nat)).toNat, slew := 0, slewTicks := 0 } }
    (({ s1 with fab := { s1.fab with fineRun := 0 } } : State).setTime .coarse).journal 0x4C (stepData theta)
  else
    let rate := clampInt (-6553600000) 6553600000 (s.fab.rate + rdiv (theta * 2048) iv)
    let run := if iv = 2048 ∧ n ≤ 327680 ∧ sure then s.fab.fineRun + 1 else 0
    let s1 : State := { s with fab := { s.fab with slew := rdiv theta 4, slewTicks := iv, rate := rate, fineRun := run } }
    match s.fab.tstate with
    | .holdover => s1.setTime .coarse
    | .coarse => if 16 ≤ run then s1.setTime .fine else s1
    | .fine => if 1310720 < n ∨ ¬ sure then s1.setTime .coarse else s1
    | _ => s1

/-- TIME_RESPONSE_RECEIVED (R499 to R502): t4 at the parent's TSYNC, the link delay and the offset; a delay outside 0 to 200 ns
is TIME BAD; a parent that is not usable is ignored. -/
def execTimeResponseReceived (t4phase : Nat) (s : State) : Out :=
  match s.takeInbox fun x => x.2.hdr.typ = 5#4 && x.2.hdr.flow = 1#8 with
  | none => .next s
  | some (p, f, t) =>
    match s.fab.exch with
    | none => .next t
    | some x =>
      if s.fab.parent ≠ some p ∨ f.payload.getD 0 0 ≠ x.e ∨ x.at_ + 33 ≤ s.now then .next t
      else
        let t2 := natLE (slice f.payload 1 10)
        let t3 := natLE (slice f.payload 11 10)
        let st := (f.payload.getD 21 0).toNat % 8
        let steps := (f.payload.getD 22 0).toNat
        let t4 := s.stamp t4phase
        let d := rdiv (stampDiff t4 x.t1 - stampDiff t3 t2) 2
        let theta := rdiv (stampDiff t2 x.t1 + stampDiff t3 t4) 2
        let t5 : State := { t with fab := { t.fab with exch := none } }
        let t6 : State := { t5 with fab := { t5.fab with fineRun := 0 } }
        .next (
          if d < 0 ∨ 13107200 < d then
            t6.bump p fun c => { c with timeBad := c.timeBad + 1 }
          else if usableState st ∧ steps < 63 then
            ({ t5 with fab := { t5.fab with
                theta := theta, delay := d, acceptedAt := s.now, steps := steps + 1 } } : State).servo theta st
          else t6)

/-- TIME_EXCHANGE_TIMEOUT (R499): an exchange not completed within 1 ms is discarded. -/
def execTimeExchangeTimeout (s : State) : Out :=
  match s.fab.exch with
  | none => .next s
  | some x => occurs (decide (x.at_ + 33 ≤ s.now)) s { s with fab := { s.fab with exch := none, fineRun := 0 } }

/-- HOLDOVER (Table 11.12): no accepted exchange for 70 s, or no usable parent. -/
def execHoldover (s : State) : Out :=
  occurs ((decide (s.fab.tstate = .coarse) || decide (s.fab.tstate = .fine)) &&
      (decide (s.fab.acceptedAt + 70 * tps ≤ s.now) || !s.parentUsable)) s
    (s.setTime .holdover)

end Sys2Proof.Machine
end

