-- ==== Sys2Proof/Machine/Trust.lean ====
section
/-!
DEFINITION. Pairing: the window, OFFER, CONFIRM and COMMITTED, key derivation and the key record (§12.2, §12.3).
-/
namespace Sys2Proof.Machine

/-- Source of a PROBE (R510). -/
def State.probeSource (s : State) : BitVec 12 :=
  if s.fab.addr = 0 then BitVec.ofNat 12 (1 + s.fab.uid.toNat % 4094) else s.fab.addr

/-- Destination of a PROBE (R510). -/
def State.probeDest (s : State) (p : FabPort) : BitVec 12 :=
  match (s.fab.port[p]).beacon with
  | some b => if b.addr = 0 then 0xFFF else b.addr
  | none => 0xFFF

/-- Send a PROBE on a port (R510). -/
def State.probe (s : State) (p : FabPort) (flow : Nat) (payload : List Byte) : State :=
  s.originate tProbe flow (s.probeDest p) s.probeSource payload [p]

/-- A port as the monitor writes it (R635). -/
def portName (p : FabPort) : String := if p = 0 then "fa" else if p = 1 then "fb" else "fc"

/-- The pairing window is open (R511). -/
def State.windowOpen (s : State) : Bool :=
  match s.fab.windowTill with
  | some t => decide (s.now < t)
  | none => false

/-- OFFER_SEND (R512, Table 12.2). -/
def execOfferSend (p : FabPort) (s : State) : Out :=
  let q := s.fab.port[p]
  match q.pairing with
  | none => .next s
  | some g =>
    occurs (decide (q.link = .active) && s.windowOpen && !g.verified && decide (g.offerNext ≤ s.now)) s
      (let s1 := s.probe p 1 (bytesLE 8 s.fab.uid.toNat ++ slice g.pub 0 32 ++ slice g.nonce 0 16 ++
         [BitVec.ofNat 8 (s.portRole p).code] ++ zeros 7)
       s1.updPort p fun q => { q with pairing := some { g with offerNext := s.now + msTicks 100 } })

/-- The output of the key derivation (R519). -/
def pairOkm (z : List Byte) (ownUid uid : BitVec 64) (own other : List Byte) : List Byte :=
  let low := ownUid.toNat < uid.toNat
  let nl := if low then own else other
  let nh := if low then other else own
  let ul := if low then ownUid else uid
  let uh := if low then uid else ownUid
  hkdf (nl ++ nh) z (ascii "SPEICA PAIR 1" ++ bytesBE 8 ul.toNat ++ bytesBE 8 uh.toNat) 52

/-- A pairing with the keys derived from the partner's OFFER (R513, R519). -/
def Pairing.derive (g : Pairing) (ownUid uid : BitVec 64) (pub nonce z : List Byte) : Pairing :=
  let okm := pairOkm z ownUid uid g.nonce nonce
  let lh := slice okm 0 16
  let hl := slice okm 16 16
  let low := ownUid.toNat < uid.toNat
  { g with
    partner := some (uid, pub, nonce), kTx := if low then lh else hl, kRx := if low then hl else lh
    kC := slice okm 32 16, keyId := BitVec.ofNat 32 (natLE (slice okm 48 4)) }

/-- The six-digit pairing code (§12.2). -/
def Pairing.code (g : Pairing) : Nat := natBE (g.kC.take 4) % 1000000

/-- OFFER_RECEIVED (R513, R516): the first OFFER of the partner gives the shared secret and the keys; an all-zero secret
abandons the pairing. -/
def execOfferReceived (p : FabPort) (s : State) : Out :=
  match s.takeInbox fun x => x.1 = p && x.2.hdr.typ = 7#4 && x.2.hdr.flow = 1#8 with
  | none => .next s
  | some (_, f, t) =>
    match (s.fab.port[p]).pairing with
    | none => .next t
    | some g =>
      if g.partner.isSome ∨ ¬ s.windowOpen then .next t
      else
        let pub := slice f.payload 8 32
        let z := x25519 g.scalar pub
        if z = zeros 32 then .next (t.pairFail p 2)
        else
          let g1 := g.derive s.fab.uid (BitVec.ofNat 64 (natLE (slice f.payload 0 8))) pub (slice f.payload 40 16) z
          .next (t.updPort p fun q => { q with
            pairing := some { g1 with confirmNext := s.now }, pairCode := some g1.code })

/-- The confirmation tag (R513). -/
def confirmTag (kC : List Byte) (sender receiver : BitVec 64) (senderPub receiverPub : List Byte) : List Byte :=
  cmac kC (ascii "CONF" ++ bytesBE 8 sender.toNat ++ bytesBE 8 receiver.toNat ++ senderPub ++ receiverPub)

/-- CONFIRM_SEND (R513). -/
def execConfirmSend (p : FabPort) (s : State) : Out :=
  let q := s.fab.port[p]
  match q.pairing with
  | none => .next s
  | some g =>
    match g.partner with
    | none => .next s
    | some (uid, pub, _) =>
      occurs (decide (q.link = .active) && s.windowOpen && !g.partnerCommitted && decide (g.confirmNext ≤ s.now)) s
        (let s1 := s.probe p 2 (bytesLE 8 s.fab.uid.toNat ++ confirmTag g.kC s.fab.uid uid g.pub pub ++ zeros 8)
         s1.updPort p fun q => { q with pairing := some { g with confirmNext := s.now + msTicks 100 } })

/-- Pairings counted on a port since the last clean, from its stored record (Table 12.3). -/
def State.pairings (s : State) (p : FabPort) : BitVec 32 :=
  match recordContent s.tal.store (.keys p) with
  | some l => (KeyRec.parse l).pairings
  | none => 0

/-- The key record that a verified pairing writes (R521, Table 12.3). -/
def State.newKey (s : State) (p : FabPort) (g : Pairing) (uid : BitVec 64) : KeyRec where
  partner := uid
  kTx := g.kTx
  kRx := g.kRx
  keyId := g.keyId
  role := BitVec.ofNat 8 (s.portRole p).code
  sec := s.clk.sec
  pairings := s.pairings p + 1

/-- CONFIRM_RECEIVED (R514, R515): a good tag starts the key record write, another abandons the pairing. -/
def execConfirmReceived (p : FabPort) (s : State) : Out :=
  match s.takeInbox fun x => x.1 = p && x.2.hdr.typ = 7#4 && x.2.hdr.flow = 2#8 with
  | none => .next s
  | some (_, f, t) =>
    match (s.fab.port[p]).pairing with
    | none => .next t
    | some g =>
      match g.partner with
      | none => .next t
      | some (uid, pub, _) =>
        if g.verified ∨ ¬ s.windowOpen then .next t
        else if natLE (slice f.payload 0 8) = uid.toNat ∧ slice f.payload 8 16 = confirmTag g.kC uid s.fab.uid pub g.pub then
          let t1 := t.updPort p fun q => { q with pairing := some { g with verified := true } }
          .next (t1.requestWrite (.keys p) (s.newKey p g uid).content)
        else .next (t.pairFail p 3)

/-- COMMITTED_SEND (R515). -/
def execCommittedSend (p : FabPort) (s : State) : Out :=
  let q := s.fab.port[p]
  match q.pairing with
  | none => .next s
  | some g =>
    occurs (decide (q.link = .active) && g.committedAt.isSome && decide (g.committedNext ≤ s.now)) s
      (let s1 := s.probe p 3 (bytesLE 8 s.fab.uid.toNat ++ bytesLE 4 g.keyId.toNat ++ zeros 20)
       s1.updPort p fun q => { q with pairing := some { g with committedNext := s.now + msTicks 100 } })

/-- PAIRED (R515, R526): with the new keys to SESSION SETUP, the window closed on the port. -/
def execPaired (p : FabPort) (s : State) : Out :=
  let q := s.fab.port[p]
  match q.pairing with
  | none => .next s
  | some g =>
    match g.committedAt with
    | none => .next s
    | some at_ =>
      occurs (g.partnerCommitted || decide (at_ + tps ≤ s.now)) s
        (let line := "pair " ++ portName p ++ " code " ++ decStr 6 (q.pairCode.getD 0)
         let uid := match g.partner with
           | some (u, _, _) => u.toNat
           | none => 0
         let s1 := s.journal 0x51 (p.val * 16384 + uid % 16384)
         let s2 := if q.trust = .keyMismatch then s1.journal 0x53 (p.val * 16384) else s1
         let wasListed := q.trust = .admitted ∨ q.trust = .clean ∨ q.trust = .test
         let s3 := s2.updPort p fun q => { q with
           pairing := none, window := false, trust := .sessionSetup, established := false, rekeying := false, penalty := false }
         let s4 : State := { s3 with fab := { s3.fab with
           windowPaired := s3.fab.windowPaired + bit s3.fab.windowTill.isSome } }
         let s4 : State := if s4.mon.enabled then
             { s4 with mon := { s4.mon with unsolicited := s4.mon.unsolicited ++ [line] } } else s4
         let s5 := if q.link = .active then s4.beginSetup p else s4
         if ¬ wasListed then s5
         else if s.portRole p = .twin then s5.mirrorDown else s5.lsChange)

/-- PAIR_WINDOW_END (R516, R517): open pairings are abandoned except verified ones, and the result is shown. -/
def execPairWindowEnd (s : State) : Out :=
  match s.fab.windowTill with
  | none => .next s
  | some t =>
    occurs (decide (t ≤ s.now)) s
      (let s1 := allPorts.foldl (fun u (p : FabPort) =>
         let v := match (u.fab.port[p]).pairing with
           | some g => if g.verified then u else u.pairFail p 1
           | none => u
         v.updPort p fun q => { q with window := false }) s
       let n := s.fab.windowPaired
       let s2 := s1.journal 0x50 (bitsNat s.fab.windowPorts.toList + 16 * (n % 4))
       let s3 : State := { s2 with
         fab := { s2.fab with windowTill := none, windowPorts := Vector.replicate 3 false, windowPaired := 0 }
         loc := { s2.loc with
           ackG := if s2.loc.ackG = some .pairing then none else s2.loc.ackG
           ackGNext := if s2.loc.ackGNext = some .pairing then none else s2.loc.ackGNext } }
       if n = 0 then s3.ackAmber .refuse else s3.ackGreen (.ack n))

/-- NOISE_FAULT (R520): a block fails its health tests, or a later block passes. -/
def execNoiseFault (pass : Bool) (s : State) : Out :=
  if pass then .next { s with fab := { s.fab with noiseBad := false } }
  else .next (({ s with fab := { s.fab with noiseBad := true } } : State).journal 0x5A 0)

end Sys2Proof.Machine
end

