-- ==== Sys2Proof/Machine/Session.lean ====
section
/-!
DEFINITION. Sessions: HELLO, session keys, timeouts, KEY MISMATCH and re-keying (§12.4).
-/
namespace Sys2Proof.Machine

/-- A session setup runs on the port (R522, R525). -/
def FPort.inSetup (q : FPort) : Bool := q.trust = .sessionSetup || q.rekeying

/-- The HELLO of a port (Table 12.2). -/
def State.helloPayload (s : State) (q : FPort) : List Byte :=
  let id := match q.key with
    | some k => k.keyId.toNat
    | none => 0
  bytesLE 8 s.fab.uid.toNat ++ bytesLE 4 id ++ slice q.nonce 0 16 ++ slice (q.partnerNonce.getD (zeros 16)) 0 16 ++ zeros 4

/-- HELLO_SEND (R522): every 10 ms while a setup runs; none without a nonce (R520). -/
def execHelloSend (p : FabPort) (s : State) : Out :=
  let q := s.fab.port[p]
  occurs (decide (q.link = .active) && q.inSetup && !q.nonce.isEmpty && decide (q.helloNext ≤ s.now)) s
    ((s.probe p 0x10 (s.helloPayload q)).updPort p fun q => { q with helloNext := s.now + msTicks 10 })

/-- Session key of a direction (R524). -/
def sessionKey (kDir nonceL nonceH : List Byte) : List Byte := cmac kDir (ascii "SESS" ++ nonceL ++ nonceH)

/-- The session is established (R522, R524, R525, R537): one more HELLO, the session keys, counters at 0; the port goes to
CLEAN, or stays as it is after a re-key. -/
def State.establish (s : State) (p : FabPort) (partnerNonce : List Byte) : State :=
  let s0 := s.updPort p fun q => { q with partnerNonce := some partnerNonce }
  let s1 := s0.probe p 0x10 (s0.helloPayload s0.fab.port[p])
  let again := (s.fab.port[p]).rekeying
  let s2 := s1.updPort p fun q =>
    match q.key with
    | none => q
    | some k =>
      let low := s.fab.uid.toNat < k.partner.toNat
      let nl := if low then q.nonce else partnerNonce
      let nh := if low then partnerNonce else q.nonce
      { q with
        sTx := sessionKey k.kTx nl nh, sRx := sessionKey k.kRx nl nh, txCount := 0, rxCount := 0, recentMacs := [], macFails := 0
        established := true, rekeying := false
        trust := if again then q.trust else .clean
        probAt := if again then q.probAt else s.now, cleanAt := if again then q.cleanAt else s.now }
  let s3 := s2.journal 0x54 (p.val * 16384 + 1 + 2 * bit again)
  if again then s3.updPort p fun q => q.drain s.now (s.txCarries p)
  else
    let s4 := s3.journal 0x56 (p.val * 16384)
    if s.portRole p = .trunk then s4.lsChange else s4

/-- HELLO_RECEIVED (R515, R522 to R525): a verified HELLO. During a setup its nonce is kept and its echo of the own nonce
establishes the session; at an established port a new nonce of the partner begins a setup here too. -/
def execHelloReceived (p : FabPort) (s : State) : Out :=
  match s.takeInbox fun x => x.1 = p && x.2.isHello with
  | none => .next s
  | some (_, f, t) =>
    let q := t.fab.port[p]
    let nonce := slice f.payload 12 16
    let echo := slice f.payload 28 16
    let committed : Bool := match q.pairing with
      | some g => g.committedAt.isSome
      | none => false
    .next (
      if committed then t.updPort p fun q => { q with pairing := q.pairing.map fun g => { g with partnerCommitted := true } }
      else if q.inSetup then
        (if !q.nonce.isEmpty ∧ echo = q.nonce then t.establish p nonce
         else t.updPort p fun q => { q with partnerNonce := some nonce })
      else if q.established ∧ q.partnerNonce ≠ some nonce then
        ((t.updPort p fun q => { q with rekeying := true }).beginSetup p).updPort p fun q => { q with partnerNonce := some nonce }
      else t)

/-- A setup fails because the partner's HELLOs or frames do not verify (R526), so it ends in KEY MISMATCH. -/
def FPort.keysDiffer (q : FPort) : Bool := q.partnerNonce.isNone && (decide (0 < q.badHello) || decide (0 < q.noCmac))

/-- SESSION_SETUP_TIMEOUT (R526): no session within 100 ms of the entry to setup, for any other reason than keys that differ; a failed
training. -/
def execSessionSetupTimeout (p : FabPort) (s : State) : Out :=
  let q := s.fab.port[p]
  occurs (decide (q.link = .active) && q.inSetup && !q.keysDiffer && decide (q.setupAt + msTicks 100 ≤ s.now)) s
    (s.failTrain p true)

/-- KEY_MISMATCH (R526): 16 HELLOs that fail, or 16 consecutive frames without CMAC, before any valid HELLO. A re-key that ends so
takes the link out of the link-state, or the mirror down. -/
def execKeyMismatch (p : FabPort) (s : State) : Out :=
  let q := s.fab.port[p]
  occurs (decide (q.link = .active) && q.inSetup && q.partnerNonce.isNone && (decide (16 ≤ q.badHello) || decide (16 ≤ q.noCmac))) s
    (let s1 := (s.updPort p fun q => { q with
       trust := .keyMismatch, established := false, rekeying := false, penalty := false
       mismatchNext := s.now + 60 * tps }).journal 0x53 (p.val * 16384 + 1)
     if !q.rekeying then s1 else if s.portRole p = .twin then s1.mirrorDown else s1.lsChange)

/-- KEY_MISMATCH_RETRY (R526): every 60 s the port goes to DOWN and tries again. -/
def execKeyMismatchRetry (p : FabPort) (s : State) : Out :=
  let q := s.fab.port[p]
  occurs (decide (q.trust = .keyMismatch) && decide (q.mismatchNext ≤ s.now) &&
      (decide (q.link = .active) || decide (q.link = .ember))) s (s.portDown p .down)

/-- REKEY (R525, R528): a send counter at 2^47, or 4 consecutive failures of the CMAC check, begin a new setup without leaving
ACTIVE. -/
def execRekey (p : FabPort) (s : State) : Out :=
  let q := s.fab.port[p]
  occurs (decide (q.link = .active) && q.established && !q.rekeying && (decide (4 ≤ q.macFails) || decide (2 ^ 47 ≤ q.txCount))) s
    (((s.updPort p fun q => { q with rekeying := true, macFails := 0 }).beginSetup p).journal 0x54 (p.val * 16384 + 2))

end Sys2Proof.Machine
end

