-- ==== Sys2Proof/Machine/Quarantine.lean ====
section
/-!
DEFINITION. Error intervals, quarantine and probation (§12.6, §12.7).
-/
namespace Sys2Proof.Machine

/-- What a counter has increased by since the start of the interval. -/
def grown (now base : BitVec 32) : Nat := (now - base).toNat

/-- The first cause of Table 12.6 that an error interval meets. -/
def FPort.intervalCause (q : FPort) : Option Nat :=
  let c := q.cnt
  let b := q.ivBase
  if 64 < grown c.symErr b.symErr + grown c.lenErr b.lenErr + grown c.crcErr b.crcErr then some 1
  else if q.established ∧ 16 < grown c.cmacErr b.cmacErr + grown c.replay b.replay then some 2
  else if 1024 < grown c.flood b.flood then some 3
  else if 64 < grown c.unkType b.unkType + grown c.badAddr b.badAddr + grown c.notPerm b.notPerm then some 4
  else none

/-- The cause that comes first in table order. -/
def firstCause (a b : Option Nat) : Option Nat :=
  match a, b with
  | some x, some y => some (min x y)
  | some x, none => some x
  | none, y => y

/-- ERROR_INTERVAL_END (R532, Table 12.6). -/
def execErrorIntervalEnd (p : FabPort) (s : State) : Out :=
  let q := s.fab.port[p]
  occurs (q.linked && decide (q.ivAt + tps ≤ s.now)) s
    (s.updPort p fun q => { q with
      ivAt := q.ivAt + tps, ivBase := q.cnt, quarPend := firstCause q.intervalCause q.quarPend })

/-- Quarantine time of the q-th consecutive quarantine in seconds (R534). -/
def quarSeconds (q : Nat) : Nat := 10 * 2 ^ (min 8 q - 1)

/-- QUARANTINE (R518, R533, R534, R536). -/
def execQuarantine (p : FabPort) (s : State) : Out :=
  let q := s.fab.port[p]
  match q.quarPend with
  | none => .next s
  | some cause =>
    occurs (decide (s.portRole p ≠ .off) && decide (q.link ≠ .quarantined) && decide (q.link ≠ .off)) s
      (let n := q.q + 1
       let secs := if cause = 8 then 0 else quarSeconds n
       let s1 := (s.pairFail p 4).journal 0x55 (p.val * 16384 + secs / 10 * 16 + cause)
       let s2 := s1.portDown p .quarantined
       s2.updPort p fun q => { q with
         quarPend := none, quarCause := cause, q := n, cnt := { q.cnt with quarantines := q.cnt.quarantines + 1 }
         quarTill := if cause = 8 then none else some (s.now + secs * tps), quarForever := decide (cause = 8) })

/-- A quarantine ends (R535, R536): READMIT, and the port goes to DOWN and trains. -/
def State.readmit (s : State) (p : FabPort) (byMonitor : Bool) : State :=
  let s1 := (s.journal 0x57 (p.val * 16384 + bit byMonitor)).setLink p .down
  s1.updPort p fun q => { q with
    quarTill := none, quarForever := false, retrainAt := s.now, q := if byMonitor then 0 else q.q }

/-- QUARANTINE_END (R535). -/
def execQuarantineEnd (p : FabPort) (s : State) : Out :=
  let q := s.fab.port[p]
  occurs (decide (q.link = .quarantined) && match q.quarTill with
      | some t => decide (t ≤ s.now)
      | none => false) s (s.readmit p false)

/-- Q_RESET (R534). -/
def execQReset (p : FabPort) (s : State) : Out :=
  let q := s.fab.port[p]
  occurs (decide (q.trust = .admitted) && decide (q.admittedAt + 600 * tps ≤ s.now)) s (s.updPort p fun q => { q with q := 0 })

/-- A change of stage changes the LINKSTATE of a trunk port (R539). -/
def State.stageChange (s : State) (p : FabPort) : State := if s.portRole p = .trunk then s.lsChange else s

/-- PROBATION_CLEAN_END (R537). -/
def execProbationCleanEnd (p : FabPort) (s : State) : Out :=
  let q := s.fab.port[p]
  occurs (decide (q.trust = .clean) && decide (q.cleanAt + 2 * tps ≤ s.now)) s
    (((s.updPort p fun q => { q with
        trust := .test, cleanCount := 0, partnerClean := 0, testSeq := 0, testNext := s.now }).journal 0x56 (p.val * 16384 + 1)).stageChange p)

/-- The TEST payload (Table 12.2). -/
def testPayload (seq count : Nat) : List Byte :=
  bytesLE 4 seq ++ bytesLE 4 count ++ (List.range 248).map fun i => BitVec.ofNat 8 ((i + 8) * 0x3D + seq)

/-- TEST_FRAME_SEND (R537). -/
def execTestFrameSend (p : FabPort) (s : State) : Out :=
  let q := s.fab.port[p]
  occurs (decide (q.link = .active) && decide (q.trust = .test) && decide (q.testNext ≤ s.now)) s
    ((s.probe p 0x20 (testPayload q.testSeq q.cleanCount)).updPort p fun q => { q with
      testSeq := q.testSeq + 1, testNext := s.now + msTicks 1 })

/-- PROBATION_ADMITTED (R537): a trunk port has the penalty metric, a twin-role port begins to mirror. -/
def execProbationAdmitted (p : FabPort) (s : State) : Out :=
  let q := s.fab.port[p]
  occurs (decide (q.trust = .test) && decide (256 ≤ q.cleanCount) && decide (256 ≤ q.partnerClean)) s
    (((s.updPort p fun q => { q with
        trust := .admitted, admittedAt := s.now, penalty := decide (s.portRole p = .trunk), trainRun := 0 }).journal 0x56
          (p.val * 16384 + 2)).stageChange p)

/-- PROBATION_TIMEOUT (R538). -/
def execProbationTimeout (p : FabPort) (s : State) : Out :=
  let q := s.fab.port[p]
  occurs ((decide (q.trust = .clean) || decide (q.trust = .test)) && q.linked && decide (q.probAt + 30 * tps ≤ s.now)) s
    (s.failTrain p true)

/-- PENALTY_END (R537). -/
def execPenaltyEnd (p : FabPort) (s : State) : Out :=
  let q := s.fab.port[p]
  occurs (decide (q.trust = .admitted) && q.penalty && decide (q.admittedAt + 30 * tps ≤ s.now)) s
    (((s.updPort p fun q => { q with penalty := false }).journal 0x56 (p.val * 16384 + 3)).stageChange p)

end Sys2Proof.Machine
end

