-- ==== Sys2Proof/Machine/Twins.lean ====
section
/-!
DEFINITION. Twin pairs: the lease, the mirror, hand-over, wire faults and split hold (chapter 13).
-/
namespace Sys2Proof.Machine

/-- The unit has a twin role. -/
def State.isTwin (s : State) : Bool := s.trole != .none

/-- LEASE_OUT_TOGGLE (R548, R549): every 16 ticks at the holder, every 256 at the standby. -/
def execLeaseOutToggle (s : State) : Out :=
  occurs (s.isTwin && decide (s.twin.toggleNext ≤ s.now)) s
    { s with twin := { s.twin with
        leaseOut := !s.twin.leaseOut, toggleNext := s.now + (if s.twin.holding then 16 else 256) } }

/-- LEASE_IN_EDGE (R548, R550): an edge no more than 64 ticks after the one before it is a holder edge. -/
def execLeaseInEdge (s : State) : Out :=
  let holder : Bool := match s.twin.lastEdge with
    | some t => decide (s.now ≤ t + 64)
    | none => false
  occurs s.isTwin s
    { s with twin := { s.twin with
        lastEdge := some s.now, lastHolderEdge := if holder then some s.now else s.twin.lastHolderEdge } }

/-- No holder edge since start-up or the latest yield (R551). -/
def State.noHolderEdge (s : State) : Bool :=
  match s.twin.lastHolderEdge with
  | some t => decide (t ≤ s.twin.quietFrom)
  | none => true

/-- The quiet count in ticks (R551). -/
def State.quiet (s : State) : Nat := s.now - max s.twin.quietFrom (s.twin.lastHolderEdge.getD 0)

/-- The limit of the quiet count: the take wait W, or 656 ticks (R551). -/
def State.takeLimit (s : State) : Nat :=
  if s.noHolderEdge then (if s.trole = .primary then 656 else 1968) + s.fab.uid.toNat % 256 else 656

/-- Kind of the pair address: bead-set where beads 0 to 2 give it, discovered otherwise (R565). -/
def State.pairKind (s : State) : AddrKind :=
  if s.twin.pairAddr = 0 then .unassigned
  else if s.beadAddr = s.twin.pairAddr.toNat then .beadSet else .discovered

/-- An alarm output taken over from the shadow (R552, R575). -/
def State.shadowAlm (s : State) (o : AlmOut) : AlmSt :=
  { active := s.twin.shadow.out[o], onset := none
    cutAt := (s.twin.shadow.latch[o]).map fun t => s.now + t, retryUntil := none }

/-- What a path of the tally engine keeps at a lease take: its tracker restarts and no passage is in progress (R236, R552). -/
def PathTally.takeOver (t : PathTally) : PathTally :=
  { t with restartDue := true, episode := none, blocked := false, clearRun := 0, ampUp := [], ampDown := [], loose := [] }

/-- The unit takes the lease (R552, R565): BREAKn, HEADSELn, the holder beat, the outputs from the shadow, zones seeded, the
pair address claimed; LEASE with a code. -/
def State.takeLease (s : State) (code : Nat) : State :=
  let sh := s.twin.shadow
  let seq := match s.twin.partner with
    | some q => q.lsSeq
    | none => s.fab.ownSeq
  let s1 : State := { s with
    twin := { s.twin with
      holding := true, breakn := true, headsel := true, toggleNext := s.now, everTaken := true, takenAt := s.now
      stateDirty := true }
    loc := { s.loc with
      alm := Vector.ofFn fun o => s.shadowAlm o
      zone := Vector.ofFn fun z => if (s.zoneKind z).isSome then sh.zones[z] else none
      zoneCand := Vector.replicate 4 none, zoneRun := Vector.replicate 4 0
      silencedH24 := sh.silencedH24, silencedTmp := sh.silencedTmp }
    fab := { s.fab with
      addr := s.twin.pairAddr, kind := s.pairKind, ownSeq := seq
      discoverAt := if s.twin.pairAddr = 0 ∧ s.fab.trunkUp then some (s.now + 3 * tps) else none }
    tr := { s.tr with path := Vector.ofFn fun p => (s.tr.path[p]).search (s.eff 33 ⟨p.val, p.isLt⟩) }
    tal := { s.tal with openings := [], path := Vector.ofFn fun p => (s.tal.path[p]).takeOver }
    head := { s.head with lp11Till := s.now + 4 } }
  ((s1.journal 0x60 code).lsChange).settle

/-- LEASE_TAKE (R551, R552, R554, R574, R575). -/
def execLeaseTake (s : State) : Out :=
  occurs (s.isTwin && s.dev.released && !s.twin.holding && !s.twin.inhibit && decide (s.takeLimit ≤ s.quiet)) s
    (s.takeLease (if s.twin.lastHolderEdge.isNone ∧ ¬ s.twin.everTaken then 0 else 1))

/-- The shadow that a unit keeps of its own outputs and zones as it releases the lease. -/
def State.ownShadow (s : State) : Shadow where
  zones := s.loc.zone
  out := Vector.ofFn fun (o : AlmOut) => (s.loc.alm[o]).active
  latch := Vector.ofFn fun (o : AlmOut) => s.latchLeft o
  silencedH24 := s.loc.silencedH24
  silencedTmp := s.loc.silencedTmp

/-- The unit releases the lease (R553, R547, R566): BREAKn and HEADSELn deasserted, the standby beat, the head stops at once,
the outputs and the pins released; LEASE with a code. -/
def State.releaseLease (s : State) (code : Nat) : State :=
  let sh := s.ownShadow
  let s0 := s.abandonCal
  let s1 : State := { s0 with
    twin := { s0.twin with
      holding := false, breakn := false, headsel := false, quietFrom := s.now, toggleNext := s.now, shadow := sh
      stateDirty := true }
    loc := { s0.loc with
      zone := Vector.replicate 4 none, zoneCand := Vector.replicate 4 none, zoneRun := Vector.replicate 4 0
      alm := Vector.ofFn fun (o : AlmOut) => { s0.loc.alm[o] with active := false, cutAt := none } }
    fab := { s0.fab with addr := 0, kind := .unassigned, discoverAt := none, parked := [] }
    head := { s0.head with on := false, inFrame := false, segs := [], lineIn := [] } }
  (s1.journal 0x60 code).settle

/-- LEASE_YIELD (R551, R553): the holder sees the holder beat of the other and its hand-over window is closed. -/
def execLeaseYield (s : State) : Out :=
  occurs (s.isTwin && s.twin.holding && s.beatSeen && s.twin.hand.isNone) s (s.releaseLease 2)

/-- Zone state from its code in STATE (Table 6.8); none for one that is not in use. -/
def zoneOfCode (n : Nat) : Option Zone :=
  ([Zone.normal, .alarm, .tamper, .tamperAlarm, .short, .opened] : List Zone).find? fun z => z.code = n

/-- A latch remainder of STATE in ticks; none until silence. -/
def latchOf (l : List Byte) : Option Nat := let n := natLE l; if n = 0xFFFFFF then none else some (n * 1024)

/-- The shadow that a STATE body gives (R560, Table 13.5). -/
def Shadow.ofState (b : List Byte) : Shadow where
  zones := Vector.ofFn fun (z : ZoneNo) => zoneOfCode (natLE (slice b 10 2) / 16 ^ z.val % 16)
  out := Vector.ofFn fun (o : AlmOut) => (b.getD 13 0).getLsbD o.val
  latch := Vector.ofFn fun (o : AlmOut) => latchOf (slice b (14 + 3 * o.val) 3)
  silencedH24 := (b.getD 20 0).getLsbD 0
  silencedTmp := (b.getD 20 0).getLsbD 1

/-- What a STATE with its header says of the partner (Tables 13.4 and 13.5). -/
def PartnerState.ofState (now : Nat) (flags : Byte) (b : List Byte) : PartnerState where
  uid := BitVec.ofNat 64 (natLE (slice b 0 8))
  mode := BitVec.ofNat 3 (b.getD 8 0).toNat
  role := (b.getD 9 0).toNat
  sealCode := BitVec.ofNat 2 (b.getD 12 0).toNat
  tamper := (b.getD 12 0).getLsbD 2
  holds := flags.getLsbD 0
  inSync := flags.getLsbD 1
  beatSeen := flags.getLsbD 2
  edgeSeen := flags.getLsbD 5
  split := flags.getLsbD 4
  digest := BitVec.ofNat 32 (natLE (slice b 30 4))
  addr := BitVec.ofNat 12 (natLE (slice b 24 2))
  lsSeq := BitVec.ofNat 32 (natLE (slice b 26 4))
  at_ := now

/-- Rods that may differ where digests differ: of beads 0 to 2, 4 to 7 and 32 to 39 only rods A, B, I and J. Which of them
differ the digest does not say: a free value. -/
def State.drawRods (s : State) : Nat × State :=
  let r := s.draw 16
  (r.1 % 4 + r.1 / 4 * 256, r.2)

/-- TWIN BEAD MISMATCH and TWIN ROLE CLASH from a STATE (R564), journalled as they begin; a standby IN SYNC is so no more.
Where they end, the holder sends the data of the resynchronisation, which had stopped. -/
def State.checkPair (s : State) (q : PartnerState) : State :=
  let differs := decide (q.digest ≠ s.beadDigest) || decide (q.addr ≠ s.twin.pairAddr ∧ q.addr ≠ 0 ∧ s.twin.pairAddr ≠ 0)
  let clash := decide (twinRole q.role = s.trole)
  let s1 := if differs && !s.twin.beadMismatch then (let r := s.drawRods; r.2.journal 0x65 r.1) else s
  let s2 := if clash && !s.twin.roleClash then s1.journal 0x66 0 else s1
  let s3 : State := { s2 with twin := { s2.twin with
    beadMismatch := differs, roleClash := clash
    resyncSent := s2.twin.resyncSent && (differs || clash || !(s.twin.beadMismatch || s.twin.roleClash)) } }
  if (differs || clash) && decide (s.twin.mirror = .inSync) && s.standby then s3.setMirror .resync else s3

/-- A STATE accepted (R555, R556, R560, R564, R565, R570). -/
def State.stateIn (s : State) (flags : Byte) (b : List Byte) : State :=
  let q := PartnerState.ofState s.now flags b
  let had := s.partnerTamper
  let s1 : State := { s with twin := { s.twin with partner := some q } }
  let s2 := s1.checkPair q
  if s.twin.holding then
    (if q.tamper && !had then ((s2.raise (some .tamper) 0x67 q.sealCode.toNat).onset .tmp).settle else s2.settle)
  else
    let s3 : State := { s2 with twin := { s2.twin with
      shadow := Shadow.ofState b
      inhibitAt := if s2.twin.inhibit then s.now else s2.twin.inhibitAt } }
    if s.beadAddr = 0 ∨ s.beadAddr = 0xFFF then
      { s3 with twin := { s3.twin with pairAddr := q.addr }, fab := { s3.fab with lastAddr := if q.addr = 0 then s3.fab.lastAddr else q.addr } }
    else s3

/-- One record of a TALLY applied at the standby (R561). -/
def State.tallyRecordIn (s : State) (absolute : Bool) (r : List Byte) : State :=
  let n := (r.getD 0 0).toNat
  let p := (r.getD 1 0).toNat
  let v := BitVec.ofNat 64 (natLE (slice r 2 8))
  if h : n < 8 ∧ p < 8 then
    s.updTal ⟨p, h.2⟩ fun t =>
      { t with count := t.count.set n (if absolute then v else t.count[n] + v), dirty := true }
  else if h : 16 ≤ n ∧ n < 20 then
    { s with tal := { s.tal with dev := s.tal.dev.set (n - 8) (if absolute then v else s.tal.dev[n - 8] + v), devDirty := true } }
  else s

/-- A TALLY accepted at the standby: counts added or set, and the records written at the same point (R561, R563). -/
def State.mirrorTallyIn (s : State) (b : List Byte) : State :=
  let n := (b.getD 0 0).toNat
  let s1 := (List.range (min 200 n)).foldl (fun t i => t.tallyRecordIn ((b.getD 1 0).getLsbD 0) (slice b (4 + 10 * i) 10)) s
  s1.requestPaths.requestDeviceTallies

/-- A journal entry from its 16 bytes (Table 6.7). -/
def JEntry.ofBytes (l : List Byte) : JEntry :=
  let t := natLE (slice l 8 2)
  { num := BitVec.ofNat 32 (natLE (slice l 0 4)), sec := BitVec.ofNat 32 (natLE (slice l 4 4)), tick := BitVec.ofNat 15 t
    engine := decide (32768 ≤ t), code := l.getD 10 0, mode := BitVec.ofNat 3 (l.getD 11 0).toNat
    data := BitVec.ofNat 16 (natLE (slice l 12 2)) }

/-- One entry of a JOURNAL (R562): the holder journals it anew, the standby writes it at its entry number. -/
def State.journalIn (s : State) (l : List Byte) : State :=
  if s.twin.holding then s.journal (l.getD 10 0).toNat (natLE (slice l 12 2))
  else
    let e := JEntry.ofBytes l
    { s with
      dev := { s.dev with keepOn := true }
      tal := { s.tal with store := memStore s.tal.store (journalAddr e.num) (slice l 0 16), jNext := nextEntryNum e.num } }

/-- A RECORD accepted at the standby (R562, R563): a calibration written, or both its slots zero-filled; none while a clean runs
(R652). -/
def State.recordIn (s : State) (b : List Byte) : State :=
  let p := (b.getD 1 0).toNat
  let n := natLE (slice b 2 2)
  if h : b.getD 0 0 = 4#8 ∧ p < 8 then
    let p : PathNo := ⟨p, h.2⟩
    if s.tal.cleaning then s
    else if n = 0 then
      (s.setStore (eraseRecord s.tal.store (.calibration p))).updPath p fun q => { q with calib := none }
    else s.requestWrite (.calibration p) (slice b 4 n)
  else s

/-- Frames that an acknowledgement covers leave the list of those that wait (R559); entries of JOURNAL frames among them are
acknowledged (R563). -/
def State.acknowledged (s : State) (ack : BitVec 32) : State :=
  if (s.twin.txSeq - ack).toNat < 2 ^ 31 then
    let done := s.twin.unacked.filter fun u => decide ((ack - u.seq).toNat < 2 ^ 31)
    let left := s.twin.unacked.filter fun u => !decide ((ack - u.seq).toNat < 2 ^ 31)
    let entries := ((done.filter fun u => u.kind = 3#8).map fun u => chunks 16 64 (u.body.drop 4)).flatten
    { s with twin := { s.twin with unacked := left, own := s.twin.own.filter fun e => !entries.contains e.bytes } }
  else s

/-- The resynchronisation ends (R563, R564): at the holder when all of it is acknowledged, at the standby when the holder says
so and its own entries are acknowledged. -/
def State.endResync (s : State) (flags : Byte) : State :=
  let good := !s.twin.beadMismatch && !s.twin.roleClash
  let all := s.twin.unacked.all fun u => decide (0 < (u.seq - s.twin.resyncLast).toNat) && decide ((u.seq - s.twin.resyncLast).toNat < 2 ^ 31)
  let done := if s.twin.holding then s.twin.resyncSent && all else flags.getLsbD 1 && s.twin.own.isEmpty
  if decide (s.twin.mirror = .resync) && good && done then
    let t := s.setMirror .inSync
    { t with twin := { t.twin with stateDirty := true } }
  else s

/-- A frame of a kind applied (Table 13.3). -/
def State.mirrorKind (s : State) (kind : Nat) (flags : Byte) (b : List Byte) : State :=
  match kind with
  | 1 => s.stateIn flags b
  | 2 => if s.twin.holding then s else s.mirrorTallyIn b
  | 3 => (List.range (min 64 (b.getD 0 0).toNat)).foldl (fun t i => t.journalIn (slice b (4 + 16 * i) 16)) s
  | 4 => if s.twin.holding then s else s.recordIn b
  | 6 => { s with twin := { s.twin with handMsg := some (b.getD 0 0) } }
  | _ => s

/-- MIRROR_FRAME_RECEIVED (R557, R559 to R564): the CRC, the acknowledgement, the sequence order, and the frame by its kind. -/
def execMirrorFrameReceived (s : State) : Out :=
  match s.takeInbox fun x => x.2.hdr.typ = 6#4 with
  | none => .next s
  | some (_, f, t) =>
    let l := f.payload
    let n := l.length
    if n < 20 ∨ crcLE (l.take (n - 4)) ≠ l.drop (n - 4) then
      .next { t with twin := { t.twin with mirrCrc := t.twin.mirrCrc + 1 } }
    else if t.twin.mirror = .down then .next t
    else
      let flags := l.getD 1 0
      let seq := BitVec.ofNat 32 (natLE (slice l 4 4))
      let body := (l.drop 16).take (n - 20)
      let t1 := t.acknowledged (BitVec.ofNat 32 (natLE (slice l 8 4)))
      let kind := f.hdr.flow.toNat
      let t2 : State :=
        if kind = 5 then t1
        else if seq = t1.twin.rxSeq + 1 then
          ({ t1 with twin := { t1.twin with
              rxSeq := seq, ackDue := some (t1.twin.ackDue.getD (s.now + msTicks 10)) } } : State).mirrorKind kind flags body
        else { t1 with twin := { t1.twin with ackDue := some (t1.twin.ackDue.getD (s.now + msTicks 10)) } }
      .next (t2.endResync flags)

/-- MIRROR_STATE_SEND (R558): at a change of a field other than the countdowns, or when the interval is over. -/
def execMirrorStateSend (s : State) : Out :=
  occurs (s.isTwin && s.twin.mirror != .down &&
      (s.twin.stateDirty || decide (s.stateFields ≠ s.twin.stateSent) || decide (s.twin.stateNext ≤ s.now))) s s.sendState

/-- One unacknowledged frame sent again where 50 ms have passed. -/
def State.resend (s : State) (u : MirrorTx) : State :=
  if u.at_ + msTicks 50 ≤ s.now then
    let s1 := s.mirrorOut u.kind.toNat u.seq u.body
    { s1 with twin := { s1.twin with
        ackDue := none
        unacked := s1.twin.unacked.map fun x => if x.seq = u.seq then { x with at_ := s.now, tries := x.tries + 1 } else x } }
  else s

/-- MIRROR_RETRANSMIT (R559): after 8 retransmissions of one frame the mirror is down. -/
def execMirrorRetransmit (s : State) : Out :=
  occurs (s.twin.mirror != .down && s.twin.unacked.any fun u => decide (u.at_ + msTicks 50 ≤ s.now)) s
    (if s.twin.unacked.any fun u => decide (u.at_ + msTicks 50 ≤ s.now) && decide (8 ≤ u.tries) then s.mirrorDown
     else s.twin.unacked.foldl State.resend s)

/-- MIRROR_ACK_TIMER (R559). -/
def execMirrorAckTimer (s : State) : Out :=
  let due : Bool := match s.twin.ackDue with
    | some t => decide (t ≤ s.now)
    | none => false
  occurs (s.twin.mirror != .down && due) s s.sendAck

/-- The twin port is ADMITTED, so the mirror may be up (R559, R537). -/
def State.mirrorReady (s : State) : Bool :=
  s.isTwin && s.fabricOn && match s.twinPort with
    | some p => decide ((s.fab.port[p]).trust = .admitted) && (s.fab.port[p]).linked
    | none => false

/-- JOURNAL frames with some entries, 64 to a frame (Table 13.3). -/
def State.sendEntries (s : State) (l : List (List Byte)) : State :=
  (chunks 64 (l.length + 1) l).foldl (fun t (c : List (List Byte)) =>
    t.sendMirror kJournal ([BitVec.ofNat 8 c.length, 0, 0, 0] ++ c.flatten)) s

/-- The entries of the journal from the oldest place on. -/
def State.journalEntries (s : State) : List (List Byte) :=
  (List.range 1024).filterMap fun i =>
    let n := (s.tal.jNext.toNat + i) % 1024
    match journalPlace s.tal.store n with
    | some (some _) => some (memRange s.tal.store (0x4000 + 16 * n) 16)
    | _ => none

/-- The TALLY with every path tally and ZON0 to ZON3 as they are (R563 step 2). -/
def State.sendAbsolute (s : State) : State :=
  let paths := (allPaths.map fun p => (List.finRange 8).map fun (n : Fin 8) =>
    tallyRecord n.val p.val ((s.tal.path[p]).count)[n]).flatten
  let zones := allZones.map fun z => tallyRecord (16 + z.val) 255 s.tal.dev[8 + z.val]
  let recs := paths ++ zones
  let s1 := s.sendMirror kTally ([BitVec.ofNat 8 recs.length, 1, 0, 0] ++ recs.flatten)
  { s1 with twin := { s1.twin with
      sentPath := Vector.ofFn fun (p : PathNo) => (s.tal.path[p]).count
      sentZone := Vector.ofFn fun (z : ZoneNo) => s.tal.dev[8 + z.val] } }

/-- RECORD for the calibration of a path, with length 0 where it is absent (R563 step 3). -/
def State.sendCalibration (s : State) (p : PathNo) : State :=
  match recordContent s.tal.store (.calibration p) with
  | some c => s.sendMirror kRecord ([4, BitVec.ofNat 8 p.val] ++ bytesLE 2 c.length ++ c)
  | none => s.sendMirror kRecord [4, BitVec.ofNat 8 p.val, 0, 0]

/-- MIRROR_RESYNC (R563, R564): the mirror comes up: both send STATE and the standby its entries; then the holder, which has
heard from the standby, sends tallies, calibrations and its journal. -/
def execMirrorResync (s : State) : Out :=
  if s.twin.mirror = .down then
    occurs s.mirrorReady s
      (let s1 : State := { s with twin := { s.twin with
         txSeq := 0, rxSeq := 0, unacked := [], ackDue := none, resyncSent := false } }
       let s2 := (s1.setMirror .resync).sendState
       if s.standby then s2.sendEntries (s.twin.own.map JEntry.bytes) else s2)
  else
    occurs (decide (s.twin.mirror = .resync) && s.twin.holding && !s.twin.resyncSent && decide (s.twin.rxSeq ≠ 0) &&
        !s.fab.inbox.any fun x => decide (x.2.hdr.typ = 6#4)) s
      (let s1 := if s.twin.beadMismatch || s.twin.roleClash then s
         else allPaths.foldl State.sendCalibration s.sendAbsolute
       let s2 := s1.sendEntries s1.journalEntries
       { s2 with twin := { s2.twin with resyncSent := true, resyncLast := s2.twin.txSeq } })

/-- HANDOVER_PREPARE (R567, Table 13.6 step 1): a final STATE, PREPARE, and a window of 3,277 ticks. -/
def execHandoverPrepare (s : State) : Out :=
  match s.twin.handReq with
  | none => .next s
  | some auto =>
    let s0 : State := { s with twin := { s.twin with handReq := none } }
    match s0.handoverBar with
    | some why => .next (let t := s0.journal 0x64 (why + 8 * bit auto); if auto then t else t.ackAmber .refuse)
    | none =>
      occurs s.twin.holding s
        (let s1 := s0.sendState.sendMirror kHand [1, 0, 0, 0]
         { s1 with twin := { s1.twin with hand := some { till := s.now + 3277, auto := auto, asHolder := true } } })

/-- HANDOVER_TAKEN (R567, Table 13.6 steps 2 to 4): on PREPARE the standby takes the lease and answers TAKEN; on TAKEN the old
holder releases it and answers RELEASED; on RELEASED the new holder's window closes. -/
def execHandoverTaken (s : State) : Out :=
  match s.twin.handMsg with
  | none => .next s
  | some m =>
    let s0 : State := { s with twin := { s.twin with handMsg := none } }
    if m = 1 ∧ s.standby then
      let s1 : State := { s0 with twin := { s0.twin with hand := some { till := s.now + 3277, auto := false, asHolder := false } } }
      .next ((s1.takeLease 3).sendMirror kHand [2, 0, 0, 0])
    else if m = 2 ∧ s.twin.holding ∧ s.handHolds then
      let auto : Bool := match s.twin.hand with
        | some h => h.auto
        | none => false
      let s1 := s0.releaseLease 4
      let s2 : State := { s1 with twin := { s1.twin with hand := none } }
      .next ((s2.sendMirror kHand [3, 0, 0, 0]).journal 0x64 (8 * bit auto))
    else if m = 3 ∧ s.twin.hand.isSome then
      .next (({ s0 with twin := { s0.twin with hand := none } } : State).journal 0x64 0)
    else if m = 4 then .next s
    else .next s0

/-- HANDOVER_ABORT (R568): the holder's window closes without TAKEN; a standby that took the lease releases it on ABORT; the
window of the new holder closes. -/
def execHandoverAbort (s : State) : Out :=
  if s.twin.handMsg = some 4 then
    let s0 : State := { s with twin := { s.twin with handMsg := none } }
    let took : Bool := match s.twin.hand with
      | some h => !h.asHolder
      | none => false
    .next (if took && s.twin.holding then
        (let t := s0.releaseLease 4
         { t with twin := { t.twin with hand := none } })
      else s0)
  else match s.twin.hand with
    | none => .next s
    | some h =>
      occurs (decide (h.till ≤ s.now)) s
        (let s1 : State := { s with twin := { s.twin with hand := none } }
         if h.asHolder then ((s1.sendMirror kHand [4, 0, 0, 0]).journal 0x64 (4 + 8 * bit h.auto)).ackAmber .refuse
         else s1)

/-- The condition of LEASE WIRE FAULT (R569). -/
def State.wireBroken (s : State) : Bool :=
  s.isTwin && s.twin.mirror != .down && match s.twin.partner with
    | some q => if s.twin.holding then !s.edgeSeen else q.holds && !q.edgeSeen
    | none => false

/-- LEASE_WIRE_FAULT (R569): its start and its end. -/
def execLeaseWireFault (s : State) : Out :=
  occurs (decide (s.wireBroken ≠ s.twin.wireFault)) s
    (({ s with twin := { s.twin with wireFault := s.wireBroken } } : State).journal 0x61 (bit s.wireBroken))

/-- SPLIT (R570): a STATE with "holds lease" while holding, outside a hand-over; the secondary releases the lease with take
inhibit. -/
def execSplit (s : State) : Out :=
  let both : Bool := match s.twin.partner with
    | some q => q.holds && decide (s.twin.takenAt ≤ q.at_)
    | none => false
  occurs (s.isTwin && s.twin.holding && both && s.twin.hand.isNone && decide (s.trole = .secondary)) s
    (let s1 := s.releaseLease 2
     (({ s1 with twin := { s1.twin with inhibit := true, inhibitAt := s.now, split := true } } : State).journal 0x62 1))

/-- TAKE_INHIBIT_CLEAR (R570): 1,024 ticks after the last valid STATE of the partner. -/
def execTakeInhibitClear (s : State) : Out :=
  occurs (s.twin.inhibit && decide (s.twin.inhibitAt + 1024 ≤ s.now)) s
    (({ s with twin := { s.twin with inhibit := false, split := false } } : State).journal 0x62 0)

end Sys2Proof.Machine
end

