-- ==== Sys2Proof/Machine/Params.lean ====
section
/-!
DEFINITION. The parameter table (§16.5): the 128 entries of Table 16.4 with their names.
-/
namespace Sys2Proof.Machine

/-- A 32-bit word of a signed value. -/
def word32 (x : Int) : Nat := (x % (2 ^ 32 : Nat)).toNat

/-- A 16-bit field of a signed value. -/
def word16 (x : Int) : Nat := (x % (2 ^ 16 : Nat)).toNat

/-- A bead word (R649). -/
def State.beadWord (s : State) (b : BeadNo) : Nat :=
  s.eff b + 16 * (s.bead.latest[b]).code + 512 * bit s.bead.fault[b] +
    1024 * bit (s.bead.waiting.any fun w => w.bead = b)

/-- Ticks that remain until a tick. -/
def State.ticksTo (s : State) (t : Nat) : Nat := t - s.now

/-- LINK_FA to LINK_FC. -/
def State.linkWord (s : State) (p : FabPort) : Nat :=
  let q := s.fab.port[p]
  q.link.code + 16 * q.trust.code + 128 * bit q.key.isSome + 256 * (s.portMetric p).getD 0 + 65536 * min 15 q.q

/-- QUAR_FA to QUAR_FC. -/
def State.quarWord (s : State) (p : FabPort) : Nat :=
  let q := s.fab.port[p]
  q.quarCause + 65536 * (if q.quarForever then 0xFFFF else match q.quarTill with
    | some t => cdiv (s.ticksTo t) tps
    | none => 0)

/-- Address of the time root, from its link-state entry. -/
def State.rootAddr (s : State) : Nat :=
  match s.lsOf s.fab.rootUid with
  | some e => e.addr.toNat
  | none => if s.fab.tstate = .root then s.fab.addr.toNat else 0

/-- TIME_PARENT. -/
def State.parentWord (s : State) : Nat :=
  match s.fab.parent with
  | none => 3
  | some p => p.val + 65536 * (match (s.fab.port[p]).beacon with
      | some b => b.addr.toNat
      | none => 0)

/-- CAM0 to CAM11. -/
def State.camWord (s : State) (k : CamPort) : Nat :=
  let q := s.cam[k]
  s.beadWord (camBead k) + 2048 * q.state.code + 32768 * min 7 (recent s.now (60 * tps) q.restarts).length

/-- A number from bits of the paths. -/
def pathBits (f : PathNo → Bool) : Nat := bitsNat (allPaths.map f)

/-- A device tally by its number (Table 6.1). -/
def State.tallyNo (s : State) (n : Nat) : Nat := (s.tal.dev.toList.getD (n - 8) 0).toNat

/-- Slabs with an owner value. -/
def Mov.count (m : Mov) (o : BitVec 5) : Nat := (m.slabsOf o).length

/-- RATE_CLAMP. -/
def State.clampWord (s : State) : Nat :=
  let f (g : Fin 2) : Nat :=
    (s.bead.clamp[g])[(0 : Fin 3)] + 16 * (s.bead.clamp[g])[(1 : Fin 3)] + 256 * (s.bead.clamp[g])[(2 : Fin 3)]
  f 0 + 4096 * f 1

/-- T_air of the lowest-numbered path with a VALID pair. -/
def State.airTemp (s : State) : Int := ((allPaths.filterMap fun p => (s.tr.path[p]).lastTAir).headD 0)

/-- The warm-up of a tracker is complete (R240). -/
def State.warm (s : State) (p : PathNo) : Bool := decide (32 ≤ (s.tal.path[p]).warm)

/-- Code of STRAP_RESULT. -/
def StrapResult.code : StrapResult → Nat
  | .applied => 0
  | .fallback => 1
  | .refused => 2
  | .none => 3

/-- Code of the pending maintenance command (CONFIRM). -/
def MonCmd.confirmCode : MonCmd → Nat
  | .cal => 1
  | .restrap => 2
  | .pair _ => 3
  | .quar _ => 4
  | .readmit _ => 5
  | .handover => 6
  | _ => 0

/-- CONFIRM. -/
def State.confirmWord (s : State) : Nat :=
  match s.mon.confirm with
  | none => 0
  | some (c, t) => c.confirmCode + 256 * cdiv (s.ticksTo t * 10) tps

/-- Entries 0x00 to 0x1F. -/
def State.params0 (s : State) : List (String × Nat) := [
  ("UID_HI", s.fab.uid.toNat / 2 ^ 32), ("UID_LO", s.fab.uid.toNat), ("ROM_ID", Config.romId.toNat), ("GRADE", bit Config.gradeI),
  ("ROLE", s.beadWord 3), ("ADDRESS", s.addrWord), ("MODE", s.modeCode), ("SAND_POLICY", s.beadWord 4),
  ("HOLD_TIME", s.beadWord 5), ("HOLD_LEFT", s.dev.hold), ("BEDROCK_SOUND", s.beadWord 6), ("ALARM_MAP", s.beadWord 7),
  ("INPUTS", bitsNat [s.loc.armF.on, s.loc.wakeF.on, s.loc.silF.on, s.loc.keyF.on, s.loc.setF.on, s.dev.mainsOk]),
  ("OUTPUTS", bitsNat [(s.loc.alm[(0 : Fin 2)]).active, (s.loc.alm[(1 : Fin 2)]).active,
    (s.loc.alm[(0 : Fin 2)]).retryUntil.any (s.now < ·), (s.loc.alm[(1 : Fin 2)]).retryUntil.any (s.now < ·)]),
  ("SEAL_STATE", sealCode s.loc.sealState + 4 * bit s.loc.sealTamper),
  ("COUNTS", s.tal.powerUps.toNat % 65536 + 65536 * (s.tal.cleans.toNat % 65536))] ++ [
  ("PORT_ROLES", s.beadWord 8), ("CABLE_CLASS", s.beadWord 9), ("EXPORT_SITE", s.beadWord 10), ("TIME_SITE", s.beadWord 11),
  ("SITE_GROUP", s.siteGroup + 256 * s.timePrio), ("LINK_FA", s.linkWord 0), ("LINK_FB", s.linkWord 1), ("LINK_FC", s.linkWord 2),
  ("QUAR_FA", s.quarWord 0), ("QUAR_FB", s.quarWord 1), ("QUAR_FC", s.quarWord 2),
  ("TIME_ROOT", s.rootAddr + 65536 * s.fab.tstate.code + 2 ^ 24 * s.fab.steps), ("TIME_PARENT", s.parentWord),
  ("LSDB_ENTRIES", s.fab.lsdb.length), ("EXPORT_HEAD", (s.fab.exportHead.getD 0).toNat),
  ("PAIR_WINDOW", (match s.fab.windowTill with
    | some t => min 255 (cdiv (s.ticksTo t) tps)
    | none => 0) + 256 * bitsNat (allPorts.map fun p => (s.fab.port[p]).window))]

/-- Entries 0x20 to 0x3F. -/
def State.params1 (s : State) : List (String × Nat) :=
  (allCams.map fun k => ("CAM" ++ natStr k.val, s.camWord k)) ++ [
  ("TONE_CURVE", s.beadWord 28), ("AWB_MODE", s.beadWord 29), ("EDGE", s.beadWord 30), ("BURN_IN", s.beadWord 31),
  ("HEAD_MODE", s.beadWord 12), ("LANE_RATE", s.beadWord 13), ("LAYOUT", s.beadWord 14),
  ("OUT_RATE", s.beadWord 15 + 4096 * s.rateIdx), ("OUT_FRAMES", s.head.counter.toNat),
  ("RECIPE_GEN", if s.rcp.valid then s.rcp.gen.toNat else 0),
  ("KILN_PIXELS", rdivNat s.kilnPixels 144000000), ("KILN_ROUND", s.kilnRound),
  ("POOL_SLABS", s.mov.count 29 + 65536 * s.mov.count 31),
  ("MOVERS_HALTED", bitsNat (allChannels.map fun c =>
    decide ((s.mov.chan[c]).state = .halted) || decide ((s.mov.chan[c]).state = .fenced))),
  ("POOL_ECC", s.mov.ecc.toNat), ("HEAD_STATUS", s.head.underruns % 65536 + 65536 * (s.head.imageDrops % 65536)),
  ("EVENT_QUEUE", s.head.records.length + 65536 * (s.head.dropped % 65536)),
  ("AE_STATE", bitsNat (allCtx.map fun c => (s.kiln.ctx[c]).converged)),
  ("MONO_STATE", bitsNat (allCtx.map fun c => (s.kiln.ctx[c]).mono)),
  ("KILN_FAULTS", sat 255 s.kiln.overruns + 256 * sat 255 s.kiln.parities + 65536 * sat 255 s.kiln.hangCount)]

/-- Entries 0x40 to 0x5F. -/
def State.params2 (s : State) : List (String × Nat) := [
  ("PATH_MAP", s.beadWord 32), ("FREQ_CLASS", s.beadWord 33), ("LOAM_RATE", s.beadWord 34), ("SENSITIVITY", s.beadWord 35),
  ("PATH_FLAGS", pathBits s.configured + 2 ^ 8 * pathBits (fun p => (s.calibOf p).isSome) +
    2 ^ 16 * pathBits (fun p => (s.tr.path[p]).tracking) + 2 ^ 24 * pathBits s.healthFailed),
  ("RATE_CLAMP", s.clampWord),
  ("CAL_STATE", bit s.tr.calOn + 2 ^ 8 * bitsNat s.tr.calPassed.toList + 2 ^ 16 * bitsNat s.tr.calRefused.toList),
  ("TEMPS", word16 s.dev.dieTemp + 65536 * word16 s.airTemp)] ++
  (allPaths.map fun p => ("VEL_P" ++ natStr p.val, word32 (s.tr.path[p]).lastV)) ++ [
  ("HARM_BAND", s.beadWord 38), ("ZONE_CLASS", s.beadWord 36), ("ZONE_TYPES", s.beadWord 37), ("MONITOR_SET", s.beadWord 39),
  ("ZONE_STATES", s.zoneWord),
  ("TRACKERS", pathBits (fun p => (s.tal.path[p]).harm.locked) + 2 ^ 8 * pathBits s.warm +
    2 ^ 16 * pathBits (fun p => s.warm p && !(s.tal.path[p]).refractory)),
  ("LAST_BREACH", s.tal.lastBreach.toNat), ("JOUR_NEXT", s.tal.jNext.toNat), ("JOUR_DROPS", s.tallyNo 23),
  ("TORN_SLOTS", s.tallyNo 22),
  ("REFIRE_STATE", s.tallyNo 24 % 65536 + (if s.tal.refireOn then 65536 * (s.tal.refireBlock + 512) else 0)),
  ("REFIRE_DUE", s.tal.refireDueCal / tps / 86400), ("CHARGE", s.tallyNo 14), ("CHARGE_REV", s.tallyNo 15),
  ("MAINS_LOSSES", s.tallyNo 13), ("GESTURES", s.tallyNo 20 % 65536 + 65536 * (s.tallyNo 21 % 65536))]

/-- Entries 0x60 to 0x6F. -/
def State.params3 (s : State) : List (String × Nat) := [
  ("CAL_SECONDS", s.clk.sec.toNat), ("AON_CLOCK", bitsNat [decide (s.clk.source = .crystal), s.clk.rcTrimmed, s.clk.x32Fail]),
  ("XO_STATE", bitsNat [s.clk.xoRun, s.clk.xoReady, s.clk.xoFail, s.clk.tdcFault]), ("AGE_OFFSET", word32 s.clk.age.o),
  ("AGE_RATE", word32 s.clk.age.a), ("AGE_POINTS", s.clk.age.dL % 65536 + 65536 * (s.clk.age.points.length % 256)),
  ("AGE_PREDICT", word32 s.prediction), ("TIME_FLAGS", bitsNat [s.clk.age.unverified, s.clk.phaseFree]),
  ("REFIN_STATE", bitsNat [s.clk.refinPresent, s.clk.refinAdvertised] + 256 * sat 255 s.clk.refinGates),
  ("PLL_STATE", if s.clk.pll = .off then 0 else
    1 + 2 * bit (decide (s.clk.pll = .locked)) + 4 * s.clk.pllRef.code + 16 * min 7 s.clk.pllAttempts),
  ("PLL_OUTPUTS", bitsNat (s.clk.pllOut.toList.map fun o => o.now.enable)),
  ("FTIME_HI", s.fab.time / 2 ^ 48), ("FTIME_LO", s.fab.time / 65536), ("FTIME_FRAC", s.fab.time % 65536),
  ("TIME_OFFSET", word32 (clampInt (-2147483648) 2147483647 (rdiv (s.fab.theta * 1000) 65536))),
  ("LINK_DELAY", word32 (rdiv (s.fab.delay * 1000) 65536))]

/-- Beads that differ from the reading in force (RESTART_BEADS). -/
def State.restartBeads (s : State) : Nat :=
  bitsNat (([0, 1, 2, 3, 8] : List BeadNo).map fun b => decide (s.bead.latest[b] ≠ s.bead.inForce[b]))

/-- Entries 0x70 to 0x7E. -/
def State.params4 (s : State) : List (String × Nat) := [
  ("FLAGS", bitsNat s.flagBits), ("FATAL_CAUSE", match s.dev.fatalCause with
    | some c => c.code
    | none => 0),
  ("BEAD_FAULTS_LO", bitsNat ((allBeads.take 32).map fun b => s.bead.fault[b])),
  ("BEAD_FAULTS_HI", bitsNat ((allBeads.drop 32).map fun b => s.bead.fault[b]) + 256 * bit s.brefFault),
  ("RESTART_BEADS", s.restartBeads), ("LED_STATE", s.ledaCode + 16 * s.ledgCode + 64 * bit (s.loc.ackG.isSome || s.loc.ackA.isSome)),
  ("LEASE_STATE", bitsNat [s.twin.holding, s.beatSeen, s.twin.inhibit, s.twin.split, s.twin.wireFault]),
  ("MIRROR_STATE", (match s.twin.mirror with
    | .down => 0
    | .resync => 1
    | .inSync => 2) + 65536 * (s.twin.mirrCrc.toNat % 65536)),
  ("CORE_RESTARTS", min 3 (recent s.now (600 * tps) s.dev.coreRestarts).length + 65536 * (s.dev.watchdogs % 65536)),
  ("VBAT_MV", s.dev.vbatMv), ("VDRV_MV", s.tr.vdrvMv),
  ("STRAP_RESULT", s.bead.result.code + 256 * sat 255 s.bead.compileMs + 65536 * s.bead.failedBudget),
  ("CONFIRM", s.confirmWord), ("UPTIME", if s.dev.start.isSome then 0 else (s.now - s.dev.upAt) / tps),
  ("UART_ERRORS", s.mon.framing % 65536 + 65536 * (s.mon.overruns % 65536))]

/-- The parameter table of one snapshot with TABLE_CRC (Table 16.4). -/
def State.params (s : State) : List (String × Nat) :=
  let l := s.params0 ++ s.params1 ++ s.params2 ++ s.params3 ++ s.params4
  l ++ [("TABLE_CRC", (crc32 (l.map fun e => bytesLE 4 e.2).flatten).toNat)]

/-- A line of par (R641). -/
def paramLine (i : Nat) (e : String × Nat) : String :=
  hexNum 2 i ++ " " ++ e.1 ++ " " ++ hexNum 8 e.2

end Sys2Proof.Machine
end

