-- ==== Sys2Proof/Machine/Monitor.lean ====
section
/-!
DEFINITION. The reckon monitor: its enabling, command lines, read commands, maintenance commands and their confirmation
(chapter 16).
-/
namespace Sys2Proof.Machine

/-- MONITOR_ENABLE (R631, R633): the first filtered KEYn level at or after a start of the house core. -/
def execMonitorEnable (s : State) : Out :=
  match s.loc.keyF.level with
  | none => .next s
  | some on =>
    occurs (s.mon.awaitKey && decide (s.dev.core ≠ .off) && decide (s.dev.mode ≠ .bedFault)) s
      (let s1 : State := { s with mon := { s.mon with awaitKey := false, enabled := on, line := [], overrun := false } }
       if on then
         { s1 with mon := { s1.mon with out := s1.mon.out ++
             ["TJ1216 monitor", hexNum 4 (Config.romId.toNat / 65536), hexNum 16 s.fab.uid.toNat, prompt] } }
       else s1)

/-- Split a line into words at its spaces; the word in hand is in reverse order. -/
def splitWords : List Byte → List Byte → List (List Byte)
  | w, [] => if w.isEmpty then [] else [w.reverse]
  | w, c :: t => if c = 0x20 then (if w.isEmpty then splitWords [] t else w.reverse :: splitWords [] t) else splitWords (c :: w) t

/-- A word as text. -/
def wordStr (w : List Byte) : String := String.ofList (w.map fun c => Char.ofNat c.toNat)

/-- Value of a digit below a base. -/
def digitOf (base : Nat) (c : Byte) : Option Nat :=
  let n := c.toNat
  let d : Option Nat :=
    if 48 ≤ n ∧ n ≤ 57 then some (n - 48)
    else if 65 ≤ n ∧ n ≤ 70 then some (n - 55)
    else if 97 ≤ n ∧ n ≤ 102 then some (n - 87)
    else none
  d.filter fun x => decide (x < base)

/-- A number from its digits. -/
def digitsNum (base : Nat) (l : List Byte) : Option Nat :=
  if l.isEmpty then none
  else l.foldl (fun acc c => match acc, digitOf base c with
    | some n, some d => some (n * base + d)
    | _, _ => none) (some 0)

/-- A number of a command line: decimal, or hexadecimal with the prefix 0x (R635). -/
def numOf (w : List Byte) : Option Nat :=
  match w with
  | 0x30#8 :: 0x78#8 :: t => digitsNum 16 t
  | _ => digitsNum 10 w

/-- An argument below a bound: ?syntax where it is no number, ?range where it is out of range (R637). -/
def argBelow (n : Nat) (w : List Byte) : Except String (Fin n) :=
  match numOf w with
  | none => .error "?syntax"
  | some x => if h : x < n then .ok ⟨x, h⟩ else .error "?range"

/-- An argument between two bounds. -/
def argIn (lo hi : Nat) (w : List Byte) : Except String Nat :=
  match numOf w with
  | none => .error "?syntax"
  | some x => if lo ≤ x ∧ x ≤ hi then .ok x else .error "?range"

/-- A port argument (R635). -/
def argPort (w : List Byte) : Except String FabPort :=
  if w = ascii "fa" then .ok 0 else if w = ascii "fb" then .ok 1 else if w = ascii "fc" then .ok 2 else .error "?syntax"

/-- A command of one word (Table 16.2). -/
def bareCommand (k : String) : Option MonCmd :=
  ([("help", MonCmd.help), ("par", .par 0 128), ("beads", .beads), ("tally", .tally none), ("jour", .jourLast 16),
    ("mover", .mover none), ("pool", .pool), ("route", .route none), ("link", .link none), ("clock", .clock), ("twin", .twin),
    ("cal", .cal), ("restrap", .restrap), ("handover", .handover)].find? fun e => e.1 = k).map fun e => e.2

/-- The argument of jour. -/
def jourArg (a : List Byte) : Except String MonCmd :=
  match a with
  | 0x23#8 :: t => (argIn 0 0xFFFFFFFF t).map .jourFrom
  | [0x66#8] => .ok .jourFollow
  | _ => (argIn 1 1024 a).map .jourLast

/-- A command with one argument. -/
def oneArg (k : String) (a : List Byte) : Except String MonCmd :=
  if k = "par" then (argBelow 128 a).map fun i => .par i.val (128 - i.val)
  else if k = "tally" then (argBelow 8 a).map fun p => .tally (some p)
  else if k = "jour" then jourArg a
  else if k = "path" then (argBelow 8 a).map fun p => .path p 64
  else if k = "cam" then (argBelow 12 a).map .cam
  else if k = "kiln" then (argBelow 13 a).map .kiln
  else if k = "mover" then (argBelow 32 a).map fun c => .mover (some c)
  else if k = "route" then (argIn 0 0xFFF a).map fun x => .route (some x)
  else if k = "link" then (argPort a).map fun p => .link (some p)
  else if k = "thumb" then (argBelow 13 a).map .thumb
  else if k = "pair" then (argPort a).map .pair
  else if k = "quar" then (argPort a).map .quar
  else if k = "readmit" then (argPort a).map .readmit
  else .error "?syntax"

/-- A command with two arguments. -/
def twoArgs (k : String) (a b : List Byte) : Except String MonCmd :=
  if k = "par" then
    (argBelow 128 a).bind fun i => (argIn 1 (128 - i.val) b).map fun n => .par i.val n
  else if k = "path" then (argBelow 8 a).bind fun p => (argIn 1 256 b).map fun n => .path p n
  else .error "?syntax"

/-- The command of a line (R635, R637, R641). -/
def parseLine (line : List Byte) : Except String MonCmd :=
  match splitWords [] line with
  | [k] => match bareCommand (wordStr k) with
    | some c => .ok c
    | none => .error "?syntax"
  | [k, a] => oneArg (wordStr k) a
  | [k, a, b] => twoArgs (wordStr k) a b
  | _ => .error "?syntax"

/-- A line ends: its command waits to run, or its error is sent; an empty line gives the prompt again. -/
def State.lineEnd (s : State) : State :=
  let s1 : State := { s with mon := { s.mon with line := [], overrun := false } }
  if s.mon.overrun then ({ s1 with mon := { s1.mon with overruns := s1.mon.overruns + 1 } } : State).endCmd "?overrun"
  else if (splitWords [] s.mon.line).isEmpty then { s1 with mon := { s1.mon with out := s1.mon.out ++ [prompt] } }
  else match parseLine s.mon.line with
    | .ok c => { s1 with mon := { s1.mon with cmd := some c, busy := true, cmdAt := s.now } }
    | .error e => s1.endCmd e

/-- A character that arrives while a command's output is being sent (R636, R644): the output stops after the current line. -/
def State.cancel (s : State) : State :=
  let s1 : State := { s with mon := { s.mon with
    out := s.mon.out.take 1, confirm := none, follow := false, calWait := false, busy := false } }
  s1.endCmd "?cancelled"

/-- MONITOR_CHARACTER (R633, R635, R636). -/
def execMonitorCharacter (c : Byte) (framingOk : Bool) (s : State) : Out :=
  occurs s.mon.enabled s
    (if !framingOk then { s with mon := { s.mon with framing := s.mon.framing + 1 } }
     else if s.mon.busy then s.cancel
     else
       let crBefore := s.mon.lastCr
       let s1 : State := { s with mon := { s.mon with echo := s.mon.echo ++ [c], lastCr := decide (c = 0x0D) } }
       if c = 0x0A ∧ crBefore then s1
       else if c = 0x0D ∨ c = 0x0A then s1.lineEnd
       else if c = 0x08 ∨ c = 0x7F then { s1 with mon := { s1.mon with line := s1.mon.line.dropLast } }
       else if 80 ≤ s1.mon.line.length then { s1 with mon := { s1.mon with overrun := true } }
       else { s1 with mon := { s1.mon with line := s1.mon.line ++ [c] } })

/-- A command answers with some lines and ok. -/
def State.answer (s : State) (l : List String) : State :=
  ({ s with mon := { s.mon with out := s.mon.out ++ l } } : State).endCmd "ok"

/-- The commands with their arguments, one line each (Table 16.2). -/
def helpLines : List String :=
  ["help", "par [i [n]]", "beads", "tally [p]", "jour [n | #e | f]", "path p [N]", "cam k", "kiln k", "mover [c]", "pool",
   "route [a]", "link [port]", "clock", "twin", "thumb k", "cal", "restrap", "pair port", "quar port", "readmit port", "handover"]

/-- HELP (R641). -/
def execHelp (s : State) : Out :=
  match s.mon.cmd with
  | some .help => .next (s.answer helpLines)
  | _ => .next s

/-- PAR (R641, R648, R649). -/
def execPar (s : State) : Out :=
  match s.mon.cmd with
  | some (.par i n) =>
    let l := s.params
    .next (s.answer ((List.range n).map fun j => paramLine (i + j) (l.getD (i + j) ("", 0))))
  | _ => .next s

/-- A computed resistance in ohms, or a dash. -/
def ohmsStr (x : Option Nat) : String :=
  match x with
  | some n => natStr n
  | none => "-"

/-- The 41 lines of beads: BREF first (R641). -/
def State.beadLines (s : State) : List String :=
  ("BREF - " ++ ohmsStr s.bead.ohms[(0 : Fin 41)] ++ " -") ::
    allBeads.map fun b => "BEAD" ++ decStr 2 b.val ++ " " ++ natStr (s.bead.latest[b]).code ++ " " ++
      ohmsStr (s.bead.ohms.toList.getD (b.val + 1) none) ++ " " ++ natStr (s.eff b)

/-- BEADS (R641). -/
def execBeads (s : State) : Out :=
  match s.mon.cmd with
  | some .beads => .next (s.answer s.beadLines)
  | _ => .next s

/-- Names of the path tallies and the device tallies (Table 6.1). -/
def pathTallyNames : List String := ["VOL_AB", "VOL_BA", "PASS", "TAIL", "BRCH", "VPAIR", "XPAIR", "GAP"]
def deviceTallyNames : List String :=
  ["T_LOAM", "T_SAND", "T_BEDB", "T_BEDF", "SANDS", "MLOSS", "CHG", "CHGREV", "ZON0", "ZON1", "ZON2", "ZON3", "GEST", "GREF",
   "TORN", "JDROP", "REFIRE"]

/-- One line NAME value for each of some values. -/
def namedLines (names : List String) (values : List Nat) : List String :=
  List.zipWith (fun n v => n ++ " " ++ natStr v) names values

/-- TALLY (R637, R641): in decimal, with accumulators. -/
def execTally (s : State) : Out :=
  match s.mon.cmd with
  | some (.tally none) =>
    .next (s.answer (namedLines deviceTallyNames (s.tal.dev.toList.map fun x => x.toNat) ++
      namedLines ["ACC_CHG", "ACC_CHGREV"] [s.tal.accChg, s.tal.accChgRev]))
  | some (.tally (some p)) =>
    let t := s.tal.path[p]
    .next (s.answer (namedLines pathTallyNames (t.count.toList.map fun x => x.toNat) ++
      namedLines ["ACC_AB", "ACC_BA", "ACC_GAP"] [t.accAb, t.accBa, t.accGap]))
  | _ => .next s

/-- The line of an entry number from the journal, none where its place holds another (R639). -/
def State.journalLine (s : State) (n : BitVec 32) : Option String :=
  match journalPlace s.tal.store (n.toNat % 1024) with
  | none => none
  | some none => some ("#" ++ natStr n.toNat ++ " ?check")
  | some (some k) => if k = n.toNat then some (JEntry.ofBytes (memRange s.tal.store (journalAddr n) 16)).line else none

/-- Lines of the n entry numbers before the next one. -/
def State.journalLines (s : State) (n : Nat) : List String :=
  (List.range n).filterMap fun i => s.journalLine (s.tal.jNext - BitVec.ofNat 32 (n - i))

/-- JOUR (R639, R641): the last n entries, every entry from one on, or follow. -/
def execJour (s : State) : Out :=
  match s.mon.cmd with
  | some (.jourLast n) => .next (s.answer (s.journalLines n))
  | some (.jourFrom e) => .next (s.answer (s.journalLines (min 1024 (s.tal.jNext - BitVec.ofNat 32 e).toNat)))
  | some .jourFollow => .next { s with mon := { s.mon with cmd := none, follow := true } }
  | _ => .next s

/-- Mean, standard deviation, minimum and maximum of some values in 1/4,096 ns, each divided by `per` (R206): the first two in
1/65,536 ns, the others in 1/4,096 ns. -/
def statLine (name : String) (l : List Int) (per : Nat := 1) : String :=
  let n := max 1 l.length
  let sum := sumInt l
  let x := (n : Int) * sumInt (l.map fun v => v * v) - sum * sum
  let sd := rdivNat (isqrt (x.toNat * 2 ^ 28)) (n * 1024 * per)
  joinWords [name, intStr (rdiv (16 * sum) (n * per)), natStr sd, intStr (rdiv (l.foldl min (l.headD 0)) per),
    intStr (rdiv (l.foldl max (l.headD 0)) per)]

/-- The calibration record of a path as a line. -/
def calText : Option CalRecord → String
  | none => "calibration none"
  | some c => joinWords ["calibration", natStr c.freq.val, natStr c.len, intStr c.delta0, intStr c.tDie, natStr c.base,
      natStr c.sec.toNat]

/-- The latest pair record, field by field (Table 5.9). -/
def pairLines (r : PairRecord) : List String :=
  ["path " ++ natStr r.path.val, "time " ++ natStr r.sec.toNat ++ "." ++ decStr 5 r.tick.toNat,
   "status " ++ natStr r.status.code, "shots " ++ natStr r.up.code ++ " " ++ natStr r.down.code,
   "flags " ++ hexNum 1 (bitsNat [r.uncal, r.ovr, r.unverified, r.health]), "t_ab " ++ natStr r.tAb, "t_ba " ++ natStr r.tBa,
   "dt " ++ intStr r.dt, "v " ++ intStr r.v, "c " ++ natStr r.c, "t_air " ++ intStr r.tAir, "gain " ++ natStr r.gain,
   "peaks " ++ natStr r.peakUp ++ " " ++ natStr r.peakDown]

/-- Health of a channel as words. -/
def State.healthText (s : State) (c : Chan) : String :=
  let h := s.tr.chan[c]
  joinWords ["health", natStr c.val, natStr h.last.code, boolStr h.failed.isSome]

/-- PATH (R206, R641). -/
def execPath (s : State) : Out :=
  match s.mon.cmd with
  | some (.path p n) =>
    let q := s.tr.path[p]
    .next (s.answer ((match q.lastPair with
        | some r => pairLines r
        | none => ["no pair"]) ++
      [statLine "dt" (q.statDt.take n), statLine "mean" (q.statSum.take n) 2, "gain " ++ natStr q.gain,
       "window " ++ natStr q.cUp ++ " " ++ natStr q.cDown, if q.tracking then "tracking" else "search", calText q.calib,
       s.healthText (chanA p), s.healthText (chanB p), "mute " ++ boolStr q.mute]))
  | _ => .next s

/-- A line of a part that is unpowered (R643). -/
def offLine (off : Bool) (l : String) : String := if off then l ++ " (off)" else l

/-- The fields of a recipe header as lines (Table 7.6). -/
def headerLines (h : RecipeHeader) : List String :=
  [joinWords ["cci", hexNum 2 h.cciAddr.toNat, hexNum 2 h.cciOpts.toNat], joinWords ["lanes", natStr h.lanes, natStr h.laneRate],
   joinWords ["mclk", natStr h.mclk], joinWords ["format", hexNum 2 h.dt, natStr h.vc, natStr h.cfa, hexNum 2 h.flags.toNat],
   joinWords ["size", natStr h.width, natStr h.lines, natStr h.ob],
   joinWords ["frame", natStr h.fsyncWidth, natStr h.rate, natStr h.latency], joinWords ["start", natStr h.powerUp, natStr h.startTimeout]]

/-- CAM (R641, R643). -/
def execCam (s : State) : Out :=
  match s.mon.cmd with
  | some (.cam k) =>
    let q := s.cam[k]
    let off := decide (q.state = .off)
    .next (s.answer (["state " ++ natStr q.state.code] ++ (match s.portRecipe k with
        | some r => headerLines r.hdr
        | none => []) ++
      ((["HDRERR " ++ natStr q.hdrErr.toNat, "CRCERR " ++ natStr q.crcErr.toNat, "DROPPED " ++ natStr q.dropped.toNat,
         "UNSUPPORTED " ++ natStr q.unsupported.toNat, "OTHER VC " ++ natStr q.otherVc.toNat,
         "flags " ++ hexNum 4 q.lastFlags.toNat, "fsync " ++ (if q.freeRun then "free" else "grid"),
         "rate " ++ fixStr false 1 q.rate]).map (offLine off))))
  | _ => .next s

/-- Names of the context parameters (Table 8.1). -/
def slotNames : List String :=
  ["CTX_EN", "IN_DT", "CFA", "IN_W", "OB_LINES", "ACT_LINES", "BL_MODE", "BL_FIXED", "DPC_EN", "DPC_TD", "LSC_MODE", "LSC_S",
   "ST_ZW", "ST_ZH", "ST_SAT", "DM_T", "SH_K", "WB_R", "WB_G", "WB_B", "CM_00", "CM_01", "CM_02", "CM_10", "CM_11", "CM_12",
   "CM_20", "CM_21", "CM_22", "TC_SEL", "YC_SET", "CR_X", "CR_Y", "CR_W"] ++
  ["CR_H", "SC_H", "SC_V", "OUT_W", "OUT_H", "BURN_POS", "BURN_SIZE", "PACK", "OUT_DEST", "FR_MIN", "AE_TGT", "AWB_MODE"]

/-- KILN (R641, R643). -/
def execKiln (s : State) : Out :=
  match s.mon.cmd with
  | some (.kiln c) =>
    let k := s.kiln.ctx[c]
    let slots := (List.finRange 46).map fun (i : Fin 46) =>
      joinWords [natStr i.val, slotNames.getD i.val "", intStr k.work[i], intStr k.shadow[i]]
    let rest := ["armed " ++ boolStr k.armed, joinWords ("black" :: k.bl.toList.map natStr),
      joinWords ["ae", natStr k.exposure, natStr k.gain, boolStr k.converged, natStr k.measure],
      joinWords ("awb" :: k.wb.toList.map natStr ++ [boolStr k.mono])]
    .next (s.answer ((slots ++ rest).map (offLine (!s.kiln.running))))
  | _ => .next s

/-- State of a channel in words (Table 9.1). -/
def ChState.text : ChState → String
  | .idle => "IDLE"
  | .run => "RUN"
  | .wait => "WAIT"
  | .done => "DONE"
  | .stopped => "STOPPED"
  | .halted => "HALTED"
  | .fenced => "FENCED"

/-- A loop counter in words. -/
def loopText : Option (BitVec 16) → String
  | none => "-"
  | some n => natStr n.toNat

/-- A fault latch as a line (R407). -/
def latchText : Option FaultLatch → String
  | none => "fault none"
  | some l => joinWords ["fault", natStr l.cause.toNat, boolStr l.write, hexNum 8 l.addr.toNat, natStr l.word, natStr l.owner.toNat]

/-- MOVER (R641). -/
def execMover (s : State) : Out :=
  match s.mon.cmd with
  | some (.mover none) =>
    .next (s.answer (allChannels.map fun c =>
      let q := s.mov.chan[c]
      joinWords [natStr c.val, q.state.text, natStr q.level.val, natStr q.owner.toNat]))
  | some (.mover (some c)) =>
    let q := s.mov.chan[c]
    .next (s.answer ((s.mov.progOf c).map (fun w => hexNum 32 w.toNat) ++
      [joinWords ("loops" :: q.loops.toList.map loopText),
       joinWords ("registers" :: q.regs.toList.map fun r => hexNum 8 r.toNat), latchText q.latch]))
  | _ => .next s

/-- POOL (R641): 24 lines of 16 slab owners, then the queue levels. -/
def execPool (s : State) : Out :=
  match s.mon.cmd with
  | some .pool =>
    .next (s.answer ((List.range 24).map (fun i =>
        joinWords ((List.range 16).map fun j => natStr (s.mov.owner.toList.getD (16 * i + j) 0).toNat)) ++
      (s.mov.queue.toList.mapIdx fun i q => joinWords ["queue", natStr i, natStr q.level])))
  | _ => .next s

/-- A link-state entry as lines (Table 11.9). -/
def LsEntry.lines (e : LsEntry) : List String :=
  joinWords ["entry", hexNum 16 e.uid.toNat, hexNum 3 e.addr.toNat, natStr e.kind.toNat, natStr e.role.toNat, natStr e.site.toNat,
    natStr e.prio.toNat, boolStr e.refin, natStr e.seq.toNat] ::
  e.links.map fun l => joinWords ["link", natStr l.port.toNat, natStr l.metric, hexNum 4 l.addr.toNat, hexNum 16 l.uid.toNat]

/-- The Sieve entry of an address, its cost and hops, and the entry of its origin (R484). -/
def State.routeLines (s : State) (a : BitVec 12) : List String :=
  let e := (s.fab.lsdb.find? fun e => e.claims && decide (e.addr = a))
  (match s.sieve a with
    | none => hexNum 3 a.toNat ++ " none"
    | some h => if h.val = 3 then hexNum 3 a.toNat ++ " local"
      else match s.fab.routes.find? (fun r => r.addr = a) with
        | some r => joinWords [hexNum 3 a.toNat, portName r.port, natStr r.cost, natStr r.hops]
        | none => hexNum 3 a.toNat ++ " none") ::
  (match e with
    | some e => e.lines
    | none => [])

/-- ROUTE_CMD (R641). -/
def execRouteCmd (s : State) : Out :=
  match s.mon.cmd with
  | some (.route (some a)) => .next (s.answer (s.routeLines (BitVec.ofNat 12 a)))
  | some (.route none) =>
    let own : List (BitVec 12) := if s.fab.addr = 0 then [] else [s.fab.addr]
    .next (s.answer ((own ++ s.fab.routes.map fun r => r.addr).map s.routeLines).flatten)
  | _ => .next s

/-- Every counter of a port (R464, Table 12.5). -/
def Counters.lines (c : Counters) : List String :=
  namedLines ["SYMERR", "LENERR", "CRCERR", "UNKTYPE", "BADADDR", "NOTPERM", "CMACERR", "REPLAY", "FLOOD", "STALLS", "TRAINFAIL",
      "QUARANTINES", "HOPLIMIT", "NOROUTE", "TILEDROP", "TIME BAD"]
    ([c.symErr, c.lenErr, c.crcErr, c.unkType, c.badAddr, c.notPerm, c.cmacErr, c.replay, c.flood, c.stalls, c.trainFail,
      c.quarantines, c.hopLimit, c.noRoute, c.tileDrop, c.timeBad].map fun x => x.toNat)

/-- The partner's latest BEACON as a line (Table 11.8). -/
def beaconLine : Option Beacon → String
  | none => "beacon none"
  | some b => joinWords ["beacon", hexNum 16 b.uid.toNat, hexNum 3 b.addr.toNat, natStr b.kind.toNat, natStr b.role.toNat,
      natStr b.site.toNat, natStr b.port.toNat, natStr b.portRole.toNat, natStr b.timeState.toNat, natStr b.prio.toNat,
      natStr b.steps, natStr b.mode.toNat, hexNum 16 b.root.toNat, natStr b.cable.toNat]

/-- One port of link. -/
def State.linkLines (s : State) (p : FabPort) : List String :=
  let q := s.fab.port[p]
  [joinWords [portName p, "link", natStr q.link.code, "trust", natStr q.trust.code, "metric", natStr ((s.portMetric p).getD 0),
    "q", natStr q.q]] ++ q.cnt.lines ++
  [beaconLine q.beacon, match q.pairCode with
    | some n => "code " ++ decStr 6 n
    | none => "code none"]

/-- LINK (R641). -/
def execLink (s : State) : Out :=
  match s.mon.cmd with
  | some (.link (some p)) => .next (s.answer (s.linkLines p))
  | some (.link none) => .next (s.answer (allPorts.map s.linkLines).flatten)
  | _ => .next s

/-- The lines of clock (R641). -/
def State.clockLines (s : State) : List String :=
  let a := s.clk.age
  [joinWords ["aon", if s.clk.source = .crystal then "crystal" else "rc"],
   "calendar " ++ natStr s.clk.sec.toNat ++ "." ++ decStr 5 s.clk.calTick.toNat,
   joinWords ["xo", boolStr s.clk.xoRun, boolStr s.clk.xoReady, boolStr s.clk.xoFail],
   joinWords ["ageing", intStr a.o, intStr a.a, natStr a.d0, natStr a.dL, natStr a.points.length, natStr a.epoch],
   "prediction " ++ intStr s.prediction, joinWords ["refin", boolStr s.clk.refinPresent, boolStr s.clk.refinAdvertised],
   joinWords ["pll", natStr s.clk.pllRef.code, boolStr (decide (s.clk.pll = .locked))]] ++
  ((s.clk.pllOut.toList.mapIdx fun i o => (i, o)).filter fun e => e.2.now.enable).map (fun e =>
    joinWords ["PO" ++ natStr e.1, natStr e.2.now.n, natStr e.2.now.k]) ++
  [joinWords ["fabric", natStr (s.fab.time / 65536), natStr (s.fab.time % 65536)], "state " ++ natStr s.fab.tstate.code,
   "parent " ++ (match s.fab.parent with
     | some p => portName p
     | none => "none"), "theta " ++ intStr s.fab.theta, "d " ++ intStr s.fab.delay]

/-- CLOCK (R641). -/
def execClock (s : State) : Out :=
  match s.mon.cmd with
  | some .clock => .next (s.answer s.clockLines)
  | _ => .next s

/-- A latch remainder in words. -/
def latchLeftText : Option Nat → String
  | none => "silence"
  | some t => natStr (cdiv t 1024)

/-- The lines of twin (R641). -/
def State.twinLines (s : State) : List String :=
  let sh := s.twin.shadow
  [joinWords ["lease", boolStr s.twin.holding, boolStr s.beatSeen, boolStr s.twin.inhibit, boolStr s.twin.split],
   joinWords ["mirror", match s.twin.mirror with
     | .down => "down"
     | .resync => "resynchronising"
     | .inSync => "IN SYNC", natStr s.twin.txSeq.toNat, natStr s.twin.rxSeq.toNat],
   joinWords ("zones" :: sh.zones.toList.map fun z => match z with
     | some z => natStr z.code
     | none => "15"),
   joinWords ("outputs" :: sh.out.toList.map boolStr), joinWords ("latch" :: sh.latch.toList.map latchLeftText),
   joinWords ["silenced", boolStr sh.silencedH24, boolStr sh.silencedTmp],
   joinWords ("metadata" :: (s.twin.standbyMeta.take 32).map fun b => "0x" ++ hexStr 2 b.toNat)]

/-- TWIN (R641). -/
def execTwin (s : State) : Out :=
  match s.mon.cmd with
  | some .twin => .next (s.answer s.twinLines)
  | _ => .next s

/-- Luma of a pixel in an output line (R352): Y at odd bytes of YUV422, after each chroma byte of the pair in YUV420. -/
def lumaAt (pack x : Nat) (line : List Byte) : Nat :=
  (line.getD (if pack = 0 then 2 * x + 1 else 3 * (x / 2) + 1 + x % 2) 0).toNat

/-- The 36 lines of a thumbnail (R642): the mean of each block of the latest complete frame. -/
def State.thumbLines (s : State) (base rows ow oh pack : Nat) : List String :=
  let ol := outLineBytes ow pack
  let bw := ow / 64
  let bh := oh / 36
  (List.range 36).map fun r =>
    let lines := (List.range bh).map fun y => memRange s.mov.pool (base + (r * bh + y) % rows * ol) ol
    String.join ((List.range 64).map fun c =>
      let sum := sumNat (lines.map fun l => sumNat ((List.range bw).map fun x => lumaAt pack (c * bw + x) l))
      hexStr 2 (rdivNat sum (max 1 (bw * bh))))

/-- THUMB (R642): in Sand, of a context in use with a tile store or an export ring; it waits for mover channel 21. -/
def execThumb (s : State) : Out :=
  match s.mon.cmd with
  | some (.thumb c) =>
    let k := s.kiln.ctx[c]
    let first := "thumb " ++ natStr c.val ++ " frame " ++ natStr k.doneCounter.toNat
    .next (if s.dev.mode = .sand ∧ s.kiln.running ∧ s.ctxUsed c then
        if !s.carries 21 then s
        else match s.mov.base (.tile c), s.mov.base (.export_ c) with
        | some b, _ => s.answer (first :: s.thumbLines b (max 1 (k.par 38)) (k.par 37) (k.par 38) (k.par 41))
        | none, some b => s.answer (first :: s.thumbLines b 32 (k.par 37) (k.par 38) (k.par 41))
        | none, none => s.endCmd "?state"
      else s.endCmd "?state")
  | _ => .next s

/-- A maintenance command at the end of its line (R644): ?key, or the wait for SET of 10.0 s from the line terminator. -/
def State.maintenance (s : State) (c : MonCmd) : State :=
  if !s.keyFitted then s.endCmd "?key"
  else
    let s1 := s.say "press SET within 10 s"
    { s1 with mon := { s1.mon with cmd := none, confirm := some (c, s.mon.cmdAt + 10 * tps) } }

/-- CAL (R644). -/
def execCal (s : State) : Out :=
  match s.mon.cmd with
  | some .cal => .next (s.maintenance .cal)
  | _ => .next s

/-- RESTRAP (R644). -/
def execRestrap (s : State) : Out :=
  match s.mon.cmd with
  | some .restrap => .next (s.maintenance .restrap)
  | _ => .next s

/-- PAIR (R644). -/
def execPair (s : State) : Out :=
  match s.mon.cmd with
  | some (.pair p) => .next (s.maintenance (.pair p))
  | _ => .next s

/-- QUAR (R644). -/
def execQuar (s : State) : Out :=
  match s.mon.cmd with
  | some (.quar p) => .next (s.maintenance (.quar p))
  | _ => .next s

/-- READMIT (R644). -/
def execReadmit (s : State) : Out :=
  match s.mon.cmd with
  | some (.readmit p) => .next (s.maintenance (.readmit p))
  | _ => .next s

/-- HANDOVER (R644). -/
def execHandover (s : State) : Out :=
  match s.mon.cmd with
  | some .handover => .next (s.maintenance .handover)
  | _ => .next s

/-- CONFIRM_TIMEOUT (R644). -/
def execConfirmTimeout (s : State) : Out :=
  match s.mon.confirm with
  | none => .next s
  | some (_, t) =>
    occurs (decide (t ≤ s.now)) s (({ s with mon := { s.mon with confirm := none } } : State).endCmd "?timeout")

/-- A confirmed command acts (R218, R511, R532, R535, R567, R646, R647). -/
def State.actOn (s : State) (c : MonCmd) : State :=
  match c with
  | .cal => { (s.beginCal true) with mon := { s.mon with confirmed := none, calWait := true } }
  | .restrap => s.requestRestrap.endCmd "ok"
  | .pair p => (s.openWindow [p]).endCmd "ok"
  | .quar p => (s.updPort p fun q => { q with quarPend := some 8 }).endCmd "ok"
  | .readmit p => (s.readmit p true).endCmd "ok"
  | .handover => (s.beginHandover false).endCmd "ok"
  | _ => s.endCmd "ok"

/-- MONITOR_CONFIRMED (R644 to R647): a SET short has confirmed the command, its preconditions hold, and it acts. -/
def execMonitorConfirmed (s : State) : Out :=
  match s.mon.confirmed with
  | none => .next s
  | some c => .next (s.actOn c)

end Sys2Proof.Machine
end

