-- ==== Sys2Proof/Machine/Dispatch.lean ====
section
/-!
DEFINITION. The effect of each command: one arm for each row of the table of operations and events.
-/
namespace Sys2Proof.Machine

def exec (i : Instr) (s : State) : Host.Outcome State Fault Refusal :=
  match i with
  | .powerOnReset => Sys2Proof.Machine.execPowerOnReset s
  | .resetRelease mainsOk vbatMv => Sys2Proof.Machine.execResetRelease mainsOk vbatMv s
  | .aonIntegrity => Sys2Proof.Machine.execAonIntegrity s
  | .startUpComplete => Sys2Proof.Machine.execStartUpComplete s
  | .mainsLoss => Sys2Proof.Machine.execMainsLoss s
  | .mainsReturn highSamples => Sys2Proof.Machine.execMainsReturn highSamples s
  | .vbatCheck vbatMv => Sys2Proof.Machine.execVbatCheck vbatMv s
  | .fatalFaultBedrockEntry => Sys2Proof.Machine.execFatalFaultBedrockEntry s
  | .fatalFaultInMainsReturn => Sys2Proof.Machine.execFatalFaultInMainsReturn s
  | .coreRestart => Sys2Proof.Machine.execCoreRestart s
  | .romFault => Sys2Proof.Machine.execRomFault s
  | .clockFault => Sys2Proof.Machine.execClockFault s
  | .overtemp dieTemp heldTicks => Sys2Proof.Machine.execOvertemp dieTemp heldTicks s
  | .serdesFault p => Sys2Proof.Machine.execSerdesFault p s
  | .acceptedEventTrigger => Sys2Proof.Machine.execAcceptedEventTrigger s
  | .levelConditionBegins => Sys2Proof.Machine.execLevelConditionBegins s
  | .holdExpiry => Sys2Proof.Machine.execHoldExpiry s
  | .drainEnd => Sys2Proof.Machine.execDrainEnd s
  | .powerDownComplete => Sys2Proof.Machine.execPowerDownComplete s
  | .relayPllStart p => Sys2Proof.Machine.execRelayPllStart p s
  | .relayPllStop => Sys2Proof.Machine.execRelayPllStop s
  | .beadRead => Sys2Proof.Machine.execBeadRead s
  | .beadReadEnd bref beads => Sys2Proof.Machine.execBeadReadEnd bref beads s
  | .strapCompileEnd => Sys2Proof.Machine.execStrapCompileEnd s
  | .beadChangeAtBoundary b part => Sys2Proof.Machine.execBeadChangeAtBoundary b part s
  | .beadReadDeferredRetry => Sys2Proof.Machine.execBeadReadDeferredRetry s
  | .setShort => Sys2Proof.Machine.execSetShort s
  | .doubleTap => Sys2Proof.Machine.execDoubleTap s
  | .setLong => Sys2Proof.Machine.execSetLong s
  | .tripleTap => Sys2Proof.Machine.execTripleTap s
  | .clean => Sys2Proof.Machine.execClean s
  | .unrecognisedGesture => Sys2Proof.Machine.execUnrecognisedGesture s
  | .setStuck => Sys2Proof.Machine.execSetStuck s
  | .setStuckEnd => Sys2Proof.Machine.execSetStuckEnd s
  | .setPress samples => Sys2Proof.Machine.execSetPress samples s
  | .setRelease samples => Sys2Proof.Machine.execSetRelease samples s
  | .sequenceCloseTimeout => Sys2Proof.Machine.execSequenceCloseTimeout s
  | .acknowledgementEnd => Sys2Proof.Machine.execAcknowledgementEnd s
  | .keyChange samples => Sys2Proof.Machine.execKeyChange samples s
  | .supervisionShotDue => Sys2Proof.Machine.execSupervisionShotDue s
  | .supervisionShotComplete bref zones sm => Sys2Proof.Machine.execSupervisionShotComplete bref zones sm s
  | .armed samples => Sys2Proof.Machine.execArmed samples s
  | .wake samples => Sys2Proof.Machine.execWake samples s
  | .silence samples => Sys2Proof.Machine.execSilence samples s
  | .followOutputTimeout o => Sys2Proof.Machine.execFollowOutputTimeout o s
  | .latchCutOff o => Sys2Proof.Machine.execLatchCutOff o s
  | .alarmCurrentLimitRetry o => Sys2Proof.Machine.execAlarmCurrentLimitRetry o s
  | .crystalQualified goodPeriods => Sys2Proof.Machine.execCrystalQualified goodPeriods s
  | .x32Fail cause => Sys2Proof.Machine.execX32Fail cause s
  | .x32Retry => Sys2Proof.Machine.execX32Retry s
  | .trimWindowStart => Sys2Proof.Machine.execTrimWindowStart s
  | .trimWindowEnd period rcPeriod => Sys2Proof.Machine.execTrimWindowEnd period rcPeriod s
  | .xoStart => Sys2Proof.Machine.execXoStart s
  | .xoReady scale => Sys2Proof.Machine.execXoReady scale s
  | .xoStop => Sys2Proof.Machine.execXoStop s
  | .xoFail silentNs => Sys2Proof.Machine.execXoFail silentNs s
  | .xoRestart oscillates => Sys2Proof.Machine.execXoRestart oscillates s
  | .ageingSample src offset valid tempDelta => Sys2Proof.Machine.execAgeingSample src offset valid tempDelta s
  | .dailyPoint => Sys2Proof.Machine.execDailyPoint s
  | .timeBaseUnverified => Sys2Proof.Machine.execTimeBaseUnverified s
  | .refinGateEnd edges => Sys2Proof.Machine.execRefinGateEnd edges s
  | .refinEdgeTimeout => Sys2Proof.Machine.execRefinEdgeTimeout s
  | .refinAdvertised => Sys2Proof.Machine.execRefinAdvertised s
  | .pllStart => Sys2Proof.Machine.execPllStart s
  | .pllLock => Sys2Proof.Machine.execPllLock s
  | .pllNoLock => Sys2Proof.Machine.execPllNoLock s
  | .pllLostLock => Sys2Proof.Machine.execPllLostLock s
  | .refSwitch => Sys2Proof.Machine.execRefSwitch s
  | .phaseFreeXoLoss => Sys2Proof.Machine.execPhaseFreeXoLoss s
  | .pllFractionUpdate => Sys2Proof.Machine.execPllFractionUpdate s
  | .shadowBoundary b => Sys2Proof.Machine.execShadowBoundary b s
  | .coreClockSwitch => Sys2Proof.Machine.execCoreClockSwitch s
  | .fifoFlush x => Sys2Proof.Machine.execFifoFlush x s
  | .keepDomainPowerDown => Sys2Proof.Machine.execKeepDomainPowerDown s
  | .shotPairFire path vdrvMv => Sys2Proof.Machine.execShotPairFire path vdrvMv s
  | .driverCurrentLimitTrip ch => Sys2Proof.Machine.execDriverCurrentLimitTrip ch s
  | .overload g x => Sys2Proof.Machine.execOverload g x s
  | .pairComplete path up down => Sys2Proof.Machine.execPairComplete path up down s
  | .pairLate path => Sys2Proof.Machine.execPairLate path s
  | .stampRegressorRequest job => Sys2Proof.Machine.execStampRegressorRequest job s
  | .stampRegressorGateEnd period => Sys2Proof.Machine.execStampRegressorGateEnd period s
  | .calibrationEnd meanDie => Sys2Proof.Machine.execCalibrationEnd meanDie s
  | .ringShotDue ch mv => Sys2Proof.Machine.execRingShotDue ch mv s
  | .ringShotResult ch m => Sys2Proof.Machine.execRingShotResult ch m s
  | .tallyPairUpdate => Sys2Proof.Machine.execTallyPairUpdate s
  | .pathBlocked path => Sys2Proof.Machine.execPathBlocked path s
  | .harmonicSample path => Sys2Proof.Machine.execHarmonicSample path s
  | .trackerRestart path => Sys2Proof.Machine.execTrackerRestart path s
  | .pathTallyCheckpoint path => Sys2Proof.Machine.execPathTallyCheckpoint path s
  | .deviceTallyCheckpoint => Sys2Proof.Machine.execDeviceTallyCheckpoint s
  | .recordWrite => Sys2Proof.Machine.execRecordWrite s
  | .cleanComplete => Sys2Proof.Machine.execCleanComplete s
  | .refireSession diffs => Sys2Proof.Machine.execRefireSession diffs s
  | .refireDue => Sys2Proof.Machine.execRefireDue s
  | .journalEntryAccept code data => Sys2Proof.Machine.execJournalEntryAccept code data s
  | .journalWrite => Sys2Proof.Machine.execJournalWrite s
  | .journalOverflow => Sys2Proof.Machine.execJournalOverflow s
  | .csi2PacketReceived k pkt => Sys2Proof.Machine.execCsi2PacketReceived k pkt s
  | .camFrameStart k phase => Sys2Proof.Machine.execCamFrameStart k phase s
  | .camFrameEnd k => Sys2Proof.Machine.execCamFrameEnd k s
  | .camFrameStall k => Sys2Proof.Machine.execCamFrameStall k s
  | .cciNackRetry k ack => Sys2Proof.Machine.execCciNackRetry k ack s
  | .cciStuck k freed => Sys2Proof.Machine.execCciStuck k freed s
  | .recipeCacheRead image => Sys2Proof.Machine.execRecipeCacheRead image s
  | .recipePoll image => Sys2Proof.Machine.execRecipePoll image s
  | .replayStart k => Sys2Proof.Machine.execReplayStart k s
  | .powerUpDelayEnd k => Sys2Proof.Machine.execPowerUpDelayEnd k s
  | .recipeWrite k ack => Sys2Proof.Machine.execRecipeWrite k ack s
  | .recipeRmw k old ack => Sys2Proof.Machine.execRecipeRmw k old ack s
  | .recipePollEntry k val ack => Sys2Proof.Machine.execRecipePollEntry k val ack s
  | .recipeDelay k => Sys2Proof.Machine.execRecipeDelay k s
  | .recipeExpmap k => Sys2Proof.Machine.execRecipeExpmap k s
  | .recipeEnd k => Sys2Proof.Machine.execRecipeEnd k s
  | .recipeSkipped k => Sys2Proof.Machine.execRecipeSkipped k s
  | .startTimeout k => Sys2Proof.Machine.execStartTimeout k s
  | .replayFail k => Sys2Proof.Machine.execReplayFail k s
  | .portRestart k => Sys2Proof.Machine.execPortRestart k s
  | .fsyncEdge k => Sys2Proof.Machine.execFsyncEdge k s
  | .frameRateCheck k => Sys2Proof.Machine.execFrameRateCheck k s
  | .exposureBurst k ack => Sys2Proof.Machine.execExposureBurst k ack s
  | .portJoined k => Sys2Proof.Machine.execPortJoined k s
  | .kilnLineSlot => Sys2Proof.Machine.execKilnLineSlot s
  | .kilnStatisticsReady c => Sys2Proof.Machine.execKilnStatisticsReady c s
  | .aeUpdate c => Sys2Proof.Machine.execAeUpdate c s
  | .awbUpdate c => Sys2Proof.Machine.execAwbUpdate c s
  | .nightMode c => Sys2Proof.Machine.execNightMode c s
  | .kilnOverrun c => Sys2Proof.Machine.execKilnOverrun c s
  | .kilnParity c slot => Sys2Proof.Machine.execKilnParity c slot s
  | .kilnHang => Sys2Proof.Machine.execKilnHang s
  | .moverProgramLoad ch prog => Sys2Proof.Machine.execMoverProgramLoad ch prog s
  | .arbiterGrant => Sys2Proof.Machine.execArbiterGrant s
  | .moverEnd ch accepted => Sys2Proof.Machine.execMoverEnd ch accepted s
  | .moverMove ch => Sys2Proof.Machine.execMoverMove ch s
  | .moverLoop ch => Sys2Proof.Machine.execMoverLoop ch s
  | .moverWait ch => Sys2Proof.Machine.execMoverWait ch s
  | .moverWaitTimeout ch => Sys2Proof.Machine.execMoverWaitTimeout ch s
  | .moverSignal ch => Sys2Proof.Machine.execMoverSignal ch s
  | .moverFill ch => Sys2Proof.Machine.execMoverFill ch s
  | .moverCompare ch => Sys2Proof.Machine.execMoverCompare ch s
  | .moverCrc ch => Sys2Proof.Machine.execMoverCrc ch s
  | .moverSet ch => Sys2Proof.Machine.execMoverSet ch s
  | .readbackTimeout ch => Sys2Proof.Machine.execReadbackTimeout ch s
  | .moverFault ch cause write addr => Sys2Proof.Machine.execMoverFault ch cause write addr s
  | .moverRecovered => Sys2Proof.Machine.execMoverRecovered s
  | .channel31Fault => Sys2Proof.Machine.execChannel31Fault s
  | .scrubJob => Sys2Proof.Machine.execScrubJob s
  | .channelStopRequest ch => Sys2Proof.Machine.execChannelStopRequest ch s
  | .sandEntryAllocation => Sys2Proof.Machine.execSandEntryAllocation s
  | .outputFrameStart => Sys2Proof.Machine.execOutputFrameStart s
  | .headUnderrun vc => Sys2Proof.Machine.execHeadUnderrun vc s
  | .eventRecordQueue => Sys2Proof.Machine.execEventRecordQueue s
  | .tallySnapshot => Sys2Proof.Machine.execTallySnapshot s
  | .tileHoldTimeout k => Sys2Proof.Machine.execTileHoldTimeout k s
  | .tileImageOutput => Sys2Proof.Machine.execTileImageOutput s
  | .linkTraining p partnerRole => Sys2Proof.Machine.execLinkTraining p partnerRole s
  | .trainingTimeout p signal => Sys2Proof.Machine.execTrainingTimeout p signal s
  | .retrainTimer p signal => Sys2Proof.Machine.execRetrainTimer p signal s
  | .linkDown p cause => Sys2Proof.Machine.execLinkDown p cause s
  | .ember p => Sys2Proof.Machine.execEmber p s
  | .emberPulse p received => Sys2Proof.Machine.execEmberPulse p received s
  | .emberPulseTimeout p => Sys2Proof.Machine.execEmberPulseTimeout p s
  | .wakeTone p => Sys2Proof.Machine.execWakeTone p s
  | .frameReceived p f => Sys2Proof.Machine.execFrameReceived p f s
  | .creditReturn p cls count => Sys2Proof.Machine.execCreditReturn p cls count s
  | .creditStall p => Sys2Proof.Machine.execCreditStall p s
  | .tileWaitDiscard p => Sys2Proof.Machine.execTileWaitDiscard p s
  | .beaconSend p => Sys2Proof.Machine.execBeaconSend p s
  | .address => Sys2Proof.Machine.execAddress s
  | .addressConflict => Sys2Proof.Machine.execAddressConflict s
  | .linkstateOrigination => Sys2Proof.Machine.execLinkstateOrigination s
  | .linkstateReceived => Sys2Proof.Machine.execLinkstateReceived s
  | .linkstateAgeOut => Sys2Proof.Machine.execLinkstateAgeOut s
  | .route => Sys2Proof.Machine.execRoute s
  | .tallyFrameSend => Sys2Proof.Machine.execTallyFrameSend s
  | .tileExport c => Sys2Proof.Machine.execTileExport c s
  | .timeExchangeStart phase => Sys2Proof.Machine.execTimeExchangeStart phase s
  | .timeRequestReceived t2phase t3phase => Sys2Proof.Machine.execTimeRequestReceived t2phase t3phase s
  | .timeResponseReceived t4phase => Sys2Proof.Machine.execTimeResponseReceived t4phase s
  | .timeExchangeTimeout => Sys2Proof.Machine.execTimeExchangeTimeout s
  | .holdover => Sys2Proof.Machine.execHoldover s
  | .offerSend p => Sys2Proof.Machine.execOfferSend p s
  | .offerReceived p => Sys2Proof.Machine.execOfferReceived p s
  | .confirmReceived p => Sys2Proof.Machine.execConfirmReceived p s
  | .paired p => Sys2Proof.Machine.execPaired p s
  | .pairWindowEnd => Sys2Proof.Machine.execPairWindowEnd s
  | .noiseFault pass => Sys2Proof.Machine.execNoiseFault pass s
  | .helloSend p => Sys2Proof.Machine.execHelloSend p s
  | .helloReceived p => Sys2Proof.Machine.execHelloReceived p s
  | .sessionSetupTimeout p => Sys2Proof.Machine.execSessionSetupTimeout p s
  | .keyMismatch p => Sys2Proof.Machine.execKeyMismatch p s
  | .keyMismatchRetry p => Sys2Proof.Machine.execKeyMismatchRetry p s
  | .rekey p => Sys2Proof.Machine.execRekey p s
  | .errorIntervalEnd p => Sys2Proof.Machine.execErrorIntervalEnd p s
  | .quarantine p => Sys2Proof.Machine.execQuarantine p s
  | .quarantineEnd p => Sys2Proof.Machine.execQuarantineEnd p s
  | .qReset p => Sys2Proof.Machine.execQReset p s
  | .probationCleanEnd p => Sys2Proof.Machine.execProbationCleanEnd p s
  | .testFrameSend p => Sys2Proof.Machine.execTestFrameSend p s
  | .probationAdmitted p => Sys2Proof.Machine.execProbationAdmitted p s
  | .probationTimeout p => Sys2Proof.Machine.execProbationTimeout p s
  | .penaltyEnd p => Sys2Proof.Machine.execPenaltyEnd p s
  | .leaseOutToggle => Sys2Proof.Machine.execLeaseOutToggle s
  | .leaseInEdge => Sys2Proof.Machine.execLeaseInEdge s
  | .leaseTake => Sys2Proof.Machine.execLeaseTake s
  | .leaseYield => Sys2Proof.Machine.execLeaseYield s
  | .mirrorFrameReceived => Sys2Proof.Machine.execMirrorFrameReceived s
  | .mirrorStateSend => Sys2Proof.Machine.execMirrorStateSend s
  | .mirrorRetransmit => Sys2Proof.Machine.execMirrorRetransmit s
  | .mirrorAckTimer => Sys2Proof.Machine.execMirrorAckTimer s
  | .mirrorResync => Sys2Proof.Machine.execMirrorResync s
  | .handoverPrepare => Sys2Proof.Machine.execHandoverPrepare s
  | .handoverTaken => Sys2Proof.Machine.execHandoverTaken s
  | .handoverAbort => Sys2Proof.Machine.execHandoverAbort s
  | .leaseWireFault => Sys2Proof.Machine.execLeaseWireFault s
  | .split => Sys2Proof.Machine.execSplit s
  | .takeInhibitClear => Sys2Proof.Machine.execTakeInhibitClear s
  | .monitorEnable => Sys2Proof.Machine.execMonitorEnable s
  | .monitorCharacter c framingOk => Sys2Proof.Machine.execMonitorCharacter c framingOk s
  | .help => Sys2Proof.Machine.execHelp s
  | .par => Sys2Proof.Machine.execPar s
  | .beads => Sys2Proof.Machine.execBeads s
  | .tally => Sys2Proof.Machine.execTally s
  | .jour => Sys2Proof.Machine.execJour s
  | .path => Sys2Proof.Machine.execPath s
  | .cam => Sys2Proof.Machine.execCam s
  | .kiln => Sys2Proof.Machine.execKiln s
  | .mover => Sys2Proof.Machine.execMover s
  | .pool => Sys2Proof.Machine.execPool s
  | .routeCmd => Sys2Proof.Machine.execRouteCmd s
  | .link => Sys2Proof.Machine.execLink s
  | .clock => Sys2Proof.Machine.execClock s
  | .twin => Sys2Proof.Machine.execTwin s
  | .thumb => Sys2Proof.Machine.execThumb s
  | .cal => Sys2Proof.Machine.execCal s
  | .restrap => Sys2Proof.Machine.execRestrap s
  | .pair => Sys2Proof.Machine.execPair s
  | .quar => Sys2Proof.Machine.execQuar s
  | .readmit => Sys2Proof.Machine.execReadmit s
  | .handover => Sys2Proof.Machine.execHandover s
  | .confirmTimeout => Sys2Proof.Machine.execConfirmTimeout s
  | .monitorConfirmed => Sys2Proof.Machine.execMonitorConfirmed s
  | .wakenDeasserted samples => Sys2Proof.Machine.execWakenDeasserted samples s
  | .silencenDeasserted samples => Sys2Proof.Machine.execSilencenDeasserted samples s
  | .wakeToneRepeat p => Sys2Proof.Machine.execWakeToneRepeat p s
  | .confirmSend p => Sys2Proof.Machine.execConfirmSend p s
  | .committedSend p => Sys2Proof.Machine.execCommittedSend p s
  | .storeScanEnd => Sys2Proof.Machine.execStoreScanEnd s
  | .romCheckPassed => Sys2Proof.Machine.execRomCheckPassed s
  | .ledaCodeWindowEnd => Sys2Proof.Machine.execLedaCodeWindowEnd s

end Sys2Proof.Machine
end

