-- ==== Sys2Proof/Machine/Tick.lean ====
section
/-!
DEFINITION. What one raw AON tick does when no command waits: the calendar (R132), the hold timer (R29, R30), mode times
(R230), fabric time (R498, R501), programme times (R213), the charge counter (R251), the alarm shadow (R560), and the marks that later steps read.
-/
namespace Sys2Proof.Machine

/-- Calendar ticks of one raw tick: 1, with one added or dropped where the trim has gathered a whole tick (R132). -/
def Clk.calStep (c : Clk) : Nat × Int :=
  let a := c.trimAcc + c.trim
  if 1000000000 ≤ a then (2, a - 1000000000)
  else if a ≤ -1000000000 then (0, a + 1000000000)
  else (1, a)

/-- The clocks after one raw tick. -/
def Clk.advance (c : Clk) : Clk :=
  let n := c.calTick.toNat + c.calStep.1
  { c with
    tick := c.tick + 1, trimAcc := c.calStep.2
    sec := if 32768 ≤ n then c.sec + 1 else c.sec, calTick := BitVec.ofNat 15 n }

/-- The place of a mode among the mode times (R230). -/
def Mode.timeIdx : Mode → Option (Fin 4)
  | .startup => none
  | .loam => some 0
  | .sand => some 1
  | .bedBattery => some 2
  | .bedFault => some 3

/-- The time spent in the present mode, in calendar ticks (R230). -/
def State.countMode (s : State) (n : Nat) : State :=
  match s.dev.mode.timeIdx with
  | some i => { s with dev := { s.dev with modeTicks := s.dev.modeTicks.set i (s.dev.modeTicks[i] + n) } }
  | none => s

/-- The hold timer on a tick (R29, R30): in Sand reloaded while a level condition holds; else counted in steps of 1/32 s, also
one loaded during start-up (R584). -/
def State.tickHold (s : State) : State :=
  if s.dev.mode = .sand ∧ s.levelHolds then s.loadHold
  else if (s.dev.mode = .sand ∨ s.dev.mode = .startup) ∧ s.now % 1024 = 0 then
    { s with dev := { s.dev with hold := s.dev.hold - 1 } }
  else s

/-- The fabric time counter on a tick (R498, R501): one nominal tick, the rate, and the share of the slew. -/
def Fab.tickTime (f : Fab) : Fab :=
  if f.timeRun then
    let share : Int := if f.slewTicks = 0 then 0 else f.slew.tdiv f.slewTicks
    let t : Int := (f.time : Int) + 2000000000 + rdiv f.rate 32768 + share
    { f with time := (t % (2 ^ 80 : Nat)).toNat, slew := f.slew - share, slewTicks := f.slewTicks - 1 }
  else f

/-- Programme times that fall due (R213); a unit that does not drive passes over them. -/
def State.tickPaths (s : State) : State :=
  if s.tr.sounding then
    { s with tr := { s.tr with path := Vector.ofFn fun (p : PathNo) =>
        let q := (s.tr.path[p]).takeDue s.now
        if s.drives then q else { q with waiting := none } } }
  else s

/-- A latch remainder of the shadow counted down; an output whose remainder ends is inactive (R560). -/
def Shadow.tick (sh : Shadow) : Shadow :=
  { sh with
    latch := Vector.ofFn fun (o : AlmOut) => (sh.latch[o]).map fun t => t - 1
    out := Vector.ofFn fun (o : AlmOut) => sh.out[o] && (sh.latch[o] != some 1) }

/-- A port is ACTIVE or TRAINING. -/
def FPort.busy (q : FPort) : Bool := decide (q.link = LinkState.active) || decide (q.link = LinkState.training)

/-- The latest tick with a port ACTIVE or TRAINING (R20). -/
def State.tickPorts (s : State) : State :=
  let l := allPorts.map fun (p : FabPort) => (s.fab.port[p]).busy
  if l.contains true then
    { s with dev := { s.dev with portsBusyAt := s.now } }
  else s

/-- The transmit FIFO of an ACTIVE port empties onto the link: its 64 words take 4 µs (Table 4.7). -/
def State.tickTx (s : State) : State :=
  { s with fab := { s.fab with port := Vector.ofFn fun (p : FabPort) =>
      let q := s.fab.port[p]
      if q.link = .active then { q with txFifo := [] } else q } }

/-- Since when the kiln has had a context ready without a slot (R371). -/
def State.tickKiln (s : State) : State :=
  let ready := s.kilnOn && (allCtx.any s.ctxReady)
  { s with kiln := { s.kiln with readySince := if ready then some (s.kiln.readySince.getD s.now) else none } }

/-- Characters of a line on MON_TX: CR LF follow every line but the prompt (R637). -/
def lineChars (l : String) : Nat := if l = prompt then l.length else l.length + 2

/-- The monitor's transmitter on a tick: 10 bits a character at the speed of bead 39 (R633, R634). -/
def State.tickMonitor (s : State) : State :=
  let m := s.mon
  match m.out with
  | [] =>
    let idle := m.cmd.isNone && m.confirm.isNone && m.confirmed.isNone && !m.follow && !m.calWait
    { s with mon := { m with txAcc := 0, busy := m.busy && !idle } }
  | l :: rest =>
    let acc := m.txAcc + (if s.eff 39 1 % 2 = 0 then 115200 else 921600)
    let cost := lineChars l * 327680
    if cost ≤ acc then { s with mon := { m with out := rest, sent := l :: m.sent, txAcc := acc - cost } }
    else { s with mon := { m with txAcc := acc } }

/-- Parameters and buffers brought up to date after a port has left the recipe that it kept (R302, R403). -/
def State.tickSync (s : State) : State :=
  if s.mov.syncDue then
    let s1 : State := { s with mov := { s.mov with syncDue := false } }
    if s.kiln.running then (s1.armKiln).syncBufs else s1
  else s

/-- Output cycles in one raw tick of 1/32,768 s at 5.000 GHz / D (R157). -/
def PllSetting.cycles (x : PllSetting) : Nat := 9765625 / (64 * x.n + x.k)

/-- A running output on a tick: its interpolator advances by k on each cycle (R157), its edge moves one step a cycle toward its fine
delay (R164). -/
def PllOutput.tick (o : PllOutput) : PllOutput :=
  if o.now.enable then
    let n := o.now.cycles
    let d := o.now.delay.toNat
    let p := o.pos.toNat
    { o with
      phase := BitVec.ofNat 6 (o.phase.toNat + o.now.k * n)
      pos := BitVec.ofNat 12 (if p ≤ d then min d (p + n) else max d (p - n)) }
  else o

/-- The PLL on a tick: a locked PLL's modulator accumulates its fraction on each reference cycle, 24 MHz and 31.25 MHz and 10 MHz
having 732, 953 and 305 whole cycles in a tick (R150, R162); a loss of the selected reference is noticed (R155, R655). -/
def State.tickPll (s : State) : State :=
  if s.clk.pll = .off then s
  else
    let n := s.clk.pllRef.detectorKhz * 1000 / 32768
    ({ s with clk := { s.clk with
        pllAcc := s.clk.pllAcc + BitVec.ofNat 24 (n * s.clk.pllFrac)
        pllOut := Vector.ofFn fun o => (s.clk.pllOut[o]).tick } } : State).watchRef

/-- The fabric-time gates (R139): one begins when the device locks to fabric time with REFIN absent; a loss of lock or REFIN ends it. -/
def State.tickGate (s : State) : State :=
  { s with clk := { s.clk with
      fabGate := if s.fabricLocked && !s.clk.refinPresent then some (s.clk.fabGate.getD s.fab.time) else none } }

/-- The AON charge counter takes the modulator's output of this tick (R251): one count up or down. -/
def State.tickCharge (s : State) : State :=
  { s with tal := { s.tal with charge := if Config.shunt s.now then s.tal.charge + 1 else s.tal.charge - 1 } }

/-- In Bedrock on battery the intervals that end give no sample (R237). -/
def State.tickSamples (s : State) : State :=
  if s.dev.mode = .bedBattery then
    { s with tal := { s.tal with path := Vector.ofFn fun (p : PathNo) =>
        let t := s.tal.path[p]
        if t.ivNext < s.intervalNow p then t.fromInterval (s.intervalNow p) else t } }
  else s

/-- A low MAINS_OK sample that waits for the evaluation of the next tick (R26). -/
def State.tickMains (s : State) : State := if s.dev.mainsLow then s.loseMains else s

/-- The block with one more raw AON tick; nothing runs while it is held in its power-on reset (R577). -/
def State.tickOnce (s : State) : State :=
  if !s.dev.released then s
  else
    let n := s.clk.calStep.1
    let s1 : State := { s with clk := s.clk.advance, fab := s.fab.tickTime, twin := { s.twin with shadow := s.twin.shadow.tick } }
    let s2 := ((s1.countMode n).tickHold).tickPaths
    let s3 := ((s2.tickPorts).tickSync).tickKiln
    let s4 := if s3.fab.parked.isEmpty then s3 else s3.unpark
    (((((((s4.tickTx).tickPll).tickGate).tickCharge).tickSamples).markClockBad).tickMonitor).tickMains

end Sys2Proof.Machine
end

