-- ==== Sys2Proof/Safety.lean ====
section
/-!
DEFINITION. What a safe state and a safe run are, and what a command leaves unchanged, in the terms the claims use.
-/
namespace Sys2Proof.Machine

/-- The tally store and the clay pool are in canonical form. -/
def State.memoriesWf (s : State) : Bool := Memory.wf s.tal.store && Memory.wf s.mov.pool

/-- A step that stops nothing. -/
def State.goesOn (s : State) : Prop := ∃ t, step s = .next t

/-- The parts of the state that a frame names. The tally engine is seen in six parts, the movers in two: the contents of the
pool and the rest. -/
inductive Part where
  | device | beads | wiring | clocks | sounding
  | pathTallies | deviceTallies | journal | writes | store | tallyRest
  | cameras | recipes | kiln | pool | movers | head
  | fabric | twin | monitor | draws | pending
  deriving DecidableEq, Repr

/-- The fields of the tally engine that no other part names. -/
def Tal.restSame (a b : Tal) : Prop :=
  b.accChg = a.accChg ∧ b.accChgRev = a.accChgRev ∧ b.charge = a.charge ∧ b.baseChg = a.baseChg ∧ b.baseZone = a.baseZone ∧
  b.openings = a.openings ∧ b.powerUps = a.powerUps ∧ b.cleans = a.cleans ∧ b.cleaning = a.cleaning ∧
  b.resumed = a.resumed ∧ b.refireOn = a.refireOn ∧ b.refireBlock = a.refireBlock ∧ b.refireDay = a.refireDay ∧
  b.refireEpoch = a.refireEpoch ∧ b.refireEver = a.refireEver ∧ b.refireFrom = a.refireFrom ∧ b.refireDueCal = a.refireDueCal ∧
  b.refireNext = a.refireNext ∧ b.lastBreach = a.lastBreach ∧ b.scanned = a.scanned

/-- The fields of the movers beside the contents of the pool. -/
def Mov.restSame (a b : Mov) : Prop :=
  b.chan = a.chan ∧ b.prog = a.prog ∧ b.queue = a.queue ∧ b.served = a.served ∧ b.since31 = a.since31 ∧
  b.granted = a.granted ∧ b.owner = a.owner ∧ b.ecc = a.ecc ∧ b.bufs = a.bufs ∧ b.jobs = a.jobs ∧
  b.syncDue = a.syncDue ∧ b.faultAt = a.faultAt ∧ b.fault31At = a.fault31At

/-- A part is the same in two states. -/
def Part.same (q : Part) (s t : State) : Prop :=
  match q with
  | .device => t.dev = s.dev
  | .beads => t.bead = s.bead
  | .wiring => t.loc = s.loc
  | .clocks => t.clk = s.clk
  | .sounding => t.tr = s.tr
  | .pathTallies => t.tal.path = s.tal.path
  | .deviceTallies => t.tal.dev = s.tal.dev ∧ t.tal.devDirty = s.tal.devDirty ∧ t.tal.devWrittenAt = s.tal.devWrittenAt
  | .journal => t.tal.jNext = s.tal.jNext ∧ t.tal.jQueue = s.tal.jQueue ∧ t.tal.jDropped = s.tal.jDropped
  | .writes => t.tal.writes = s.tal.writes
  | .store => t.tal.store = s.tal.store
  | .tallyRest => s.tal.restSame t.tal
  | .cameras => t.cam = s.cam
  | .recipes => t.rcp = s.rcp
  | .kiln => t.kiln = s.kiln
  | .pool => t.mov.pool = s.mov.pool
  | .movers => s.mov.restSame t.mov
  | .head => t.head = s.head
  | .fabric => t.fab = s.fab
  | .twin => t.twin = s.twin
  | .monitor => t.mon = s.mon
  | .draws => t.draws = s.draws
  | .pending => t.pending = s.pending

/-- Nothing but the parts listed differs between two states. -/
def ChangesOnly (ps : List Part) (s t : State) : Prop := ∀ q : Part, q ∉ ps → q.same s t

/-- The parts that journalling an entry can change (R275, R276, R562): the journal port and the tally of dropped entries; with
a twin role also the JOURNAL frame on the mirror. -/
def State.journalling (s : State) : List Part :=
  if s.trole = .none then [.journal, .deviceTallies] else [.journal, .deviceTallies, .fabric, .twin]

/-- The journal port takes an entry with this code now (R275 to R277): its level is written and the port has room. -/
def State.takesEntry (s : State) (code : Nat) : Prop :=
  s.tal.jQueue.length < 33 ∧ ∃ l, jLevel (BitVec.ofNat 8 code) = some l ∧ l ≤ s.verbosity

/-- Between two states exactly one entry is journalled, with a code and data, under the next entry number (R274, R276). -/
def LogsEntry (s t : State) (code data : Nat) : Prop :=
  t.tal.jNext = nextEntryNum s.tal.jNext ∧
  ∃ e : JEntry, t.tal.jQueue = s.tal.jQueue ++ [e] ∧ e.num = s.tal.jNext ∧ e.code = BitVec.ofNat 8 code ∧
    e.data = BitVec.ofNat 16 data

end Sys2Proof.Machine
end

