-- ==== Sys2Proof/Certificates/Slice0/Obligations.lean ====
section
/-!
DEFINITION. The obligations: what the provers are to prove of the model, one proposition each. Where a clause rests on a
choice of the model, its docstring names the log entry.
-/
section
open Sys2Proof Sys2Proof.Machine

/-- A step runs the command at the front of the queue with the rest of the queue. -/
def Obligations.StepRunsFront : Prop :=
  ∀ (s : State) (c : Instr) (rest : List Instr), s.pending = c :: rest → step s = exec c { s with pending := rest }

/-- A step with no command waiting is one raw AON tick: the model's choice (log entry 1). That a low MAINS_OK sample waits for a tick
and that the transmit FIFO empties in one are its choices too (log entries 116, 129). -/
def Obligations.IdleTick : Prop :=
  (∀ s : State, s.pending = [] → s.dev.released = false → step s = .next s) ∧
  (∀ s : State, s.pending = [] → s.dev.released = true → s.dev.mainsLow = true → ∃ t, step s = .next t ∧
    t.clk.tick = s.clk.tick + 1 ∧ t.pending = [] ∧ t.dev.mode = .bedBattery ∧ t.dev.mainsLow = false ∧
    t.dev.mainsOk = false) ∧
  (∀ s : State, s.pending = [] → s.dev.released = true → s.dev.mainsLow = false → ∃ t, step s = .next t ∧
    t.clk.tick = s.clk.tick + 1 ∧ t.pending = [] ∧ t.dev.mode = s.dev.mode ∧ t.tal.store = s.tal.store ∧
    t.tal.writes = s.tal.writes ∧
    t.tal.charge = (if Config.shunt (s.clk.tick + 1) then s.tal.charge + 1 else s.tal.charge - 1) ∧
    (s.dev.mode ≠ .bedBattery → t.tal.path = s.tal.path) ∧
    (s.mov.syncDue = false → s.dev.mode ≠ .bedBattery → t.tal = { s.tal with charge := t.tal.charge }) ∧
    (s.mov.syncDue = false → s.dev.mode ≠ .sand → t.bead = s.bead) ∧
    (∀ p : FabPort, (s.fab.port[p]).link = .active → s.fab.parked = [] → (t.fab.port[p]).txFifo = []) ∧
    (s.fab.timeRun = true → s.fab.slewTicks = 0 →
      (t.fab.time : Int) = ((s.fab.time : Int) + 2000000000 + rdiv s.fab.rate 32768) % 2 ^ 80) ∧
    (s.fab.timeRun = false → t.fab.time = s.fab.time) ∧
    (s.clk.trim = 0 → s.clk.trimAcc = 0 → s.clk.calTick.toNat = 32767 → t.clk.sec = s.clk.sec + 1 ∧ t.clk.calTick = 0) ∧
    (s.clk.trim = 0 → s.clk.trimAcc = 0 → s.clk.calTick.toNat < 32767 →
      t.clk.sec = s.clk.sec ∧ t.clk.calTick = s.clk.calTick + 1))

/-- Every command with well-formed operands answers a next state; every other one is refused as ill-formed. -/
def Obligations.OnlyIllFormedStops : Prop :=
  ∀ (c : Instr) (s : State),
    (c.wellFormed = true → ∃ t, exec c s = .next t) ∧ (c.wellFormed = false → exec c s = .refused .illFormed)

/-- No command touches the queue of waiting commands. -/
def Obligations.QueueKept : Prop :=
  ∀ (c : Instr) (s t : State), exec c s = .next t → t.pending = s.pending

/-- The power-on reset (§16.5; R649, Table 16.4): each entry of the parameter table for which Table 16.4 gives a value after
reset reads that value, each bead word carries the bead's open default, and the tally store and the clay pool are in
canonical form. What those two memories hold before anything is written is the model's choice (log entry 6). -/
def Obligations.ResetValues : Prop :=
  State.reset.memoriesWf = true ∧
  (∀ i ∈ ([0x05, 0x06, 0x09, 0x0D, 0x14, 0x15, 0x16, 0x17, 0x18, 0x19, 0x1A, 0x1B, 0x1D, 0x1E] ++
    [0x1F, 0x34, 0x35, 0x36, 0x37, 0x39, 0x3A, 0x3B, 0x3C, 0x3D, 0x3E, 0x3F, 0x45, 0x46] ++
    [0x48, 0x49, 0x4A, 0x4B, 0x4C, 0x4D, 0x4E, 0x4F, 0x55, 0x56, 0x60, 0x61, 0x62, 0x68] ++
    [0x69, 0x6A, 0x6B, 0x6C, 0x6D, 0x6E, 0x6F, 0x71, 0x72, 0x73, 0x74, 0x75, 0x76, 0x77] ++
    [0x78, 0x7A, 0x7C, 0x7D, 0x7E] : List Nat),
    State.reset.params[i]?.map Prod.snd = some 0) ∧
  (∀ e ∈ ([(0x0E, 3), (0x1C, 3), (0x54, 0xFFFF), (0x7B, 3)] : List (Nat × Nat)),
    State.reset.params[e.1]?.map Prod.snd = some e.2) ∧
  (∀ e ∈ ([(0x04, 0), (0x07, 0), (0x08, 5), (0x0A, 6), (0x0B, 0), (0x10, 0), (0x11, 3), (0x12, 0), (0x13, 0), (0x20, 0), (0x21, 0), (0x22, 0), (0x23, 0), (0x24, 0)] ++
    [(0x25, 0), (0x26, 0), (0x27, 0), (0x28, 0), (0x29, 0), (0x2A, 0), (0x2B, 0), (0x2C, 0), (0x2D, 0), (0x2E, 5), (0x2F, 0), (0x30, 0), (0x31, 8), (0x32, 0)] ++
    [(0x33, 6), (0x40, 0), (0x41, 0), (0x42, 2), (0x43, 4), (0x50, 3), (0x51, 0), (0x52, 14), (0x53, 2)] : List (Nat × Nat)),
    (State.reset.params[e.1]?.map fun q => q.2 % 16) = some e.2)

/-- Every step keeps the tally store and the clay pool in canonical form. -/
def Obligations.MemoriesKept : Prop :=
  ∀ s t : State, s.memoriesWf = true → step s = .next t → t.memoriesWf = true

/-- The power-on reset, its release and the AON integrity reset (§14.1; R577 to R580, R585). In part this rests on
readings and choices of the model: log entries 4, 17. -/
def Obligations.ResetAndRelease : Prop :=
  (∀ s : State, s.tal.writes = [] → s.tal.jQueue = [] →
    exec .powerOnReset s = .next { State.reset with
      tal := { State.reset.tal with store := s.tal.store }, draws := s.draws, pending := s.pending }) ∧
  (∀ s : State, ∃ t, exec .powerOnReset s = .next t ∧
    t = { State.reset with
      tal := { State.reset.tal with store := t.tal.store }, draws := t.draws, pending := s.pending }) ∧
  (∀ s : State, s.dev.released = true → ∃ t, exec .aonIntegrity s = .next t ∧
    t = { State.reset with
      tal := { State.reset.tal with store := t.tal.store }, draws := t.draws, pending := s.pending }) ∧
  (∀ (s : State) (mv : Nat), s.dev.released = false → ∃ t, exec (.resetRelease true mv) s = .next t ∧
    t.dev.released = true ∧ t.dev.mainsOk = true ∧ t.dev.mode = s.dev.mode ∧ t.dev.start = some .powerUp ∧
    t.dev.core = .romCheck ∧ t.dev.keepOn = true ∧ t.dev.vbatMv = mv ∧ t.dev.nextVbat = s.now + 64 * 32768 ∧
    t.bead.req = some .powerUp ∧ t.tal.scanned = true ∧
    ChangesOnly [.device, .beads, .clocks, .sounding, .pathTallies, .deviceTallies, .journal, .store, .tallyRest, .head,
      .fabric, .twin, .monitor] s t) ∧
  (∀ (s : State) (mv : Nat), s.dev.released = false → ∃ t, exec (.resetRelease false mv) s = .next t ∧
    t.dev.released = true ∧ t.dev.mainsOk = false ∧ t.dev.mode = .bedBattery ∧ t.dev.start = some .powerUp ∧
    t.dev.vbatMv = mv ∧ t.dev.hold = 0 ∧ t.bead.req = some .powerUp ∧ t.tal.scanned = true ∧
    t.cam = s.cam ∧ t.kiln = s.kiln ∧ t.mov = s.mov ∧ t.mon = s.mon ∧ t.pending = s.pending)

/-- Mains return and loss, the VBAT check, the end of the LEDA window and of the keep domain (§14.2, §14.3; R10, R172, R588 to R591,
R595). A mains loss on the tick of a trigger that has already led to Sand is decided on the next tick: the model's choice (log entry
116). -/
def Obligations.SuppliesAndKeepDomain : Prop :=
  (∀ (s : State) (n : Nat), s.dev.released = true → s.dev.mainsOk = false → 3277 ≤ n →
    ∃ t, exec (.mainsReturn n) s = .next t ∧
      t.dev.mainsOk = true ∧ t.dev.mode = s.dev.mode ∧ t.dev.start = some .mainsReturn ∧ t.dev.core = .romCheck ∧
      t.dev.keepOn = true ∧ t.bead.req = some .mainsReturn ∧ t.fab.timeRun = true ∧
      ChangesOnly [.device, .beads, .clocks, .deviceTallies, .journal, .head, .fabric, .twin, .monitor] s t) ∧
  (∀ s : State, s.dev.released = true → s.dev.mainsOk = true → s.dev.evalAt = some s.now → s.dev.mode = .sand →
    exec .mainsLoss s = .next { s with dev := { s.dev with mainsLow := true } }) ∧
  (∀ s : State, s.dev.released = true → s.dev.mainsOk = true → ¬ (s.dev.evalAt = some s.now ∧ s.dev.mode = .sand) →
    ∃ t, exec .mainsLoss s = .next t ∧
      t.dev.mainsOk = false ∧ t.dev.mode = .bedBattery ∧ t.dev.core = .off ∧ t.clk.pll = .off ∧ t.clk.coreOnPll = false ∧
      (∀ k : CamPort, (t.cam[k]).state = .off) ∧ (∀ p : FabPort, (t.fab.port[p]).link = .off) ∧
      t.kiln.running = false ∧ t.mov.pool = [] ∧ t.head.on = false ∧ t.head.records = [] ∧ t.mon.enabled = false ∧
      t.clk.pllNoLock = false ∧ t.pending = s.pending ∧ t.draws = s.draws) ∧
  (∀ (s : State) (mv : Nat), s.dev.released = true → s.dev.nextVbat ≤ s.now → ∃ t, exec (.vbatCheck mv) s = .next t ∧
      t.dev.vbatMv = mv ∧ t.dev.nextVbat = s.dev.nextVbat + 64 * 32768 ∧
      t.dev.vbatLow = (if s.dev.vbatLow then decide (mv ≤ 2600) else decide (mv < 2500)) ∧
      (t.dev.vbatLow ≠ s.dev.vbatLow → s.takesEntry 0xA4 → LogsEntry s t 0xA4 (if t.dev.vbatLow then 1 else 0)) ∧
      ChangesOnly (.device :: s.journalling) s t) ∧
  (∀ s : State, s.loc.ledaWindow = true → s.loc.setAssertedAt + 30 * 32768 ≤ s.now →
    exec .ledaCodeWindowEnd s = .next { s with loc := { s.loc with ledaWindow := false } }) ∧
  (∀ s : State, s.dev.keepOn = true → s.dev.mode = .bedBattery → s.dev.mainsOk = false → s.needXo = false →
    s.tr.regJob = none → s.bead.phase = .idle →
    exec .keepDomainPowerDown s = .next { s with
      dev := { s.dev with keepOn := false }
      clk := { s.clk with xoRun := false, xoReady := false }
      tr := { s.tr with regQueue := [] } }) ∧
  (∀ s : State, (s.loc.supRun ≠ none ∨ s.tr.busy[(0 : Fin 2)] ≠ none ∨ s.tr.busy[(1 : Fin 2)] ≠ none ∨
      (∃ c : Chan, (s.tr.chan[c]).ringBusy = true) ∨ s.tr.handed ≠ [] ∨ s.tal.writes ≠ [] ∨ s.tal.jQueue ≠ [] ∨
      s.tr.regJob ≠ none ∨ s.bead.phase ≠ .idle) → exec .keepDomainPowerDown s = .next s)

/-- The steps of a start-up and its end (§14.1; R581, R584, R597, R264, R269). -/
def Obligations.StartUpSteps : Prop :=
  (∀ s : State, s.tal.scanned = true → s.dev.scanDone = false → ∃ t, exec .storeScanEnd s = .next t ∧
      t.dev.scanDone = true ∧
      (s.tal.refireEver = false → t.tal.refireDueCal = s.calTicks + 3600 * 32768) ∧
      (∃ w ∈ t.tal.writes, w.id = .record .device) ∧
      ChangesOnly ([.device, .writes, .tallyRest] ++ s.journalling) s t) ∧
  (∀ s : State, s.dev.core = .romCheck → s.clk.xoReady = true → ∃ t, exec .romCheckPassed s = .next t ∧
      t.dev.core = .running ∧ t.dev.romOk = true ∧
      (s.bead.phase = .idle → s.dev.readDone = true → ∃ k, t.bead.phase = .compiling k s.now) ∧
      ChangesOnly [.device, .beads] s t) ∧
  (∀ (s : State) (k : StartKind), s.dev.start = some k → s.startReady = true → s.dev.mode = .startup →
    s.dev.mainsOk = true → s.dev.hold = 0 → s.dev.fatal = [] → ∃ t, exec .startUpComplete s = .next t ∧
      t.dev.start = none ∧ t.dev.upAt = s.now ∧ t.dev.mode = (if s.levelHolds then .sand else .loam) ∧
      t.pending = s.pending ∧ t.mov = s.mov ∧ t.kiln = s.kiln ∧ t.mon = s.mon) ∧
  (∀ (s : State) (k : StartKind), s.dev.start = some k → s.startReady = true → s.dev.mode = .startup →
    s.dev.mainsOk = true → 0 < s.dev.hold → s.levelHolds = false → s.dev.fatal = [] →
    ∃ t, exec .startUpComplete s = .next t ∧ t.dev.start = none ∧ t.dev.mode = .sand ∧ t.dev.hold = s.dev.hold) ∧
  (∀ s : State, s.dev.fatal ≠ [] → s.dev.mode ≠ .bedFault → exec .startUpComplete s = .next s)

/-- Fatal faults are latched, and take a device with mains into Bedrock on fault (§14.4, §1.6; R26, R596 to R599, R656). -/
def Obligations.FatalFaults : Prop :=
  (∀ s : State, s.dev.fatal ≠ [] → s.dev.mainsOk = true →
    (s.dev.mode = .loam ∨ s.dev.mode = .sand ∨ s.dev.mode = .startup) → ∃ t, exec .fatalFaultBedrockEntry s = .next t ∧
      t.dev.mode = .bedFault ∧ t.dev.fatal = [] ∧ t.dev.fatalCause = s.dev.fatal.head? ∧ t.dev.hold = 0 ∧
      t.dev.changeover = .idle ∧ t.dev.accepted = [] ∧ t.kiln.running = false ∧ t.head.on = false ∧ t.clk.pll = .off ∧
      t.mon.enabled = false ∧ (∀ k : CamPort, (t.cam[k]).state = .off) ∧ t.pending = s.pending) ∧
  (∀ s : State, s.dev.fatal ≠ [] → s.dev.mode = .bedBattery → s.dev.start = some .mainsReturn →
    ∃ t, exec .fatalFaultInMainsReturn s = .next t ∧
      t.dev.mode = .bedFault ∧ t.dev.start = none ∧ t.dev.fatal = [] ∧ t.dev.fatalCause = s.dev.fatal.head? ∧
      t.pending = s.pending) ∧
  (∀ s : State, s.dev.core = .romCheck → s.dev.mode ≠ .bedFault → ∃ t, exec .romFault s = .next t ∧
      t.dev.core = .held ∧ t.dev.fatal = s.dev.fatal ++ [.romFault] ∧ t.dev.fabricFault = true ∧
      (∀ k : CamPort, (t.cam[k]).fsPend = [] ∧ (t.cam[k]).fePend = false ∧ (t.cam[k]).state = (s.cam[k]).state) ∧
      t.fab.inbox = [] ∧ t.fab.port = (s.journal 0xAA 0).fab.port ∧
      ChangesOnly ([.device, .clocks, .cameras, .kiln, .fabric, .monitor] ++ s.journalling) s t) ∧
  (∀ (s : State) (t0 : Nat), (s.dev.mode = .loam ∨ s.dev.mode = .sand) → (s.clk.xoFail = true ∨ s.clk.tdcFault = true) →
    s.dev.clockBadSince = some t0 → t0 + 32768 ≤ s.now → ∃ t, exec .clockFault s = .next t ∧
      t.dev.core = .held ∧ t.dev.fatal = s.dev.fatal ++ [.clockFault] ∧
      ChangesOnly ([.device, .clocks, .cameras, .kiln, .fabric, .monitor] ++ s.journalling) s t) ∧
  (∀ (s : State) (d : Int) (n : Nat), s.mainsRunning = true → s.dev.mode ≠ .bedFault → 120 * 128 ≤ d → 32768 ≤ n →
    ∃ t, exec (.overtemp d n) s = .next t ∧
      t.dev.dieTemp = d ∧ t.dev.fatal = s.dev.fatal ++ [.overtemp] ∧ t.dev.core = s.dev.core ∧
      ChangesOnly (.device :: s.journalling) s t) ∧
  (∀ (s : State) (p : FabPort), s.portRole p ≠ .off → s.clk.pll = .locked → s.dev.serdesFault[p] = false →
    ∃ t, exec (.serdesFault p) s = .next t ∧ t.dev.serdesFault[p] = true ∧
      (s.dev.mode ≠ .bedFault → (t.fab.port[p]).link = .off) ∧ t.pending = s.pending ∧ t.tr = s.tr ∧ t.cam = s.cam) ∧
  (∀ s : State, (s.dev.core = .running ∨ s.dev.core = .romCheck) → ∃ t, exec .coreRestart s = .next t ∧
      t.dev.watchdogs = s.dev.watchdogs + 1 ∧ t.dev.mode = s.dev.mode ∧ t.dev.hold = s.dev.hold ∧
      t.dev.core = (if 3 ≤ (s.now :: recent s.now (600 * 32768) s.dev.coreRestarts).length then .held else .romCheck) ∧
      (∀ k : CamPort, (t.cam[k]).state = .off) ∧ t.pending = s.pending ∧ t.tr = s.tr)

/-- The mode changes between Loam and Sand (§1.6, §1.7; R26 to R34). In part this rests on readings and choices of the
model: log entries 12, 33, 116, 125, 126. -/
def Obligations.LoamAndSand : Prop :=
  (∀ s : State, s.dev.accepted ≠ [] → s.dev.mode = .loam → s.dev.fatal = [] →
    ∃ t, exec .acceptedEventTrigger s = .next t ∧
      t.dev.mode = .sand ∧ t.dev.accepted = [] ∧ t.dev.evalAt = some s.now ∧
      t.dev.hold = holdSecs ⟨(s.takeWaiting 5 0).eff 5 % 16, by omega⟩ * 32 + (if s.now % 1024 = 0 then 0 else 1) ∧
      (∀ k : CamPort, (t.cam[k]).state = s.takeVideo.camEntry k) ∧ t.mov = s.mov ∧ t.kiln = s.kiln ∧
      t.pending = s.pending) ∧
  (∀ s : State, s.dev.accepted ≠ [] → s.dev.mode = .sand → s.dev.fatal = [] → s.dev.changeover ≠ .drain →
    ∃ t, exec .acceptedEventTrigger s = .next t ∧
      t.dev.mode = .sand ∧ t.dev.accepted = [] ∧
      t.dev.hold = holdSecs ⟨(s.takeWaiting 5 0).eff 5 % 16, by omega⟩ * 32 + (if s.now % 1024 = 0 then 0 else 1) ∧
      t.dev.changeover = (match s.dev.changeover with
        | .powerDown _ => .powerDown true
        | _ => .idle) ∧
      ChangesOnly [.device, .beads, .wiring, .twin] s t) ∧
  (∀ s : State, s.dev.accepted ≠ [] → s.dev.mode = .sand → s.dev.fatal = [] → s.dev.changeover = .drain →
    ∃ t, exec .acceptedEventTrigger s = .next t ∧
      t.dev.mode = .sand ∧ t.dev.accepted = [] ∧ t.dev.changeover = .idle ∧
      t.dev.hold = holdSecs ⟨(s.takeWaiting 5 0).eff 5 % 16, by omega⟩ * 32 + (if s.now % 1024 = 0 then 0 else 1) ∧
      (∀ k : CamPort, (t.cam[k]).state = if (s.cam[k]).state = .off then s.camEntry k else (s.cam[k]).state) ∧
      ChangesOnly [.device, .beads, .wiring, .cameras, .journal, .deviceTallies, .fabric, .twin] s t) ∧
  (∀ s : State, s.levelHolds = true → s.dev.fatal = [] → s.dev.mode = .loam →
    ∃ t, exec .levelConditionBegins s = .next t ∧
      t.dev.mode = .sand ∧
      t.dev.hold = holdSecs ⟨(s.takeWaiting 5 0).eff 5 % 16, by omega⟩ * 32 + (if s.now % 1024 = 0 then 0 else 1) ∧
      (∀ k : CamPort, (t.cam[k]).state = s.takeVideo.camEntry k) ∧ t.mov = s.mov ∧ t.kiln = s.kiln ∧
      t.pending = s.pending) ∧
  (∀ s : State, s.dev.mode = .sand → s.dev.hold = 0 → s.levelHolds = false → s.dev.accepted = [] → s.dev.fatal = [] →
    s.dev.mainsLow = false → s.dev.changeover = .idle → ∃ t, exec .holdExpiry s = .next t ∧
      t.dev = { s.dev with changeover := .drain, drainAt := s.now } ∧
      (∀ k : CamPort, (t.cam[k]).state = if (s.cam[k]).state = .restart then .off else (s.cam[k]).state) ∧
      ChangesOnly [.device, .clocks, .cameras, .journal, .deviceTallies, .fabric, .twin] s t) ∧
  (∀ s : State, s.dev.changeover = .drain → (headMode (s.eff 12) = .off → s.exporting = true) → s.head.on = true →
    s.now < s.dev.drainAt + cdiv (framePeriodNs s.rateIdx * 32768) 1000000000 →
    (s.fab.time < s.head.startedAt + s.head.period * 65536 ∨ s.tilesWait = true) → exec .drainEnd s = .next s) ∧
  (∀ s : State, s.dev.changeover = .drain → s.drainOver = true → ∃ t, exec .drainEnd s = .next t ∧
      t.dev.changeover = .powerDown false ∧ t.dev.mode = s.dev.mode ∧ t.kiln.running = false ∧ t.head.on = false ∧
      t.head.records = [] ∧
      (∀ k : CamPort, if (s.cam[k]).state = .streaming ∧ (s.cam[k]).frame.isSome = true
        then (t.cam[k]).state = .streaming ∧ (t.cam[k]).leave = some .off
        else (t.cam[k]).state = .off ∧ (t.cam[k]).mclk = false ∧ (t.cam[k]).cen = false) ∧
      (∀ b ∈ t.mov.bufs, keptBuffer b.kind = true) ∧ t.mov.pool = s.mov.pool ∧ t.tr = s.tr ∧ t.pending = s.pending) ∧
  (∀ (s : State), s.dev.changeover = .powerDown false → ∃ t, exec .powerDownComplete s = .next t ∧
      t.dev.mode = .loam ∧ t.dev.changeover = .idle ∧ t.dev.relay = decide (s.clk.pll ≠ .off) ∧
      (∀ k : CamPort, (t.cam[k]).state = .off ∧ (t.cam[k]).mclk = false) ∧
      (∀ o : PllOut, relayOutput o = false → ((t.clk.pllOut[o]).now).enable = false) ∧
      t.dev.portsBusyAt = s.dev.portsBusyAt ∧
      t.tr.chan = s.tr.chan ∧ t.pending = s.pending) ∧
  (∀ (s : State), s.dev.changeover = .powerDown true → ∃ t, exec .powerDownComplete s = .next t ∧
      t.dev.mode = .sand ∧ t.dev.changeover = .idle ∧ t.dev.hold = s.dev.hold ∧ t.pending = s.pending)

/-- Bead reads (§2.2, §2.3; R57, R58, R66 to R68, R138, R654). In part this rests on readings and choices of the model: log
entries 70, 112. -/
def Obligations.BeadReads : Prop :=
  (∀ (s : State) (k : ReadKind), s.bead.req = some k → s.bead.phase = .idle → s.clk.xoReady = true →
    s.clk.tdcCalibrated = true → s.clk.xoFail = false → s.clk.tdcFault = false → s.group0Free = true →
    exec .beadRead s = .next { s with bead := { s.bead with req := none, phase := .reading k } }) ∧
  (∀ (s : State) (k : ReadKind), s.bead.req = some k → s.bead.phase = .idle → (s.clk.xoFail = true ∨ s.clk.tdcFault = true) →
    ∃ t, exec .beadRead s = .next t ∧ t.bead.req = none ∧ t.bead.deferred = some k ∧
      t.bead.nextRetry = s.now + 10 * 32768 ∧ (s.dev.core ≠ .running → t.bead.phase = .idle) ∧ t.pending = s.pending ∧
      t.kiln = s.kiln ∧ t.cam = s.cam) ∧
  (∀ (s : State) (k : ReadKind) (bref : PinMeasure) (beads : Vector PinMeasure 40) (r : Nat),
    s.bead.phase = .reading k → brefDelta (s.pin bref) = .ok r → ∃ t, exec (.beadReadEnd bref beads) s = .next t ∧
      t.bead.everRead = true ∧ t.bead.brefRead = false ∧
      t.bead.latest = Vector.ofFn (fun b : BeadNo => beadReading (s.pin beads[b]) r) ∧
      (∀ b : BeadNo, t.bead.fault[b] = beadFaulty b (beadReading (s.pin beads[b]) r)) ∧
      (k ≠ .restrap → t.dev.readDone = true) ∧ t.kiln = s.kiln ∧ t.cam = s.cam ∧ t.pending = s.pending) ∧
  (∀ (s : State) (k : ReadKind) (bref : PinMeasure) (beads : Vector PinMeasure 40) (c : BitVec 2),
    s.bead.phase = .reading k → s.bead.everRead = true → brefDelta (s.pin bref) = .error c →
    ∃ t, exec (.beadReadEnd bref beads) s = .next t ∧
      t.bead.brefRead = true ∧ t.bead.latest = s.bead.latest ∧ t.bead.inForce = s.bead.inForce ∧
      t.bead.eff = s.bead.eff ∧ t.bead.result = .refused ∧ t.pending = s.pending) ∧
  (∀ (s : State) (k : ReadKind), s.bead.deferred = some k → s.bead.nextRetry ≤ s.now → s.bead.phase = .idle →
    s.bead.req = none → s.readMayRun = true →
    exec .beadReadDeferredRetry s = .next { s with bead := { s.bead with deferred := none, phase := .reading k } }) ∧
  (∀ (s : State) (k : ReadKind), s.bead.deferred = some k → s.bead.nextRetry ≤ s.now → s.bead.phase = .idle →
    s.bead.req = none → s.clk.xoReady = true → s.clk.tdcCalibrated = true → s.tdcDown = false → s.group0Free = false →
    exec .beadReadDeferredRetry s = .next { s with bead := { s.bead with deferred := none, req := some k } }) ∧
  (∀ (s : State) (k : ReadKind), s.bead.deferred = some k → s.bead.nextRetry ≤ s.now → s.bead.phase = .idle →
    s.bead.req = none → (s.clk.xoReady = false ∨ s.clk.tdcCalibrated = false ∨ s.tdcDown = true) →
    exec .beadReadDeferredRetry s = .next { s with bead := { s.bead with nextRetry := s.bead.nextRetry + 10 * 32768 } })

/-- The end of a compile, and a change that takes effect at its boundary (§2.4, §2.5; R62, R64, R65, R68, R76 to R78). In
part this rests on readings and choices of the model: log entries 70, 71. -/
def Obligations.CompiledChanges : Prop :=
  (∀ (s : State) (kind : Option ReadKind) (at_ : Nat), s.bead.phase = .compiling kind at_ → s.dev.core = .running →
    ∃ t, exec .strapCompileEnd s = .next t ∧
      t.bead.phase = .idle ∧ t.dev.compileDone = true ∧ t.bead.compileMs = (s.now - at_) * 1000 / 32768 ∧
      t.bead.heldRestrap = false ∧
      t.bead.result ≠ .none ∧
      (s.bead.compiled = true → kind = some .restrap →
        (let c0 : State := { s with bead := { s.bead with phase := .idle, compileMs := (s.now - at_) * 1000 / 32768 } }
         let c : State := c0.undemand .beadRead
         let n := c.withReadings (c.candidate kind)
         let u : State := { n with bead := { n.bead with dropped := Vector.replicate 12 false } }
         u.fitRate (u.eff 15) = none) →
        t.bead.result = .refused ∧ t.bead.inForce = s.bead.inForce ∧ t.bead.eff = s.bead.eff ∧ t.loc.ackA = some .refuse) ∧
      t.dev.mode = s.dev.mode ∧ t.clk.tick = s.clk.tick ∧ t.pending = s.pending) ∧
  (∀ (s : State) (b : BeadNo) (part : Fin 8) (w : Waiting), s.bead.waiting = [w] → w.bead = b → w.part = part →
    s.partBoundary b part = true → ∃ t, exec (.beadChangeAtBoundary b part) s = .next t ∧
      (t.bead.eff[b])[part] = w.value ∧ t.bead.waiting = [] ∧
      (∀ c : BeadNo, c ≠ b → t.bead.eff[c] = s.bead.eff[c]) ∧
      (∀ i : Fin 8, i ≠ part → (t.bead.eff[b])[i] = (s.bead.eff[b])[i]) ∧
      t.pending = s.pending ∧ t.tal.store = s.tal.store)

/-- SETn and its gestures (§3.1, §3.2; R89, R90, R92 to R95, R97, R98). In part this rests on readings and choices of the
model: log entries 119, 128. -/
def Obligations.SetSwitch : Prop :=
  (∀ (s : State) (l : List Bool), s.now % 32 ≠ 1 → exec (.setPress l) s = .next s ∧ exec (.setRelease l) s = .next s) ∧
  (∀ s : State, s.loc.setF.level = some false → s.loc.setF.run = 0 → s.loc.stuck = false → s.loc.seqOpen = false →
    s.now % 32 = 1 → 20 ≤ samplesBetween s.loc.setF.at_ s.now →
    exec (.setPress (List.replicate 20 true)) s = .next { s with loc := { s.loc with
      setF := { level := some true, cand := true, run := 0, at_ := s.now }, setAssertedAt := s.now
      ledaWindow := decide (s.dev.mode = .bedBattery), stuckReleased := none
      seqOpen := true, presses := [], pressAt := some s.now, pressBegan := s.now } }) ∧
  (∀ (s : State) (t0 : Nat), s.loc.setF.level = some true → s.loc.setF.run = 0 → s.loc.stuck = false →
    s.loc.pressAt = some t0 → s.now % 32 = 1 → 20 ≤ samplesBetween s.loc.setF.at_ s.now →
    ∃ t, exec (.setRelease (List.replicate 20 false)) s = .next t ∧
      t.loc.setF.level = some false ∧ t.loc.pressAt = none ∧ t.loc.lastRelease = s.now ∧
      (if 5 * 32768 ≤ s.now - t0 then t.loc.seqOpen = false ∧ t.loc.closed = some (s.loc.presses ++ [s.now - t0])
       else t.loc.presses = s.loc.presses ++ [s.now - t0] ∧ t.loc.closed = s.loc.closed) ∧
      ChangesOnly [.wiring] s t) ∧
  (∀ s : State, s.loc.seqOpen = true → s.loc.pressAt = none → 6 * 32768 ≤ 10 * (s.now - s.loc.lastRelease) →
    exec .sequenceCloseTimeout s = .next { s with loc := { s.loc with
      seqOpen := false, presses := [], closed := some s.loc.presses } }) ∧
  (∀ (s : State) (t0 : Nat), s.loc.stuck = false → s.loc.setF.level = some true → s.loc.pressAt = some t0 →
    t0 + 15 * 32768 ≤ s.now → ∃ t, exec .setStuck s = .next t ∧ t.loc.stuck = true ∧ t.loc.seqOpen = false ∧ t.loc.closed = none ∧
      t.loc.presses = [] ∧ (s.takesEntry 0x12 → LogsEntry s t 0x12 1) ∧
      ChangesOnly ([.wiring, .twin] ++ s.journalling) s t) ∧
  (∀ (s : State) (t0 : Nat), s.loc.stuck = true → s.loc.setF.level = some false → s.loc.stuckReleased = some t0 →
    t0 + 32768 ≤ s.now → ∃ t, exec .setStuckEnd s = .next t ∧ t.loc.stuck = false ∧
      (s.takesEntry 0x12 → LogsEntry s t 0x12 0) ∧ ChangesOnly ([.wiring, .twin] ++ s.journalling) s t) ∧
  (∀ (s : State) (l : List Nat), s.loc.closed = some l → classifyPresses l = .none → s.busyGesture = false →
    ∃ t, exec .unrecognisedGesture s = .next t ∧ t.loc.closed = none ∧ t.loc.ackA = some .refuse ∧
      t.tal.dev[13] = s.tal.dev[13] + 1 ∧
      ChangesOnly ([.wiring] ++ s.journalling) s t) ∧
  (∀ (s : State) (l : List Nat), s.loc.closed = some l → classifyPresses l = .none → s.busyGesture = true →
    ∃ t, exec .unrecognisedGesture s = .next t ∧ t.loc.closed = none ∧ t.loc.ackA = some .refuse ∧
      (s.takesEntry 0x10 → ∃ d, LogsEntry s t 0x10 d ∧ d / 8192 = 0 ∧ d / 128 % 8 = 2) ∧
      ChangesOnly ([.wiring] ++ s.journalling) s t) ∧
  (∀ (s : State) (a : Ack) (n : Nat), s.loc.ackA = some a → a.ticks = some n → s.loc.ackAAt + n ≤ s.now →
    exec .acknowledgementEnd s = .next { s with loc := { s.loc with ackA := none } }) ∧
  (∀ (s : State) (a : Ack) (n : Nat), s.loc.ackA = none → s.loc.ackG = some a → a.ticks = some n →
    s.loc.ackGAt + n ≤ s.now → s.loc.ackGNext = none →
    exec .acknowledgementEnd s = .next { s with loc := { s.loc with ackG := none, ackGNext := none } }) ∧
  (∀ s : State, s.loc.ackA = none → ((s.loc.ackG = some .running ∧ s.tr.calOn = true) ∨
      (s.loc.ackG = some .pairing ∧ s.fab.windowTill.isSome = true)) → exec .acknowledgementEnd s = .next s)

/-- The gestures of Table 3.2 with their preconditions met (§3.2; R66, R93, R94, R96, R99, R218, R265, R511, R567). In
part this rests on readings and choices of the model: log entry 12. -/
def Obligations.GesturesTaken : Prop :=
  (∀ (s : State) (a : Nat), s.loc.closed = some [a] → 32768 ≤ 10 * a → 10 * a ≤ 15 * 32768 → s.mon.confirm = none →
    s.inBedrock = false → s.bead.phase = .idle → s.bead.req = none → s.bead.deferred = none → s.bead.heldRestrap = false →
    ∃ t, exec .setShort s = .next t ∧ t.loc.closed = none ∧ t.bead.req = some .restrap ∧ t.loc.ackG = some (.ack 1) ∧
      t.tal.dev[12] = s.tal.dev[12] + 1 ∧
      (s.takesEntry 0x10 → ∃ d, LogsEntry s t 0x10 d ∧ d / 8192 = 1 ∧ d / 128 % 8 = 0) ∧
      ChangesOnly ([.wiring, .beads, .clocks] ++ s.journalling) s t) ∧
  (∀ (s : State) (a b : Nat), s.loc.closed = some [a, b] → isTap a = true → isTap b = true → s.busyGesture = false →
    s.inBedrock = false → s.tapPorts ≠ [] → ∃ t, exec .doubleTap s = .next t ∧ t.loc.closed = none ∧
      t.fab.windowTill = some (s.now + 60 * 32768) ∧ (∀ p ∈ s.tapPorts, t.fab.windowPorts[p] = true) ∧
      t.loc.ackG = some (.ack 2) ∧ t.loc.ackGNext = some .pairing ∧
      ChangesOnly [.wiring, .deviceTallies, .journal, .fabric, .twin, .draws] s t) ∧
  (∀ (s : State) (a : Nat), s.loc.closed = some [a] → 5 * 32768 ≤ a → a ≤ 8 * 32768 → s.busyGesture = false →
    s.keyFitted = true → s.inBedrock = false → s.leaseMissing = false →
    ∃ t, exec .setLong s = .next t ∧ t.loc.closed = none ∧ t.tr.calOn = true ∧ t.tr.calByMonitor = false ∧
      (∀ p : PathNo, ((t.tr.path[p]).calRun).isSome = s.configured p) ∧ t.loc.ackG = some (.ack 3) ∧
      t.loc.ackGNext = some .running ∧
      ChangesOnly ([.wiring, .beads, .sounding] ++ s.journalling) s t) ∧
  (∀ (s : State) (a b c : Nat), s.loc.closed = some [a, b, c] → isTap a = true → isTap b = true → isTap c = true →
    s.busyGesture = false → s.keyFitted = true → s.inBedrock = false → s.trole ≠ .none → s.leaseMissing = false →
    s.handoverBar = none → ∃ t, exec .tripleTap s = .next t ∧ t.loc.closed = none ∧ t.twin.handReq = some false ∧ t.loc.ackG = some (.ack 4) ∧
      ChangesOnly [.wiring, .deviceTallies, .journal, .fabric, .twin] s t) ∧
  (∀ (s : State) (a : Nat), s.loc.closed = some [a] → 10 * 32768 ≤ a → a < 15 * 32768 → s.busyGesture = false →
    s.keyFitted = true → s.loc.sealState = some .opened → s.inBedrock = false →
    ∃ t, exec .clean s = .next t ∧ t.loc.closed = none ∧ t.tal.cleaning = true ∧ t.loc.ackG = some (.ack 5) ∧
      t.loc.ackGNext = some .cleaned ∧ (∀ w ∈ t.tal.writes, w.id.cleaned = false) ∧
      (∀ p : FabPort, ((t.fab.port[p]).pairing).isNone = true) ∧
      ChangesOnly [.wiring, .deviceTallies, .journal, .writes, .store, .tallyRest, .fabric, .twin] s t)

/-- A gesture whose precondition fails is refused with its reason and has none of its effect (§3.2; R94, R98). -/
def Obligations.GesturesRefused : Prop :=
  (∀ (s : State) (a : Nat), s.loc.closed = some [a] → 5 * 32768 ≤ a → a ≤ 8 * 32768 → s.busyGesture = false →
    s.keyFitted = false → ∃ t, exec .setLong s = .next t ∧ t.loc.closed = none ∧ t.loc.ackA = some .refuse ∧
      t.tr = s.tr ∧ t.tal.dev[13] = s.tal.dev[13] + 1 ∧ ChangesOnly (.wiring :: s.journalling) s t) ∧
  (∀ (s : State) (a : Nat), s.loc.closed = some [a] → 10 * 32768 ≤ a → a < 15 * 32768 → s.busyGesture = false →
    s.keyFitted = true → s.loc.sealState ≠ some .opened → ∃ t, exec .clean s = .next t ∧ t.loc.closed = none ∧
      t.loc.ackA = some .refuse ∧ t.tal.cleaning = s.tal.cleaning ∧ t.tal.store = s.tal.store ∧
      ChangesOnly (.wiring :: s.journalling) s t) ∧
  (∀ (s : State) (a b : Nat), s.loc.closed = some [a, b] → isTap a = true → isTap b = true → s.busyGesture = true →
    ∃ t, exec .doubleTap s = .next t ∧ t.loc.closed = none ∧ t.loc.ackA = some .refuse ∧
      (s.takesEntry 0x10 → ∃ d, LogsEntry s t 0x10 d ∧ d / 8192 = 2 ∧ d / 128 % 8 = 2) ∧
      ChangesOnly (.wiring :: s.journalling) s t) ∧
  (∀ (s : State) (a b c : Nat), s.loc.closed = some [a, b, c] → isTap a = true → isTap b = true → isTap c = true →
    s.busyGesture = false → s.keyFitted = true → s.inBedrock = false → s.trole = .none →
    ∃ t, exec .tripleTap s = .next t ∧ t.loc.closed = none ∧ t.loc.ackA = some .refuse ∧ t.twin = s.twin ∧
      (s.takesEntry 0x10 → ∃ d, LogsEntry s t 0x10 d ∧ d / 8192 = 4 ∧ d / 128 % 8 = 1 ∧ d / 16 % 8 = 4) ∧
      ChangesOnly (.wiring :: s.journalling) s t)

/-- KEYn and the inputs ARMn, WAKEn and SILENCEn (§3.1, §3.5, §3.6; R89 to R91, R110, R111, R118 to R120, R125). In part
this rests on readings and choices of the model: log entry 25. -/
def Obligations.LevelInputs : Prop :=
  (∀ s : State, s.loc.keyF.level = some false → s.loc.keyF.run = 0 → s.now % 32 = 1 →
    102 ≤ samplesBetween s.loc.keyF.at_ s.now → ∃ t, exec (.keyChange (List.replicate 102 true)) s = .next t ∧
      t.keyFitted = true ∧ ChangesOnly [.wiring] s t) ∧
  (∀ s : State, s.loc.keyF.level = some true → s.loc.keyF.run = 0 → s.now % 32 = 1 →
    102 ≤ samplesBetween s.loc.keyF.at_ s.now → s.loc.sealState = some .opened → s.loc.sealTamper = false →
    ∃ t, exec (.keyChange (List.replicate 102 false)) s = .next t ∧
      t.keyFitted = false ∧ t.loc.sealTamper = true ∧ t.loc.ackA = some .tamper ∧
      (s.accepts .tamper = true → s.inBedrock = false → t.dev.accepted = s.dev.accepted ++ [.tamper]) ∧
      ChangesOnly [.device, .wiring, .deviceTallies, .journal, .head, .fabric, .twin] s t) ∧
  (∀ s : State, s.loc.armF.level = some false → s.loc.armF.run = 0 → s.now % 32 = 1 →
    32 ≤ samplesBetween s.loc.armF.at_ s.now → ∃ t, exec (.armed (List.replicate 32 true)) s = .next t ∧
      t.armedNow = true ∧ (s.takesEntry 0x15 → LogsEntry s t 0x15 1) ∧ ChangesOnly (.wiring :: s.journalling) s t) ∧
  (∀ s : State, s.loc.armF.level = some true → s.loc.armF.run = 0 → s.now % 32 = 1 →
    32 ≤ samplesBetween s.loc.armF.at_ s.now → ∃ t, exec (.armed (List.replicate 32 false)) s = .next t ∧
      t.armedNow = false ∧
      (∀ o : AlmOut, (∃ c, (alarmMap (s.eff 7) o).2 = .latched c) → s.loc.alm[o].onset ≠ some s.now →
        (t.loc.alm[o]).active = false) ∧
      ChangesOnly ([.wiring, .twin] ++ s.journalling) s t) ∧
  (∀ s : State, s.loc.wakeF.level = some false → s.loc.wakeF.run = 0 → s.now % 32 = 1 →
    32 ≤ samplesBetween s.loc.wakeF.at_ s.now → ∃ t, exec (.wake (List.replicate 32 true)) s = .next t ∧
      t.wakeOn = true ∧ (s.takesEntry 0x18 → LogsEntry s t 0x18 1) ∧
      ChangesOnly [.wiring, .deviceTallies, .journal, .head, .fabric, .twin] s t) ∧
  (∀ s : State, s.loc.wakeF.level = some true → s.loc.wakeF.run = 0 → s.now % 32 = 1 →
    32 ≤ samplesBetween s.loc.wakeF.at_ s.now → s.dev.mode = .sand →
    ∃ t, exec (.wakenDeasserted (List.replicate 32 false)) s = .next t ∧ t.wakeOn = false ∧
      t.dev.hold = holdSecs ⟨(s.takeWaiting 5 0).eff 5 % 16, by omega⟩ * 32 + (if s.now % 1024 = 0 then 0 else 1) ∧
      (s.takesEntry 0x18 → LogsEntry s t 0x18 0) ∧ ChangesOnly ([.device, .beads, .wiring] ++ s.journalling) s t) ∧
  (∀ s : State, s.loc.silF.level = some false → s.loc.silF.run = 0 → s.now % 32 = 1 →
    102 ≤ samplesBetween s.loc.silF.at_ s.now → ∃ t, exec (.silence (List.replicate 102 true)) s = .next t ∧
      t.loc.silF.level = some true ∧
      (∀ o : AlmOut, (∃ c, (alarmMap (s.eff 7) o).2 = .latched c) → s.loc.alm[o].onset ≠ some s.now →
        (t.loc.alm[o]).active = false) ∧
      ChangesOnly ([.wiring, .twin] ++ s.journalling) s t) ∧
  (∀ s : State, s.loc.silF.level = some true → s.loc.silF.run = 0 → s.now % 32 = 1 →
    102 ≤ samplesBetween s.loc.silF.at_ s.now →
    exec (.silencenDeasserted (List.replicate 102 false)) s = .next { s with loc := { s.loc with
      silF := { level := some false, cand := false, run := 0, at_ := s.now } } })

/-- Supervision shots and the alarm outputs (§3.3 to §3.7; R101, R103, R104, R107 to R114, R123, R124, R127, R613). In
part this rests on readings and choices of the model: log entry 26. -/
def Obligations.SupervisionAndOutputs : Prop :=
  (∀ s : State, s.loc.supOn = true → s.loc.supRun = none → s.loc.supNext ≤ s.now → s.clk.xoReady = true →
    s.clk.xoFail = false → s.clk.tdcFault = false → s.twin.hand = none → s.tr.busy[(1 : Fin 2)] = none → s.group3Ring = false →
    exec .supervisionShotDue s = .next { s with loc := { s.loc with
      supRun := some { withSeal := decide (s.loc.supCount % 2 = 0), withRef := decide (s.loc.drefNext ≤ s.now) }
      supCount := s.loc.supCount + 1, supNext := s.loc.supNext + 4096 * (1 + (s.now - s.loc.supNext) / 4096)
      drefNext := if s.loc.drefNext ≤ s.now then s.loc.supNext + 64 * 32768 else s.loc.drefNext } }) ∧
  (∀ (s : State) (r : SupShot) (bref : PinMeasure) (zs : Vector PinMeasure 4) (sm : SealMeasure),
    s.loc.supRun = some r → ∃ t, exec (.supervisionShotComplete bref zs sm) s = .next t ∧
      t.loc.supRun = none ∧ t.dev.supDone = true ∧
      (r.withRef = true → ∀ d, brefDelta (s.pin bref) = .ok d → t.loc.dref = some d ∧ t.bead.brefRefresh = false) ∧
      (r.withRef = false → t.loc.dref = s.loc.dref) ∧
      t.clk = s.clk ∧ t.cam = s.cam ∧ t.kiln = s.kiln ∧ t.mov = s.mov ∧ t.tr = s.tr ∧ t.mon = s.mon ∧
      t.tal.store = s.tal.store ∧ t.tal.writes = s.tal.writes ∧ t.pending = s.pending) ∧
  (∀ (s : State) (r : SupShot) (bref : PinMeasure) (zs : Vector PinMeasure 4) (sm : SealMeasure) (z : ZoneNo) (x : Zone),
    s.loc.supRun = some r → r.withRef = false → r.withSeal = false → s.drives = true → (s.zoneKind z).isSome = true →
    zoneClassify (s.eff 36 (zonePart z)) (zoneMeasure (s.pin zs[z]) s.refNow) = x → s.loc.zone[z] ≠ some x →
    s.loc.zoneCand[z] = some x → s.loc.zoneRun[z] = 2 → ∃ t, exec (.supervisionShotComplete bref zs sm) s = .next t ∧
      t.loc.zone[z] = some x ∧ t.loc.onsets[z] = (if x = .normal then s.loc.onsets[z] else s.loc.onsets[z] + 1)) ∧
  (∀ (s : State) (o : AlmOut) (t0 : Nat), (alarmMap (s.eff 7) o).2 = .follow → (s.loc.alm[o]).active = true →
    (s.loc.alm[o]).onset = some t0 → t0 + 32768 ≤ s.now → s.followPresent o = false →
    ∃ t, exec (.followOutputTimeout o) s = .next t ∧ t.loc.alm = s.loc.alm.set o { s.loc.alm[o] with active := false } ∧
      ChangesOnly [.wiring, .twin] s t) ∧
  (∀ (s : State) (o : AlmOut) (cut t0 : Nat), (alarmMap (s.eff 7) o).2 = .latched (some cut) →
    (s.loc.alm[o]).active = true → (s.loc.alm[o]).cutAt = none → (s.loc.alm[o]).onset = some t0 → t0 + cut ≤ s.now →
    ∃ t, exec (.latchCutOff o) s = .next t ∧ t.loc.alm = s.loc.alm.set o { s.loc.alm[o] with active := false } ∧
      ChangesOnly [.wiring, .twin] s t) ∧
  (∀ (s : State) (o : AlmOut), (s.loc.alm[o]).active = true → (s.loc.alm[o]).retryUntil = none →
    exec (.alarmCurrentLimitRetry o) s = .next { s with loc := { s.loc with
      alm := s.loc.alm.set o { s.loc.alm[o] with retryUntil := some (s.now + 32768) } } })

/-- The AON clock sources and the trim windows (§4.1; R128 to R133). In part this rests on readings and choices of the
model: log entry 117. -/
def Obligations.AonClock : Prop :=
  (∀ (s : State) (n t0 : Nat), s.clk.source = .rc → s.clk.qualBy = some t0 → t0 < s.now →
    exec (.crystalQualified n) s = .next s) ∧
  (∀ (s : State) (n t0 : Nat), s.clk.source = .rc → s.clk.qualBy = some t0 → s.now ≤ t0 → s.clk.xoReady = true → 4096 ≤ n →
    ∃ t, exec (.crystalQualified n) s = .next t ∧ t.clk.source = .crystal ∧ t.clk.trim = s.clk.xTrim ∧
      t.clk.x32Fail = false ∧ t.clk.qualBy = none ∧
      (s.clk.x32Fail = true → s.takesEntry 0x20 → LogsEntry s t 0x20 0) ∧
      ChangesOnly (.clocks :: s.journalling) s t) ∧
  (∀ s : State, s.clk.source = .crystal → s.clk.x32Fail = false → ∃ t, exec (.x32Fail .noEdge) s = .next t ∧
      t.clk.source = .rc ∧ t.clk.trim = s.clk.rcTrim ∧ t.clk.x32Fail = true ∧ t.clk.x32Next = s.now + 64 * 32768 ∧
      (s.takesEntry 0x20 → LogsEntry s t 0x20 1) ∧ ChangesOnly (.clocks :: s.journalling) s t) ∧
  (∀ s : State, s.clk.x32Fail = true → s.clk.qualBy = none → s.clk.x32Next ≤ s.now → ∃ t, exec .x32Retry s = .next t ∧
      t.clk.qualBy = some (s.now + 2 * 32768) ∧ t.clk.x32Next = s.clk.x32Next + 64 * 32768 ∧
      .qualify ∈ t.clk.demands ∧ ChangesOnly [.clocks] s t) ∧
  (∀ s : State, s.dev.released = true → s.clk.win = none → s.clk.winNext ≤ s.now → ∃ t, exec .trimWindowStart s = .next t ∧
      t.clk.win = some { second := decide (s.clk.source = .crystal) && decide (s.clk.winNo % 16 = 0)
                         job := decide (s.tr.regJob = none) || decide (s.tr.regQueue.length < 4) } ∧
      t.clk.winNext = s.clk.winNext + 8388608 ∧ t.clk.winNo = s.clk.winNo + 1 ∧ .trim ∈ t.clk.demands ∧
      (s.tr.regJob = none → t.tr.regJob = some .trim) ∧ ChangesOnly [.clocks, .sounding] s t) ∧
  (∀ (s : State) (x : Nat), s.clk.win = some { second := false, job := true } → s.clk.winNext - 8388608 + 2048 ≤ s.now →
    s.tr.regQueue.contains RegJob.trim = false → s.clk.xoReady = true → s.clk.source = .crystal →
    periodGood (s.corrected x) = true → ∃ t, exec (.trimWindowEnd (some x) none) s = .next t ∧
      t.clk.win = none ∧ t.clk.xTrim = trimOf (s.corrected x) ∧ t.clk.trim = trimOf (s.corrected x) ∧
      .trim ∉ t.clk.demands ∧ (s.tr.regJob ≠ some .trim → t.tr = s.tr) ∧ ChangesOnly [.clocks, .sounding] s t) ∧
  (∀ (s : State) (x : Nat), s.clk.win = some { second := false, job := true } → s.clk.winNext - 8388608 + 2048 ≤ s.now →
    s.tr.regQueue.contains RegJob.trim = false → s.clk.xoReady = true → s.clk.source = .rc →
    ∃ t, exec (.trimWindowEnd (some x) none) s = .next t ∧
      t.clk.win = none ∧ t.clk.rcTrim = trimOf (s.corrected x) ∧ t.clk.trim = trimOf (s.corrected x) ∧
      t.clk.rcTrimmed = true ∧ (s.tr.regJob ≠ some .trim → t.tr = s.tr) ∧ ChangesOnly [.clocks, .sounding] s t) ∧
  (∀ (s : State) (w : TrimWindow) (x y : Option Nat), s.clk.win = some w → w.job = false →
    ∃ t, exec (.trimWindowEnd x y) s = .next t ∧ t.clk.xTrim = s.clk.xTrim ∧ t.clk.rcTrim = s.clk.rcTrim ∧
      t.clk.winBad = s.clk.winBad)

/-- The XO (§4.2; R135 to R137, R196, R596, R654). -/
def Obligations.CrystalOscillator : Prop :=
  (∀ s : State, s.dev.released = true → s.needXo = true → s.clk.xoRun = false → s.clk.xoFail = false →
    exec .xoStart s = .next { s with
      clk := { s.clk with xoRun := true, xoReady := false }, dev := { s.dev with keepOn := true } }) ∧
  (∀ (s : State) (k : Nat), s.clk.xoRun = true → s.clk.xoReady = false → s.clk.xoFail = false →
    ∃ t, exec (.xoReady k) s = .next t ∧ t.clk.xoReady = true ∧ t.clk.tdcFault = (decide (k < 700) || decide (1300 < k)) ∧
      t.clk.tdcCalibrated = !t.clk.tdcFault ∧
      (t.clk.tdcFault ≠ s.clk.tdcFault → s.takesEntry 0xA5 → LogsEntry s t 0xA5 (if t.clk.tdcFault then 1 else 0)) ∧
      ChangesOnly ([.device, .wiring, .clocks, .twin] ++ s.journalling) s t) ∧
  (∀ s : State, s.clk.xoRun = true → s.needXo = false →
    exec .xoStop s = .next { s with clk := { s.clk with xoRun := false, xoReady := false } }) ∧
  (∀ (s : State) (n : Nat), n < 1000000 → exec (.xoFail n) s = .next s) ∧
  (∀ (s : State) (n : Nat), s.clk.xoRun = true → s.clk.xoFail = false → 1000000 ≤ n → ∃ t, exec (.xoFail n) s = .next t ∧
      t.clk.xoFail = true ∧ t.clk.xoRun = false ∧ t.clk.xoReady = false ∧ t.clk.xoRestartAt = s.now + 32768 ∧
      (∀ k, s.bead.phase = .reading k → t.bead.deferred = some k ∧ t.bead.nextRetry = s.now + 10 * 32768 ∧
        ∀ j, t.bead.phase ≠ .reading j) ∧
      ((∀ k, s.bead.phase ≠ .reading k) → (s.takesEntry 0x21 → LogsEntry s t 0x21 1) ∧
        ChangesOnly ([.device, .wiring, .clocks, .twin] ++ s.journalling) s t)) ∧
  (∀ s : State, s.clk.xoFail = true → s.clk.xoRestartAt ≤ s.now → ∃ t, exec (.xoRestart true) s = .next t ∧
      t.clk.xoFail = false ∧ t.clk.xoRun = true ∧ t.clk.xoReady = false ∧ (s.takesEntry 0x21 → LogsEntry s t 0x21 0) ∧
      ChangesOnly ([.device, .wiring, .clocks, .twin] ++ s.journalling) s t) ∧
  (∀ s : State, s.clk.xoFail = true → s.clk.xoRestartAt ≤ s.now →
    exec (.xoRestart false) s = .next { s with clk := { s.clk with xoRestartAt := s.clk.xoRestartAt + 32768 } })

/-- Ageing samples, daily points, and REFIN (§4.3, §4.4; R140 to R149, R496). -/
def Obligations.AgeingAndRefin : Prop :=
  (∀ (s : State) (src : AgeSource) (x : Int) (v : Bool) (d : Nat), s.gateEnded src = false →
    exec (.ageingSample src x v d) s = .next s) ∧
  (∀ (s : State) (x : Int) (d : Nat), s.clk.xoReady = true → s.pointDue = false → s.gateEnded .fabric = true → d < 256 →
    x.natAbs ≤ 30000 → (16 * x - s.prediction).natAbs ≤ 32000 → ∃ t, exec (.ageingSample .fabric x true d) s = .next t ∧
      t.clk.age.daySum = s.clk.age.daySum + x ∧ t.clk.age.dayCount = s.clk.age.dayCount + 1 ∧
      t.clk.fabGate = some s.fab.time ∧ ChangesOnly [.clocks] s t) ∧
  (∀ (s : State) (x : Int) (d : Nat), s.clk.xoReady = true → s.pointDue = false → s.clk.refinPresent = true →
    s.clk.refinDone = true → d < 256 → x.natAbs ≤ 30000 → (16 * x - s.prediction).natAbs ≤ 32000 → ∃ t, exec (.ageingSample .refin x true d) s = .next t ∧
      t.clk.age.daySum = s.clk.age.daySum + x ∧ t.clk.age.dayCount = s.clk.age.dayCount + 1 ∧ t.clk.age.run = [] ∧
      t.clk.age.points = s.clk.age.points ∧ t.clk.refinDone = false ∧ ChangesOnly [.clocks] s t) ∧
  (∀ (s : State) (x : Int) (d : Nat), s.clk.xoReady = true → s.pointDue = false → s.clk.refinPresent = true →
    s.clk.refinDone = true → 30000 < x.natAbs →
    exec (.ageingSample .refin x true d) s = .next { s with clk := { s.clk with refinDone := false } }) ∧
  (∀ s : State, s.pointDue = true → s.tal.cleaning = false → ∃ t, exec .dailyPoint s = .next t ∧
      t.clk.age.dayCount = 0 ∧ t.clk.age.daySum = 0 ∧ t.clk.age.unverified = false ∧ t.clk.age.dL = s.clk.age.day ∧
      t.clk.age.points.getLast? = some (s.clk.age.day, rdiv (16 * s.clk.age.daySum) s.clk.age.dayCount) ∧
      t.clk.age.points.length ≤ 64 ∧ (∃ w ∈ t.tal.writes, w.id = .record .ageing) ∧
      ChangesOnly ([.clocks, .writes] ++ s.journalling) s t) ∧
  (∀ s : State, s.clk.age.unverified = false → s.clk.age.unknownDays = false → s.clk.age.points ≠ [] →
    s.clk.age.dL + 400 < s.day → ∃ t, exec .timeBaseUnverified s = .next t ∧
      t.clk.age = { s.clk.age with unverified := true } ∧ (s.takesEntry 0x26 → LogsEntry s t 0x26 1) ∧
      ChangesOnly (.clocks :: s.journalling) s t) ∧
  (∀ (s : State) (n : Nat), s.clk.xoReady = true → s.dev.mainsOk = true → 9990 ≤ n → n ≤ 10010 →
    s.clk.refinGates = 3 → s.clk.refinPresent = false → ∃ t, exec (.refinGateEnd n) s = .next t ∧
      t.clk.refinGates = 4 ∧ t.clk.refinPresent = true ∧ t.clk.refinSince = s.now ∧ .refin ∈ t.clk.demands ∧
      (s.regHas .refin = false → s.tr.regJob = none → t.tr.regJob = some .refin) ∧
      (s.takesEntry 0x22 → LogsEntry s t 0x22 1) ∧ ChangesOnly ([.clocks, .sounding] ++ s.journalling) s t) ∧
  (∀ s : State, s.clk.refinPresent = true → s.clk.refinAdvertised = false → ∃ t, exec .refinEdgeTimeout s = .next t ∧
      t.clk.refinPresent = false ∧ t.clk.refinGates = 0 ∧ .refin ∉ t.clk.demands ∧
      (∀ (p : PathNo) (c : CalRun), (t.tr.path[p]).calRun = some c → c.refin = true → c.settle < 8) ∧
      (s.takesEntry 0x22 → LogsEntry s t 0x22 0) ∧ ChangesOnly ([.clocks, .sounding] ++ s.journalling) s t) ∧
  (∀ s : State, s.clk.refinPresent = true → s.clk.refinAdvertised = false → s.clk.refinSince + 10 * 32768 ≤ s.now →
    ∃ t, exec .refinAdvertised s = .next t ∧ t.clk.refinAdvertised = true ∧ t.timePrio = s.timePrio + 2 ∧
      t.fab.lsDue.isSome = true ∧ ChangesOnly [.clocks, .fabric] s t)

/-- The PLL, its outputs and the crossings (§4.4 to §4.7; R150 to R155, R159, R165, R169, R655). Relay activity in Loam
starts and stops the PLL (§1.5; R20). In part this rests on readings and choices of the model: log entry 47. -/
def Obligations.PllCrossingsAndRelay : Prop :=
  (∀ s : State, s.clk.xoReady = true → s.clk.pllNoLock = false → s.wantPll = true → s.clk.pll = .off →
    ∃ t, exec .pllStart s = .next t ∧ t.clk.pll = .seeking ∧ t.clk.pllRef = s.pickRef ∧ t.clk.pllFb = s.pickRef.feedback ∧ t.clk.pllAt = s.now ∧
      .pll ∈ t.clk.demands ∧ (∀ o : PllOut, (t.clk.pllOut[o]).shadow = some (s.wantOut o, .lock)) ∧
      ChangesOnly [.clocks] s t) ∧
  (∀ s : State, s.clk.pll = .seeking → s.refGone = false → ∃ t, exec .pllLock s = .next t ∧
      t.clk.pll = .locked ∧ t.clk.pllAttempts = 0 ∧ t.clk.phaseFree = false ∧ t.clk.pllAcc = 0 ∧
      (∀ (o : PllOut) (x : PllSetting), (s.clk.pllOut[o]).shadow = some (x, .lock) →
        t.clk.pllOut[o] = { now := x, shadow := none, phase := 0, pos := x.delay }) ∧ ChangesOnly [.clocks] s t) ∧
  (∀ s : State, s.clk.pll = .seeking → s.refGone = true → exec .pllNoLock s = .next s) ∧
  (∀ s : State, s.clk.pll = .seeking → s.refGone = false → s.clk.pllAt + 164 ≤ s.now → s.clk.pllAttempts < 2 →
    ∃ t, exec .pllNoLock s = .next t ∧ t.clk.pll = .seeking ∧ t.clk.pllAttempts = s.clk.pllAttempts + 1 ∧
      t.clk.pllAt = s.now ∧ ChangesOnly [.clocks] s t) ∧
  (∀ s : State, s.clk.pll = .seeking → s.refGone = false → s.clk.pllAt + 164 ≤ s.now → 2 ≤ s.clk.pllAttempts →
    s.dev.mode = .bedFault → ∃ t, exec .pllNoLock s = .next t ∧ t.clk.pll = .off ∧ t.clk.pllNoLock = true ∧
      t.dev.fabricKept = false ∧ t.dev.fatal = s.dev.fatal ∧
      (∀ p : FabPort, s.portRole p ≠ .off → (t.fab.port[p]).link = .off)) ∧
  (∀ s : State, s.clk.pll = .seeking → s.refGone = false → s.clk.pllAt + 164 ≤ s.now → 2 ≤ s.clk.pllAttempts →
    s.dev.mode ≠ .bedFault → ∃ t, exec .pllNoLock s = .next t ∧ t.clk.pll = .off ∧ t.clk.pllNoLock = true ∧
      t.dev.fatal = s.dev.fatal ++ [.pllNoLock] ∧ (s.takesEntry 0xA6 → LogsEntry s t 0xA6 s.clk.pllRef.code) ∧
      ChangesOnly ([.device, .clocks] ++ s.journalling) s t) ∧
  (∀ s : State, s.clk.pll = .locked → ∃ t, exec .pllLostLock s = .next t ∧ t.clk.pll = .seeking ∧ t.clk.pllAt = s.now ∧
      (∀ o : PllOut, relayOutput o = true → t.clk.pllOut[o] = s.clk.pllOut[o]) ∧
      (∀ o : PllOut, relayOutput o = false → ((t.clk.pllOut[o]).now).enable = false) ∧ ChangesOnly [.clocks] s t) ∧
  (∀ s : State, s.clk.pll = .locked → s.clk.pllRef ≠ .xo → s.refGone = true → s.clk.xoReady = true →
    ∃ t, exec .refSwitch s = .next t ∧ t.clk.pllRef = .xo ∧ t.clk.phaseFree = true ∧ t.clk.pll = .locked ∧
      t.clk.pllFb = 208 ∧ t.clk.pllFrac = fracOf s.prediction ∧ (s.takesEntry 0x23 → LogsEntry s t 0x23 s.clk.pllRef.code) ∧
      ChangesOnly (.clocks :: s.journalling) s t) ∧
  (∀ s : State, s.clk.pll = .locked → s.clk.pllRef = .xo → s.clk.pllFrozen = false →
    exec .phaseFreeXoLoss s = .next { s with clk := { s.clk with xoReady := false, pllFrozen := true, phaseFree := true } }) ∧
  (∀ s : State, s.clk.pll ≠ .off → s.clk.pllRef = .xo →
    exec .pllFractionUpdate s = .next { s with clk := { s.clk with pllFrac := fracOf s.prediction } }) ∧
  (∀ (s : State) (b : PllBoundary), s.clk.pll = .locked → s.boundaryNow b = true → ∃ t, exec (.shadowBoundary b) s = .next t ∧
      (∀ (o : PllOut) (x : PllSetting), (s.clk.pllOut[o]).shadow = some (x, b) →
        (t.clk.pllOut[o]).now = x ∧ (t.clk.pllOut[o]).shadow = none ∧
        (b = .lock → (t.clk.pllOut[o]).phase = 0 ∧ (t.clk.pllOut[o]).pos = x.delay) ∧
        (b ≠ .lock → (t.clk.pllOut[o]).phase = (s.clk.pllOut[o]).phase ∧ (t.clk.pllOut[o]).pos = (s.clk.pllOut[o]).pos)) ∧
      (∀ o : PllOut, (∀ x, (s.clk.pllOut[o]).shadow ≠ some (x, b)) → t.clk.pllOut[o] = s.clk.pllOut[o]) ∧
      ChangesOnly [.clocks] s t) ∧
  (∀ s : State, s.dev.core = .running → s.corePll = true → s.clk.coreOnPll = false →
    ∃ t, exec .coreClockSwitch s = .next t ∧ t.clk.coreOnPll = true ∧ .core ∉ t.clk.demands ∧ ChangesOnly [.clocks] s t) ∧
  (∀ (s : State) (k : CamPort), exec (.fifoFlush (.pixel k)) s = .next { s with
      cam := s.cam.set k { s.cam[k] with fifo := [] } }) ∧
  (∀ s : State, exec (.fifoFlush .kilnOut) s = .next { s with kiln := { s.kiln with out := [] } }) ∧
  (∀ s : State, exec (.fifoFlush .kilnIn) s = .next { s with kiln := { s.kiln with lineIn := [] } }) ∧
  (∀ s : State, exec (.fifoFlush .headLines) s = .next { s with head := { s.head with lineIn := [] } }) ∧
  (∀ (s : State) (p : FabPort), exec (.fifoFlush (.fabRx p)) s = .next { s with fab := { s.fab with
      port := s.fab.port.set p { s.fab.port[p] with rxFifo := [] } } }) ∧
  (∀ (s : State) (p : FabPort), exec (.fifoFlush (.fabTx p)) s = .next { s with fab := { s.fab with
      port := s.fab.port.set p { s.fab.port[p] with txFifo := [] } } }) ∧
  (∀ (s : State) (p : FabPort), s.dev.mode = .loam → s.portRole p ≠ .off → s.clk.pll = .off → s.dev.relay = false →
    (s.fab.port[p]).link = LinkState.training →
    exec (.relayPllStart p) s = .next { s with dev := { s.dev with relay := true, portsBusyAt := s.now } }) ∧
  (∀ s : State, s.dev.mode = .loam → s.dev.relay = true →
    (∀ p : FabPort, (s.fab.port[p]).link ≠ LinkState.active ∧ (s.fab.port[p]).link ≠ LinkState.training) →
    s.dev.portsBusyAt + 32768 ≤ s.now → ∃ t, exec .relayPllStop s = .next t ∧
      t.dev.relay = false ∧ t.dev.mode = .loam ∧ t.clk.pll = .off ∧
      (∀ o : PllOut, ((t.clk.pllOut[o]).now).enable = false) ∧ t.clk.tick = s.clk.tick ∧
      (s.fab.tstate = .fine → t.fab.tstate = .coarse) ∧
      ChangesOnly [.device, .clocks, .deviceTallies, .journal, .fabric, .twin] s t)

/-- Pairs of the transit unit from drive to record (§5.2, §5.6; R37, R174, R183, R184, R198, R202, R203, R213 to R216, R226). What a
record field holds whose value does not fit its width is a free value (log entry 123). -/
def Obligations.ShotPairs : Prop :=
  (∀ (s : State) (p : PathNo) (mv t0 : Nat), ((s.tr.path[p]).takeDue s.now).waiting = some t0 → s.mayFire = true →
    s.configured p = true → s.sounds p = true → s.groupPairFree (groupPair p) = true →
    s.ringInPair (groupPair p) = false → s.firstInLine p t0 = true → (s.tr.path[p]).inTime s.now = true → s.shorted p = false → 2900 ≤ mv → ∃ t, exec (.shotPairFire p mv) s = .next t ∧
      (t.tr.path[p]).firing = some t0 ∧ (t.tr.path[p]).waiting = none ∧ (t.tr.path[p]).firedAt = s.now ∧
      t.tr.busy[groupPair p] = some p ∧ t.tr.lowVdrv = false ∧ t.tr.handed = s.tr.handed ∧
      (∀ q : PathNo, q ≠ p → t.tr.path[q] = s.tr.path[q]) ∧ ChangesOnly (.sounding :: s.journalling) s t) ∧
  (∀ (s : State) (p : PathNo) (mv t0 : Nat), ((s.tr.path[p]).takeDue s.now).waiting = some t0 → s.mayFire = true →
    s.configured p = true → s.sounds p = true → s.groupPairFree (groupPair p) = true →
    s.ringInPair (groupPair p) = false → s.firstInLine p t0 = true → (s.tr.path[p]).inTime s.now = true → s.shorted p = false → mv < 2900 → ∃ t, exec (.shotPairFire p mv) s = .next t ∧
      t.tr.lowVdrv = true ∧ t.tr.busy = s.tr.busy ∧
      (∃ r : PairRecord, t.tr.handed = s.tr.handed ++ [r] ∧ r.path = p ∧ r.status = .skipped ∧ r.up = .skip ∧
        r.down = .skip ∧ r.fired = false ∧ r.causeUp = some .lowdrv ∧ r.causeDown = some .lowdrv) ∧
      ChangesOnly (.sounding :: s.journalling) s t) ∧
  (∀ (s : State) (p : PathNo) (mv t0 : Nat), ((s.tr.path[p]).takeDue s.now).waiting = some t0 → s.mayFire = true →
    s.configured p = true → s.sounds p = true → s.groupPairFree (groupPair p) = true →
    s.ringInPair (groupPair p) = false → s.firstInLine p t0 = true → (s.tr.path[p]).inTime s.now = true →
    s.shorted p = true → ∃ t, exec (.shotPairFire p mv) s = .next t ∧ t.tr.busy = s.tr.busy ∧ t.tr.lowVdrv = s.tr.lowVdrv ∧
      (∃ r : PairRecord, t.tr.handed = s.tr.handed ++ [r] ∧ r.path = p ∧ r.status = .skipped ∧
        r.causeUp = some .short ∧ r.causeDown = some .short) ∧ ChangesOnly (.sounding :: s.journalling) s t) ∧
  (∀ (s : State) (p : PathNo) (mv : Nat), (s.sounds p = false ∨ (s.tr.path[p]).inTime s.now = false) →
    exec (.shotPairFire p mv) s = .next s) ∧
  (∀ (s : State) (ch : Chan) (t0 : Nat), (s.tr.path[chanPath ch]).firing = some t0 →
    ∃ t, exec (.driverCurrentLimitTrip ch) s = .next t ∧
      (if ch = chanA (chanPath ch) then (t.tr.path[chanPath ch]).tripUp else (t.tr.path[chanPath ch]).tripDown) = true ∧
      (t.tr.chan[ch]).last = .short ∧ ChangesOnly ([.sounding, .wiring, .twin] ++ s.journalling) s t) ∧
  (∀ (s : State) (g : GroupNo) (n : Nat), ∃ t, exec (.overload g n) s = .next t ∧
      t.tr.ovrAt[g] = some (s.listens g, s.now * tickUnits + n + tdc 2000) ∧
      (∀ c : Chan, (t.tr.chan[c]).ringOvr =
        ((s.tr.chan[c]).ringOvr || (decide (chanGroup c = g) && (s.tr.chan[c]).ringBusy))) ∧
      (∀ p : PathNo, s.tr.busy[groupPair p] = some p → groupPair p = ⟨g.val / 2, by omega⟩ →
        (if g.val % 2 = 1 then (t.tr.path[p]).ovrUp else (t.tr.path[p]).ovrDown) = true) ∧
      ChangesOnly [.sounding] s t) ∧
  (∀ (s : State) (p : PathNo) (up down : ShotMeasure) (t0 : Nat), up.wellFormed = true → down.wellFormed = true →
    (s.tr.path[p]).firing = some t0 → s.pairOver p up down = false → exec (.pairComplete p up down) s = .next s) ∧
  (∀ (s : State) (p : PathNo) (up down : ShotMeasure) (t0 : Nat),
    let r := s.pairRecord p t0 up down
    r.tAb < 2 ^ 40 ∧ r.tBa < 2 ^ 40 ∧ -(2 ^ 31) ≤ r.v ∧ r.v < 2 ^ 31 ∧ r.c < 2 ^ 32 ∧ -(2 ^ 15) ≤ r.tAir ∧ r.tAir < 2 ^ 15) ∧
  (∀ (s : State) (p : PathNo) (up down : ShotMeasure) (t0 : Nat), up.wellFormed = true → down.wellFormed = true →
    (s.tr.path[p]).firing = some t0 → s.pairOver p up down = true → ∃ t, exec (.pairComplete p up down) s = .next t ∧
      (t.tr.path[p]).stopsUp = (s.shotRecords p true up).1 ∧ (t.tr.path[p]).stopsDown = (s.shotRecords p false down).1 ∧
      (t.tr.path[p]).firing = none ∧ t.tr.busy[groupPair p] = none ∧
      t.tr.handed = s.tr.handed ++ [s.pairRecord p t0 up down] ∧
      (t.tr.path[p]).lastPair = some (s.pairRecord p t0 up down) ∧
      (s.trole = .none → ChangesOnly ([.sounding, .wiring, .twin] ++ s.journalling) s t)) ∧
  (∀ (s : State) (p : PathNo) (t0 t1 : Nat), (s.tr.path[p]).waiting = some t0 → (s.tr.path[p]).due = some t1 →
    t1 ≤ s.now → s.drives = true → ∃ t, exec (.pairLate p) s = .next t ∧ (t.tr.path[p]).waiting = some t1 ∧
      (∃ r : PairRecord, t.tr.handed = s.tr.handed ++ [r] ∧ r.path = p ∧ r.status = .skipped ∧
        r.causeUp = some .late ∧ r.causeDown = some .late) ∧
      ChangesOnly ([.sounding, .wiring, .twin] ++ s.journalling) s t)

/-- The stamp regressor, still-air calibration and ring checks (§5.8 to §5.12; R138, R183, R207 to R209, R218 to R221, R223 to
R226). In part this rests on readings and choices of the model: log entries 41, 42. -/
def Obligations.RegressorCalibrationRings : Prop :=
  (∀ (s : State) (j : RegJob), s.tr.regJob = none →
    exec (.stampRegressorRequest j) s = .next { s with tr := { s.tr with regJob := some j, regAt := s.now } }) ∧
  (∀ (s : State) (j k : RegJob), s.tr.regJob = some k → s.tr.regQueue.length < 4 →
    exec (.stampRegressorRequest j) s = .next { s with tr := { s.tr with regQueue := s.tr.regQueue ++ [j] } }) ∧
  (∀ (s : State) (j k : RegJob), s.tr.regJob = some k → 4 ≤ s.tr.regQueue.length →
    exec (.stampRegressorRequest j) s = .next s) ∧
  (∀ (s : State) (j : RegJob) (e : EdgeSums), s.tr.regJob = some j → s.now < s.tr.regAt + regGate j →
    exec (.stampRegressorGateEnd (some e)) s = .next s) ∧
  (∀ (s : State) (j : RegJob), s.tr.regJob = some j → s.clk.refinPresent = false →
    ∃ t, exec (.stampRegressorGateEnd none) s = .next t ∧ t.tr.regResult = none ∧ t.tr.regJob = s.tr.regQueue.head? ∧
      t.tr.regQueue = s.tr.regQueue.drop 1 ∧ ChangesOnly [.sounding, .clocks, .cameras] s t) ∧
  (∀ (s : State) (j : RegJob) (e : EdgeSums) (x : Int), s.tr.regJob = some j → s.tr.regAt + regGate j ≤ s.now →
    edgePeriod e (regPrescale j) = some x → ∃ t, exec (.stampRegressorGateEnd (some e)) s = .next t ∧
      t.tr.regResult = some (BitVec.ofNat 64 (s.corrected x.toNat)) ∧
      (j = .refin → s.clk.refinPresent = true → t.clk.refinDone = true) ∧
      (∀ k, j = .frameRate k → (t.cam[k]).measured = t.tr.regResult) ∧
      (s.clk.refinPresent = false → t.tr.regJob = s.tr.regQueue.head? ∧ t.tr.regQueue = s.tr.regQueue.drop 1) ∧
      ChangesOnly [.sounding, .clocks, .cameras] s t) ∧
  (∀ (s : State) (d : Int), s.tr.calOn = true →
    (∀ (p : PathNo) (c : CalRun), (s.tr.path[p]).calRun = some c →
      64 ≤ c.diffs.length ∨ 96 ≤ c.collected ∨ s.configured p = false) →
    ∃ t, exec (.calibrationEnd d) s = .next t ∧ t.tr.calOn = false ∧
      (∀ p : PathNo, ((t.tr.path[p]).calRun).isNone = true) ∧
      (∀ (p : PathNo) (c : CalRun), (s.tr.path[p]).calRun = some c → s.calRefusal p c = none → s.tal.cleaning = false →
        t.tr.calPassed[p] = true ∧ ∃ w ∈ t.tal.writes, w.id = .record (.calibration p)) ∧
      (∀ (p : PathNo) (c : CalRun) (why : Nat), (s.tr.path[p]).calRun = some c → s.calRefusal p c = some why →
        t.tr.calRefused[p] = true) ∧
      t.cam = s.cam ∧ t.kiln = s.kiln ∧ t.mov = s.mov ∧ t.tal.store = s.tal.store ∧ t.pending = s.pending) ∧
  (∀ (s : State) (ch : Chan) (mv : Nat), s.mayFire = true → s.sounds (chanPath ch) = true → s.ringDue ch = true →
    (∀ c : Chan, (s.tr.chan[c]).ringBusy = false) → s.groupFree (chanGroup ch) = true →
    s.pairWaits (groupPair (chanPath ch)) = false → s.ringDrives ch = true → 2900 ≤ mv →
    ∃ t, exec (.ringShotDue ch mv) s = .next t ∧ t.tr.chan = s.tr.chan.set ch { s.tr.chan[ch] with
        ringBusy := true, ringOvr := false, ringAt := some s.now, testAt := some s.now, cause := none } ∧
      t.tr.lowVdrv = false ∧ t.tr.path = s.tr.path ∧ ChangesOnly (.sounding :: s.journalling) s t) ∧
  (∀ (s : State) (ch : Chan) (mv : Nat), s.mayFire = true → s.sounds (chanPath ch) = true → s.ringDue ch = true →
    (∀ c : Chan, (s.tr.chan[c]).ringBusy = false) → s.groupFree (chanGroup ch) = true →
    s.pairWaits (groupPair (chanPath ch)) = false → s.ringDrives ch = true → mv < 2900 →
    ∃ t, exec (.ringShotDue ch mv) s = .next t ∧ (t.tr.chan[ch]).ringBusy = false ∧
      (t.tr.chan[ch]).cause = some .lowdrv ∧ t.tr.lowVdrv = true ∧ ChangesOnly (.sounding :: s.journalling) s t) ∧
  (∀ (s : State) (ch : Chan) (mv : Nat), s.mayFire = true → s.sounds (chanPath ch) = true → s.ringDue ch = true →
    (∀ c : Chan, (s.tr.chan[c]).ringBusy = false) → s.groupFree (chanGroup ch) = true →
    s.pairWaits (groupPair (chanPath ch)) = false → s.ringDrives ch = false →
    exec (.ringShotDue ch mv) s = .next (s.skipRing ch .short)) ∧
  (∀ (s : State) (ch : Chan) (m : RingMeasure), m.wellFormed = true → (s.tr.chan[ch]).ringBusy = true →
    (s.tr.chan[ch]).ringOvr = false → s.ringStatus ch (s.ringSeen ch m) ≠ .shadow →
    (s.tr.chan[ch]).last = ringOutcome (s.ringSeen ch m) (s.eff 33 ⟨(chanPath ch).val, by omega⟩) →
    (s.tr.chan[ch]).run = 2 → (s.tr.chan[ch]).failed = none →
    ringOutcome (s.ringSeen ch m) (s.eff 33 ⟨(chanPath ch).val, by omega⟩) ≠ .pass →
    ∃ t, exec (.ringShotResult ch m) s = .next t ∧ (t.tr.chan[ch]).ringBusy = false ∧ (t.tr.chan[ch]).run = 3 ∧
      (t.tr.chan[ch]).failed = some (ringOutcome (s.ringSeen ch m) (s.eff 33 ⟨(chanPath ch).val, by omega⟩)) ∧
      ChangesOnly ([.sounding, .wiring, .twin] ++ s.journalling) s t)

/-- The tally engine takes a pair (§6.1 to §6.5; R228, R229, R231, R233, R236, R247). In part this rests on readings and
choices of the model: log entries 12, 39. -/
def Obligations.TallyEngine : Prop :=
  (∀ (s : State) (r : PairRecord) (rest : List PairRecord), s.tr.handed = r :: rest → s.dev.mode ≠ .bedBattery →
    s.tal.cleaning = false → ∃ t, exec .tallyPairUpdate s = .next t ∧
      t.tr = { s.tr with handed := rest } ∧
      ((t.tal.path[r.path]).count)[(if r.status = .valid then 5 else 6 : Fin 8)] =
        ((s.tal.path[r.path]).count)[(if r.status = .valid then 5 else 6 : Fin 8)] + 1 ∧
      (t.tal.path[r.path]).dirty = true ∧
      (∀ q : PathNo, q ≠ r.path → t.tal.path[q] = s.tal.path[q]) ∧
      t.clk = s.clk ∧ t.cam = s.cam ∧ t.kiln = s.kiln ∧ t.mov = s.mov ∧ t.tal.store = s.tal.store ∧ t.mon = s.mon ∧
      t.pending = s.pending) ∧
  (∀ (s : State) (p : PathNo) (e : Nat), (s.tal.path[p]).blocked = false → (s.tal.path[p]).episode = some e →
    e + 4 * 32768 < s.calTicks → ∃ t, exec (.pathBlocked p) s = .next t ∧ (t.tal.path[p]).blocked = true ∧
      (s.takesEntry 0x32 → LogsEntry s t 0x32 (p.val * 4096 + 1)) ∧ ChangesOnly (.pathTallies :: s.journalling) s t) ∧
  (∀ (s : State) (p : PathNo) (ts : Nat), sampleTicks (s.eff 38 ⟨p.val, by omega⟩) = some ts → s.configured p = true →
    (s.tal.path[p]).restartDue = false → ((s.tal.path[p]).ivNext + 1) * ts ≤ s.calTicks →
    s.intervalIn p (((s.tal.path[p]).ivNext + 1) * ts) = true → s.dev.mode ≠ .bedBattery →
    (s.tal.path[p]).sinceFit < 63 → (s.tal.path[p]).window.length < 1024 → ∃ t, exec (.harmonicSample p) s = .next t ∧
      (∀ (v : Int) (n : Nat), (s.tal.path[p]).interval (s.tal.path[p]).ivNext = (v, n) → 0 < n →
        (t.tal.path[p]).window = (s.tal.path[p]).window ++
          [{ interval := (s.tal.path[p]).ivNext, x := rdiv v n, gap := false }]) ∧
      (∀ v : Int, (s.tal.path[p]).interval (s.tal.path[p]).ivNext = (v, 0) →
        (t.tal.path[p]).window = (s.tal.path[p]).window ++
          [{ interval := (s.tal.path[p]).ivNext, gap := true
             x := (s.tal.path[p]).model (s.eff 38 ⟨p.val, by omega⟩) ((s.tal.path[p]).ivNext * ts + ts / 2) 0 }]) ∧
      (t.tal.path[p]).ivNext = (s.tal.path[p]).ivNext + 1 ∧
      (t.tal.path[p]).harm = (s.tal.path[p]).harm ∧ ChangesOnly [.pathTallies] s t) ∧
  (∀ (s : State) (p : PathNo), (s.tal.path[p]).restartDue = true → ∃ t, exec (.trackerRestart p) s = .next t ∧
      t.tal.path = s.tal.path.set p ((s.tal.path[p]).restart (s.intervalNow p)) ∧ ChangesOnly [.pathTallies] s t) ∧
  (∀ (s : State) (p : PathNo) (w : Nat), (s.tal.path[p]).dirty = true → (s.tal.path[p]).writtenAt = some w →
    w + 32768 ≤ s.now → s.tal.cleaning = false → ∃ t, exec (.pathTallyCheckpoint p) s = .next t ∧
      (t.tal.path[p]).dirty = false ∧ (t.tal.path[p]).writtenAt = some s.now ∧
      (∃ q ∈ t.tal.writes, q.id = .record (.pathTallies p) ∧ q.content = (s.tal.path[p]).content) ∧
      ChangesOnly [.pathTallies, .writes] s t) ∧
  (∀ s : State, s.tal.scanned = true → s.dev.mode ≠ .bedBattery →
    s.tal.devWrittenAt + 10 * 32768 ≤ s.now → s.tal.cleaning = false →
    ∃ t, exec .deviceTallyCheckpoint s = .next t ∧ t.tal.devWrittenAt = s.now ∧ t.tal.devDirty = false ∧
      t.tal.baseChg = s.tal.charge ∧ t.tal.baseZone = s.loc.onsets ∧
      ChangesOnly [.device, .deviceTallies, .writes, .tallyRest] s t)

/-- The store, re-firing and the journal (§6.6 to §6.10; R136, R238, R257, R258, R265, R268, R269, R273, R276). That a write goes on
under XO FAIL is the model's choice (log entry 124). -/
def Obligations.StoreAndJournal : Prop :=
  (∀ s : State, s.clk.xoReady = false → s.clk.xoFail = false →
    exec .recordWrite s = .next s ∧ exec .journalWrite s = .next s) ∧
  (∀ (s : State) (w : WriteReq) (rest : List WriteReq), s.tal.writes = w :: rest → s.storeWrites = true →
    ∃ t, exec .recordWrite s = .next t ∧
      t.tal.store = (match w.id with
        | .record r => commitRecord s.tal.store r w.content
        | .work p => memStore s.tal.store (workBase p) w.content) ∧ t.tal.writes = rest ∧ t.dev.keepOn = true ∧
      (∀ p, w.id = .record (.calibration p) → (t.tr.path[p]).calib = some (CalRecord.parse w.content)) ∧
      (∀ p, w.id = .record (.keys p) → (t.fab.port[p]).key = some (KeyRec.parse w.content)) ∧
      ChangesOnly [.device, .sounding, .pathTallies, .store, .writes, .fabric, .twin] s t) ∧
  (∀ s : State, s.tal.cleaning = true → ∃ t, exec .cleanComplete s = .next t ∧
      t.tal.cleaning = false ∧ t.tal.cleans = s.tal.cleans + 1 ∧
      (∀ p : PathNo, (t.tal.path[p]).count = Vector.replicate 8 0 ∧ (t.tr.path[p]).calib = none) ∧
      (∀ p : FabPort, (t.fab.port[p]).key = none ∧ (t.fab.port[p]).trust = .unpaired) ∧
      (s.takesEntry 0x3A → LogsEntry s t 0x3A ((s.tal.cleans + 1).toNat % 32768)) ∧
      t.cam = s.cam ∧ t.kiln = s.kiln ∧ t.mov = s.mov ∧ t.bead = s.bead ∧ t.pending = s.pending) ∧
  (∀ s : State, s.tal.refireOn = true → s.tal.refireNext ≤ s.now → s.tal.refireBlock + 16 < 512 →
    exec (.refireSession (Vector.replicate 16 0)) s = .next { s with tal := { s.tal with
      refireNext := s.now + 32768, refireBlock := s.tal.refireBlock + 16 } }) ∧
  (∀ s : State, s.tal.scanned = true → s.dev.scanDone = true → s.tal.refireOn = false →
    s.tal.refireDueCal ≤ s.calTicks → ∃ t, exec .refireDue s = .next t ∧ t.tal.refireOn = true ∧
      t.tal.refireBlock = 0 ∧ t.tal.refireFrom = s.day ∧ t.tal.refireDay = s.tal.refireDay ∧ t.tal.refireNext = s.now ∧
      (s.takesEntry 0x3B → LogsEntry s t 0x3B 1) ∧ ChangesOnly (.tallyRest :: s.journalling) s t) ∧
  (∀ (s : State) (c : Byte) (d : BitVec 16), ∃ t, exec (.journalEntryAccept c d) s = .next t ∧
      (s.takesEntry c.toNat → LogsEntry s t c.toNat d.toNat) ∧
      (∀ l, jLevel c = some l → l ≤ s.verbosity → 33 ≤ s.tal.jQueue.length → t.tal.jQueue = s.tal.jQueue ∧
        t.tal.jDropped = s.tal.jDropped + 1 ∧ t.tal.dev[15] = s.tal.dev[15] + 1) ∧
      ChangesOnly s.journalling s t) ∧
  (∀ (s : State) (e : JEntry) (rest : List JEntry), s.tal.jQueue = e :: rest → s.storeWrites = true → ∃ t, exec .journalWrite s = .next t ∧
      t.tal.jQueue = rest ∧ t.tal.store = memStore s.tal.store (0x4000 + 16 * (e.num.toNat % 1024)) e.bytes ∧
      ChangesOnly [.device, .journal, .store, .tallyRest, .monitor] s t) ∧
  (∀ s : State, 0 < s.tal.jDropped → s.tal.jQueue.length < 33 → ∃ t, exec .journalOverflow s = .next t ∧
      t.tal.jDropped = 0 ∧ (s.takesEntry 0x3E → LogsEntry s t 0x3E (min s.tal.jDropped 65535)) ∧
      ChangesOnly s.journalling s t)

/-- Packets and frames of a camera port (§7.1 to §7.3; R284 to R291, Table 7.4). In part this rests on readings and
choices of the model: log entry 45. -/
def Obligations.CameraFrames : Prop :=
  (∀ (s : State) (k : CamPort) (pkt : CsiPacket) (r : Recipe), pkt.wellFormed = true → s.portRecipe k = some r →
    (s.cam[k]).cen = true → ∃ t, exec (.csi2PacketReceived k pkt) s = .next t ∧
      (pkt.hdrBad = true → t.cam[k] = { s.cam[k] with hdrErr := (s.cam[k]).hdrErr + 1 }) ∧
      (pkt.hdrBad = false → pkt.vc.val ≠ r.hdr.vc → t.cam[k] = { s.cam[k] with otherVc := (s.cam[k]).otherVc + 1 }) ∧
      (pkt.hdrBad = false → pkt.vc.val = r.hdr.vc → pkt.dt = 0 → t.cam[k] = { s.cam[k] with fsPend := (s.cam[k]).fsPend ++ [pkt.word] }) ∧
      (pkt.hdrBad = false → pkt.vc.val = r.hdr.vc → pkt.dt = 1 → t.cam[k] = { s.cam[k] with fePend := true }) ∧
      (pkt.hdrBad = false → pkt.vc.val = r.hdr.vc → pkt.dt = 0x1E →
        t.cam[k] = { s.cam[k] with unsupported := (s.cam[k]).unsupported + 1 }) ∧
      (∀ j : CamPort, j ≠ k → t.cam[j] = s.cam[j]) ∧ ChangesOnly [.cameras] s t) ∧
  (∀ (s : State) (k : CamPort) (phase : Nat) (w : BitVec 16) (rest : List (BitVec 16)) (r : Recipe) (f : CamFrame),
    (s.cam[k]).fsPend = w :: rest → s.portRecipe k = some r → (s.cam[k]).frame = some f → (s.cam[k]).leave = none →
    (s.cam[k]).badRun < 7 → s.useWaits k = true → ∃ t, exec (.camFrameStart k phase) s = .next t ∧
      (t.cam[k]).frame = none ∧ (t.cam[k]).fsPend = w :: rest ∧ (t.cam[k]).counter = (s.cam[k]).counter ∧
      (∀ j : CamPort, j ≠ k → t.cam[j] = s.cam[j]) ∧ ChangesOnly [.cameras, .kiln] s t) ∧
  (∀ (s : State) (k : CamPort) (phase : Nat) (w : BitVec 16) (rest : List (BitVec 16)) (r : Recipe),
    (s.cam[k]).fsPend = w :: rest → s.portRecipe k = some r → (s.cam[k]).state = .streaming → (s.cam[k]).frame = none → (s.cam[k]).lastStart = none →
    (s.cam[k]).freeRun = true → s.fifoDiscards k = false → ∃ t, exec (.camFrameStart k phase) s = .next t ∧
      (t.cam[k]).fsPend = rest ∧ (t.cam[k]).counter = (s.cam[k]).counter + 1 ∧ (t.cam[k]).frames = (s.cam[k]).frames + 1 ∧
      (t.cam[k]).lastStart = some (s.stampAt phase) ∧
      (∃ f : CamFrame, (t.cam[k]).frame = some f ∧ f.stamp = s.stampAt phase ∧ f.num = w ∧
        f.counter = (s.cam[k]).counter ∧ f.free = true ∧ f.discard = false ∧ f.lines = 0) ∧
      (∀ j : CamPort, j ≠ k → t.cam[j] = s.cam[j]) ∧ ChangesOnly [.cameras, .kiln] s t) ∧
  (∀ (s : State) (k : CamPort) (r : Recipe) (f : CamFrame), (s.cam[k]).fePend = true → s.portRecipe k = some r →
    (s.cam[k]).frame = some f → f.lines = r.hdr.allLines → f.matched = f.lines → 0 < f.lines → f.badLines = 0 →
    f.longFrame = false → f.discard = false → (s.cam[k]).leave = none → ∃ t, exec (.camFrameEnd k) s = .next t ∧
      (t.cam[k]).frame = none ∧ (t.cam[k]).fePend = false ∧ (t.cam[k]).badRun = 0 ∧ (t.cam[k]).fifo = (s.cam[k]).fifo ∧
      (∀ j : CamPort, j ≠ k → t.cam[j] = s.cam[j]) ∧ ChangesOnly [.cameras, .kiln] s t) ∧
  (∀ (s : State) (k : CamPort) (r : Recipe) (f : CamFrame), s.portRecipe k = some r → (s.cam[k]).frame = some f →
    f.discard = false → (s.cam[k]).leave = none → (s.cam[k]).badRun < 7 →
    f.startTick + cdiv (2 * r.hdr.period) 2000000000 ≤ s.now → ∃ t, exec (.camFrameStall k) s = .next t ∧
      (t.cam[k]).frame = none ∧ (t.cam[k]).badRun = (s.cam[k]).badRun + 1 ∧ (t.cam[k]).lastFlags.getLsbD 4 = true ∧
      (∀ j : CamPort, j ≠ k → t.cam[j] = s.cam[j]) ∧ ChangesOnly [.cameras, .kiln] s t)

/-- CCI transfers and the entries of a recipe (§7.4, §7.6; R292 to R295, R304 to R306, R308, R309, R311). In part this
rests on readings and choices of the model: log entry 132. -/
def Obligations.RecipeReplay : Prop :=
  (∀ (s : State) (k : CamPort) (r : Recipe), s.portRecipe k = some r → (s.cam[k]).state = .replay →
    (s.cam[k]).phase = .idle → (s.cam[k]).cen = false → (s.cam[k]).failCause = none → s.clk.pll = .locked →
    (s.cam[k]).cenAt + 328 ≤ s.now → ∃ t, exec (.replayStart k) s = .next t ∧
      (t.cam[k]).cen = true ∧ (t.cam[k]).mclk = true ∧ (t.cam[k]).pc = 0 ∧
      (t.cam[k]).phase = .powerUp (s.now + msTicks r.hdr.powerUp) ∧
      ((t.clk.pllOut[(⟨k.val, by omega⟩ : PllOut)]).now).enable = true ∧
      (∀ j : CamPort, j ≠ k → t.cam[j] = s.cam[j]) ∧ ChangesOnly [.cameras, .clocks] s t) ∧
  (∀ (s : State) (k : CamPort) (t0 : Nat), (s.cam[k]).phase = .powerUp t0 → t0 ≤ s.now → (s.cam[k]).state = .replay →
    exec (.powerUpDelayEnd k) s = .next { s with cam := s.cam.set k { s.cam[k] with phase := .run } }) ∧
  (∀ (s : State) (k : CamPort) (reg : Nat) (data : List Byte), s.entryAt k = some (.write reg data) → s.seqRuns k = true →
    exec (.recipeWrite k true) s = .next { s with
      cam := s.cam.set k { (s.cam[k]).advance with cciLast := s.cciWrites k [(reg, data)] } } ∧
    ((s.cam[k]).reps < 3 → exec (.recipeWrite k false) s = .next { s with
      cam := s.cam.set k { s.cam[k] with nacks := some (s.cam[k]).reps, cciNext := s.now + 33 } })) ∧
  (∀ (s : State) (k : CamPort) (w : Nat × List Byte) (r : Recipe), s.portRecipe k = some r →
    s.cciWrites k [w] = [{
      addr := r.hdr.cciAddr, khz := [100, 400, 1000].getD (r.hdr.cciOpts.toNat % 4) 1000
      width := if r.hdr.cciOpts.getLsbD 2 then 2 else 1, reg := if r.hdr.cciOpts.getLsbD 2 then w.1 else w.1 % 256
      data := w.2 }]) ∧
  (∀ (s : State) (k : CamPort) (reg : Nat) (mask val old : Byte), s.entryAt k = some (.rmw reg mask val) →
    s.seqRuns k = true → exec (.recipeRmw k old true) s = .next { s with
      cam := s.cam.set k { (s.cam[k]).advance with cciLast := s.cciWrites k [(reg, [(old &&& ~~~ mask) ||| (val &&& mask)])] } } ∧
    (3 ≤ (s.cam[k]).reps → exec (.recipeRmw k old false) s = .next { s with
      cam := s.cam.set k { s.cam[k] with nacks := none, failCause := some 1 } })) ∧
  (∀ (s : State) (k : CamPort) (reg ms : Nat) (mask want val : Byte), s.entryAt k = some (.poll reg mask want ms) →
    s.seqRuns k = true →
    (val &&& mask = want → (s.cam[k]).cciNext ≤ s.now → exec (.recipePollEntry k val true) s = .next { s with
      cam := s.cam.set k (s.cam[k]).advance }) ∧
    (val &&& mask ≠ want → (s.cam[k]).phase = .run → exec (.recipePollEntry k val true) s = .next { s with
      cam := s.cam.set k { s.cam[k] with reps := 0, phase := .pollTill (s.now + msTicks ms), cciNext := s.now + 33 } }) ∧
    (∀ t0, (s.cam[k]).phase = .pollTill t0 → s.now < (s.cam[k]).cciNext → exec (.recipePollEntry k val true) s = .next s) ∧
    (∀ t0, val &&& mask ≠ want → (s.cam[k]).phase = .pollTill t0 → (s.cam[k]).cciNext ≤ s.now → s.now < t0 →
      exec (.recipePollEntry k val true) s = .next { s with
        cam := s.cam.set k { s.cam[k] with reps := 0, cciNext := s.now + 33 } }) ∧
    (∀ t0, val &&& mask ≠ want → (s.cam[k]).phase = .pollTill t0 → (s.cam[k]).cciNext ≤ s.now → t0 ≤ s.now →
      exec (.recipePollEntry k val true) s = .next { s with cam := s.cam.set k { s.cam[k] with failCause := some 2 } })) ∧
  (∀ (s : State) (k : CamPort) (ms t0 : Nat), s.entryAt k = some (.delay ms) →
    (s.seqRuns k = true → (s.cam[k]).phase = .run → exec (.recipeDelay k) s = .next { s with
      cam := s.cam.set k { s.cam[k] with phase := .delayTill (s.now + msTicks ms) } }) ∧
    ((s.cam[k]).state = .replay → (s.cam[k]).phase = .delayTill t0 → t0 ≤ s.now → exec (.recipeDelay k) s = .next { s with
      cam := s.cam.set k (s.cam[k]).advance })) ∧
  (∀ (s : State) (k : CamPort) (m : ExpMap), s.entryAt k = some (.expmap m) → s.seqRuns k = true →
    exec (.recipeExpmap k) s = .next { s with cam := s.cam.set k { (s.cam[k]).advance with expmap := some m } }) ∧
  (∀ (s : State) (k : CamPort), s.entryAt k = some .done → s.seqRuns k = true → ∃ t, exec (.recipeEnd k) s = .next t ∧
      (t.cam[k]).state = .waiting ∧ (t.cam[k]).phase = .ended s.now ∧
      (s.takesEntry 0x75 → LogsEntry s t 0x75 (k.val * 4096 + PortState.waiting.code)) ∧
      ChangesOnly (.cameras :: s.journalling) s t) ∧
  (∀ (s : State) (k : CamPort) (op : Byte), s.entryAt k = some (.skip op) → s.seqRuns k = true →
    ∃ t, exec (.recipeSkipped k) s = .next t ∧ t.cam = s.cam.set k (s.cam[k]).advance ∧
      (s.takesEntry 0x72 → LogsEntry s t 0x72 (k.val * 4096 + op.toNat)) ∧ ChangesOnly (.cameras :: s.journalling) s t) ∧
  (∀ (s : State) (k : CamPort) (n : Nat) (ack : Bool), (s.cam[k]).nacks = some n → s.now < (s.cam[k]).cciNext →
    exec (.cciNackRetry k ack) s = .next s) ∧
  (∀ (s : State) (k : CamPort), (s.cam[k]).nacks = some 0 → (s.cam[k]).cciNext ≤ s.now →
    exec (.cciNackRetry k false) s = .next { s with
      cam := s.cam.set k { s.cam[k] with nacks := some 1, cciNext := s.now + 33 } }) ∧
  (∀ (s : State) (k : CamPort), (s.cam[k]).nacks = some 2 → (s.cam[k]).cciNext ≤ s.now → (s.cam[k]).burstBusy = false →
    exec (.cciNackRetry k false) s = .next { s with
      cam := s.cam.set k { s.cam[k] with nacks := none, failCause := some 1 } }) ∧
  (∀ (s : State) (k : CamPort) (freed : Bool), (s.cam[k]).cen = false → exec (.cciStuck k freed) s = .next s) ∧
  (∀ (s : State) (k : CamPort), (s.cam[k]).cen = true → (s.cam[k]).burstBusy = false →
    ∃ t, exec (.cciStuck k true) s = .next t ∧
      t.cam = s.cam.set k { s.cam[k] with nacks := none, sclPulses := (s.cam[k]).sclPulses + 9 } ∧
      (s.takesEntry 0x74 → LogsEntry s t 0x74 (k.val * 4096 + 1)) ∧ ChangesOnly (.cameras :: s.journalling) s t) ∧
  (∀ (s : State) (k : CamPort), (s.cam[k]).cen = true → (s.cam[k]).burstBusy = true → (s.cam[k]).burstFails < 7 →
    ∃ t, exec (.cciStuck k true) s = .next t ∧ (t.cam[k]).burstBusy = false ∧
      (t.cam[k]).burstFails = (s.cam[k]).burstFails + 1 ∧ (t.cam[k]).burst = (s.cam[k]).burstWait ∧
      ChangesOnly (.cameras :: s.journalling) s t) ∧
  (∀ (s : State) (k : CamPort), (s.cam[k]).cen = true → (s.cam[k]).state = .replay →
    ∃ t, exec (.cciStuck k false) s = .next t ∧ (t.cam[k]).failCause = some 4 ∧
      (t.cam[k]).sclPulses = (s.cam[k]).sclPulses + 9 ∧ ChangesOnly (.cameras :: s.journalling) s t)

/-- Failures, restarts, frame sync, exposure and joining of a camera port (§7.6 to §7.9; R307, R311, R312, R315, R318 to
R320). The recipe cache and its poll (§7.5; R299 to R302). In part this rests on readings and choices of the
model: log entries 67, 68, 120. -/
def Obligations.CameraPortsAndRecipeCache : Prop :=
  (∀ (s : State) (k : CamPort) (t0 : Nat) (r : Recipe), (s.cam[k]).phase = .ended t0 → s.portRecipe k = some r →
    (s.cam[k]).state = .waiting → (s.cam[k]).failCause = none → t0 + msTicks r.hdr.startTimeout ≤ s.now →
    exec (.startTimeout k) s = .next { s with cam := s.cam.set k { s.cam[k] with failCause := some 3 } }) ∧
  (∀ (s : State) (k : CamPort) (c : Nat), (s.cam[k]).failCause = some c → (s.cam[k]).restarts = [] →
    (s.cam[k]).frame = none → ∃ t, exec (.replayFail k) s = .next t ∧
      (t.cam[k]).state = .restart ∧ (t.cam[k]).cen = false ∧ (t.cam[k]).failCause = none ∧
      (t.cam[k]).restarts = [s.now] ∧ ChangesOnly (.cameras :: s.journalling) s t) ∧
  (∀ (s : State) (k : CamPort) (c a b : Nat), (s.cam[k]).failCause = some c → (s.cam[k]).restarts = [a, b] →
    s.now < a + 60 * 32768 → s.now < b + 60 * 32768 → (s.cam[k]).frame = none → ∃ t, exec (.replayFail k) s = .next t ∧
      (t.cam[k]).state = .failed ∧ (t.cam[k]).cen = false ∧ (t.cam[k]).mclk = false ∧
      ChangesOnly ([.cameras, .clocks] ++ s.journalling) s t) ∧
  (∀ (s : State) (k : CamPort), s.dev.changeover ≠ .idle → exec (.portRestart k) s = .next s) ∧
  (∀ (s : State) (k : CamPort), s.dev.changeover = .idle → (s.cam[k]).state = .restart → (s.cam[k]).cen = false → (s.cam[k]).cenAt + 328 ≤ s.now →
    ∃ t, exec (.portRestart k) s = .next t ∧ (t.cam[k]).state = .replay ∧ (t.cam[k]).phase = .idle ∧ (t.cam[k]).pc = 0 ∧
      ChangesOnly (.cameras :: s.journalling) s t) ∧
  (∀ (s : State) (k : CamPort) (r : Recipe) (t0 g : Nat), s.portRecipe k = some r → (s.cam[k]).phase = .ended t0 →
    (s.cam[k]).state = .streaming → r.hdr.triggered = true → (s.cam[k]).freeRun = false → s.fab.timeRun = true →
    r.hdr.latency = 0 → g = s.fab.time / (r.hdr.grid * 65536) → (s.cam[k]).fsyncLast < g →
    t0 + 33 + cdiv (s.fab.time - g * (r.hdr.grid * 65536)) 2000000000 ≤ s.now →
    exec (.fsyncEdge k) s = .next { s with cam := s.cam.set k { s.cam[k] with
      fsyncLast := g, fsyncTill := g * (r.hdr.grid * 65536) + r.hdr.fsyncWidth * 1000 * 65536 } }) ∧
  (∀ (s : State) (k : CamPort) (x : BitVec 64) (r : Recipe), s.portRecipe k = some r → (s.cam[k]).state = .streaming →
    (s.cam[k]).measured = some x → ∃ t, exec (.frameRateCheck k) s = .next t ∧
      (t.cam[k]).rate = rateOf x.toNat ∧ (t.cam[k]).measured = none ∧ (t.cam[k]).rateNext = (s.cam[k]).rateNext ∧
      (r.hdr.rate * x.toNat < 50 * ((100000000000 * 2 ^ 28 : Int) - (r.hdr.rate * x.toNat : Nat)).natAbs → s.takesEntry 0x78 →
        LogsEntry s t 0x78 (k.val * 4096 + min 4095 (rateOf x.toNat))) ∧ ChangesOnly (.cameras :: s.journalling) s t) ∧
  (∀ (s : State) (k : CamPort) (r : Recipe), s.portRecipe k = some r → (s.cam[k]).state = .streaming →
    (s.cam[k]).measured = none → (s.cam[k]).rateNext ≤ s.now → ∃ t, exec (.frameRateCheck k) s = .next t ∧
      (t.cam[k]).rateNext = s.now + 60 * 32768 ∧ (s.tr.regJob = none → t.tr.regJob = some (.frameRate k)) ∧
      ChangesOnly [.cameras, .sounding] s t) ∧
  (∀ (s : State) (k : CamPort) (e g : Nat) (m : ExpMap), (s.cam[k]).state = .streaming → (s.cam[k]).burst = some (e, g) →
    (s.cam[k]).expmap = some m → (s.cam[k]).burstBusy = false → (s.cam[k]).frame = none → 0 < (s.cam[k]).frames →
    (s.cam[k]).cen = true → ∃ t, exec (.exposureBurst k true) s = .next t ∧ (t.cam[k]).burst = (s.cam[k]).burstWait ∧
      (t.cam[k]).codesNext = some (e, g, (s.cam[k]).frames - 1 + m.latency) ∧ (t.cam[k]).burstFails = 0 ∧
      (t.cam[k]).cciLast = s.cciWrites k ((if m.holdReg ≠ 0 then [(m.holdReg, [m.holdVal])] else []) ++
        [(m.expReg, bytesBE m.expWidth e), (m.gainReg, bytesBE m.gainWidth g)] ++
        (if m.holdReg ≠ 0 then [(m.holdReg, [m.relVal])] else [])) ∧
      (t.kiln.ctx[camCtx k]).updFrame = max (s.kiln.ctx[camCtx k]).updFrame ((s.cam[k]).frames - 1) ∧
      ChangesOnly [.cameras, .kiln] s t) ∧
  (∀ (s : State) (k : CamPort), (s.cam[k]).state = .streaming → (s.cam[k]).joinReady = true → (s.cam[k]).joined = false →
    s.head.inFrame = true → (s.cam[k]).joinAt ≤ s.head.startedAt → ∃ t, exec (.portJoined k) s = .next t ∧
      (t.cam[k]).joined = true ∧ t.head.tile[k] = { freshAt := s.now, held := false } ∧
      (s.takesEntry 0x77 → LogsEntry s t 0x77 (k.val * 4096)) ∧ ChangesOnly ([.cameras, .head] ++ s.journalling) s t) ∧
  (∀ (s : State) (why : Nat), s.dev.core = .running → s.dev.compileDone = true → s.dev.cacheDone = false →
    directoryFault none = some why → ∃ t, exec (.recipeCacheRead none) s = .next t ∧
      t.dev.cacheDone = true ∧ t.rcp.valid = false ∧ t.pending = s.pending ∧ t.tr = s.tr) ∧
  (∀ (s : State) (l : List Byte), l.length ≤ 2 ^ 16 → s.dev.core = .running → s.dev.compileDone = true →
    s.dev.cacheDone = false → directoryFault (some l) = none → ∃ t, exec (.recipeCacheRead (some l)) s = .next t ∧
      t.dev.cacheDone = true ∧ t.rcp.valid = true ∧ t.rcp.gen = directoryGen l ∧
      (∀ i : Fin 12, s.slotUsed i = true → t.rcp.slots[i] = readSlot l (directoryEntries l)[i] ∨
        ((∃ r, readSlot l (directoryEntries l)[i] = .good r) ∧ t.rcp.slots[i] = .bad 5)) ∧ t.pending = s.pending) ∧
  (∀ (s : State) (l : List Byte), l.length ≤ 2 ^ 16 → s.dev.mode = .sand → s.dev.core = .running →
    s.dev.cacheDone = true → s.rcp.pollNext ≤ s.now → s.rcp.valid = true → directoryFault (some l) = none →
    directoryGen l = s.rcp.gen → exec (.recipePoll (some l)) s = .next { s with
      rcp := { s.rcp with pollNext := s.now + 2 * 32768 } }) ∧
  (∀ (s : State) (l : List Byte), l.length ≤ 2 ^ 16 → s.dev.mode = .sand → s.dev.core = .running →
    s.dev.cacheDone = true → s.rcp.pollNext ≤ s.now → s.rcp.valid = true → directoryFault (some l) = none →
    directoryGen l ≠ s.rcp.gen → (∀ i : Fin 12, s.slotUsed i = true → (directoryEntries l)[i] = s.rcp.entries[i]) →
    s.rcp.crcFails = Vector.replicate 12 0 → ∃ t, exec (.recipePoll (some l)) s = .next t ∧
      t.rcp.gen = directoryGen l ∧ t.rcp.slots = s.rcp.slots ∧ t.cam = s.cam ∧ t.pending = s.pending)

/-- Line slots, statistics and loops of the kiln (§8.2, §8.5, §8.6; R326, R329, R330, R355 to R359, R361 to R363). In part
this rests on readings and choices of the model: log entries 50, 57. -/
def Obligations.KilnSlotsAndLoops : Prop :=
  (∀ (s : State) (c : Ctx) (f g : CamFrame) (n b rl : Nat), s.kilnOn = true → s.kiln.slot = none →
    (∀ d : Ctx, (s.kiln.ctx[d]).skipping = false ∧ ((s.kiln.ctx[d]).frames = [] ∨ (s.kiln.ctx[d]).cur.isSome = true)) →
    s.slotOrder.find? s.ctxReady = some c → s.kilnFrame c = some (f, n) → (s.kiln.ctx[c]).cur = some g →
    s.inRing c = some (b, rl) → ∃ t, exec .kilnLineSlot s = .next t ∧
      t.kiln.slot = some c ∧ t.kiln.last = c ∧ t.kiln.readySince = none ∧ t.kiln.lineIn = [] ∧
      t.kiln.feed = [((s.kiln.ctx[c]).readPos, c, rl)] ∧ (t.kiln.ctx[c]).cur = some g ∧
      (t.kiln.ctx[c]).rows = (s.kiln.ctx[c]).rows ∧
      (t.mov.queue[inQueue c]).level = (s.mov.queue[inQueue c]).level - 1 ∧ (t.kiln.ctx[c]).work = (s.kiln.ctx[c]).work ∧
      (∀ d : Ctx, d ≠ c → t.kiln.ctx[d] = s.kiln.ctx[d]) ∧ ChangesOnly [.kiln, .movers] s t) ∧
  (∀ (s : State) (c : Ctx), s.kilnOn = true → s.kiln.slot = some c → s.kiln.feed ≠ [] →
    (∀ d : Ctx, (s.kiln.ctx[d]).skipping = false ∧ ((s.kiln.ctx[d]).frames = [] ∨ (s.kiln.ctx[d]).cur.isSome = true)) →
    exec .kilnLineSlot s = .next s) ∧
  (∀ (s : State) (c : Ctx) (g : CamFrame), s.kilnOn = true → s.kiln.slot = some c → s.kiln.feed = [] →
    (∀ d : Ctx, (s.kiln.ctx[d]).skipping = false ∧ ((s.kiln.ctx[d]).frames = [] ∨ (s.kiln.ctx[d]).cur.isSome = true)) →
    (s.kiln.ctx[c]).cur = some g → (s.kiln.ctx[c]).rows.length + 1 < (s.kiln.ctx[c]).lines →
    ∃ t, exec .kilnLineSlot s = .next t ∧ (t.kiln.ctx[c]).cur = some g ∧ (t.kiln.ctx[c]).work = (s.kiln.ctx[c]).work ∧
      (t.kiln.ctx[c]).rows =
        (s.kiln.ctx[c]).rows ++ [if c.val = 12 then [] else (s.kiln.ctx[c]).unpacked s.kiln.lineIn] ∧
      ChangesOnly ([.kiln, .movers, .cameras] ++ s.journalling) s t) ∧
  (∀ (s : State) (c : Ctx) (p : CamPort) (st : Stats), (s.kiln.ctx[c]).stats = some st → ctxCam c = some p →
    (s.kiln.ctx[c]).statsNew = true → s.moversOn = true → (s.cam[p]).state = .streaming → (s.kiln.ctx[c]).statLate = false →
    (s.kiln.ctx[c]).updFrame + s.aeLatency c ≤ (s.kiln.ctx[c]).statFrame →
    exec (.kilnStatisticsReady c) s = .next { s with kiln := { s.kiln with ctx := s.kiln.ctx.set c { s.kiln.ctx[c] with
      statsNew := false, aePend := true, awbPend := true, measure := st.measure } } }) ∧
  (∀ (s : State) (c : Ctx) (p : CamPort) (st : Stats), (s.kiln.ctx[c]).stats = some st → ctxCam c = some p →
    (s.kiln.ctx[c]).statsNew = true → s.moversOn = true →
    ((s.kiln.ctx[c]).statLate = true ∨ (s.kiln.ctx[c]).statFrame < (s.kiln.ctx[c]).updFrame + s.aeLatency c) →
    exec (.kilnStatisticsReady c) s = .next { s with kiln := { s.kiln with ctx := s.kiln.ctx.set c { s.kiln.ctx[c] with
      statsNew := false, aePend := false, awbPend := false } } }) ∧
  (∀ (s : State) (c : CamPort) (st : Stats) (m : ExpMap) (r : Recipe), (s.kiln.ctx[camCtx c]).stats = some st →
    (s.cam[c]).expmap = some m → s.portRecipe c = some r → (s.kiln.ctx[camCtx c]).aePend = true →
    (s.cam[c]).state = .streaming →
    logAtLeast ((s.kiln.ctx[camCtx c]).errorRatio st).1 ((s.kiln.ctx[camCtx c]).errorRatio st).2 1 = true →
    ∃ t, exec (.aeUpdate c) s = .next t ∧
      (let v := m.splitProduct (nextProduct ((s.kiln.ctx[camCtx c]).exposure * (s.kiln.ctx[camCtx c]).gain)
        ((s.kiln.ctx[camCtx c]).errorRatio st) (decide ((s.kiln.ctx[camCtx c]).updates < 4)))
       (t.kiln.ctx[camCtx c]).exposure = v.1 ∧ (t.kiln.ctx[camCtx c]).gain = v.2.1 ∧
       ((s.cam[c]).burstBusy = false → (t.cam[c]).burst = some (v.1, v.2.2)) ∧
       ((s.cam[c]).burstBusy = true → (t.cam[c]).burstWait = some (v.1, v.2.2))) ∧
      (t.kiln.ctx[camCtx c]).updates = (s.kiln.ctx[camCtx c]).updates + 1 ∧ (t.kiln.ctx[camCtx c]).quiet = 0 ∧
      (t.kiln.ctx[camCtx c]).aePend = false ∧
      (∀ d : Ctx, d ≠ camCtx c → t.kiln.ctx[d] = s.kiln.ctx[d]) ∧ (∀ k : CamPort, k ≠ c → t.cam[k] = s.cam[k]) ∧
      ChangesOnly ([.kiln, .cameras] ++ s.journalling) s t) ∧
  (∀ (s : State) (c : CamPort) (st : Stats) (m : ExpMap) (r : Recipe), (s.kiln.ctx[camCtx c]).stats = some st →
    (s.cam[c]).expmap = some m → s.portRecipe c = some r → (s.kiln.ctx[camCtx c]).aePend = true →
    (s.cam[c]).state = .streaming →
    logAtLeast ((s.kiln.ctx[camCtx c]).errorRatio st).1 ((s.kiln.ctx[camCtx c]).errorRatio st).2 1 = false →
    logAtLeast ((s.kiln.ctx[camCtx c]).errorRatio st).1 ((s.kiln.ctx[camCtx c]).errorRatio st).2 3 = false →
    ∃ t, exec (.aeUpdate c) s = .next t ∧ (t.kiln.ctx[camCtx c]).exposure = (s.kiln.ctx[camCtx c]).exposure ∧
      (t.kiln.ctx[camCtx c]).gain = (s.kiln.ctx[camCtx c]).gain ∧
      (t.kiln.ctx[camCtx c]).quiet = (s.kiln.ctx[camCtx c]).quiet + 1 ∧
      (t.kiln.ctx[camCtx c]).converged = ((s.kiln.ctx[camCtx c]).converged || decide (3 ≤ (s.kiln.ctx[camCtx c]).quiet)) ∧
      t.cam = s.cam ∧ ChangesOnly (.kiln :: s.journalling) s t) ∧
  (∀ (s : State) (c : CamPort) (st : Stats) (d : Nat), (s.kiln.ctx[camCtx c]).stats = some st →
    (s.kiln.ctx[camCtx c]).awbPend = true → (s.cam[c]).state = .streaming → s.eff 29 = 1 → s.ctxCfa (camCtx c) ≠ 4 →
    d = 64 → 8 ≤ st.awbZones.length → ∃ t, exec (.awbUpdate c) s = .next t ∧
      (t.kiln.ctx[camCtx c]).awbPend = false ∧ (t.kiln.ctx[camCtx c]).awbFrames = (s.kiln.ctx[camCtx c]).awbFrames + 1 ∧
      (t.kiln.ctx[camCtx c]).armed = true ∧
      (t.kiln.ctx[camCtx c]).wb[(0 : Fin 3)] = rdivNat ((s.kiln.ctx[camCtx c]).wb[(0 : Fin 3)] * (d - 1) +
        awbTarget (sumNat (st.awbZones.map fun a => a.g)) (sumNat (st.awbZones.map fun a => a.r))) d ∧
      (t.kiln.ctx[camCtx c]).wb[(2 : Fin 3)] = rdivNat ((s.kiln.ctx[camCtx c]).wb[(2 : Fin 3)] * (d - 1) +
        awbTarget (sumNat (st.awbZones.map fun a => a.g)) (sumNat (st.awbZones.map fun a => a.b))) d ∧
      (∀ x : Ctx, x ≠ camCtx c → t.kiln.ctx[x] = s.kiln.ctx[x]) ∧ ChangesOnly [.kiln] s t) ∧
  (∀ (s : State) (c : CamPort) (t0 : Nat), s.eff 29 = 6 → s.ctxUsed (camCtx c) = true →
    (if (s.kiln.ctx[camCtx c]).mono then (s.kiln.ctx[camCtx c]).lowSince else (s.kiln.ctx[camCtx c]).maxSince) = some t0 →
    t0 + 10 * 32768 ≤ s.now → ∃ t, exec (.nightMode c) s = .next t ∧
      (t.kiln.ctx[camCtx c]).mono = !(s.kiln.ctx[camCtx c]).mono ∧ (t.kiln.ctx[camCtx c]).armed = true ∧
      (s.takesEntry 0x84 → LogsEntry s t 0x84 (c.val * 4096 + if (s.kiln.ctx[camCtx c]).mono then 0 else 1)) ∧
      (∀ x : Ctx, x ≠ camCtx c → t.kiln.ctx[x] = s.kiln.ctx[x]) ∧ ChangesOnly (.kiln :: s.journalling) s t)

/-- Overruns, parity errors and hangs of the kiln (§8.7; R369 to R371). In part this rests on readings and choices of the
model: log entries 59, 131. -/
def Obligations.KilnFaults : Prop :=
  (∀ (s : State) (c : Ctx), s.kiln.running = true → (s.kiln.ctx[c]).resync = true → ∃ t, exec (.kilnOverrun c) s = .next t ∧
      (t.kiln.ctx[c]).resync = false ∧ (t.kiln.ctx[c]).cur = none ∧ (t.kiln.ctx[c]).rows = [] ∧
      (t.kiln.ctx[c]).outDone = 0 ∧ (t.kiln.ctx[c]).skipping = false ∧
      (t.kiln.ctx[c]).readPos = ((s.mov.queue[inQueue c]).resync).toNat ∧ (t.kiln.ctx[c]).work = (s.kiln.ctx[c]).work ∧
      t.kiln.overruns = s.kiln.overruns + 1 ∧ t.kiln.slot = (if s.kiln.slot = some c then none else s.kiln.slot) ∧
      (∀ x : Ctx, x ≠ c → t.kiln.ctx[x] = s.kiln.ctx[x]) ∧
      (s.takesEntry 0x80 → LogsEntry s t 0x80 (c.val * 4096)) ∧ ChangesOnly ([.kiln, .movers] ++ s.journalling) s t) ∧
  (∀ (s : State) (c : Ctx) (slot : Fin 46), s.kilnOn = true → s.ctxUsed c = true → (s.kiln.ctx[c]).parityAt = [] →
    ∃ t, exec (.kilnParity c slot) s = .next t ∧
      t.kiln.parities = s.kiln.parities + 1 ∧ (t.kiln.ctx[c]).parityAt = [s.now] ∧ (t.kiln.ctx[c]).armed = true ∧
      (t.kiln.ctx[c]).shadow = s.ctxParams c ∧
      ((s.kiln.ctx[c]).cur.isSome = true → (t.kiln.ctx[c]).rows = [] ∧ (c.val < 12 → (t.kiln.ctx[c]).skipping = true)) ∧
      (∀ x : Ctx, x ≠ c → t.kiln.ctx[x] = s.kiln.ctx[x]) ∧
      (s.takesEntry 0x81 → LogsEntry s t 0x81 (c.val * 4096 + slot.val)) ∧ ChangesOnly ([.kiln, .movers] ++ s.journalling) s t) ∧
  (∀ (s : State) (c : Ctx) (t0 : Nat), s.kilnOn = true → s.ctxReady c = true → s.kiln.readySince = some t0 →
    t0 + 33 ≤ s.now → s.kiln.hangs = [] → ∃ t, exec .kilnHang s = .next t ∧
      t.kiln.hangCount = s.kiln.hangCount + 1 ∧ t.kiln.hangs = [s.now] ∧ t.kiln.feed = [] ∧ t.kiln.out = [] ∧
      t.kiln.slot = none ∧ t.kiln.readySince = none ∧ (∀ x : Ctx, (t.kiln.ctx[x]).work = s.ctxParams x ∧ (t.kiln.ctx[x]).armed = false) ∧
      (s.takesEntry 0x82 → LogsEntry s t 0x82 1) ∧ ChangesOnly ([.kiln, .movers] ++ s.journalling) s t) ∧
  (∀ (s : State) (c : Ctx) (t0 h0 : Nat), s.kilnOn = true → s.ctxReady c = true → s.kiln.readySince = some t0 →
    t0 + 33 ≤ s.now → s.kiln.hangs = [h0] → s.now < h0 + 60 * 32768 → ∃ t, exec .kilnHang s = .next t ∧
      t.dev.fatal = s.dev.fatal ++ [.kilnFault] ∧ t.kiln.hangCount = s.kiln.hangCount + 1 ∧
      (s.takesEntry 0x82 → LogsEntry s t 0x82 0) ∧ ChangesOnly ([.device, .kiln, .movers] ++ s.journalling) s t)

/-- Loading, arbitration and the end of mover programs (§9.1, §9.2, §9.6; R373 to R376, R397, R412). In part this rests on
readings and choices of the model: log entries 3, 51, 54. -/
def Obligations.MoverPrograms : Prop :=
  (∀ (s : State) (ch : MovCh) (prog : List (BitVec 128)), prog.length ≤ 16 → s.moversOn = true → chanUsed ch = true →
    ((s.mov.chan[ch]).state = .idle ∨ (s.mov.chan[ch]).state = .done ∨ (s.mov.chan[ch]).state = .stopped) →
    ∃ t, exec (.moverProgramLoad ch prog) s = .next t ∧
      (t.mov.chan[ch]).state = .run ∧ (t.mov.chan[ch]).pc = 16 * ch.val ∧ (t.mov.chan[ch]).level = chanLevel ch ∧
      (t.mov.chan[ch]).owner = chanOwner ch ∧ (t.mov.chan[ch]).regs[(8 : Fin 10)] = 0xFFFFFFFF#32 ∧
      (t.mov.chan[ch]).loops = Vector.replicate 2 none ∧ (t.mov.chan[ch]).latch = none ∧
      (∀ i : Fin 16, t.mov.prog[(⟨16 * ch.val + i.val, by omega⟩ : Fin 512)] = prog.getD i.val 0) ∧
      (∀ i : Fin 512, i.val / 16 ≠ ch.val → t.mov.prog[i] = s.mov.prog[i]) ∧
      (∀ d : MovCh, d ≠ ch → t.mov.chan[d] = s.mov.chan[d]) ∧ ChangesOnly [.movers] s t) ∧
  (∀ (s : State) (ch : MovCh) (prog : List (BitVec 128)), 16 < prog.length →
    exec (.moverProgramLoad ch prog) s = .refused .illFormed) ∧
  (∀ (s : State) (c : MovCh), s.requests c = true → c ≠ 31 →
    ∃ t g, exec .arbiterGrant s = .next t ∧ s.requests g = true ∧ (s.grant g).readyBurst g = some t ∧
      t.mov.granted = some g ∧
      (∀ d : MovCh, d ≠ 31 → s.requests d = true → (s.mov.chan[d]).level ≤ (s.mov.chan[g]).level) ∧
      (g = 31 → 7 ≤ s.mov.since31) ∧ t.mov.since31 = (if g = 31 then 0 else min 7 (s.mov.since31 + 1)) ∧
      t.mov.served = s.mov.served.set (s.mov.chan[g]).level g ∧ (∀ d : MovCh, d ≠ g → t.mov.chan[d] = s.mov.chan[d]) ∧
      ChangesOnly [.movers, .pool, .cameras, .kiln, .head, .fabric] s t) ∧
  (∀ s : State, (∀ c : MovCh, s.requests c = false) → exec .arbiterGrant s = .next s) ∧
  (∀ (s : State) (ch : MovCh) (acc r e : Bool), s.running ch = some (.fin r e) → (r = false ∨ s.readsBack ch acc = true) →
    exec (.moverEnd ch acc) s = .next { s with mov := { s.mov with chan := s.mov.chan.set ch { s.mov.chan[ch] with
      events := (s.mov.chan[ch]).events + (if e then 1 else 0)
      state := if (s.mov.chan[ch]).stopReq then .stopped else .done, stopReq := false } } }) ∧
  (∀ (s : State) (ch : MovCh) (acc e : Bool), s.running ch = some (.fin true e) → s.readsBack ch acc = false →
    ∃ t, exec (.moverEnd ch acc) s = .next t ∧ (t.mov.chan[ch]).state = .halted ∧
      (∃ l : FaultLatch, (t.mov.chan[ch]).latch = some l ∧ l.cause = 6#3 ∧ l.owner = (s.mov.chan[ch]).owner) ∧
      (∀ d : MovCh, d ≠ ch → t.mov.chan[d] = s.mov.chan[d]) ∧ ChangesOnly (.movers :: s.journalling) s t) ∧
  (∀ (s : State) (ch : MovCh) (e : Bool), s.running ch = some (.fin true e) → ∃ t, exec (.readbackTimeout ch) s = .next t ∧
      (t.mov.chan[ch]).state = .halted ∧
      (∃ l : FaultLatch, (t.mov.chan[ch]).latch = some l ∧ l.cause = 6#3 ∧ l.word = (s.mov.chan[ch]).pc) ∧
      (∀ d : MovCh, d ≠ ch → t.mov.chan[d] = s.mov.chan[d]) ∧ ChangesOnly (.movers :: s.journalling) s t) ∧
  (∀ (s : State) (ch : MovCh), s.moversOn = true → (s.mov.chan[ch]).state = .run →
    exec (.channelStopRequest ch) s = .next { s with mov := { s.mov with
      chan := s.mov.chan.set ch { s.mov.chan[ch] with stopReq := true } } }) ∧
  (∀ (s : State) (ch : MovCh), s.moversOn = true → (s.mov.chan[ch]).state = .wait →
    exec (.channelStopRequest ch) s = .next { s with mov := { s.mov with
      chan := s.mov.chan.set ch { s.mov.chan[ch] with
        state := .stopped, stopReq := false, waitTill := none, waitFrame := none } } })

/-- Moves and fills of the clay pool and the owner check on writes (§9.3, §9.7; R374, R387, R390, R398, R400). The control words
of mover programs (§9.2 to §9.5, Table 9.3; R383, R385, R386, R392 to R395). In part this rests on readings and
choices of the model: log entries 51, 52. -/
def Obligations.MoverWords : Prop :=
  (∀ (s : State) (ch : MovCh) (m : MoveFields), s.running ch = some (.move m) → m.desc = false → m.sc = false →
    m.dc = false → m.count = 1 → m.q = false → m.half = false → m.full = false → m.crc = false → m.srcW = 0 → m.dstW = 0 →
    0 < m.len → m.src % 16384 + m.len ≤ 16384 → m.dst % 16384 + m.len ≤ 16384 → m.src + m.len ≤ 0x600000 →
    m.dst + m.len ≤ 0x600000 → (m.src + m.len ≤ m.dst ∨ m.dst + m.len ≤ m.src) → readable (s.mov.ownerAt m.src) = true →
    s.mov.ownerAt m.dst = (s.mov.chan[ch]).owner → (s.mov.chan[ch]).line = 0 → (s.mov.chan[ch]).off = 0 →
    (∀ d : MovCh, d ≠ ch → s.running d = none) → ∃ t, exec (.moverMove ch) s = .next t ∧
      t.mov.pool = memStore s.mov.pool m.dst (memRange s.mov.pool m.src m.len) ∧
      (t.mov.chan[ch]).state = .run ∧ (t.mov.chan[ch]).pc = (s.mov.chan[ch]).pc + 1 ∧
      (t.mov.chan[ch]).regs = (s.mov.chan[ch]).regs ∧
      (∀ d : MovCh, d ≠ ch → t.mov.chan[d] = s.mov.chan[d]) ∧ t.mov.owner = s.mov.owner ∧
      ChangesOnly [.movers, .pool] s t) ∧
  (∀ (s : State) (ch : MovCh) (m : MoveFields), s.running ch = some (.move m) → s.requests ch = true →
    s.arbitrate ≠ some ch → 0 < m.count → exec (.moverMove ch) s = .next s) ∧
  (∀ (s : State) (ch : MovCh) (m : MoveFields), s.running ch = some (.fill m) → m.dc = false → m.sc = false →
    m.count = 1 → m.q = false → m.half = false → m.full = false → m.crc = false → m.dstW = 0 → 0 < m.len →
    m.dst % 16384 + m.len ≤ 16384 → m.dst + m.len ≤ 0x600000 → s.mov.ownerAt m.dst = (s.mov.chan[ch]).owner →
    (s.mov.chan[ch]).line = 0 → (s.mov.chan[ch]).off = 0 → (∀ d : MovCh, d ≠ ch → s.running d = none) →
    ∃ t, exec (.moverFill ch) s = .next t ∧
      t.mov.pool = memStore s.mov.pool m.dst
        (List.replicate m.len (BitVec.ofNat 8 ((s.mov.chan[ch]).regs[(9 : Fin 10)]).toNat)) ∧
      (t.mov.chan[ch]).state = .run ∧ (t.mov.chan[ch]).pc = (s.mov.chan[ch]).pc + 1 ∧
      (∀ d : MovCh, d ≠ ch → t.mov.chan[d] = s.mov.chan[d]) ∧ t.mov.owner = s.mov.owner ∧
      ChangesOnly [.movers, .pool] s t) ∧
  (∀ (s : State) (ch : MovCh) (m : MoveFields), s.running ch = some (.fill m) → m.dc = false → m.sc = false →
    m.count = 1 → m.crc = false → m.dstW = 0 → 0 < m.len → m.dst + m.len ≤ 0x600000 → ch ≠ 31 →
    s.mov.ownerAt m.dst ≠ (s.mov.chan[ch]).owner → (s.mov.chan[ch]).line = 0 → (s.mov.chan[ch]).off = 0 →
    ∃ t, exec (.moverFill ch) s = .next t ∧
      t.mov.pool = s.mov.pool ∧ (t.mov.chan[ch]).state = .halted ∧
      (∃ l : FaultLatch, (t.mov.chan[ch]).latch = some l ∧ l.cause = 3#3 ∧ l.write = true ∧
        l.addr = BitVec.ofNat 32 m.dst ∧ l.owner = (s.mov.chan[ch]).owner ∧ l.word = (s.mov.chan[ch]).pc) ∧
      (∀ d : MovCh, d ≠ ch → t.mov.chan[d] = s.mov.chan[d]) ∧ ChangesOnly (.movers :: s.journalling) s t) ∧
  (∀ (s : State) (ch : MovCh) (qn : Fin 64) (timeout target : Nat), s.moversOn = true → (s.mov.chan[ch]).state = .run →
    decodeWord (s.wordAt ch) = some (.wait qn 2 timeout target) → (s.mov.chan[ch]).stopReq = false →
    (1 ≤ (s.mov.queue[qn]).level → exec (.moverWait ch) s = .next { s with mov := { s.mov with
      chan := s.mov.chan.set ch { s.mov.chan[ch] with
        state := .run, pc := (s.mov.chan[ch]).pc + 1, waitTill := none, waitFrame := none } } }) ∧
    ((s.mov.queue[qn]).level = 0 → exec (.moverWait ch) s = .next { s with mov := { s.mov with
      chan := s.mov.chan.set ch { s.mov.chan[ch] with
        state := .wait, waitTill := if timeout = 0 then none else some (s.now + cdiv (timeout * 32768) 1000000) } } })) ∧
  (∀ (s : State) (ch : MovCh) (qn : Fin 64) (cond timeout target t0 : Nat), s.moversOn = true →
    decodeWord (s.wordAt ch) = some (.wait qn cond timeout target) → (s.mov.chan[ch]).waitTill = some t0 →
    (s.mov.chan[ch]).state = .wait → t0 ≤ s.now →
    exec (.moverWaitTimeout ch) s = .next { s with mov := { s.mov with chan := s.mov.chan.set ch { s.mov.chan[ch] with
      state := .run, pc := target, line := 0, off := 0, loops := Vector.replicate 2 none, waitTill := none, waitFrame := none } } }) ∧
  (∀ (s : State) (ch : MovCh) (qn : Fin 64) (ev : Bool) (code : Nat), s.running ch = some (.signal qn 1 ev code) →
    (s.mov.queue[qn]).level < 65535 → exec (.moverSignal ch) s = .next { s with mov := { s.mov with
      queue := s.mov.queue.set qn { s.mov.queue[qn] with level := (s.mov.queue[qn]).level + 1 }
      chan := s.mov.chan.set ch { s.mov.chan[ch] with
        pc := (s.mov.chan[ch]).pc + 1, line := 0, off := 0
        events := if ev then (s.mov.chan[ch]).events + 1 else (s.mov.chan[ch]).events
        lastEvent := if ev then BitVec.ofNat 8 code else (s.mov.chan[ch]).lastEvent } } }) ∧
  (∀ (s : State) (ch : MovCh) (qn : Fin 64) (ev : Bool) (code : Nat), s.running ch = some (.signal qn 2 ev code) →
    (s.mov.queue[qn]).level = 0 → ∃ t, exec (.moverSignal ch) s = .next t ∧ (t.mov.chan[ch]).state = .halted ∧
      (∃ l : FaultLatch, (t.mov.chan[ch]).latch = some l ∧ l.cause = 4#3) ∧ t.mov.queue = s.mov.queue ∧
      ChangesOnly (.movers :: s.journalling) s t) ∧
  (∀ (s : State) (ch : MovCh) (qn : Fin 64) (rel target addr imm : Nat),
    s.running ch = some (.compare 0 qn rel false target addr imm) → ∃ t, exec (.moverCompare ch) s = .next t ∧
      t.mov.chan[ch] = (if relHolds rel (s.mov.queue[qn]).level imm then
        { s.mov.chan[ch] with pc := target, line := 0, off := 0, loops := Vector.replicate 2 none }
        else { s.mov.chan[ch] with pc := (s.mov.chan[ch]).pc + 1, line := 0, off := 0 }) ∧
      (∀ d : MovCh, d ≠ ch → t.mov.chan[d] = s.mov.chan[d]) ∧ ChangesOnly [.movers] s t) ∧
  (∀ (s : State) (ch : MovCh) (reset : Bool) (addr : Nat), s.running ch = some (.crc reset false addr) →
    exec (.moverCrc ch) s = .next { s with mov := { s.mov with chan := s.mov.chan.set ch { s.mov.chan[ch] with
      pc := (s.mov.chan[ch]).pc + 1, line := 0, off := 0
      regs := if reset then (s.mov.chan[ch]).regs.set 8 0xFFFFFFFF#32 else (s.mov.chan[ch]).regs } } }) ∧
  (∀ (s : State) (ch : MovCh) (r : Fin 10) (v : BitVec 32), s.running ch = some (.set r v) →
    exec (.moverSet ch) s = .next { s with mov := { s.mov with chan := s.mov.chan.set ch { s.mov.chan[ch] with
      pc := (s.mov.chan[ch]).pc + 1, line := 0, off := 0, regs := (s.mov.chan[ch]).regs.set r v } } })

/-- Mover faults, recovery, scrubbing and the allocation of Sand (§9.7, §9.8; R402, R404 to R412). In part this rests on
readings and choices of the model: log entry 60. -/
def Obligations.MoverRecovery : Prop :=
  (∀ (s : State) (ch : MovCh) (w : Bool) (a : BitVec 32), s.moversOn = true →
    ((s.mov.chan[ch]).state = .run ∨ (s.mov.chan[ch]).state = .wait) → s.ownFault ch = none →
    ∃ t, exec (.moverFault ch 1 w a) s = .next t ∧ (t.mov.chan[ch]).state = .halted ∧
      (t.mov.chan[ch]).latch = some { cause := 1, write := w, addr := a, word := (s.mov.chan[ch]).pc
                                      owner := s.ownerInForce ch a.toNat } ∧
      (t.mov.chan[ch]).pc = (s.mov.chan[ch]).pc ∧
      (∀ d : MovCh, d ≠ ch → t.mov.chan[d] = s.mov.chan[d]) ∧ ChangesOnly (.movers :: s.journalling) s t) ∧
  (∀ (s : State) (ch : MovCh) (w : Bool) (a : BitVec 32), s.moversOn = true → (s.mov.chan[ch]).state = .run →
    decodeWord (s.wordAt ch) = none → ∃ t, exec (.moverFault ch 5 w a) s = .next t ∧ (t.mov.chan[ch]).state = .halted ∧
      (∃ l : FaultLatch, (t.mov.chan[ch]).latch = some l ∧ l.cause = 5#3) ∧ ChangesOnly (.movers :: s.journalling) s t) ∧
  (∀ (s : State) (c : MovCh) (l : FaultLatch), s.faulted = some c → (s.mov.chan[c]).latch = some l →
    s.dev.core = .running → s.dev.changeover ≠ .idle → l.owner.toNat < 19 → ∃ t, exec .moverRecovered s = .next t ∧
      (t.mov.chan[c]).state = .stopped ∧ (t.mov.chan[c]).latch = none ∧
      (∀ i : Fin 384, s.mov.owner[i] = l.owner → t.mov.owner[i] = 29#5 ∧ ∀ b < 16384, memRead t.mov.pool (i.val * 16384 + b) = 0) ∧
      (∀ i : Fin 384, s.mov.owner[i] ≠ l.owner → t.mov.owner[i] = s.mov.owner[i]) ∧
      ChangesOnly [.movers, .pool, .kiln, .cameras, .head, .fabric] s t) ∧
  (∀ (s : State) (c : MovCh) (l : FaultLatch), s.faulted = some c → (s.mov.chan[c]).latch = some l →
    s.dev.core = .running → s.dev.changeover = .idle → ∃ t, exec .moverRecovered s = .next t ∧
      (t.mov.chan[c]).latch = none ∧ t.pending = s.pending ∧ t.tr = s.tr ∧ t.bead = s.bead) ∧
  (∀ (s : State) (l : FaultLatch), (s.mov.chan[(31 : MovCh)]).latch = some l → (s.mov.chan[(31 : MovCh)]).state = .halted →
    s.dev.core = .running → s.mov.fault31At = [] → ∃ t, exec .channel31Fault s = .next t ∧
      (t.mov.chan[(31 : MovCh)]).state = .run ∧ (t.mov.chan[(31 : MovCh)]).latch = none ∧
      t.mov.fault31At = [s.now] ∧ t.pending = s.pending ∧ t.tr = s.tr) ∧
  (∀ (s : State) (n : Nat) (rest : List Job), s.mov.jobs = .scrub n :: rest → s.moversOn = true →
    (s.mov.chan[(31 : MovCh)]).state ≠ .halted → (s.mov.chan[(31 : MovCh)]).state ≠ .fenced → s.kiln.running = false →
    ∃ t, exec .scrubJob s = .next t ∧
      t.mov.jobs = rest ∧ (∀ b < 16384, memRead t.mov.pool (n * 16384 + b) = 0) ∧
      (∀ a, a < n * 16384 ∨ n * 16384 + 16384 ≤ a → memRead t.mov.pool a = memRead s.mov.pool a) ∧
      (∀ i : Fin 384, t.mov.owner[i] = if i.val = n ∧ s.mov.owner[i] = 30#5 then 29#5 else s.mov.owner[i]) ∧
      ChangesOnly [.movers, .pool] s t) ∧
  (∀ s : State, s.dev.mode = .sand → s.dev.changeover = .idle → s.moversOn = true → s.kiln.running = false →
    (placeAll [] s.sandNeeds s.mov.owner).isSome = true → ∃ t, exec .sandEntryAllocation s = .next t ∧
      t.kiln.running = true ∧ t.kiln.last = 12 ∧
      (∀ c : Ctx, (t.kiln.ctx[c]).work = (t.kiln.ctx[c]).shadow ∧ (t.kiln.ctx[c]).armed = false ∧
        (t.kiln.ctx[c]).fault = false) ∧
      t.mov.pool = s.mov.pool ∧ ChangesOnly [.kiln, .movers] s t)

/-- Frames and records of the head (§10.2 to §10.6; R424, R428, R430, R435, R438, R495). In part this rests on readings
and choices of the model: log entries 65, 75. -/
def Obligations.HeadOutput : Prop :=
  (∀ s : State, s.frameDue = true → ∃ t, exec .outputFrameStart s = .next t ∧
      t.head.on = true ∧ t.head.startedAt = s.frameStart ∧ t.head.inFrame = decide (t.hmode ≠ .off) ∧
      t.head.counter = (if t.hmode = .off then s.head.counter else s.head.counter + 1) ∧ t.pending = s.pending ∧
      t.tr = s.tr ∧ t.tal.store = s.tal.store ∧ t.tal.path = s.tal.path ∧ t.mon = s.mon) ∧
  (∀ (s : State) (vc : Fin 16) (f : HeadFrame), s.head.last = some f → s.head.inFrame = true → s.drives = true →
    f.onVc vc.val ≠ [] → ∃ t, exec (.headUnderrun vc) s = .next t ∧
      t.head.underruns = s.head.underruns + 1 ∧ t.head.underrunPrev = true ∧ t.head.counter = s.head.counter ∧
      (∃ n ∈ f.onVc vc.val, ∃ k, t.head.last = some { f with packets := f.packets.modify n fun p => p.padded k }) ∧
      (s.takesEntry 0x90 → LogsEntry s t 0x90 vc.val) ∧ ChangesOnly ([.head, .movers, .draws] ++ s.journalling) s t) ∧
  (∀ (s : State) (r : HeadRec) (rest : List HeadRec), s.head.offered = r :: rest →
    (256 ≤ s.head.records.length → exec .eventRecordQueue s = .next { s with head := { s.head with
      offered := rest, dropped := s.head.dropped + 1, droppedNew := s.head.droppedNew + 1 } }) ∧
    (s.head.records.length < 256 → exec .eventRecordQueue s = .next { s with head := { s.head with
      offered := rest, records := s.head.records ++ [headRecord s.head.seq r], seq := s.head.seq + 1 } })) ∧
  (∀ s : State, s.dev.mode = .sand → s.head.snapNext ≤ s.now → ∃ t, exec .tallySnapshot s = .next t ∧
      t.head.snapNext = s.head.snapNext + 60 * 32768 ∧ t.head.snapDev = s.tal.dev ∧
      (∀ p : PathNo, t.head.snapPath[p] = (s.tal.path[p]).count) ∧
      t.head.offered.length = s.head.offered.length + (s.changedTallies s.head.snapDev s.head.snapPath).length ∧
      ChangesOnly [.head] s t) ∧
  (∀ (s : State) (k : CamPort), s.dev.mode = .sand → (s.head.tile[k]).held = false →
    (s.head.tile[k]).freshAt + s.holdLimit < s.now → exec (.tileHoldTimeout k) s = .next { s with head := { s.head with
      tile := s.head.tile.set k { s.head.tile[k] with held := true } } }) ∧
  (∀ (s : State) (i : TileImage) (rest : List TileImage) (d : Nat), s.head.images = i :: rest → i.doneAt = some d →
    s.now ≤ d + cdiv (2 * framePeriodNs s.rateIdx * 32768) 1000000000 → s.head.on = true → s.head.inFrame = true →
    s.drives = true → s.carries 14 = true → ∃ t, exec .tileImageOutput s = .next t ∧ t.head.images = rest ∧
      t.head.imageOut = some (i.packets i.header (frameNumber (s.head.counter - 1))) ∧ ChangesOnly [.head] s t) ∧
  (∀ (s : State) (i : TileImage) (rest : List TileImage) (d : Nat), s.head.images = i :: rest → i.doneAt = some d →
    d + cdiv (2 * framePeriodNs s.rateIdx * 32768) 1000000000 < s.now → ∃ t, exec .tileImageOutput s = .next t ∧
      t.head.images = rest ∧ t.head.imageOut = s.head.imageOut ∧ t.head.imageDrops = s.head.imageDrops + 1 ∧
      ChangesOnly (.head :: s.journalling) s t)

/-- Training of a Speica link, its failure and its loss (§11.3; R454 to R456, R460, R467, R472, R529, R538). Ember idle
and its end (§11.4; R457 to R459). In part this rests on readings and choices of the model: log entries 77, 78. -/
def Obligations.LinkTrainingAndEmber : Prop :=
  (∀ (s : State) (p : FabPort) (r : BitVec 2), s.serdesOn = true → s.portRole p ≠ .off → s.dev.serdesFault[p] = false →
    (s.fab.port[p]).mayTrain s.now = true → r.toNat = (s.portRole p).code → ∃ t, exec (.linkTraining p r) s = .next t ∧
      (t.fab.port[p]).link = LinkState.active ∧ (t.fab.port[p]).granted = ringCredits ∧
      ((s.fab.port[p]).key = none → (t.fab.port[p]).credits = Vector.replicate 2 0 ∧
        (t.fab.port[p]).bucket = fullBuckets ∧ (t.fab.port[p]).beaconNext = s.now) ∧
      (∀ q : FabPort, q ≠ p → s.trole = .none → t.fab.port[q] = s.fab.port[q]) ∧
      ((s.fab.port[p]).link = LinkState.training → s.takesEntry 0x40 →
        LogsEntry s t 0x40 (p.val * 16384 + LinkState.active.code)) ∧
      ChangesOnly ([.fabric, .draws] ++ s.journalling) s t) ∧
  (∀ (s : State) (p : FabPort) (r : BitVec 2), (s.fab.port[p]).link = LinkState.training →
    (s.fab.port[p]).trainAt + 328 ≤ s.now → exec (.linkTraining p r) s = .next s) ∧
  (∀ (s : State) (p : FabPort) (r : BitVec 2), s.serdesOn = true → s.portRole p ≠ .off → s.dev.serdesFault[p] = false →
    (s.fab.port[p]).mayTrain s.now = true → r.toNat ≠ (s.portRole p).code → ∃ t, exec (.linkTraining p r) s = .next t ∧
      (t.fab.port[p]).link = LinkState.down ∧ (t.fab.port[p]).retrainAt = s.now + 32768 ∧
      ChangesOnly ([.fabric, .twin] ++ s.journalling) s t) ∧
  (∀ (s : State) (p : FabPort) (signal : Bool), (s.fab.port[p]).link = LinkState.training →
    (s.fab.port[p]).trainAt + 328 ≤ s.now → ∃ t, exec (.trainingTimeout p signal) s = .next t ∧
      (t.fab.port[p]).link = LinkState.down ∧ (t.fab.port[p]).retrainAt = s.now + 3277 ∧
      (signal = true → (t.fab.port[p]).trainRun = (s.fab.port[p]).trainRun + 1 ∧
        (t.fab.port[p]).cnt.trainFail = (s.fab.port[p]).cnt.trainFail + 1 ∧
        (7 ≤ (s.fab.port[p]).trainRun → (t.fab.port[p]).quarPend = some 6)) ∧
      ChangesOnly ([.fabric, .twin] ++ s.journalling) s t) ∧
  (∀ (s : State) (p : FabPort) (signal : Bool), s.fabricOn = true → s.portRole p ≠ .off → s.dev.serdesFault[p] = false →
    (s.fab.port[p]).link = LinkState.down →
    (s.fab.port[p]).retrainAt + (if signal || (s.fab.port[p]).trainAt = 0 then 0 else 29492) ≤ s.now →
    ∃ t, exec (.retrainTimer p signal) s = .next t ∧ (t.fab.port[p]).link = LinkState.training ∧
      (t.fab.port[p]).trainAt = s.now ∧
      (s.takesEntry 0x40 → LogsEntry s t 0x40 (p.val * 16384 + LinkState.training.code)) ∧
      ChangesOnly (.fabric :: s.journalling) s t) ∧
  (∀ (s : State) (p : FabPort) (c : DownCause), (s.fab.port[p]).link = LinkState.active →
    (c = .noBeacon → (s.fab.port[p]).beaconAt + 114688 ≤ s.now) → ∃ t, exec (.linkDown p c) s = .next t ∧
      (t.fab.port[p]).link = LinkState.down ∧ (t.fab.port[p]).txq = Vector.replicate 2 [] ∧
      (t.fab.port[p]).established = false ∧ (t.fab.port[p]).sTx = [] ∧ (t.fab.port[p]).sRx = [] ∧
      (t.fab.port[p]).trust = (if (s.fab.port[p]).key.isSome then .sessionSetup else .unpaired) ∧
      (t.fab.port[p]).key = (s.fab.port[p]).key ∧ ChangesOnly ([.fabric, .twin] ++ s.journalling) s t) ∧
  (∀ (s : State) (p : FabPort), (s.fab.port[p]).link = LinkState.active → s.dev.mode = .loam →
    (s.fab.port[p]).frameAt + 6554 ≤ s.now → (s.fab.port[p]).txq[(0 : Fin 2)] = [] → (s.fab.port[p]).txq[(1 : Fin 2)] = [] →
    128 ≤ (s.fab.port[p]).credits[(0 : Fin 2)] → 896 ≤ (s.fab.port[p]).credits[(1 : Fin 2)] →
    ∃ t, exec (.ember p) s = .next t ∧ (t.fab.port[p]).link = LinkState.ember ∧
      (t.fab.port[p]).trust = (s.fab.port[p]).trust ∧ (t.fab.port[p]).established = (s.fab.port[p]).established ∧
      (s.takesEntry 0x41 → LogsEntry s t 0x41 (p.val * 16384 + 1)) ∧ ChangesOnly (.fabric :: s.journalling) s t) ∧
  (∀ (s : State) (p : FabPort), (s.fab.port[p]).link = LinkState.ember → (s.fab.port[p]).pulseNext ≤ s.now →
    exec (.emberPulse p false) s = .next { s with fab := { s.fab with port := s.fab.port.set p { s.fab.port[p] with
      pulseNext := (s.fab.port[p]).pulseNext + 32768 } } }) ∧
  (∀ (s : State) (p : FabPort), (s.fab.port[p]).link = LinkState.ember →
    exec (.emberPulse p true) s = .next { s with fab := { s.fab with port := s.fab.port.set p { s.fab.port[p] with
      pulseAt := s.now } } }) ∧
  (∀ (s : State) (p : FabPort), (s.fab.port[p]).link = LinkState.ember → (s.fab.port[p]).pulseAt + 114688 ≤ s.now →
    ∃ t, exec (.emberPulseTimeout p) s = .next t ∧ (t.fab.port[p]).link = LinkState.down ∧
      (t.fab.port[p]).established = false ∧ (t.fab.port[p]).txq = Vector.replicate 2 [] ∧
      ChangesOnly ([.fabric, .twin] ++ s.journalling) s t) ∧
  (∀ (s : State) (p : FabPort), (s.fab.port[p]).link = LinkState.ember → ∃ t, exec (.wakeTone p) s = .next t ∧
      (t.fab.port[p]).link = LinkState.training ∧ (t.fab.port[p]).trainAt = s.now ∧ (t.fab.port[p]).toneAt = none ∧
      (t.fab.port[p]).trust = (s.fab.port[p]).trust ∧ ChangesOnly (.fabric :: s.journalling) s t) ∧
  (∀ (s : State) (p : FabPort) (t0 : Nat), (s.fab.port[p]).link = LinkState.ember → (s.fab.port[p]).toneAt = some t0 →
    t0 + 3605 ≤ s.now → exec (.wakeToneRepeat p) s = .next { s with fab := { s.fab with
      port := s.fab.port.set p { s.fab.port[p] with toneAt := some s.now } } })

/-- Credits, stalls and stale tiles of a port, and its beacons (§11.5, §11.6; R466 to R472). In part this rests on
readings and choices of the model: log entry 130. -/
def Obligations.CreditsAndBeacons : Prop :=
  (∀ (s : State) (p : FabPort) (cls : Fin 2) (n : Byte), (s.fab.port[p]).link = LinkState.active → n ≠ 0 →
    (s.fab.port[p]).txq = Vector.replicate 2 [] → ∃ t, exec (.creditReturn p cls n) s = .next t ∧
      (t.fab.port[p]).credits = (s.fab.port[p]).credits.set cls ((s.fab.port[p]).credits[cls] + n.toNat) ∧
      (t.fab.port[p]).wire = (s.fab.port[p]).wire ∧ (∀ q : FabPort, q ≠ p → t.fab.port[q] = s.fab.port[q]) ∧
      ChangesOnly [.fabric] s t) ∧
  (∀ (s : State) (p : FabPort) (f : TxFrame) (rest : List TxFrame) (n : Byte), (s.fab.port[p]).link = LinkState.active → n ≠ 0 →
    (s.fab.port[p]).txq[(0 : Fin 2)] = f :: rest → (s.fab.port[p]).rekeying = false →
    (s.fab.port[p]).trust ≠ .sessionSetup → s.txCarries p = true →
    (s.fab.port[p]).frameCredits f.frame ≤ (s.fab.port[p]).credits[(0 : Fin 2)] + n.toNat →
    ∃ t, exec (.creditReturn p 0 n) s = .next t ∧ (t.fab.port[p]).frameAt = s.now ∧
      (s.fab.port[p]).wire.length < (t.fab.port[p]).wire.length ∧ ChangesOnly [.fabric] s t) ∧
  (∀ (s : State) (p : FabPort) (c : Fin 2), (s.fab.port[p]).stalled s.now = some c → (s.fab.port[p]).link = LinkState.active →
    (s.fab.port[p]).stallTimes = [] → ∃ t, exec (.creditStall p) s = .next t ∧ (t.fab.port[p]).link = LinkState.down ∧
      (t.fab.port[p]).stallTimes = [s.now] ∧ (t.fab.port[p]).cnt.stalls = (s.fab.port[p]).cnt.stalls + 1 ∧
      (t.fab.port[p]).quarPend = (s.fab.port[p]).quarPend ∧ ChangesOnly ([.fabric, .twin] ++ s.journalling) s t) ∧
  (∀ (s : State) (p : FabPort) (c : Fin 2) (a b : Nat), (s.fab.port[p]).stalled s.now = some c →
    (s.fab.port[p]).link = LinkState.active → (s.fab.port[p]).stallTimes = [a, b] → s.now < a + 60 * 32768 →
    s.now < b + 60 * 32768 → ∃ t, exec (.creditStall p) s = .next t ∧ (t.fab.port[p]).link = LinkState.down ∧
      ((t.fab.port[p]).quarPend).isSome = true) ∧
  (∀ (s : State) (p : FabPort) (f : TxFrame), f ∈ (s.fab.port[p]).txq[(1 : Fin 2)] → f.tooOld s.now = true →
    (s.fab.port[p]).link ≠ LinkState.active → ∃ t, exec (.tileWaitDiscard p) s = .next t ∧
      (t.fab.port[p]).txq[(1 : Fin 2)] = ((s.fab.port[p]).txq[(1 : Fin 2)]).filter (fun x => !x.tooOld s.now) ∧
      (t.fab.port[p]).txq[(0 : Fin 2)] = (s.fab.port[p]).txq[(0 : Fin 2)] ∧
      (∀ q : FabPort, q ≠ p → t.fab.port[q] = s.fab.port[q]) ∧ ChangesOnly [.fabric] s t) ∧
  (∀ (s : State) (p : FabPort), (s.fab.port[p]).link = LinkState.active →
    (s.fab.port[p]).carries (s.portRole p) 0 0 = true → (s.fab.port[p]).beaconNext ≤ s.now →
    ∃ t, exec (.beaconSend p) s = .next t ∧
      (t.fab.port[p]).beaconNext = s.now + (if s.dev.mode = .sand then 3277 else 32768) ∧
      (∀ q : FabPort, q ≠ p → t.fab.port[q] = s.fab.port[q]) ∧ ChangesOnly [.fabric] s t)

/-- The checks of a received frame in their order (§11.5, §12.1, §12.4; R464, R472, R506, R508). In part this rests on
readings and choices of the model: log entries 79, 129, 130. -/
def Obligations.FrameChecks : Prop :=
  (∀ (s : State) (p : FabPort) (f : RxFrame), (s.fab.port[p]).link = LinkState.active → s.fabricOn = true →
    ∃ t, exec (.frameReceived p f) s = .next t ∧
      ChangesOnly ([.device, .wiring, .head, .fabric, .twin] ++ s.journalling) s t) ∧
  (∀ (s : State) (p : FabPort) (f : RxFrame), (s.fab.port[p]).link = LinkState.active → s.fabricOn = true →
    (0 < f.symErrors ∨ f.aborted = true) → ∃ t, exec (.frameReceived p f) s = .next t ∧
      (t.fab.port[p]).cnt = { (s.fab.port[p]).cnt with
        symErr := (s.fab.port[p]).cnt.symErr + BitVec.ofNat 32 (f.symErrors + if f.aborted then 1 else 0) } ∧
      (t.fab.port[p]).frameAt = s.now ∧ t.fab.inbox = s.fab.inbox ∧ ChangesOnly [.fabric] s t) ∧
  (∀ (s : State) (p : FabPort) (l : List Byte), (s.fab.port[p]).link = LinkState.active → s.fabricOn = true →
    l.length < 13 → ∃ t, exec (.frameReceived p { symErrors := 0, aborted := false, bytes := l }) s = .next t ∧
      (t.fab.port[p]).cnt = { (s.fab.port[p]).cnt with lenErr := (s.fab.port[p]).cnt.lenErr + 1 } ∧
      t.fab.inbox = s.fab.inbox ∧ ChangesOnly [.fabric] s t) ∧
  (∀ (s : State) (p : FabPort) (l : List Byte) (h : Header), (s.fab.port[p]).link = LinkState.active → s.fabricOn = true →
    h = Header.unpack (natBE (l.take 8)) → l.length = h.len.toNat + 13 → (s.fab.port[p]).trust = .unpaired →
    crcLE (l.take (l.length - 4)) ≠ l.drop (l.length - 4) →
    ∃ t, exec (.frameReceived p { symErrors := 0, aborted := false, bytes := l }) s = .next t ∧
      (t.fab.port[p]).cnt = { (s.fab.port[p]).cnt with crcErr := (s.fab.port[p]).cnt.crcErr + 1 } ∧
      t.fab.inbox = s.fab.inbox ∧ ChangesOnly [.fabric] s t) ∧
  (∀ (s : State) (p : FabPort) (l : List Byte) (h : Header), (s.fab.port[p]).link = LinkState.active → s.fabricOn = true →
    h = Header.unpack (natBE (l.take 8)) → l.length = h.len.toNat + 13 → (s.fab.port[p]).trust = .unpaired →
    crcLE (l.take (l.length - 4)) = l.drop (l.length - 4) → h.typ ≠ 0 → h.typ ≠ 7 →
    ∃ t, exec (.frameReceived p { symErrors := 0, aborted := false, bytes := l }) s = .next t ∧
      (t.fab.port[p]).cnt = { (s.fab.port[p]).cnt with notPerm := (s.fab.port[p]).cnt.notPerm + 1 } ∧
      t.fab.inbox = s.fab.inbox ∧ ChangesOnly [.fabric] s t) ∧
  (∀ (s : State) (p : FabPort) (l : List Byte) (h : Header), (s.fab.port[p]).link = LinkState.active → s.fabricOn = true →
    h = Header.unpack (natBE (l.take 8)) → l.length = h.len.toNat + 13 → (s.fab.port[p]).trust = .unpaired →
    crcLE (l.take (l.length - 4)) = l.drop (l.length - 4) → h.typ = 0 → s.portRole p ≠ .off → h.src ≠ 0xFFF →
    32768 ≤ ((s.fab.port[p]).fillBuckets s.now).bucket[(0 : Fin 5)] → s.fab.parked = [] → s.rxCarries p = true →
    ∃ t, exec (.frameReceived p { symErrors := 0, aborted := false, bytes := l }) s = .next t ∧
      (t.fab.port[p]).beacon = some (Beacon.parse (slice l 8 (h.len.toNat + 1)) h.standby) ∧
      (t.fab.port[p]).beaconAt = s.now ∧ (t.fab.port[p]).cnt = (s.fab.port[p]).cnt ∧
      (((s.mov.chan.getD (15 + p.val) {}).state = .run ∨ (s.mov.chan.getD (15 + p.val) {}).state = .wait) →
        (t.fab.port[p]).rxFifo = (s.fab.port[p]).rxFifo ++ l)) ∧
  (∀ (s : State) (p : FabPort) (l : List Byte) (h : Header), (s.fab.port[p]).link = LinkState.active → s.fabricOn = true →
    h = Header.unpack (natBE (l.take 8)) → l.length = h.len.toNat + 13 → (s.fab.port[p]).trust = .unpaired →
    crcLE (l.take (l.length - 4)) = l.drop (l.length - 4) → h.typ = 0 → s.portRole p ≠ .off → h.src ≠ 0xFFF →
    32768 ≤ ((s.fab.port[p]).fillBuckets s.now).bucket[(0 : Fin 5)] → s.rxCarries p = false →
    ∃ t, exec (.frameReceived p { symErrors := 0, aborted := false, bytes := l }) s = .next t ∧
      (t.fab.port[p]).rxFifo = ((s.fab.port[p]).rxFifo ++ l).take 1024 ∧ (t.fab.port[p]).beacon = (s.fab.port[p]).beacon ∧
      (t.fab.port[p]).granted[(1 : Fin 2)] = (s.fab.port[p]).granted[(1 : Fin 2)] ∧ ChangesOnly [.fabric] s t)

/-- Addresses by discovery and their conflicts (§11.6; R474 to R477). In part this rests on readings and choices of the
model: log entry 84. -/
def Obligations.AddressDiscovery : Prop :=
  (∀ (s : State) (a t0 : Nat), s.fab.discoverAt = some t0 → t0 ≤ s.now → s.fab.kind = .unassigned → s.standby = false →
    s.anyTrunk = true → s.fabricOn = true → s.discovered = some a → ∃ t, exec .address s = .next t ∧
      t.fab.addr = BitVec.ofNat 12 a ∧ t.fab.kind = .discovered ∧ t.fab.lastAddr = BitVec.ofNat 12 a ∧
      t.fab.discoverAt = none ∧ (t.fab.lsDue).isSome = true ∧ t.fab.lsdb = s.fab.lsdb ∧
      (s.takesEntry 0x44 → LogsEntry s t 0x44 (AddrKind.discovered.code * 4096 + a)) ∧
      ChangesOnly ([.fabric, .twin] ++ s.journalling) s t) ∧
  (∀ (s : State) (a : Nat), s.discovered = some a → s.freeAddr a = true ∧ 1 ≤ a ∧ a ≤ 0xFFE) ∧
  (∀ (s : State) (e : LsEntry), e ∈ s.fab.lsdb → s.losesTo e = true → s.fabricOn = true → s.fab.kind = .discovered →
    ∃ t, exec .addressConflict s = .next t ∧ t.fab.addr = 0 ∧ t.fab.kind = .unassigned ∧
      t.fab.discoverAt = some (s.now + 32768) ∧ t.fab.lsdb = s.fab.lsdb ∧
      (s.takesEntry 0x45 → LogsEntry s t 0x45 (4096 + s.fab.addr.toNat)) ∧
      ChangesOnly ([.fabric, .twin] ++ s.journalling) s t) ∧
  (∀ (s : State) (e : LsEntry), e ∈ s.fab.lsdb → s.losesTo e = true → s.fabricOn = true → s.fab.kind = .beadSet →
    ∃ t, exec .addressConflict s = .next t ∧ t.fab.addr = s.fab.addr ∧ t.fab.kind = .held ∧
      ChangesOnly ([.fabric, .twin] ++ s.journalling) s t)

/-- The link-state database (§11.7; R478 to R481). In part this rests on readings and choices of the model: log entry 83. -/
def Obligations.LinkStateDatabase : Prop :=
  (∀ (s : State) (t0 : Nat), s.anyTrunk = true → s.fabricOn = true → s.standby = false → s.fab.lsDue = some t0 → t0 ≤ s.now →
    s.fab.lsdb.length < 4608 → ∃ t, exec .linkstateOrigination s = .next t ∧
      t.fab.ownSeq = s.fab.ownSeq + 1 ∧ t.fab.lsSentAt = s.now ∧ t.fab.lsDue = none ∧
      t.fab.lsdb = s.fab.lsdb.filter (fun x => x.uid != s.netUid) ++ [s.takeSite.ownEntry (s.fab.ownSeq + 1)] ∧
      t.bead = s.takeSite.bead ∧ ChangesOnly ([.beads, .fabric, .twin] ++ s.journalling) s t) ∧
  (∀ (s : State) (p : FabPort) (f : Frame) (rest : List (FabPort × Frame)) (o : LsEntry), s.fab.inbox = (p, f) :: rest →
    f.hdr.typ = 1#4 → (LsEntry.parse s.now f.payload).uid ≠ s.netUid →
    s.lsOf (LsEntry.parse s.now f.payload).uid = some o → (LsEntry.parse s.now f.payload).seq = o.seq →
    exec .linkstateReceived s = .next { s with fab := { s.fab with inbox := rest } }) ∧
  (∀ (s : State) (p : FabPort) (f : Frame) (rest : List (FabPort × Frame)), s.fab.inbox = (p, f) :: rest →
    f.hdr.typ = 1#4 → (LsEntry.parse s.now f.payload).uid ≠ s.netUid →
    (∀ o, s.lsOf (LsEntry.parse s.now f.payload).uid = some o → newerSeq (LsEntry.parse s.now f.payload).seq o.seq = true) →
    s.fab.lsdb.length < 4608 → ∃ t, exec .linkstateReceived s = .next t ∧ t.fab.inbox = rest ∧
      t.fab.lsdb = s.fab.lsdb.filter (fun x => x.uid != (LsEntry.parse s.now f.payload).uid) ++
        [LsEntry.parse s.now f.payload] ∧
      (t.fab.dbChangedAt).isSome = true ∧ ChangesOnly (.fabric :: s.journalling) s t) ∧
  (∀ (s : State) (p : FabPort) (f : Frame) (rest : List (FabPort × Frame)), s.fab.inbox = (p, f) :: rest →
    f.hdr.typ = 1#4 → (LsEntry.parse s.now f.payload).uid = s.netUid → s.standby = false →
    newerSeq (LsEntry.parse s.now f.payload).seq s.fab.ownSeq = true →
    exec .linkstateReceived s = .next { s with fab := { s.fab with
      inbox := rest, ownSeq := (LsEntry.parse s.now f.payload).seq, lsDue := some s.now } }) ∧
  (∀ (s : State) (e : LsEntry), e ∈ s.fab.lsdb → e.at_ + 95 * 32768 ≤ s.now →
    exec .linkstateAgeOut s = .next { s with fab := { s.fab with
      lsdb := s.fab.lsdb.filter (fun x => !x.stale s.now)
      dbChangedAt := some (s.fab.dbChangedAt.getD s.now), fullJournalled := false } })

/-- Routes, tally frames and exported tiles (§11.8, §11.9; R483, R484, R490, R493). In part this rests on readings and
choices of the model: log entry 88. -/
def Obligations.RoutesAndExport : Prop :=
  (∀ (s : State) (t0 : Nat), s.fab.dbChangedAt = some t0 → s.fab.routedAt + 1639 ≤ s.now → s.fabricOn = true →
    ∃ t, exec .route s = .next t ∧ t.fab.routedAt = s.now ∧ t.fab.dbChangedAt = none ∧ t.fab.lsdb = s.fab.lsdb ∧
      (∀ r ∈ t.fab.routes, r.hops ≤ 63 ∧ s.portRole r.port = .trunk ∧ (s.fab.port[r.port]).linked = true ∧
        ∃ e ∈ s.fab.lsdb, e.claims = true ∧ e.addr = r.addr ∧ e.uid ≠ s.netUid) ∧
      ChangesOnly ([.fabric, .head] ++ s.journalling) s t) ∧
  (∀ s : State, s.dev.mode = .sand → headRole (s.eff 3) = false → s.standby = false → s.fab.tallyNext ≤ s.now →
    s.fab.exportHead = none → exec .tallyFrameSend s = .next { s with fab := { s.fab with
      tallyNext := s.fab.tallyNext + 60 * 32768 } }) ∧
  (∀ (s : State) (h : BitVec 12), s.dev.mode = .sand → headRole (s.eff 3) = false → s.standby = false →
    s.fab.tallyNext ≤ s.now → s.fab.exportHead = some h → s.held = false → ∃ t, exec .tallyFrameSend s = .next t ∧
      t.fab.tallyNext = s.fab.tallyNext + 60 * 32768 ∧ t.fab.sentDev = s.tal.dev ∧
      (∀ p : PathNo, t.fab.sentPath[p] = (s.tal.path[p]).count) ∧ ChangesOnly [.fabric] s t) ∧
  (∀ (s : State) (c : Ctx) (base : Nat), s.mov.base (.export_ c) = some base → 0 < (s.mov.queue[exportQueue c]).level →
    s.kiln.running = true → ∃ t, exec (.tileExport c) s = .next t ∧ (t.mov.queue[exportQueue c]).level = 0 ∧
      (t.kiln.ctx[c]).expRead = ((s.kiln.ctx[c]).expRead + (s.mov.queue[exportQueue c]).level) % 32 ∧
      (t.kiln.ctx[c]).work = (s.kiln.ctx[c]).work ∧ (∀ d : Ctx, d ≠ c → t.kiln.ctx[d] = s.kiln.ctx[d]) ∧
      t.mov.pool = s.mov.pool ∧ ChangesOnly [.fabric, .kiln, .movers] s t)

/-- Fabric time: exchanges, the servo and holdover (§11.10; R499 to R502, Table 11.12). In part this rests on readings and
choices of the model: log entries 85, 86. -/
def Obligations.FabricTime : Prop :=
  (∀ (s : State) (phase : Nat) (p : FabPort), s.fab.parent = some p → (s.fab.port[p]).link = LinkState.active →
    s.serdesOn = true → (s.fab.port[p]).trust = .admitted → s.fab.exch = none → s.fab.exchNext ≤ s.now →
    s.fastTime = true → ∃ t, exec (.timeExchangeStart phase) s = .next t ∧
      t.fab.exch = some { e := s.fab.exchNo + 1, t1 := (s.fab.time + phase) % 2 ^ 80, at_ := s.now } ∧
      t.fab.exchNo = s.fab.exchNo + 1 ∧ t.fab.exchNext = s.now + 2048 ∧ t.fab.time = s.fab.time ∧
      t.fab.tstate = s.fab.tstate ∧ ChangesOnly [.fabric] s t) ∧
  (∀ (s : State) (a b : Nat) (p : FabPort) (f : Frame) (rest : List (FabPort × Frame)), s.fab.inbox = (p, f) :: rest →
    f.hdr.typ = 5#4 → f.hdr.flow = 0#8 → ∃ t, exec (.timeRequestReceived a b) s = .next t ∧ t.fab.inbox = rest ∧
      t.fab.time = s.fab.time ∧ t.fab.tstate = s.fab.tstate ∧ (s.standby = true → t.fab.port = s.fab.port) ∧
      ChangesOnly [.fabric] s t) ∧
  (∀ (s : State) (ph : Nat) (p : FabPort) (f : Frame) (rest : List (FabPort × Frame)) (x : Exchange) (theta : Int),
    s.fab.inbox = (p, f) :: rest → f.hdr.typ = 5#4 → f.hdr.flow = 1#8 → s.fab.exch = some x → s.fab.parent = some p →
    f.payload.getD 0 0 = x.e → s.now < x.at_ + 33 → usableState ((f.payload.getD 21 0).toNat % 8) = true →
    (f.payload.getD 22 0).toNat < 63 → s.fab.tstate = .free →
    (let t2 := natLE (slice f.payload 1 10)
     let t3 := natLE (slice f.payload 11 10)
     let t4 := s.stamp ph
     0 ≤ rdiv (stampDiff t4 x.t1 - stampDiff t3 t2) 2 ∧ rdiv (stampDiff t4 x.t1 - stampDiff t3 t2) 2 ≤ 13107200 ∧
     theta = rdiv (stampDiff t2 x.t1 + stampDiff t3 t4) 2) → ∃ t, exec (.timeResponseReceived ph) s = .next t ∧
      t.fab.tstate = .coarse ∧ t.fab.theta = theta ∧ t.fab.exch = none ∧ t.fab.acceptedAt = s.now ∧
      t.fab.steps = (f.payload.getD 22 0).toNat + 1 ∧
      (t.fab.time : Int) = ((s.fab.time : Int) + theta) % 2 ^ 80 ∧ ChangesOnly (.fabric :: s.journalling) s t) ∧
  (∀ (s : State) (x : Exchange), s.fab.exch = some x → x.at_ + 33 ≤ s.now →
    exec .timeExchangeTimeout s = .next { s with fab := { s.fab with exch := none, fineRun := 0 } }) ∧
  (∀ s : State, (s.fab.tstate = .coarse ∨ s.fab.tstate = .fine) →
    (s.fab.acceptedAt + 70 * 32768 ≤ s.now ∨ s.parentUsable = false) → ∃ t, exec .holdover s = .next t ∧
      t.fab.tstate = .holdover ∧ t.fab.time = s.fab.time ∧
      (s.takesEntry 0x4B → LogsEntry s t 0x4B TimeState.holdover.code) ∧ ChangesOnly (.fabric :: s.journalling) s t)

/-- Pairing of two ports, from the window to the key record (§12.2, §12.3; R511 to R521). In part this rests on readings
and choices of the model: log entry 90. -/
def Obligations.PortPairing : Prop :=
  (∀ (s : State) (p : FabPort) (g : Pairing), (s.fab.port[p]).pairing = some g → (s.fab.port[p]).link = LinkState.active →
    s.windowOpen = true → g.verified = false → g.offerNext ≤ s.now → ∃ t, exec (.offerSend p) s = .next t ∧
      (t.fab.port[p]).pairing = some { g with offerNext := s.now + 3277 } ∧
      (∀ q : FabPort, q ≠ p → t.fab.port[q] = s.fab.port[q]) ∧ ChangesOnly [.fabric] s t) ∧
  (∀ (s : State) (p : FabPort) (f : Frame) (rest : List (FabPort × Frame)) (g : Pairing), s.fab.inbox = (p, f) :: rest →
    f.hdr.typ = 7#4 → f.hdr.flow = 1#8 → (s.fab.port[p]).pairing = some g → g.partner = none → s.windowOpen = true →
    x25519 g.scalar (slice f.payload 8 32) ≠ zeros 32 → ∃ t h, exec (.offerReceived p) s = .next t ∧
      t.fab.inbox = rest ∧ (t.fab.port[p]).pairing = some h ∧
      h.partner = some (BitVec.ofNat 64 (natLE (slice f.payload 0 8)), slice f.payload 8 32, slice f.payload 40 16) ∧
      h.scalar = g.scalar ∧ h.confirmNext = s.now ∧ h.pub = g.pub ∧ h.nonce = g.nonce ∧
      (t.fab.port[p]).pairCode = some h.code ∧ ChangesOnly [.fabric] s t) ∧
  (∀ (s : State) (p : FabPort) (f : Frame) (rest : List (FabPort × Frame)) (g : Pairing), s.fab.inbox = (p, f) :: rest →
    f.hdr.typ = 7#4 → f.hdr.flow = 1#8 → (s.fab.port[p]).pairing = some g → g.partner = none → s.windowOpen = true →
    x25519 g.scalar (slice f.payload 8 32) = zeros 32 → ∃ t, exec (.offerReceived p) s = .next t ∧
      (t.fab.port[p]).pairing = none ∧ (t.fab.port[p]).window = false ∧
      (s.takesEntry 0x52 → LogsEntry s t 0x52 (p.val * 16384 + 2)) ∧ ChangesOnly (.fabric :: s.journalling) s t) ∧
  (∀ (s : State) (p : FabPort) (g : Pairing) (u : BitVec 64) (pub nonce : List Byte), (s.fab.port[p]).pairing = some g →
    g.partner = some (u, pub, nonce) → (s.fab.port[p]).link = LinkState.active → s.windowOpen = true →
    g.partnerCommitted = false → g.confirmNext ≤ s.now → ∃ t, exec (.confirmSend p) s = .next t ∧
      (t.fab.port[p]).pairing = some { g with confirmNext := s.now + 3277 } ∧
      (∀ q : FabPort, q ≠ p → t.fab.port[q] = s.fab.port[q]) ∧ ChangesOnly [.fabric] s t) ∧
  (∀ (s : State) (p : FabPort) (f : Frame) (rest : List (FabPort × Frame)) (g : Pairing) (u : BitVec 64) (pub nonce : List Byte),
    s.fab.inbox = (p, f) :: rest → f.hdr.typ = 7#4 → f.hdr.flow = 2#8 → (s.fab.port[p]).pairing = some g →
    g.partner = some (u, pub, nonce) → g.verified = false → s.windowOpen = true →
    natLE (slice f.payload 0 8) = u.toNat → slice f.payload 8 16 = confirmTag g.kC u s.fab.uid pub g.pub →
    s.tal.cleaning = false → ∃ t, exec (.confirmReceived p) s = .next t ∧
      (t.fab.port[p]).pairing = some { g with verified := true } ∧
      (∃ w ∈ t.tal.writes, w.id = .record (.keys p) ∧ w.content = (s.newKey p g u).content) ∧
      ChangesOnly [.fabric, .writes] s t) ∧
  (∀ (s : State) (p : FabPort) (f : Frame) (rest : List (FabPort × Frame)) (g : Pairing) (u : BitVec 64) (pub nonce : List Byte),
    s.fab.inbox = (p, f) :: rest → f.hdr.typ = 7#4 → f.hdr.flow = 2#8 → (s.fab.port[p]).pairing = some g →
    g.partner = some (u, pub, nonce) → g.verified = false → s.windowOpen = true →
    slice f.payload 8 16 ≠ confirmTag g.kC u s.fab.uid pub g.pub → ∃ t, exec (.confirmReceived p) s = .next t ∧
      (t.fab.port[p]).pairing = none ∧ t.tal.writes = s.tal.writes ∧
      (s.takesEntry 0x52 → LogsEntry s t 0x52 (p.val * 16384 + 3)) ∧ ChangesOnly (.fabric :: s.journalling) s t) ∧
  (∀ (s : State) (p : FabPort) (g : Pairing) (a : Nat), (s.fab.port[p]).pairing = some g → g.committedAt = some a →
    (s.fab.port[p]).link = LinkState.active → g.committedNext ≤ s.now → ∃ t, exec (.committedSend p) s = .next t ∧
      (t.fab.port[p]).pairing = some { g with committedNext := s.now + 3277 } ∧ ChangesOnly [.fabric] s t) ∧
  (∀ (s : State) (p : FabPort) (g : Pairing) (a : Nat), (s.fab.port[p]).pairing = some g → g.committedAt = some a →
    (g.partnerCommitted = true ∨ a + 32768 ≤ s.now) → ∃ t, exec (.paired p) s = .next t ∧
      (t.fab.port[p]).pairing = none ∧ (t.fab.port[p]).window = false ∧ (t.fab.port[p]).trust = .sessionSetup ∧
      (t.fab.port[p]).established = false ∧ ChangesOnly ([.fabric, .draws, .twin, .monitor] ++ s.journalling) s t) ∧
  (∀ (s : State) (t0 : Nat), s.fab.windowTill = some t0 → t0 ≤ s.now → ∃ t, exec .pairWindowEnd s = .next t ∧
      t.fab.windowTill = none ∧ t.fab.windowPaired = 0 ∧ t.fab.windowPorts = Vector.replicate 3 false ∧
      (∀ p : FabPort, (t.fab.port[p]).window = false) ∧
      (s.fab.windowPaired = 0 → t.loc.ackA = some .refuse) ∧
      (0 < s.fab.windowPaired → t.loc.ackG = some (.ack s.fab.windowPaired)) ∧
      ChangesOnly ([.fabric, .wiring] ++ s.journalling) s t) ∧
  (∀ s : State, exec (.noiseFault true) s = .next { s with fab := { s.fab with noiseBad := false } }) ∧
  (∀ s : State, ∃ t, exec (.noiseFault false) s = .next t ∧ t.fab.noiseBad = true ∧
      (s.takesEntry 0x5A → LogsEntry s t 0x5A 0) ∧ ChangesOnly (.fabric :: s.journalling) s t)

/-- Sessions and their failures (§12.4; R522 to R526, R528). In part this rests on readings and choices of the model: log
entries 89, 92, 133. -/
def Obligations.Sessions : Prop :=
  (∀ (s : State) (p : FabPort), (s.fab.port[p]).link = LinkState.active → (s.fab.port[p]).inSetup = true →
    (s.fab.port[p]).nonce ≠ [] → (s.fab.port[p]).helloNext ≤ s.now → ∃ t, exec (.helloSend p) s = .next t ∧
      (t.fab.port[p]).helloNext = s.now + 328 ∧ (t.fab.port[p]).nonce = (s.fab.port[p]).nonce ∧
      (∀ q : FabPort, q ≠ p → t.fab.port[q] = s.fab.port[q]) ∧ ChangesOnly [.fabric] s t) ∧
  (∀ (s : State) (p : FabPort) (f : Frame) (rest : List (FabPort × Frame)) (k : KeyRec), s.fab.inbox = (p, f) :: rest →
    f.hdr.typ = 7#4 → f.hdr.flow = 0x10#8 → (s.fab.port[p]).pairing = none → (s.fab.port[p]).trust = .sessionSetup →
    (s.fab.port[p]).rekeying = false → (s.fab.port[p]).key = some k → (s.fab.port[p]).nonce ≠ [] →
    slice f.payload 28 16 = (s.fab.port[p]).nonce → s.fab.uid.toNat < k.partner.toNat → s.trole = .none →
    ∃ t, exec (.helloReceived p) s = .next t ∧
      (t.fab.port[p]).established = true ∧ (t.fab.port[p]).trust = .clean ∧
      (t.fab.port[p]).sTx = sessionKey k.kTx (s.fab.port[p]).nonce (slice f.payload 12 16) ∧
      (t.fab.port[p]).sRx = sessionKey k.kRx (s.fab.port[p]).nonce (slice f.payload 12 16) ∧
      (t.fab.port[p]).txCount = 0 ∧ (t.fab.port[p]).rxCount = 0 ∧ (t.fab.port[p]).probAt = s.now ∧
      t.fab.inbox = rest ∧ ChangesOnly [.fabric, .journal, .deviceTallies] s t) ∧
  (∀ (s : State) (p : FabPort) (f : Frame) (rest : List (FabPort × Frame)), s.fab.inbox = (p, f) :: rest →
    f.hdr.typ = 7#4 → f.hdr.flow = 0x10#8 → (s.fab.port[p]).pairing = none → (s.fab.port[p]).trust = .sessionSetup →
    slice f.payload 28 16 ≠ (s.fab.port[p]).nonce → ∃ t, exec (.helloReceived p) s = .next t ∧
      t.fab.port[p] = { s.fab.port[p] with partnerNonce := some (slice f.payload 12 16) } ∧ t.fab.inbox = rest ∧
      ChangesOnly [.fabric] s t) ∧
  (∀ (s : State) (p : FabPort), (s.fab.port[p]).link = LinkState.active → (s.fab.port[p]).inSetup = true →
    (s.fab.port[p]).keysDiffer = false → (s.fab.port[p]).setupAt + 3277 ≤ s.now →
    ∃ t, exec (.sessionSetupTimeout p) s = .next t ∧
      (t.fab.port[p]).link = LinkState.down ∧ (t.fab.port[p]).trainRun = (s.fab.port[p]).trainRun + 1 ∧
      ChangesOnly ([.fabric, .twin] ++ s.journalling) s t) ∧
  (∀ (s : State) (p : FabPort), (s.fab.port[p]).link = LinkState.active → (s.fab.port[p]).inSetup = true →
    (s.fab.port[p]).partnerNonce = none → (16 ≤ (s.fab.port[p]).badHello ∨ 16 ≤ (s.fab.port[p]).noCmac) →
    ∃ t, exec (.keyMismatch p) s = .next t ∧ (t.fab.port[p]).trust = .keyMismatch ∧
      (t.fab.port[p]).mismatchNext = s.now + 60 * 32768 ∧ (t.fab.port[p]).established = false ∧
      (t.fab.port[p]).rekeying = false ∧ (t.fab.port[p]).link = LinkState.active ∧
      (s.portRole p ≠ .twin → s.takesEntry 0x53 → LogsEntry s t 0x53 (p.val * 16384 + 1)) ∧
      ChangesOnly ([.fabric, .twin] ++ s.journalling) s t) ∧
  (∀ (s : State) (p : FabPort), (s.fab.port[p]).trust = .keyMismatch → (s.fab.port[p]).mismatchNext ≤ s.now →
    (s.fab.port[p]).link = LinkState.active → ∃ t, exec (.keyMismatchRetry p) s = .next t ∧
      (t.fab.port[p]).link = LinkState.down ∧
      (t.fab.port[p]).trust = (if (s.fab.port[p]).key.isSome then .sessionSetup else .unpaired) ∧
      ChangesOnly ([.fabric, .twin] ++ s.journalling) s t) ∧
  (∀ (s : State) (p : FabPort), (s.fab.port[p]).link = LinkState.active → (s.fab.port[p]).established = true →
    (s.fab.port[p]).rekeying = false → (4 ≤ (s.fab.port[p]).macFails ∨ 2 ^ 47 ≤ (s.fab.port[p]).txCount) →
    ∃ t, exec (.rekey p) s = .next t ∧ (t.fab.port[p]).rekeying = true ∧ (t.fab.port[p]).macFails = 0 ∧
      (t.fab.port[p]).link = LinkState.active ∧ (t.fab.port[p]).trust = (s.fab.port[p]).trust ∧
      (s.takesEntry 0x54 → LogsEntry s t 0x54 (p.val * 16384 + 2)) ∧ ChangesOnly ([.fabric, .draws] ++ s.journalling) s t)

/-- Error intervals and quarantine (§12.6; R532 to R536, Table 12.6). Probation of a port (§12.7; R537 to R539). In part
this rests on readings and choices of the model: log entries 94, 95. -/
def Obligations.QuarantineAndProbation : Prop :=
  (∀ (s : State) (p : FabPort), (s.fab.port[p]).linked = true → (s.fab.port[p]).ivAt + 32768 ≤ s.now →
    ∃ t, exec (.errorIntervalEnd p) s = .next t ∧
      t.fab.port[p] = { s.fab.port[p] with
        ivAt := (s.fab.port[p]).ivAt + 32768, ivBase := (s.fab.port[p]).cnt
        quarPend := firstCause (s.fab.port[p]).intervalCause (s.fab.port[p]).quarPend } ∧
      (64 < grown (s.fab.port[p]).cnt.symErr (s.fab.port[p]).ivBase.symErr → (s.fab.port[p]).quarPend = none →
        (t.fab.port[p]).quarPend = some 1) ∧
      (∀ q : FabPort, q ≠ p → t.fab.port[q] = s.fab.port[q]) ∧ ChangesOnly [.fabric] s t) ∧
  (∀ (s : State) (p : FabPort) (cause : Nat), (s.fab.port[p]).quarPend = some cause → s.portRole p ≠ .off →
    (s.fab.port[p]).link ≠ LinkState.quarantined → (s.fab.port[p]).link ≠ LinkState.off → cause ≠ 8 →
    ∃ t, exec (.quarantine p) s = .next t ∧ (t.fab.port[p]).link = LinkState.quarantined ∧
      (t.fab.port[p]).q = (s.fab.port[p]).q + 1 ∧ (t.fab.port[p]).quarPend = none ∧
      (t.fab.port[p]).quarTill = some (s.now + 10 * 2 ^ (min 7 (s.fab.port[p]).q) * 32768) ∧
      (t.fab.port[p]).quarForever = false ∧ (t.fab.port[p]).established = false ∧
      (t.fab.port[p]).pairing = none ∧ ChangesOnly ([.fabric, .twin] ++ s.journalling) s t) ∧
  (∀ (s : State) (p : FabPort), (s.fab.port[p]).quarPend = some 8 → s.portRole p ≠ .off →
    (s.fab.port[p]).link = LinkState.active → ∃ t, exec (.quarantine p) s = .next t ∧
      (t.fab.port[p]).link = LinkState.quarantined ∧ (t.fab.port[p]).quarTill = none ∧
      (t.fab.port[p]).quarForever = true ∧ ChangesOnly ([.fabric, .twin] ++ s.journalling) s t) ∧
  (∀ (s : State) (p : FabPort) (t0 : Nat), (s.fab.port[p]).link = LinkState.quarantined →
    (s.fab.port[p]).quarTill = some t0 → t0 ≤ s.now → ∃ t, exec (.quarantineEnd p) s = .next t ∧
      (t.fab.port[p]).link = LinkState.down ∧ (t.fab.port[p]).quarTill = none ∧ (t.fab.port[p]).retrainAt = s.now ∧
      (t.fab.port[p]).q = (s.fab.port[p]).q ∧ ChangesOnly (.fabric :: s.journalling) s t) ∧
  (∀ (s : State) (p : FabPort), (s.fab.port[p]).trust = .admitted → (s.fab.port[p]).admittedAt + 600 * 32768 ≤ s.now →
    exec (.qReset p) s = .next { s with fab := { s.fab with port := s.fab.port.set p { s.fab.port[p] with q := 0 } } }) ∧
  (∀ (s : State) (p : FabPort), (s.fab.port[p]).trust = .clean → (s.fab.port[p]).cleanAt + 2 * 32768 ≤ s.now →
    ∃ t, exec (.probationCleanEnd p) s = .next t ∧ (t.fab.port[p]).trust = .test ∧ (t.fab.port[p]).cleanCount = 0 ∧
      (t.fab.port[p]).partnerClean = 0 ∧ (t.fab.port[p]).testSeq = 0 ∧ (t.fab.port[p]).testNext = s.now ∧
      (s.takesEntry 0x56 → LogsEntry s t 0x56 (p.val * 16384 + 1)) ∧ ChangesOnly (.fabric :: s.journalling) s t) ∧
  (∀ (s : State) (p : FabPort), (s.fab.port[p]).link = LinkState.active → (s.fab.port[p]).trust = .test →
    (s.fab.port[p]).testNext ≤ s.now → ∃ t, exec (.testFrameSend p) s = .next t ∧
      (t.fab.port[p]).testSeq = (s.fab.port[p]).testSeq + 1 ∧ (t.fab.port[p]).testNext = s.now + 33 ∧
      (∀ q : FabPort, q ≠ p → t.fab.port[q] = s.fab.port[q]) ∧ ChangesOnly [.fabric] s t) ∧
  (∀ (s : State) (p : FabPort), (s.fab.port[p]).trust = .test → 256 ≤ (s.fab.port[p]).cleanCount →
    256 ≤ (s.fab.port[p]).partnerClean → ∃ t, exec (.probationAdmitted p) s = .next t ∧
      (t.fab.port[p]).trust = .admitted ∧ (t.fab.port[p]).admittedAt = s.now ∧ (t.fab.port[p]).trainRun = 0 ∧
      (t.fab.port[p]).penalty = decide (s.portRole p = .trunk) ∧
      (s.takesEntry 0x56 → LogsEntry s t 0x56 (p.val * 16384 + 2)) ∧ ChangesOnly (.fabric :: s.journalling) s t) ∧
  (∀ (s : State) (p : FabPort), ((s.fab.port[p]).trust = .clean ∨ (s.fab.port[p]).trust = .test) →
    (s.fab.port[p]).linked = true → (s.fab.port[p]).probAt + 30 * 32768 ≤ s.now →
    ∃ t, exec (.probationTimeout p) s = .next t ∧ (t.fab.port[p]).link = LinkState.down ∧
      (t.fab.port[p]).trainRun = (s.fab.port[p]).trainRun + 1 ∧
      ChangesOnly ([.fabric, .twin] ++ s.journalling) s t) ∧
  (∀ (s : State) (p : FabPort), (s.fab.port[p]).trust = .admitted → (s.fab.port[p]).penalty = true →
    (s.fab.port[p]).admittedAt + 30 * 32768 ≤ s.now → ∃ t, exec (.penaltyEnd p) s = .next t ∧
      (t.fab.port[p]).penalty = false ∧ (t.fab.port[p]).trust = .admitted ∧
      (s.takesEntry 0x56 → LogsEntry s t 0x56 (p.val * 16384 + 3)) ∧ ChangesOnly (.fabric :: s.journalling) s t)

/-- The lease of a twin pair (§13.2, §13.3; R547 to R553, R569, R570). In part this rests on readings and choices of the
model: log entries 99, 100, 101. -/
def Obligations.Lease : Prop :=
  (∀ s : State, s.isTwin = true → s.twin.toggleNext ≤ s.now → exec .leaseOutToggle s = .next { s with twin := { s.twin with
      leaseOut := !s.twin.leaseOut, toggleNext := s.now + (if s.twin.holding then 16 else 256) } }) ∧
  (∀ (s : State) (t0 : Nat), s.isTwin = true → s.twin.lastEdge = some t0 →
    exec .leaseInEdge s = .next { s with twin := { s.twin with
      lastEdge := some s.now
      lastHolderEdge := if s.now ≤ t0 + 64 then some s.now else s.twin.lastHolderEdge } }) ∧
  (∀ s : State, s.isTwin = true → s.twin.lastEdge = none →
    exec .leaseInEdge s = .next { s with twin := { s.twin with lastEdge := some s.now } }) ∧
  (∀ s : State, s.isTwin = true → s.dev.released = true → s.twin.holding = false → s.twin.inhibit = false →
    s.takeLimit ≤ s.quiet → ∃ t, exec .leaseTake s = .next t ∧
      t.twin.holding = true ∧ t.twin.breakn = true ∧ t.twin.headsel = true ∧ t.twin.everTaken = true ∧
      t.fab.addr = s.twin.pairAddr ∧ t.loc.silencedH24 = (s.twin.shadow.silencedH24 && t.h24) ∧
      t.loc.silencedTmp = (s.twin.shadow.silencedTmp && t.tmp) ∧
      (∀ p : PathNo, (t.tal.path[p]).restartDue = true ∧ (t.tal.path[p]).count = (s.tal.path[p]).count) ∧
      ChangesOnly ([.wiring, .sounding, .pathTallies, .tallyRest, .head, .fabric, .twin] ++ s.journalling) s t) ∧
  (∀ s : State, s.isTwin = true → s.twin.holding = true → s.beatSeen = true → s.twin.hand = none →
    ∃ t, exec .leaseYield s = .next t ∧
      t.twin.holding = false ∧ t.twin.breakn = false ∧ t.twin.headsel = false ∧ t.twin.quietFrom = s.now ∧
      t.fab.addr = 0 ∧ t.fab.kind = .unassigned ∧ t.head.on = false ∧ t.head.inFrame = false ∧
      (∀ o : AlmOut, (t.loc.alm[o]).active = false) ∧ t.twin.shadow = s.ownShadow ∧
      ChangesOnly ([.wiring, .sounding, .head, .fabric, .twin, .monitor] ++ s.journalling) s t) ∧
  (∀ s : State, s.wireBroken ≠ s.twin.wireFault → ∃ t, exec .leaseWireFault s = .next t ∧
      t.twin.wireFault = s.wireBroken ∧ t.twin.holding = s.twin.holding ∧
      (s.takesEntry 0x61 → LogsEntry s t 0x61 (if s.wireBroken then 1 else 0)) ∧
      ChangesOnly (.twin :: s.journalling) s t) ∧
  (∀ (s : State) (q : PartnerState), s.trole = .secondary → s.twin.holding = true → s.twin.partner = some q →
    q.holds = true → s.twin.takenAt ≤ q.at_ → s.twin.hand = none → ∃ t, exec .split s = .next t ∧
      t.twin.holding = false ∧ t.twin.inhibit = true ∧ t.twin.inhibitAt = s.now ∧ t.twin.split = true ∧
      t.twin.breakn = false ∧ t.fab.addr = 0 ∧ t.pending = s.pending ∧ t.cam = s.cam ∧ t.tal.store = s.tal.store) ∧
  (∀ s : State, s.twin.inhibit = true → s.twin.inhibitAt + 1024 ≤ s.now → ∃ t, exec .takeInhibitClear s = .next t ∧
      t.twin.inhibit = false ∧ t.twin.split = false ∧ t.twin.holding = s.twin.holding ∧
      (s.takesEntry 0x62 → LogsEntry s t 0x62 0) ∧ ChangesOnly (.twin :: s.journalling) s t)

/-- The mirror (§13.4 to §13.6; R557 to R564). In part this rests on readings and choices of the model: log entries 19,
20, 97, 98, 137. -/
def Obligations.Mirror : Prop :=
  (∀ (s : State) (p : FabPort) (f : Frame) (rest : List (FabPort × Frame)), s.fab.inbox = (p, f) :: rest →
    f.hdr.typ = 6#4 →
    (f.payload.length < 20 ∨ crcLE (f.payload.take (f.payload.length - 4)) ≠ f.payload.drop (f.payload.length - 4)) →
    exec .mirrorFrameReceived s = .next { s with
      fab := { s.fab with inbox := rest }, twin := { s.twin with mirrCrc := s.twin.mirrCrc + 1 } }) ∧
  (∀ (s : State) (p : FabPort) (f : Frame) (rest : List (FabPort × Frame)) (w : List Byte), s.fab.inbox = (p, f) :: rest →
    f.hdr.typ = 6#4 → f.payload = w ++ crcLE w → 16 ≤ w.length → s.twin.mirror = .down →
    exec .mirrorFrameReceived s = .next { s with fab := { s.fab with inbox := rest } }) ∧
  (∀ (s : State) (p : FabPort) (f : Frame) (rest : List (FabPort × Frame)) (w : List Byte), s.fab.inbox = (p, f) :: rest →
    f.hdr.typ = 6#4 → f.hdr.flow = 6#8 → f.payload = w ++ crcLE w → 17 ≤ w.length → s.twin.mirror = .inSync →
    slice w 4 4 = bytesLE 4 (s.twin.rxSeq + 1).toNat →
    ∃ t, exec .mirrorFrameReceived s = .next t ∧ t.twin.rxSeq = s.twin.rxSeq + 1 ∧
      t.twin.handMsg = some (w.getD 16 0) ∧ t.twin.ackDue = some (s.twin.ackDue.getD (s.now + 328)) ∧
      t.fab.inbox = rest ∧ ChangesOnly [.fabric, .twin] s t) ∧
  (∀ s : State, s.isTwin = true → s.twin.mirror ≠ .down →
    (s.twin.stateDirty = true ∨ s.stateFields ≠ s.twin.stateSent ∨ s.twin.stateNext ≤ s.now) →
    ∃ t, exec .mirrorStateSend s = .next t ∧ t.twin.stateDirty = false ∧ t.twin.stateSent = s.stateFields ∧ t.twin.stateNext = s.now + s.stateInterval ∧
      t.twin.txSeq = s.twin.txSeq + 1 ∧ t.twin.ackDue = none ∧
      t.twin.unacked = s.twin.unacked ++ [{ seq := s.twin.txSeq + 1, kind := 1, body := s.stateBody, at_ := s.now }] ∧
      ChangesOnly [.fabric, .twin] s t) ∧
  (∀ (s : State) (u : MirrorTx), s.twin.mirror ≠ .down → u ∈ s.twin.unacked → u.at_ + 1639 ≤ s.now → 8 ≤ u.tries →
    ∃ t, exec .mirrorRetransmit s = .next t ∧ t.twin.mirror = .down ∧ t.twin.unacked = [] ∧ t.twin.ackDue = none ∧
      (s.takesEntry 0x63 → LogsEntry s t 0x63 0) ∧ ChangesOnly ([.twin] ++ s.journalling) s t) ∧
  (∀ (s : State) (u : MirrorTx), s.twin.mirror ≠ .down → s.twin.unacked = [u] → u.at_ + 1639 ≤ s.now → u.tries < 8 →
    ∃ t, exec .mirrorRetransmit s = .next t ∧ t.twin.unacked = [{ u with at_ := s.now, tries := u.tries + 1 }] ∧
      t.twin.mirror = s.twin.mirror ∧ t.twin.ackDue = none ∧ ChangesOnly [.fabric, .twin] s t) ∧
  (∀ (s : State) (t0 : Nat), s.twin.mirror ≠ .down → s.twin.ackDue = some t0 → t0 ≤ s.now →
    ∃ t, exec .mirrorAckTimer s = .next t ∧ t.twin = { s.twin with ackDue := none } ∧ ChangesOnly [.fabric, .twin] s t) ∧
  (∀ s : State, s.twin.mirror = .down → s.mirrorReady = true → ∃ t, exec .mirrorResync s = .next t ∧
      t.twin.mirror = .resync ∧ t.twin.rxSeq = 0 ∧ t.twin.resyncSent = false ∧ t.twin.stateDirty = false ∧
      ChangesOnly ([.fabric, .twin] ++ s.journalling) s t) ∧
  (∀ s : State, s.twin.mirror = .resync → s.twin.holding = true → s.twin.resyncSent = false → s.twin.rxSeq ≠ 0 →
    s.fab.inbox = [] → ∃ t, exec .mirrorResync s = .next t ∧ t.twin.resyncSent = true ∧ t.twin.resyncLast = t.twin.txSeq ∧
      t.twin.mirror = .resync ∧ ChangesOnly [.fabric, .twin] s t)

/-- Hand-over between twins (§13.7; R567, R568, Table 13.6). In part this rests on readings and choices of the model: log
entries 34, 103. -/
def Obligations.HandOver : Prop :=
  (∀ (s : State) (auto : Bool) (why : Nat), s.twin.handReq = some auto → s.handoverBar = some why →
    ∃ t, exec .handoverPrepare s = .next t ∧ t.twin.handReq = none ∧ t.twin.hand = s.twin.hand ∧
      (auto = false → t.loc.ackA = some .refuse) ∧
      (s.takesEntry 0x64 → LogsEntry s t 0x64 (why + if auto then 8 else 0)) ∧
      ChangesOnly ([.wiring, .twin] ++ s.journalling) s t) ∧
  (∀ (s : State) (auto : Bool), s.twin.handReq = some auto → s.handoverBar = none → s.twin.holding = true →
    ∃ t, exec .handoverPrepare s = .next t ∧ t.twin.handReq = none ∧
      t.twin.hand = some { till := s.now + 3277, auto := auto, asHolder := true } ∧ t.twin.holding = true ∧
      t.twin.txSeq = s.twin.txSeq + 2 ∧ ChangesOnly [.fabric, .twin] s t) ∧
  (∀ s : State, s.twin.handMsg = some 1 → s.standby = true → ∃ t, exec .handoverTaken s = .next t ∧
      t.twin.holding = true ∧ t.twin.breakn = true ∧ t.twin.handMsg = none ∧
      t.twin.hand = some { till := s.now + 3277, auto := false, asHolder := false } ∧
      t.fab.addr = s.twin.pairAddr ∧ t.pending = s.pending ∧ t.cam = s.cam ∧ t.tal.store = s.tal.store) ∧
  (∀ (s : State) (h : HandWin), s.twin.handMsg = some 2 → s.twin.holding = true → s.twin.hand = some h → h.asHolder = true →
    ∃ t, exec .handoverTaken s = .next t ∧ t.twin.holding = false ∧ t.twin.hand = none ∧
      t.twin.handMsg = none ∧ t.twin.breakn = false ∧ t.fab.addr = 0 ∧ t.pending = s.pending ∧ t.cam = s.cam ∧
      t.tal.store = s.tal.store) ∧
  (∀ (s : State) (h : HandWin), s.twin.handMsg = some 3 → s.twin.hand = some h → ∃ t, exec .handoverTaken s = .next t ∧
      t.twin.handMsg = none ∧ t.twin.hand = none ∧ t.twin.holding = s.twin.holding ∧
      (s.takesEntry 0x64 → LogsEntry s t 0x64 0) ∧ ChangesOnly (.twin :: s.journalling) s t) ∧
  (∀ (s : State) (h : HandWin), s.twin.handMsg = none → s.twin.hand = some h → h.asHolder = true → h.till ≤ s.now →
    ∃ t, exec .handoverAbort s = .next t ∧ t.twin.hand = none ∧ t.twin.holding = s.twin.holding ∧
      t.loc.ackA = some .refuse ∧
      (s.takesEntry 0x64 → LogsEntry s t 0x64 (4 + if h.auto then 8 else 0)) ∧
      ChangesOnly ([.wiring, .fabric, .twin] ++ s.journalling) s t) ∧
  (∀ (s : State) (h : HandWin), s.twin.handMsg = none → s.twin.hand = some h → h.asHolder = false → h.till ≤ s.now →
    exec .handoverAbort s = .next { s with twin := { s.twin with hand := none } }) ∧
  (∀ (s : State) (h : HandWin), s.twin.handMsg = some 4 → s.twin.hand = some h → h.asHolder = false →
    s.twin.holding = true → ∃ t, exec .handoverAbort s = .next t ∧ t.twin.holding = false ∧
      t.twin.hand = none ∧ t.twin.handMsg = none ∧ t.fab.addr = 0 ∧ t.pending = s.pending)

/-- The monitor is enabled by KEYn and takes its lines (§16.4; R631, R633, R635 to R637). In part this rests on readings
and choices of the model: log entries 104, 105, 134. -/
def Obligations.MonitorLines : Prop :=
  (∀ s : State, s.loc.keyF.level = some true → s.mon.awaitKey = true → s.dev.core ≠ .off → s.dev.mode ≠ .bedFault →
    exec .monitorEnable s = .next { s with mon := { s.mon with
      awaitKey := false, enabled := true, line := [], overrun := false
      out := s.mon.out ++ ["TJ1216 monitor", hexNum 4 (Config.romId.toNat / 65536), hexNum 16 s.fab.uid.toNat, prompt] } }) ∧
  (∀ s : State, s.loc.keyF.level = some false → s.mon.awaitKey = true → s.dev.core ≠ .off → s.dev.mode ≠ .bedFault →
    exec .monitorEnable s = .next { s with mon := { s.mon with
      awaitKey := false, enabled := false, line := [], overrun := false } }) ∧
  (∀ (s : State) (c : Byte), s.mon.enabled = true →
    exec (.monitorCharacter c false) s = .next { s with mon := { s.mon with framing := s.mon.framing + 1 } }) ∧
  (∀ (s : State) (c : Byte), s.mon.enabled = true → s.mon.busy = false → c ≠ 0x0A → c ≠ 0x0D → c ≠ 0x08 → c ≠ 0x7F →
    exec (.monitorCharacter c true) s = .next { s with mon := { s.mon with
      echo := s.mon.echo ++ [c], lastCr := false
      line := if 80 ≤ s.mon.line.length then s.mon.line else s.mon.line ++ [c]
      overrun := s.mon.overrun || decide (80 ≤ s.mon.line.length) } }) ∧
  (∀ (s : State) (c : MonCmd), s.mon.enabled = true → s.mon.busy = false → s.mon.overrun = false →
    splitWords [] s.mon.line ≠ [] → parseLine s.mon.line = .ok c →
    exec (.monitorCharacter 0x0D true) s = .next { s with mon := { s.mon with
      echo := s.mon.echo ++ [0x0D], lastCr := true, line := [], overrun := false, cmd := some c, busy := true, cmdAt := s.now } }) ∧
  (∀ (s : State) (c : Byte), s.mon.enabled = true → s.mon.busy = true → ∃ t, exec (.monitorCharacter c true) s = .next t ∧
      t.mon.out = s.mon.out.take 1 ++ ["?cancelled"] ++ s.mon.unsolicited ++ [prompt] ∧ t.mon.cmd = none ∧
      t.mon.busy = false ∧ t.mon.confirm = none ∧ ChangesOnly [.monitor] s t) ∧
  (∀ (s : State) (c : MonCmd) (t0 : Nat), s.mon.confirm = some (c, t0) → t0 ≤ s.now →
    exec .confirmTimeout s = .next (({ s with mon := { s.mon with confirm := none } } : State).endCmd "?timeout"))

/-- The read commands of the monitor answer, end with ok and the prompt, and change nothing but the monitor (§16.5; R637,
R640 to R643). In part this rests on readings and choices of the model: log entries 104, 105. -/
def Obligations.MonitorReadCommands : Prop :=
  ∀ s : State,
    (∀ c : Instr, c ∈ [Instr.help, .par, .beads, .tally, .jour, .path, .cam, .kiln, .mover, .pool, .routeCmd, .link, .clock,
        .twin, .thumb] → ∃ t, exec c s = .next t ∧ ChangesOnly [.monitor] s t ∧
        t.mon.enabled = s.mon.enabled ∧ t.mon.confirm = s.mon.confirm ∧ t.mon.line = s.mon.line) ∧
    (let ends (c : Instr) : Prop := ∃ t l, exec c s = .next t ∧
       t.mon.out = s.mon.out ++ l ++ ["ok"] ++ s.mon.unsolicited ++ [prompt] ∧ t.mon.cmd = none ∧ t.mon.unsolicited = []
     (s.mon.cmd = some .help → ends .help) ∧ (∀ i n, s.mon.cmd = some (.par i n) → ends .par) ∧
     (s.mon.cmd = some .beads → ends .beads) ∧ (∀ p, s.mon.cmd = some (.tally p) → ends .tally) ∧
     (∀ n, s.mon.cmd = some (.jourLast n) → ends .jour) ∧ (∀ e, s.mon.cmd = some (.jourFrom e) → ends .jour) ∧
     (∀ p n, s.mon.cmd = some (.path p n) → ends .path) ∧ (∀ k, s.mon.cmd = some (.cam k) → ends .cam) ∧
     (∀ c, s.mon.cmd = some (.kiln c) → ends .kiln) ∧ (∀ c, s.mon.cmd = some (.mover c) → ends .mover) ∧
     (s.mon.cmd = some .pool → ends .pool) ∧ (∀ a, s.mon.cmd = some (.route a) → ends .routeCmd) ∧
     (∀ p, s.mon.cmd = some (.link p) → ends .link) ∧ (s.mon.cmd = some .clock → ends .clock) ∧
     (s.mon.cmd = some .twin → ends .twin) ∧
     (∀ (c : Ctx) (b : Nat), s.mon.cmd = some (.thumb c) → s.dev.mode = .sand → s.kiln.running = true →
       s.ctxUsed c = true → s.carries 21 = true → s.mov.base (.tile c) = some b → ends .thumb) ∧
     (∀ c : Ctx, s.mon.cmd = some (.thumb c) → s.dev.mode ≠ .sand → exec .thumb s = .next (s.endCmd "?state")) ∧
     (s.mon.cmd = some .jourFollow → exec .jour s = .next { s with mon := { s.mon with cmd := none, follow := true } }))

/-- The maintenance commands of the monitor, without the key, at their confirmation, and as they act (§16.6; R644 to
R647). In part this rests on readings and choices of the model: log entry 104. -/
def Obligations.MonitorMaintenance : Prop :=
  (∀ (s : State) (i : Instr) (c : MonCmd), s.mon.cmd = some c → s.keyFitted = false →
    ((i = .cal ∧ c = .cal) ∨ (i = .restrap ∧ c = .restrap) ∨ (i = .pair ∧ ∃ p, c = .pair p) ∨
      (i = .quar ∧ ∃ p, c = .quar p) ∨ (i = .readmit ∧ ∃ p, c = .readmit p) ∨ (i = .handover ∧ c = .handover)) →
    exec i s = .next (s.endCmd "?key")) ∧
  (∀ (s : State) (i : Instr) (c : MonCmd), s.mon.cmd = some c → s.keyFitted = true →
    ((i = .cal ∧ c = .cal) ∨ (i = .restrap ∧ c = .restrap) ∨ (i = .pair ∧ ∃ p, c = .pair p) ∨
      (i = .quar ∧ ∃ p, c = .quar p) ∨ (i = .readmit ∧ ∃ p, c = .readmit p) ∨ (i = .handover ∧ c = .handover)) →
    exec i s = .next { s with mon := { s.mon with
      out := s.mon.out ++ ["press SET within 10 s"], cmd := none, confirm := some (c, s.mon.cmdAt + 10 * 32768) } }) ∧
  (∀ (s : State) (p : FabPort), s.mon.confirmed = some (.quar p) → ∃ t, exec .monitorConfirmed s = .next t ∧
      (t.fab.port[p]).quarPend = some 8 ∧ t.mon.confirmed = none ∧
      t.mon.out = s.mon.out ++ ["ok"] ++ s.mon.unsolicited ++ [prompt] ∧
      (∀ q : FabPort, q ≠ p → t.fab.port[q] = s.fab.port[q]) ∧ ChangesOnly [.fabric, .monitor] s t) ∧
  (∀ (s : State) (p : FabPort), s.mon.confirmed = some (.readmit p) → (s.fab.port[p]).link = LinkState.quarantined →
    ∃ t, exec .monitorConfirmed s = .next t ∧ (t.fab.port[p]).link = LinkState.down ∧ (t.fab.port[p]).q = 0 ∧
      (t.fab.port[p]).quarForever = false ∧ (t.fab.port[p]).quarTill = none ∧
      ChangesOnly ([.fabric, .monitor] ++ s.journalling) s t) ∧
  (∀ s : State, s.mon.confirmed = some .cal → ∃ t, exec .monitorConfirmed s = .next t ∧ t.tr.calOn = true ∧
      t.tr.calByMonitor = true ∧ t.mon.calWait = true ∧ t.mon.confirmed = none ∧
      (∀ p : PathNo, ((t.tr.path[p]).calRun).isSome = s.configured p) ∧
      ChangesOnly ([.beads, .sounding, .monitor] ++ s.journalling) s t) ∧
  (∀ s : State, s.mon.confirmed = some .restrap → s.bead.phase = .idle → s.bead.req = none → s.bead.deferred = none →
    s.bead.heldRestrap = false → ∃ t, exec .monitorConfirmed s = .next t ∧ t.bead.req = some .restrap ∧
      t.mon.out = s.mon.out ++ ["ok"] ++ s.mon.unsolicited ++ [prompt] ∧ ChangesOnly [.beads, .clocks, .monitor] s t) ∧
  (∀ (s : State) (p : FabPort), s.mon.confirmed = some (.pair p) → ∃ t, exec .monitorConfirmed s = .next t ∧
      t.fab.windowTill = some (s.now + 60 * 32768) ∧ t.fab.windowPorts[p] = true ∧
      ChangesOnly ([.fabric, .draws, .monitor] ++ s.journalling) s t) ∧
  (∀ s : State, s.mon.confirmed = some .handover → s.handoverBar = none → ∃ t, exec .monitorConfirmed s = .next t ∧
      t.twin.handReq = some false ∧ ChangesOnly [.twin, .monitor] s t)

/-- A record written to the store reads back as its newest copy, and no other record and no journal place changes; bytes
written to a memory read back and every other address reads as before (§6.6; R257, R259, R260). -/
def Obligations.StoreReadsBack : Prop :=
  (∀ (m : Mem) (r : RecId) (content : List Byte), Memory.wf m = true → content.length = r.len →
    recordContent (commitRecord m r content) r = some content ∧
    (∀ q : RecId, q ≠ r → recordContent (commitRecord m r content) q = recordContent m q) ∧
    (∀ n : BitVec 32, memRange (commitRecord m r content) (journalAddr n) 16 = memRange m (journalAddr n) 16)) ∧
  (∀ (m : Mem) (a : Nat) (l : List Byte), Memory.wf m = true →
    Memory.wf (memStore m a l) = true ∧ memRange (memStore m a l) a l.length = l ∧
    ∀ b, b < a ∨ a + l.length ≤ b → memRead (memStore m a l) b = memRead m b)

/-- Of two VALID slots the newer is used (R260). -/
def Obligations.NewerSlot : Prop :=
  ∀ (m : Mem) (r : RecId) (a b : Nat), classify m r false = .valid a → classify m r true = .valid b →
    (a = b → newest m r = some (false, a)) ∧
    (a ≠ b → (b + 2 ^ 32 - a) % 2 ^ 32 < 2 ^ 31 → newest m r = some (true, b)) ∧
    (a ≠ b → (a + 2 ^ 32 - b) % 2 ^ 32 < 2 ^ 31 → newest m r = some (false, a)) ∧
    (∀ x n, newest m r = some (x, n) → recordContent m r = some (memRange m (r.slot x + 8) r.len))

/-- BREF is accepted only within 2.000 µs ± 15% (R51), in the units of R1 of 1/512 ns. -/
def Obligations.BrefAccepted : Prop :=
  (∀ (m : PinMeasure) (r : Nat), brefDelta m = .ok r → 100 * r ≤ 115 * 1024000 ∧ 85 * 1024000 ≤ 100 * r) ∧
  (∀ (m : PinMeasure) (d : Nat), pinPre m = true → pinDelta m 130000 400000 = some d → 100 * d ≤ 115 * 1024000 →
    85 * 1024000 ≤ 100 * d → brefDelta m = .ok d) ∧
  (∀ (s : State) (k : ReadKind) (bref : PinMeasure) (beads : Vector PinMeasure 40), s.bead.phase = .reading k →
    (∀ r : Nat, brefDelta bref = .ok r → False) → ∃ t, exec (.beadReadEnd bref beads) s = .next t ∧ t.bead.brefRead = true)

/-- The hold timer: its load at an accepted event trigger, its steps of 1/32 s, and when a load expires (R28, R30). -/
def Obligations.HoldTimer : Prop :=
  (∀ s : State, s.dev.accepted ≠ [] → (s.dev.mode = .loam ∨ s.dev.mode = .sand) → s.dev.fatal = [] →
    ∃ t, exec .acceptedEventTrigger s = .next t ∧ t.dev.mode = .sand ∧
      t.dev.hold = holdSecs ⟨(s.takeWaiting 5 0).eff 5 % 16, by omega⟩ * 32 + (if s.now % 1024 = 0 then 0 else 1)) ∧
  (∀ s : State, s.pending = [] → s.dev.released = true → s.dev.mode = .sand → s.levelHolds = false → s.dev.mainsLow = false →
    ∃ t, step s = .next t ∧ t.dev.hold = if (s.now + 1) % 1024 = 0 then s.dev.hold - 1 else s.dev.hold) ∧
  (∀ now secs end_ : Nat, end_ = (now / 1024 + (secs * 32 + (if now % 1024 = 0 then 0 else 1))) * 1024 →
    now + secs * 32768 ≤ end_ ∧ end_ ≤ now + secs * 32768 + 1024)

/-- A filtered input takes a new level only after its number of consecutive samples at that level (R90). -/
def Obligations.FilterLevels : Prop :=
  (∀ (f : Filter) (n : Nat) (x : Bool), 0 < n → f.level ≠ some x → f.run = 0 →
    ((Filter.feed n f (List.replicate n x)).1).level = some x ∧ (Filter.feed n f (List.replicate n x)).2 = n) ∧
  (∀ (f : Filter) (n k : Nat) (x : Bool), 0 < n → k < n → f.run = 0 →
    ((Filter.feed n f (List.replicate k x)).1).level = f.level) ∧
  (∀ (f : Filter) (n : Nat) (x y : Bool) (k : Nat), f.level = some x → y ≠ x → f.run = 0 → k < n →
    Filter.feed n f (List.replicate k y ++ [x]) = ({ (Filter.feed n f (List.replicate k y)).1 with run := 0 }, k + 1))

/-- Rounding (R650): rdiv and rdivNat to the nearest integer with a half away from zero, cdiv up, and Lean's division by a
positive number down. -/
def Obligations.Rounding : Prop :=
  (∀ (n : Int) (d : Nat), 0 < d → 2 * ((d : Int) * rdiv n d - n).natAbs ≤ d ∧
    (2 * ((d : Int) * rdiv n d - n).natAbs = d → n.natAbs < ((d : Int) * rdiv n d).natAbs)) ∧
  (∀ n d : Nat, 0 < d → (rdivNat n d : Int) = rdiv n d) ∧
  (∀ n d k : Nat, 0 < d → (cdiv n d ≤ k ↔ n ≤ k * d)) ∧
  (∀ (n k : Int) (d : Nat), 0 < d → (k ≤ n / d ↔ k * d ≤ n))

/-- Journal entry numbers: 0xFFFF_FFFF is never the next one, a count that would reach it passes on to 0 (R274), and an entry
that the port takes carries the number, the tick and the mode of its event (R275, R590). -/
def Obligations.EntryNumbers : Prop :=
  (∀ n : BitVec 32, nextEntryNum n ≠ 0xFFFFFFFF#32) ∧ nextEntryNum 0xFFFFFFFE#32 = 0 ∧
  (∀ n : BitVec 32, n ≠ 0xFFFFFFFE#32 → nextEntryNum n = n + 1) ∧
  (∀ (s : State) (code data : Nat), s.takesEntry code → (s.journalEntry code data).1 = s.entryNow s.tal.jNext code data ∧
    (s.journalEntry code data).1.num = s.tal.jNext ∧ (s.journalEntry code data).1.tick = s.clk.calTick ∧
    (s.journalEntry code data).1.sec = s.clk.sec.setWidth 32 ∧
    (s.journalEntry code data).1.mode = BitVec.ofNat 3 s.modeCode ∧
    (s.journal code data).tal.jQueue = s.tal.jQueue ++ [s.entryNow s.tal.jNext code data] ∧
    (s.journal code data).tal.jNext = nextEntryNum s.tal.jNext)

/-- LOOP (R384). -/
def Obligations.LoopWord : Prop :=
  ∀ (s : State) (ch : MovCh) (target count : Nat) (k : Fin 2), s.running ch = some (.loop target count k) →
    ∃ t, exec (.moverLoop ch) s = .next t ∧
      (count = 0 → t.mov.chan[ch] = { s.mov.chan[ch] with pc := target, line := 0, off := 0 }) ∧
      (count ≠ 0 → (s.mov.chan[ch]).loops[k] = none → count = 1 →
        t.mov.chan[ch] = { s.mov.chan[ch] with pc := (s.mov.chan[ch]).pc + 1 }) ∧
      (count ≠ 0 → (s.mov.chan[ch]).loops[k] = none → count ≠ 1 → t.mov.chan[ch] = { s.mov.chan[ch] with
        pc := target, loops := (s.mov.chan[ch]).loops.set k (some (BitVec.ofNat 16 (count - 1))) }) ∧
      (∀ n, count ≠ 0 → (s.mov.chan[ch]).loops[k] = some n → n - 1 ≠ 0 → t.mov.chan[ch] = { s.mov.chan[ch] with
        pc := target, loops := (s.mov.chan[ch]).loops.set k (some (n - 1)) }) ∧
      (∀ n, count ≠ 0 → (s.mov.chan[ch]).loops[k] = some n → n - 1 = 0 → t.mov.chan[ch] = { s.mov.chan[ch] with
        pc := (s.mov.chan[ch]).pc + 1, loops := (s.mov.chan[ch]).loops.set k none }) ∧
      (∀ d : MovCh, d ≠ ch → t.mov.chan[d] = s.mov.chan[d]) ∧ ChangesOnly [.movers] s t

/-- Channel 31 has at most one of 8 grants while another channel requests (R376). -/
def Obligations.Channel31Share : Prop :=
  (∀ (s t : State) (d : MovCh), d ≠ 31 → s.requests d = true → exec .arbiterGrant s = .next t → t.mov.granted = some 31 →
    7 ≤ s.mov.since31 ∧ t.mov.since31 = 0) ∧
  (∀ (s : State) (d : MovCh), d ≠ 31 → s.requests d = true → s.mov.since31 < 7 → ∃ t g, exec .arbiterGrant s = .next t ∧
      t.mov.granted = some g ∧ g ≠ 31 ∧ t.mov.since31 = s.mov.since31 + 1)

end
end

