-- ==== Sys2Proof/Laws/Frames.lean ====
section
/-!
SUPPORT. What the shared operations can change, one lemma for each, in the parts of ChangesOnly; and the lemmas that
join such facts along a meaning.
-/
namespace Sys2Proof.Machine

theorem Part.same_refl (q : Part) (s : State) : q.same s s := by
  cases q <;> simp [Part.same, Tal.restSame, Mov.restSame]

theorem Part.same_trans {q : Part} {s t u : State} (h : q.same s t) (k : q.same t u) : q.same s u := by
  cases q <;> simp only [Part.same, Tal.restSame, Mov.restSame] at * <;> simp_all

theorem ChangesOnly.refl (ps : List Part) (s : State) : ChangesOnly ps s s := fun q _ => q.same_refl s

theorem ChangesOnly.mono {ps qs : List Part} {s t : State} (h : ChangesOnly ps s t) (k : ps ⊆ qs) : ChangesOnly qs s t :=
  fun q hq => h q fun hp => hq (k hp)

theorem ChangesOnly.trans {ps : List Part} {s t u : State} (h : ChangesOnly ps s t) (k : ChangesOnly ps t u) :
    ChangesOnly ps s u := fun q hq => Part.same_trans (h q hq) (k q hq)

/-- Two operations one after the other change what either can change. -/
theorem ChangesOnly.join {ps qs : List Part} {s t u : State} (h : ChangesOnly ps s t) (k : ChangesOnly qs t u) :
    ChangesOnly (ps ++ qs) s u :=
  (h.mono (List.subset_append_left ps qs)).trans (k.mono (List.subset_append_right ps qs))

/-- A loop changes what its body can change. -/
theorem ChangesOnly.foldl {α : Type} {ps : List Part} {f : State → α → State}
    (h : ∀ s a, ChangesOnly ps s (f s a)) (l : List α) (s : State) : ChangesOnly ps s (l.foldl f s) := by
  induction l generalizing s with
  | nil => exact .refl ps s
  | cons a l ih => exact (h s a).trans (ih (f s a))

theorem ChangesOnly.ite {ps : List Part} {c : Prop} [Decidable c] {s t u : State} (h : ChangesOnly ps s t)
    (k : ChangesOnly ps s u) : ChangesOnly ps s (if c then t else u) := by split <;> assumption

/-- The device keeps its twin role through everything that leaves the beads. -/
theorem ChangesOnly.trole {ps : List Part} {s t : State} (h : ChangesOnly ps s t) (k : Part.beads ∉ ps) :
    t.trole = s.trole := by
  have hb : t.bead = s.bead := h .beads k
  simp only [State.trole, State.eff, hb]

theorem ChangesOnly.journalling {ps : List Part} {s t : State} (h : ChangesOnly ps s t) (k : Part.beads ∉ ps) :
    t.journalling = s.journalling := by simp only [State.journalling, h.trole k]

/-- What the memories hold stays canonical through everything that leaves both of them. -/
theorem ChangesOnly.memoriesWf {ps : List Part} {s t : State} (h : ChangesOnly ps s t) (hs : Part.store ∉ ps)
    (hp : Part.pool ∉ ps) : t.memoriesWf = s.memoriesWf := by
  have h1 : t.tal.store = s.tal.store := h .store hs
  have h2 : t.mov.pool = s.mov.pool := h .pool hp
  simp only [State.memoriesWf, h1, h2]

section updates
variable (s : State)

theorem changes_dev (d : Dev) : ChangesOnly [.device] s { s with dev := d } := by
  intro q hq; cases q <;> simp_all [Part.same, Tal.restSame, Mov.restSame]
theorem changes_bead (d : Bead) : ChangesOnly [.beads] s { s with bead := d } := by
  intro q hq; cases q <;> simp_all [Part.same, Tal.restSame, Mov.restSame]
theorem changes_loc (d : Local) : ChangesOnly [.wiring] s { s with loc := d } := by
  intro q hq; cases q <;> simp_all [Part.same, Tal.restSame, Mov.restSame]
theorem changes_clk (d : Clk) : ChangesOnly [.clocks] s { s with clk := d } := by
  intro q hq; cases q <;> simp_all [Part.same, Tal.restSame, Mov.restSame]
theorem changes_tr (d : Transit) : ChangesOnly [.sounding] s { s with tr := d } := by
  intro q hq; cases q <;> simp_all [Part.same, Tal.restSame, Mov.restSame]
theorem changes_cam (d : Vector CamSt 12) : ChangesOnly [.cameras] s { s with cam := d } := by
  intro q hq; cases q <;> simp_all [Part.same, Tal.restSame, Mov.restSame]
theorem changes_rcp (d : RecipeCache) : ChangesOnly [.recipes] s { s with rcp := d } := by
  intro q hq; cases q <;> simp_all [Part.same, Tal.restSame, Mov.restSame]
theorem changes_kiln (d : Kiln) : ChangesOnly [.kiln] s { s with kiln := d } := by
  intro q hq; cases q <;> simp_all [Part.same, Tal.restSame, Mov.restSame]
theorem changes_mov (d : Mov) : ChangesOnly [.pool, .movers] s { s with mov := d } := by
  intro q hq; cases q <;> simp_all [Part.same, Tal.restSame]
theorem changes_head (d : Head) : ChangesOnly [.head] s { s with head := d } := by
  intro q hq; cases q <;> simp_all [Part.same, Tal.restSame, Mov.restSame]
theorem changes_fab (d : Fab) : ChangesOnly [.fabric] s { s with fab := d } := by
  intro q hq; cases q <;> simp_all [Part.same, Tal.restSame, Mov.restSame]
theorem changes_twin (d : Twin) : ChangesOnly [.twin] s { s with twin := d } := by
  intro q hq; cases q <;> simp_all [Part.same, Tal.restSame, Mov.restSame]
theorem changes_mon (d : Mon) : ChangesOnly [.monitor] s { s with mon := d } := by
  intro q hq; cases q <;> simp_all [Part.same, Tal.restSame, Mov.restSame]
theorem changes_store (d : Mem) : ChangesOnly [.store] s { s with tal := { s.tal with store := d } } := by
  intro q hq; cases q <;> simp_all [Part.same, Tal.restSame, Mov.restSame]
theorem changes_writes (d : List WriteReq) : ChangesOnly [.writes] s { s with tal := { s.tal with writes := d } } := by
  intro q hq; cases q <;> simp_all [Part.same, Tal.restSame, Mov.restSame]
theorem changes_pathTallies (d : Vector PathTally 8) :
    ChangesOnly [.pathTallies] s { s with tal := { s.tal with path := d } } := by
  intro q hq; cases q <;> simp_all [Part.same, Tal.restSame, Mov.restSame]

/-- One Speica port. -/
theorem State.updPort_changes (p : FabPort) (f : FPort → FPort) : ChangesOnly [.fabric] s (s.updPort p f) :=
  changes_fab s _
theorem State.updPath_changes (p : PathNo) (f : PathSt → PathSt) : ChangesOnly [.sounding] s (s.updPath p f) :=
  changes_tr s _
theorem State.updCam_changes (k : CamPort) (f : CamSt → CamSt) : ChangesOnly [.cameras] s (s.updCam k f) :=
  changes_cam s _
theorem State.setStore_changes (m : Mem) : ChangesOnly [.store] s (s.setStore m) := changes_store s m
theorem State.demand_changes (d : XoDemand) : ChangesOnly [.clocks] s (s.demand d) := by
  unfold State.demand; split
  · exact .refl _ s
  · exact changes_clk s _
theorem State.undemand_changes (d : XoDemand) : ChangesOnly [.clocks] s (s.undemand d) := changes_clk s _
theorem State.ackGreen_changes (a : Ack) (n : Option Ack) : ChangesOnly [.wiring] s (s.ackGreen a n) := changes_loc s _
theorem State.ackAmber_changes (a : Ack) : ChangesOnly [.wiring] s (s.ackAmber a) := changes_loc s _
theorem State.say_changes (l : String) : ChangesOnly [.monitor] s (s.say l) := changes_mon s _
theorem State.endCmd_changes (l : String) : ChangesOnly [.monitor] s (s.endCmd l) := changes_mon s _
theorem State.answer_changes (l : List String) : ChangesOnly [.monitor] s (s.answer l) := changes_mon s _
/-- A bead part that takes what waits for it. -/
theorem State.takeWaiting_changes (b : BeadNo) (i : Fin 8) : ChangesOnly [.beads] s (s.takeWaiting b i) := by
  unfold State.takeWaiting; split
  · exact changes_bead s _
  · exact .refl _ s
theorem State.takeVideo_changes : ChangesOnly [.beads] s s.takeVideo :=
  (ChangesOnly.foldl (fun t (w : Waiting) => State.takeWaiting_changes t w.bead w.part) _ s).trans (changes_bead _ _)
theorem State.loadHold_changes : ChangesOnly [.device, .beads] s s.loadHold :=
  ((State.takeWaiting_changes s 5 0).mono (by decide)).trans ((changes_dev _ _).mono (by decide))
theorem State.setPeriods_changes : ChangesOnly [.sounding] s s.setPeriods := changes_tr s _
theorem State.draw_changes (n : Nat) : ChangesOnly [.draws] s (s.draw n).2 := by
  intro q hq; cases q <;> simp_all [Part.same, Tal.restSame, Mov.restSame, State.draw]
theorem State.drawBytes_changes (n : Nat) : ChangesOnly [.draws] s (s.drawBytes n).2 := by
  intro q hq; cases q <;> simp_all [Part.same, Tal.restSame, Mov.restSame, State.drawBytes]
theorem State.offerRecord_changes (r : HeadRec) : ChangesOnly [.head] s (s.offerRecord r) := by
  unfold State.offerRecord; split
  · exact .refl _ s
  · exact changes_head s _
theorem State.stateChanged_changes : ChangesOnly [.twin] s s.stateChanged := by
  unfold State.stateChanged; split
  · exact .refl _ s
  · exact changes_twin s _
theorem State.lsChange_changes : ChangesOnly [.fabric] s s.lsChange := by
  unfold State.lsChange; split
  · exact .refl _ s
  · exact changes_fab s _

/-- A device tally (Table 6.1). -/
theorem State.addTally_changes (n k : Nat) : ChangesOnly [.deviceTallies] s (s.addTally n k) := by
  unfold State.addTally; split
  · intro q hq; cases q <;> simp_all [Part.same, Tal.restSame, Mov.restSame]
  · exact .refl _ s

/-- The write queue (R258). -/
theorem State.queueWrite_changes (id : WriteId) (l : List Byte) : ChangesOnly [.writes] s (s.queueWrite id l) := by
  unfold State.queueWrite; split
  · exact .refl _ s
  · exact changes_writes s _
theorem State.requestWrite_changes (id : RecId) (l : List Byte) : ChangesOnly [.writes] s (s.requestWrite id l) :=
  State.queueWrite_changes s _ l
theorem State.writeWork_changes (p : PathNo) : ChangesOnly [.writes] s (s.writeWork p) := State.queueWrite_changes s _ _
theorem State.requestDevice_changes : ChangesOnly [.writes] s s.requestDevice := State.requestWrite_changes s _ _
theorem State.requestPath_changes (p : PathNo) : ChangesOnly [.writes, .pathTallies] s (s.requestPath p) := by
  unfold State.requestPath; dsimp only; split
  · exact ((State.requestWrite_changes s _ _).mono (by decide)).trans ((changes_pathTallies _ _).mono (by decide))
  · exact .refl _ s
theorem State.requestPaths_changes : ChangesOnly [.writes, .pathTallies] s s.requestPaths :=
  ChangesOnly.foldl (fun s p => State.requestPath_changes s p) _ s
theorem State.requestDeviceTallies_changes : ChangesOnly [.writes, .deviceTallies] s s.requestDeviceTallies := by
  unfold State.requestDeviceTallies; split
  · refine ((State.requestWrite_changes s .deviceTallies s.tal.deviceTallyContent).mono (by decide)).trans ?_
    intro q hq; cases q <;> simp_all [Part.same, Tal.restSame, Mov.restSame]
  · intro q hq; cases q <;> simp_all [Part.same, Tal.restSame, Mov.restSame]
theorem State.readSources_changes :
    ChangesOnly [.device, .deviceTallies, .tallyRest] s s.readSources := by
  unfold State.readSources; split
  · exact .refl _ s
  · refine ChangesOnly.trans (t := _) ?_ (ChangesOnly.foldl (fun t m => ?_) _ _)
    · refine ChangesOnly.trans (t := _) ?_ (ChangesOnly.foldl (fun t z => ?_) _ _)
      · refine ChangesOnly.trans (t := _) ?_ ((State.addTally_changes _ _ _).mono (by decide))
        refine ChangesOnly.trans (t := _) ?_ ((State.addTally_changes _ _ _).mono (by decide))
        intro q hq; cases q <;> simp_all [Part.same, Mov.restSame]
      · refine ChangesOnly.trans (t := _) ?_ ((State.addTally_changes _ _ _).mono (by decide))
        intro q hq; cases q <;> simp_all [Part.same, Mov.restSame]
    · exact ((changes_dev t _).mono (by decide)).trans ((State.addTally_changes _ _ _).mono (by decide))
theorem State.modeTallies_changes :
    ChangesOnly [.device, .deviceTallies, .tallyRest, .writes, .pathTallies] s s.modeTallies :=
  (((State.readSources_changes s).mono (by decide)).trans ((State.requestPaths_changes _).mono (by decide))).trans
    ((State.requestDeviceTallies_changes _).mono (by decide))

/-- Frames of this device (R463, R469). -/
theorem State.nextSeq_changes (a b : Nat) : ChangesOnly [.fabric] s (s.nextSeq a b).2 := by
  unfold State.nextSeq; dsimp only; split <;> exact changes_fab s _
theorem State.queueOn_changes (f : Frame) (b : Bool) (l : List FabPort) : ChangesOnly [.fabric] s (s.queueOn f b l) := by
  induction l generalizing s with
  | nil => exact .refl _ s
  | cons p l ih =>
    refine ChangesOnly.trans ?_ (ih _)
    split
    · exact State.updPort_changes s _ _
    · exact .refl _ s
theorem State.originate_changes (a b : Nat) (d c : BitVec 12) (l : List Byte) (ps : List FabPort) :
    ChangesOnly [.fabric] s (s.originate a b d c l ps) :=
  (State.nextSeq_changes s a b).trans (State.queueOn_changes _ _ _ _)
theorem State.sendTo_changes (a b : Nat) (d : BitVec 12) (l : List Byte) :
    ChangesOnly [.fabric] s (s.sendTo a b d l) := by
  unfold State.sendTo; split
  · split
    · exact State.originate_changes s _ _ _ _ _ _
    · exact .refl _ s
  · exact .refl _ s
theorem State.event_changes (e : JEntry) : ChangesOnly [.fabric] s (s.event e) := by
  unfold State.event; dsimp only; split
  · exact .refl _ s
  · exact State.originate_changes s _ _ _ _ _ _

/-- Frames on the mirror (R557, R559). -/
theorem State.mirrorOut_changes (k : Nat) (n : BitVec 32) (l : List Byte) :
    ChangesOnly [.fabric] s (s.mirrorOut k n l) := by
  unfold State.mirrorOut; split
  · split
    · exact State.originate_changes s _ _ _ _ _ _
    · exact .refl _ s
  · exact .refl _ s
theorem State.sendMirror_changes (k : Nat) (l : List Byte) : ChangesOnly [.fabric, .twin] s (s.sendMirror k l) := by
  unfold State.sendMirror; split
  · exact .refl _ s
  · exact ((State.mirrorOut_changes s _ _ _).mono (by decide)).trans ((changes_twin _ _).mono (by decide))
theorem State.sendAck_changes : ChangesOnly [.fabric, .twin] s s.sendAck :=
  ((State.mirrorOut_changes s _ _ _).mono (by decide)).trans ((changes_twin _ _).mono (by decide))
theorem State.sendState_changes : ChangesOnly [.fabric, .twin] s s.sendState :=
  ((State.sendMirror_changes s _ _).mono (by decide)).trans ((changes_twin _ _).mono (by decide))

/-- The journal port (R275 to R277, R562). -/
theorem State.journalEntry_changes (code data : Nat) : ChangesOnly s.journalling s (s.journalEntry code data).2 := by
  have big : ([Part.journal, .deviceTallies] : List Part) ⊆ s.journalling := by
    unfold State.journalling; split <;> decide
  have jr : ∀ (s : State) (n : BitVec 32) (l : List JEntry) (k : Nat),
      ChangesOnly [.journal] s { s with tal := { s.tal with jNext := n, jQueue := l, jDropped := k } } := by
    intro s n l k q hq; cases q <;> simp_all [Part.same, Tal.restSame, Mov.restSame]
  unfold State.journalEntry; split
  · exact .refl _ s
  · split
    · exact .refl _ s
    · split
      · refine (ChangesOnly.trans (ps := [.journal, .deviceTallies]) (t := _) ?_
          ((State.addTally_changes _ 23 1).mono (by decide))).mono big
        exact (jr s s.tal.jNext s.tal.jQueue _).mono (by decide)
      · by_cases h : s.trole = .none
        · simp only [h, ↓reduceIte]
          exact (((jr s _ _ s.tal.jDropped).mono (by decide : ([Part.journal] : List Part) ⊆ [.journal, .deviceTallies]))).mono
            big
        · have hj : s.journalling = [.journal, .deviceTallies, .fabric, .twin] := by simp [State.journalling, h]
          simp only [h, ↓reduceIte, hj]
          refine ChangesOnly.trans (t := _) ?_ ((State.sendMirror_changes _ _ _).mono (by decide))
          split
          · intro q hq; cases q <;> simp_all [Part.same, Tal.restSame, Mov.restSame]
          · exact (jr s _ _ s.tal.jDropped).mono (by decide)

theorem State.journal_changes (code data : Nat) : ChangesOnly s.journalling s (s.journal code data) :=
  State.journalEntry_changes s code data

/-- Whatever the twin role, an entry changes no more than these. -/
theorem State.journalling_le : s.journalling ⊆ [.journal, .deviceTallies, .fabric, .twin] := by
  unfold State.journalling; split <;> decide
theorem State.journal_le (code data : Nat) :
    ChangesOnly [.journal, .deviceTallies, .fabric, .twin] s (s.journal code data) :=
  (State.journal_changes s code data).mono (State.journalling_le s)

/-- A Sand trigger of local origin (R19, R23, R438). -/
theorem State.raise_changes (k : Option TriggerKind) (code data : Nat) :
    ChangesOnly [.device, .journal, .deviceTallies, .fabric, .twin, .head] s (s.raise k code data) := by
  have base : ChangesOnly [.device, .journal, .deviceTallies, .fabric, .twin, .head] s
      (((s.journalEntry code data).2.event (s.journalEntry code data).1).offerRecord
        { kind := 1, src := s.fab.addr, content := (s.journalEntry code data).1.bytes }) :=
    ((((State.journalEntry_changes s code data).mono (State.journalling_le s)).mono (by decide)).trans
      ((State.event_changes _ _).mono (by decide))).trans ((State.offerRecord_changes _ _).mono (by decide))
  unfold State.raise; dsimp only; split
  · split
    · exact base.trans ((changes_dev _ _).mono (by decide))
    · exact base
  · exact base

/-- The alarm outputs (R121 to R126). -/
theorem State.onset_changes (c : Cond) : ChangesOnly [.wiring, .twin] s (s.onset c) :=
  ((changes_loc s _).mono (by decide)).trans ((State.stateChanged_changes _).mono (by decide))
theorem State.settle_changes : ChangesOnly [.wiring, .twin] s s.settle := by
  unfold State.settle
  extract_lets f s1 l s2 alm
  have h1 : ChangesOnly [.wiring, .twin] s s1 := by
    unfold s1; split
    · exact State.onset_changes s _
    · exact .refl _ s
  have h2 : ChangesOnly [.wiring, .twin] s s2 := h1.trans ((changes_loc s1 _).mono (by decide))
  split
  · exact h2
  · exact (h2.trans ((changes_loc s2 _).mono (by decide))).trans ((State.stateChanged_changes _).mono (by decide))
theorem State.silenceNow_changes (n : Nat) :
    ChangesOnly [.wiring, .journal, .deviceTallies, .fabric, .twin] s (s.silenceNow n) :=
  (((changes_loc s _).mono (by decide)).trans ((State.journal_le _ _ _).mono (by decide))).trans
    ((State.stateChanged_changes _).mono (by decide))

/-- The rates (R210 to R213). -/
theorem State.applyRates_changes :
    ChangesOnly [.beads, .sounding, .journal, .deviceTallies, .fabric, .twin] s s.applyRates := by
  refine ChangesOnly.trans (t := _) ?_ ((State.setPeriods_changes _).mono (by decide))
  refine ChangesOnly.trans ((changes_bead s _).mono (by decide)) (ChangesOnly.foldl (fun t g => ?_) _ _)
  dsimp only; split
  · exact (State.journal_le t _ _).mono (by decide)
  · exact .refl _ t

/-- A change of mode (R25). -/
theorem State.setMode_changes (m : Mode) : ChangesOnly [.device, .beads, .clocks, .sounding, .pathTallies, .deviceTallies,
    .journal, .writes, .tallyRest, .fabric, .twin] s (s.setMode m) := by
  unfold State.setMode; dsimp only
  refine ChangesOnly.trans (t := _) ?_ ((State.stateChanged_changes _).mono (by decide))
  refine ChangesOnly.trans (t := _) ?_ ((State.applyRates_changes _).mono (by decide))
  refine ChangesOnly.trans (t := _) ?_ ((State.modeTallies_changes _).mono (by decide))
  have hd : ChangesOnly [.device, .beads, .clocks, .sounding, .pathTallies, .deviceTallies, .journal, .writes, .tallyRest,
      .fabric, .twin] s { s with dev := { s.dev with mode := m, hold := if m.bedrock then 0 else s.dev.hold } } :=
    (changes_dev s _).mono (by decide)
  have hj := hd.trans ((State.journal_le _ 0x02 (s.dev.mode.code * 256 + m.code)).mono (by decide))
  split
  · refine ChangesOnly.trans (t := _) ?_ ((State.demand_changes _ _).mono (by decide))
    split
    · exact hj.trans ((State.addTally_changes _ _ _).mono (by decide))
    · exact hj
  · refine ChangesOnly.trans (t := _) ?_ ((State.undemand_changes _ _).mono (by decide))
    split
    · exact hj.trans ((State.addTally_changes _ _ _).mono (by decide))
    · exact hj

/-- A camera port's state (R280) and the entry into Sand (R25, R28, R281). -/
theorem State.setCam_changes (k : CamPort) (st : PortState) :
    ChangesOnly [.cameras, .journal, .deviceTallies, .fabric, .twin] s (s.setCam k st) := by
  unfold State.setCam; split
  · exact .refl _ s
  · exact ((changes_cam s _).mono (by decide)).trans ((State.journal_le _ _ _).mono (by decide))
/-- The outputs of the PLL armed and taken (R159). -/
theorem State.armOut_changes (o : PllOut) (x : PllSetting) (b : PllBoundary) :
    ChangesOnly [.clocks] s (s.armOut o x b) := changes_clk s _
theorem State.armAll_changes : ChangesOnly [.clocks] s s.armAll := by
  unfold State.armAll
  exact ChangesOnly.foldl (fun t o => State.armOut_changes t o _ _) _ _
theorem State.boundary_changes (b : PllBoundary) : ChangesOnly [.clocks] s (s.boundary b) := changes_clk s _
theorem State.sandActions_changes : ChangesOnly [.clocks, .journal, .deviceTallies, .cameras, .recipes, .head, .fabric, .twin]
    s s.sandActions := by
  have hc : ChangesOnly [.clocks, .journal, .deviceTallies, .cameras, .recipes, .head, .fabric, .twin] s
      (if s.clk.pll = .off then s else if s.clk.pll = .locked then s.armAll.boundary .lock else s.armAll) := by
    split
    · exact .refl _ s
    · split
      · exact ((State.armAll_changes s).trans (State.boundary_changes _ _)).mono (by decide)
      · exact (State.armAll_changes s).mono (by decide)
  have h := hc.trans (ChangesOnly.foldl (fun t (k : CamPort) => (State.setCam_changes t k (t.camEntry k)).mono (by decide)) allCams _)
  unfold State.sandActions; dsimp only
  refine h.trans ?_
  intro q hq; cases q <;> simp_all [Part.same, Tal.restSame, Mov.restSame]
theorem State.enterSand_changes : ChangesOnly [.device, .beads, .clocks, .sounding, .pathTallies, .deviceTallies,
    .journal, .writes, .tallyRest, .cameras, .recipes, .head, .fabric, .twin] s s.enterSand :=
  ((((State.takeVideo_changes s).mono (by decide)).trans ((State.loadHold_changes _).mono (by decide))).trans
    ((State.setMode_changes _ _).mono (by decide))).trans ((State.sandActions_changes _).mono (by decide))

/-- Links, pairings and the mirror. -/
theorem State.setLink_changes (p : FabPort) (l : LinkState) :
    ChangesOnly [.journal, .deviceTallies, .fabric, .twin] s (s.setLink p l) := by
  unfold State.setLink; split
  · exact .refl _ s
  · exact ((State.updPort_changes s _ _).mono (by decide)).trans (State.journal_le _ _ _)
theorem State.pairFail_changes (p : FabPort) (c : Nat) :
    ChangesOnly [.journal, .deviceTallies, .fabric, .twin] s (s.pairFail p c) := by
  unfold State.pairFail; split
  · exact ((State.updPort_changes s _ _).mono (by decide)).trans (State.journal_le _ _ _)
  · exact .refl _ s
theorem State.pairFailAll_changes (c : Nat) :
    ChangesOnly [.journal, .deviceTallies, .fabric, .twin] s (s.pairFailAll c) :=
  ChangesOnly.foldl (fun t p => State.pairFail_changes t p c) _ s
theorem State.setMirror_changes (m : MirrorPhase) :
    ChangesOnly [.journal, .deviceTallies, .fabric, .twin] s (s.setMirror m) := by
  unfold State.setMirror; split
  · exact .refl _ s
  · exact ((changes_twin s _).mono (by decide)).trans (State.journal_le _ _ _)
theorem State.mirrorDown_changes : ChangesOnly [.journal, .deviceTallies, .fabric, .twin] s s.mirrorDown :=
  (State.setMirror_changes s _).trans ((changes_twin _ _).mono (by decide))
theorem State.portDown_changes (p : FabPort) (l : LinkState) :
    ChangesOnly [.journal, .deviceTallies, .fabric, .twin] s (s.portDown p l) := by
  have h0 : ChangesOnly [.journal, .deviceTallies, .fabric, .twin] s
      (if (s.fab.port[p]).trust = .keyMismatch then s.journal 0x53 (p.val * 16384) else s) := by
    split
    · exact State.journal_le s _ _
    · exact .refl _ s
  have h2 := ((h0.trans (State.setLink_changes _ p l)).trans ((State.updPort_changes _ p fun q =>
    { q.unlink l with retrainAt := s.now + msTicks 100 }).mono (by decide)))
  unfold State.portDown; dsimp only
  have h3 : ∀ t : State, ChangesOnly [.journal, .deviceTallies, .fabric, .twin] s t →
      ChangesOnly [.journal, .deviceTallies, .fabric, .twin] s (if s.portRole p = .twin then t.mirrorDown else t) := by
    intro t ht; split
    · exact ht.trans (State.mirrorDown_changes t)
    · exact ht
  split
  · exact (h3 _ (h2.trans ((changes_fab _ _).mono (by decide)))).trans ((State.lsChange_changes _).mono (by decide))
  · exact h3 _ (h2.trans ((changes_fab _ _).mono (by decide)))

end updates

/-- A guarded outcome whose condition does not hold changes nothing. -/
theorem occurs_false (s t : State) : occurs false s t = .next s := rfl
theorem occurs_true (s t : State) : occurs true s t = .next t := rfl
/-- What a guarded outcome answers. -/
theorem occurs_next {g : Bool} {s t u : State} (h : occurs g s t = .next u) : u = s ∧ g = false ∨ u = t ∧ g = true := by
  cases g
  · exact .inl ⟨(Host.Outcome.next.inj h).symm, rfl⟩
  · exact .inr ⟨(Host.Outcome.next.inj h).symm, rfl⟩
/-- A guarded outcome changes what its effect can change. -/
theorem occurs_changes {ps : List Part} {g : Bool} {s t u : State} (h : occurs g s t = .next u)
    (k : ChangesOnly ps s t) : ChangesOnly ps s u := by
  rcases occurs_next h with ⟨rfl, -⟩ | ⟨rfl, -⟩
  · exact .refl ps u
  · exact k

end Sys2Proof.Machine
end

