-- ==== Sys2Proof/Laws/Memory.lean ====
section
/-!
SUPPORT. Every operation on a byte memory keeps its canonical form: addresses strictly rising, no zero byte listed.
-/
namespace Sys2Proof.Machine

/-- A lower bound may be lowered. -/
theorem memWfFrom_mono {lo hi : Nat} {m : Mem} (h : lo ≤ hi) (w : memWfFrom hi m = true) : memWfFrom lo m = true := by
  cases m with
  | nil => rfl
  | cons e t =>
    obtain ⟨k, v⟩ := e
    simp only [memWfFrom, Bool.and_eq_true, decide_eq_true_eq] at w ⊢
    exact ⟨⟨by omega, w.1.2⟩, w.2⟩

/-- Writing a byte at or above the lower bound keeps the form from that bound. -/
theorem memWrite_wfFrom {lo : Nat} {m : Mem} {a : Nat} (v : Byte) (w : memWfFrom lo m = true) (h : lo ≤ a) :
    memWfFrom lo (memWrite m a v) = true := by
  induction m generalizing lo with
  | nil =>
    unfold memWrite; split
    · rfl
    · simp_all [memWfFrom]
  | cons e t ih =>
    obtain ⟨k, x⟩ := e
    simp only [memWfFrom, Bool.and_eq_true, decide_eq_true_eq] at w
    unfold memWrite
    split
    · split
      · exact memWfFrom_mono (by omega) w.2
      · simp_all [memWfFrom]
    · split
      · split
        · simp_all [memWfFrom]
        next hka _ _ =>
          simp only [memWfFrom, Bool.and_eq_true, decide_eq_true_eq]
          exact ⟨⟨h, by assumption⟩, ⟨by omega, w.1.2⟩, w.2⟩
      · simp only [memWfFrom, Bool.and_eq_true, decide_eq_true_eq]
        exact ⟨w.1, ih w.2 (by omega)⟩

theorem memWrite_wf {m : Mem} (a : Nat) (v : Byte) (w : Memory.wf m = true) : Memory.wf (memWrite m a v) = true :=
  memWrite_wfFrom v w (Nat.zero_le a)

theorem memStore_wf {m : Mem} (a : Nat) (l : List Byte) (w : Memory.wf m = true) : Memory.wf (memStore m a l) = true := by
  induction l generalizing m a with
  | nil => exact w
  | cons b t ih => exact ih (a + 1) (memWrite_wf a b w)

theorem nil_wf : Memory.wf [] = true := rfl

theorem commitRecord_wf {m : Mem} (id : RecId) (l : List Byte) (w : Memory.wf m = true) :
    Memory.wf (commitRecord m id l) = true :=
  memStore_wf _ _ (memStore_wf _ _ (memStore_wf _ _ w))

theorem eraseRecord_wf {m : Mem} (id : RecId) (w : Memory.wf m = true) : Memory.wf (eraseRecord m id) = true :=
  memStore_wf _ _ w

theorem writeHeader_wf {m : Mem} (w : Memory.wf m = true) : Memory.wf (writeHeader m) = true := memStore_wf _ _ w

/-- The power-on reset lists nothing in either memory. -/
theorem reset_store_wf : Memory.wf State.reset.tal.store = true := rfl
theorem reset_pool_wf : Memory.wf State.reset.mov.pool = true := rfl

end Sys2Proof.Machine
end

