-- ==== Sys2Proof/Laws/State.lean ====
section
/-!
SUPPORT. The fields of the state under the named updates: every field that an update leaves, and the element that it
changes, read back.
-/
namespace Sys2Proof.Machine

@[simp] theorem State.updPort_dev (s : State) (p : FabPort) (f : FPort → FPort) : (s.updPort p f).dev = s.dev := rfl
@[simp] theorem State.updPort_bead (s : State) (p : FabPort) (f : FPort → FPort) : (s.updPort p f).bead = s.bead := rfl
@[simp] theorem State.updPort_loc (s : State) (p : FabPort) (f : FPort → FPort) : (s.updPort p f).loc = s.loc := rfl
@[simp] theorem State.updPort_clk (s : State) (p : FabPort) (f : FPort → FPort) : (s.updPort p f).clk = s.clk := rfl
@[simp] theorem State.updPort_tr (s : State) (p : FabPort) (f : FPort → FPort) : (s.updPort p f).tr = s.tr := rfl
@[simp] theorem State.updPort_tal (s : State) (p : FabPort) (f : FPort → FPort) : (s.updPort p f).tal = s.tal := rfl
@[simp] theorem State.updPort_cam (s : State) (p : FabPort) (f : FPort → FPort) : (s.updPort p f).cam = s.cam := rfl
@[simp] theorem State.updPort_rcp (s : State) (p : FabPort) (f : FPort → FPort) : (s.updPort p f).rcp = s.rcp := rfl
@[simp] theorem State.updPort_kiln (s : State) (p : FabPort) (f : FPort → FPort) : (s.updPort p f).kiln = s.kiln := rfl
@[simp] theorem State.updPort_mov (s : State) (p : FabPort) (f : FPort → FPort) : (s.updPort p f).mov = s.mov := rfl
@[simp] theorem State.updPort_head (s : State) (p : FabPort) (f : FPort → FPort) : (s.updPort p f).head = s.head := rfl
@[simp] theorem State.updPort_twin (s : State) (p : FabPort) (f : FPort → FPort) : (s.updPort p f).twin = s.twin := rfl
@[simp] theorem State.updPort_mon (s : State) (p : FabPort) (f : FPort → FPort) : (s.updPort p f).mon = s.mon := rfl
@[simp] theorem State.updPort_draws (s : State) (p : FabPort) (f : FPort → FPort) : (s.updPort p f).draws = s.draws := rfl
@[simp] theorem State.updPort_pending (s : State) (p : FabPort) (f : FPort → FPort) : (s.updPort p f).pending = s.pending := rfl
@[simp] theorem State.updPort_self (s : State) (p : FabPort) (f : FPort → FPort) : (s.updPort p f).fab.port[p] = f s.fab.port[p] := by
  simp [State.updPort]
theorem State.updPort_other (s : State) (p : FabPort) (f : FPort → FPort) (j : FabPort) (h : j ≠ p) :
    (s.updPort p f).fab.port[j] = s.fab.port[j] := by
  have hv : p.val ≠ j.val := fun e => h (Fin.ext e.symm)
  simp [State.updPort, hv]

@[simp] theorem State.updPath_dev (s : State) (p : PathNo) (f : PathSt → PathSt) : (s.updPath p f).dev = s.dev := rfl
@[simp] theorem State.updPath_bead (s : State) (p : PathNo) (f : PathSt → PathSt) : (s.updPath p f).bead = s.bead := rfl
@[simp] theorem State.updPath_loc (s : State) (p : PathNo) (f : PathSt → PathSt) : (s.updPath p f).loc = s.loc := rfl
@[simp] theorem State.updPath_clk (s : State) (p : PathNo) (f : PathSt → PathSt) : (s.updPath p f).clk = s.clk := rfl
@[simp] theorem State.updPath_tal (s : State) (p : PathNo) (f : PathSt → PathSt) : (s.updPath p f).tal = s.tal := rfl
@[simp] theorem State.updPath_cam (s : State) (p : PathNo) (f : PathSt → PathSt) : (s.updPath p f).cam = s.cam := rfl
@[simp] theorem State.updPath_rcp (s : State) (p : PathNo) (f : PathSt → PathSt) : (s.updPath p f).rcp = s.rcp := rfl
@[simp] theorem State.updPath_kiln (s : State) (p : PathNo) (f : PathSt → PathSt) : (s.updPath p f).kiln = s.kiln := rfl
@[simp] theorem State.updPath_mov (s : State) (p : PathNo) (f : PathSt → PathSt) : (s.updPath p f).mov = s.mov := rfl
@[simp] theorem State.updPath_head (s : State) (p : PathNo) (f : PathSt → PathSt) : (s.updPath p f).head = s.head := rfl
@[simp] theorem State.updPath_fab (s : State) (p : PathNo) (f : PathSt → PathSt) : (s.updPath p f).fab = s.fab := rfl
@[simp] theorem State.updPath_twin (s : State) (p : PathNo) (f : PathSt → PathSt) : (s.updPath p f).twin = s.twin := rfl
@[simp] theorem State.updPath_mon (s : State) (p : PathNo) (f : PathSt → PathSt) : (s.updPath p f).mon = s.mon := rfl
@[simp] theorem State.updPath_draws (s : State) (p : PathNo) (f : PathSt → PathSt) : (s.updPath p f).draws = s.draws := rfl
@[simp] theorem State.updPath_pending (s : State) (p : PathNo) (f : PathSt → PathSt) : (s.updPath p f).pending = s.pending := rfl
@[simp] theorem State.updPath_self (s : State) (p : PathNo) (f : PathSt → PathSt) : (s.updPath p f).tr.path[p] = f s.tr.path[p] := by
  simp [State.updPath]
theorem State.updPath_other (s : State) (p : PathNo) (f : PathSt → PathSt) (j : PathNo) (h : j ≠ p) :
    (s.updPath p f).tr.path[j] = s.tr.path[j] := by
  have hv : p.val ≠ j.val := fun e => h (Fin.ext e.symm)
  simp [State.updPath, hv]

@[simp] theorem State.updTal_dev (s : State) (p : PathNo) (f : PathTally → PathTally) : (s.updTal p f).dev = s.dev := rfl
@[simp] theorem State.updTal_bead (s : State) (p : PathNo) (f : PathTally → PathTally) : (s.updTal p f).bead = s.bead := rfl
@[simp] theorem State.updTal_loc (s : State) (p : PathNo) (f : PathTally → PathTally) : (s.updTal p f).loc = s.loc := rfl
@[simp] theorem State.updTal_clk (s : State) (p : PathNo) (f : PathTally → PathTally) : (s.updTal p f).clk = s.clk := rfl
@[simp] theorem State.updTal_tr (s : State) (p : PathNo) (f : PathTally → PathTally) : (s.updTal p f).tr = s.tr := rfl
@[simp] theorem State.updTal_cam (s : State) (p : PathNo) (f : PathTally → PathTally) : (s.updTal p f).cam = s.cam := rfl
@[simp] theorem State.updTal_rcp (s : State) (p : PathNo) (f : PathTally → PathTally) : (s.updTal p f).rcp = s.rcp := rfl
@[simp] theorem State.updTal_kiln (s : State) (p : PathNo) (f : PathTally → PathTally) : (s.updTal p f).kiln = s.kiln := rfl
@[simp] theorem State.updTal_mov (s : State) (p : PathNo) (f : PathTally → PathTally) : (s.updTal p f).mov = s.mov := rfl
@[simp] theorem State.updTal_head (s : State) (p : PathNo) (f : PathTally → PathTally) : (s.updTal p f).head = s.head := rfl
@[simp] theorem State.updTal_fab (s : State) (p : PathNo) (f : PathTally → PathTally) : (s.updTal p f).fab = s.fab := rfl
@[simp] theorem State.updTal_twin (s : State) (p : PathNo) (f : PathTally → PathTally) : (s.updTal p f).twin = s.twin := rfl
@[simp] theorem State.updTal_mon (s : State) (p : PathNo) (f : PathTally → PathTally) : (s.updTal p f).mon = s.mon := rfl
@[simp] theorem State.updTal_draws (s : State) (p : PathNo) (f : PathTally → PathTally) : (s.updTal p f).draws = s.draws := rfl
@[simp] theorem State.updTal_pending (s : State) (p : PathNo) (f : PathTally → PathTally) : (s.updTal p f).pending = s.pending := rfl
@[simp] theorem State.updTal_self (s : State) (p : PathNo) (f : PathTally → PathTally) : (s.updTal p f).tal.path[p] = f s.tal.path[p] := by
  simp [State.updTal]
theorem State.updTal_other (s : State) (p : PathNo) (f : PathTally → PathTally) (j : PathNo) (h : j ≠ p) :
    (s.updTal p f).tal.path[j] = s.tal.path[j] := by
  have hv : p.val ≠ j.val := fun e => h (Fin.ext e.symm)
  simp [State.updTal, hv]

@[simp] theorem State.updCam_dev (s : State) (k : CamPort) (f : CamSt → CamSt) : (s.updCam k f).dev = s.dev := rfl
@[simp] theorem State.updCam_bead (s : State) (k : CamPort) (f : CamSt → CamSt) : (s.updCam k f).bead = s.bead := rfl
@[simp] theorem State.updCam_loc (s : State) (k : CamPort) (f : CamSt → CamSt) : (s.updCam k f).loc = s.loc := rfl
@[simp] theorem State.updCam_clk (s : State) (k : CamPort) (f : CamSt → CamSt) : (s.updCam k f).clk = s.clk := rfl
@[simp] theorem State.updCam_tr (s : State) (k : CamPort) (f : CamSt → CamSt) : (s.updCam k f).tr = s.tr := rfl
@[simp] theorem State.updCam_tal (s : State) (k : CamPort) (f : CamSt → CamSt) : (s.updCam k f).tal = s.tal := rfl
@[simp] theorem State.updCam_rcp (s : State) (k : CamPort) (f : CamSt → CamSt) : (s.updCam k f).rcp = s.rcp := rfl
@[simp] theorem State.updCam_kiln (s : State) (k : CamPort) (f : CamSt → CamSt) : (s.updCam k f).kiln = s.kiln := rfl
@[simp] theorem State.updCam_mov (s : State) (k : CamPort) (f : CamSt → CamSt) : (s.updCam k f).mov = s.mov := rfl
@[simp] theorem State.updCam_head (s : State) (k : CamPort) (f : CamSt → CamSt) : (s.updCam k f).head = s.head := rfl
@[simp] theorem State.updCam_fab (s : State) (k : CamPort) (f : CamSt → CamSt) : (s.updCam k f).fab = s.fab := rfl
@[simp] theorem State.updCam_twin (s : State) (k : CamPort) (f : CamSt → CamSt) : (s.updCam k f).twin = s.twin := rfl
@[simp] theorem State.updCam_mon (s : State) (k : CamPort) (f : CamSt → CamSt) : (s.updCam k f).mon = s.mon := rfl
@[simp] theorem State.updCam_draws (s : State) (k : CamPort) (f : CamSt → CamSt) : (s.updCam k f).draws = s.draws := rfl
@[simp] theorem State.updCam_pending (s : State) (k : CamPort) (f : CamSt → CamSt) : (s.updCam k f).pending = s.pending := rfl
@[simp] theorem State.updCam_self (s : State) (k : CamPort) (f : CamSt → CamSt) : (s.updCam k f).cam[k] = f s.cam[k] := by
  simp [State.updCam]
theorem State.updCam_other (s : State) (k : CamPort) (f : CamSt → CamSt) (j : CamPort) (h : j ≠ k) :
    (s.updCam k f).cam[j] = s.cam[j] := by
  have hv : k.val ≠ j.val := fun e => h (Fin.ext e.symm)
  simp [State.updCam, hv]

@[simp] theorem State.updCtx_dev (s : State) (c : Ctx) (f : KCtx → KCtx) : (s.updCtx c f).dev = s.dev := rfl
@[simp] theorem State.updCtx_bead (s : State) (c : Ctx) (f : KCtx → KCtx) : (s.updCtx c f).bead = s.bead := rfl
@[simp] theorem State.updCtx_loc (s : State) (c : Ctx) (f : KCtx → KCtx) : (s.updCtx c f).loc = s.loc := rfl
@[simp] theorem State.updCtx_clk (s : State) (c : Ctx) (f : KCtx → KCtx) : (s.updCtx c f).clk = s.clk := rfl
@[simp] theorem State.updCtx_tr (s : State) (c : Ctx) (f : KCtx → KCtx) : (s.updCtx c f).tr = s.tr := rfl
@[simp] theorem State.updCtx_tal (s : State) (c : Ctx) (f : KCtx → KCtx) : (s.updCtx c f).tal = s.tal := rfl
@[simp] theorem State.updCtx_cam (s : State) (c : Ctx) (f : KCtx → KCtx) : (s.updCtx c f).cam = s.cam := rfl
@[simp] theorem State.updCtx_rcp (s : State) (c : Ctx) (f : KCtx → KCtx) : (s.updCtx c f).rcp = s.rcp := rfl
@[simp] theorem State.updCtx_mov (s : State) (c : Ctx) (f : KCtx → KCtx) : (s.updCtx c f).mov = s.mov := rfl
@[simp] theorem State.updCtx_head (s : State) (c : Ctx) (f : KCtx → KCtx) : (s.updCtx c f).head = s.head := rfl
@[simp] theorem State.updCtx_fab (s : State) (c : Ctx) (f : KCtx → KCtx) : (s.updCtx c f).fab = s.fab := rfl
@[simp] theorem State.updCtx_twin (s : State) (c : Ctx) (f : KCtx → KCtx) : (s.updCtx c f).twin = s.twin := rfl
@[simp] theorem State.updCtx_mon (s : State) (c : Ctx) (f : KCtx → KCtx) : (s.updCtx c f).mon = s.mon := rfl
@[simp] theorem State.updCtx_draws (s : State) (c : Ctx) (f : KCtx → KCtx) : (s.updCtx c f).draws = s.draws := rfl
@[simp] theorem State.updCtx_pending (s : State) (c : Ctx) (f : KCtx → KCtx) : (s.updCtx c f).pending = s.pending := rfl
@[simp] theorem State.updCtx_self (s : State) (c : Ctx) (f : KCtx → KCtx) : (s.updCtx c f).kiln.ctx[c] = f s.kiln.ctx[c] := by
  simp [State.updCtx]
theorem State.updCtx_other (s : State) (c : Ctx) (f : KCtx → KCtx) (j : Ctx) (h : j ≠ c) :
    (s.updCtx c f).kiln.ctx[j] = s.kiln.ctx[j] := by
  have hv : c.val ≠ j.val := fun e => h (Fin.ext e.symm)
  simp [State.updCtx, hv]

@[simp] theorem State.updChan_dev (s : State) (c : MovCh) (f : MChan → MChan) : (s.updChan c f).dev = s.dev := rfl
@[simp] theorem State.updChan_bead (s : State) (c : MovCh) (f : MChan → MChan) : (s.updChan c f).bead = s.bead := rfl
@[simp] theorem State.updChan_loc (s : State) (c : MovCh) (f : MChan → MChan) : (s.updChan c f).loc = s.loc := rfl
@[simp] theorem State.updChan_clk (s : State) (c : MovCh) (f : MChan → MChan) : (s.updChan c f).clk = s.clk := rfl
@[simp] theorem State.updChan_tr (s : State) (c : MovCh) (f : MChan → MChan) : (s.updChan c f).tr = s.tr := rfl
@[simp] theorem State.updChan_tal (s : State) (c : MovCh) (f : MChan → MChan) : (s.updChan c f).tal = s.tal := rfl
@[simp] theorem State.updChan_cam (s : State) (c : MovCh) (f : MChan → MChan) : (s.updChan c f).cam = s.cam := rfl
@[simp] theorem State.updChan_rcp (s : State) (c : MovCh) (f : MChan → MChan) : (s.updChan c f).rcp = s.rcp := rfl
@[simp] theorem State.updChan_kiln (s : State) (c : MovCh) (f : MChan → MChan) : (s.updChan c f).kiln = s.kiln := rfl
@[simp] theorem State.updChan_head (s : State) (c : MovCh) (f : MChan → MChan) : (s.updChan c f).head = s.head := rfl
@[simp] theorem State.updChan_fab (s : State) (c : MovCh) (f : MChan → MChan) : (s.updChan c f).fab = s.fab := rfl
@[simp] theorem State.updChan_twin (s : State) (c : MovCh) (f : MChan → MChan) : (s.updChan c f).twin = s.twin := rfl
@[simp] theorem State.updChan_mon (s : State) (c : MovCh) (f : MChan → MChan) : (s.updChan c f).mon = s.mon := rfl
@[simp] theorem State.updChan_draws (s : State) (c : MovCh) (f : MChan → MChan) : (s.updChan c f).draws = s.draws := rfl
@[simp] theorem State.updChan_pending (s : State) (c : MovCh) (f : MChan → MChan) : (s.updChan c f).pending = s.pending := rfl
@[simp] theorem State.updChan_self (s : State) (c : MovCh) (f : MChan → MChan) : (s.updChan c f).mov.chan[c] = f s.mov.chan[c] := by
  simp [State.updChan]
theorem State.updChan_other (s : State) (c : MovCh) (f : MChan → MChan) (j : MovCh) (h : j ≠ c) :
    (s.updChan c f).mov.chan[j] = s.mov.chan[j] := by
  have hv : c.val ≠ j.val := fun e => h (Fin.ext e.symm)
  simp [State.updChan, hv]

@[simp] theorem State.updQueue_dev (s : State) (q : Fin 64) (f : MQueue → MQueue) : (s.updQueue q f).dev = s.dev := rfl
@[simp] theorem State.updQueue_bead (s : State) (q : Fin 64) (f : MQueue → MQueue) : (s.updQueue q f).bead = s.bead := rfl
@[simp] theorem State.updQueue_loc (s : State) (q : Fin 64) (f : MQueue → MQueue) : (s.updQueue q f).loc = s.loc := rfl
@[simp] theorem State.updQueue_clk (s : State) (q : Fin 64) (f : MQueue → MQueue) : (s.updQueue q f).clk = s.clk := rfl
@[simp] theorem State.updQueue_tr (s : State) (q : Fin 64) (f : MQueue → MQueue) : (s.updQueue q f).tr = s.tr := rfl
@[simp] theorem State.updQueue_tal (s : State) (q : Fin 64) (f : MQueue → MQueue) : (s.updQueue q f).tal = s.tal := rfl
@[simp] theorem State.updQueue_cam (s : State) (q : Fin 64) (f : MQueue → MQueue) : (s.updQueue q f).cam = s.cam := rfl
@[simp] theorem State.updQueue_rcp (s : State) (q : Fin 64) (f : MQueue → MQueue) : (s.updQueue q f).rcp = s.rcp := rfl
@[simp] theorem State.updQueue_kiln (s : State) (q : Fin 64) (f : MQueue → MQueue) : (s.updQueue q f).kiln = s.kiln := rfl
@[simp] theorem State.updQueue_head (s : State) (q : Fin 64) (f : MQueue → MQueue) : (s.updQueue q f).head = s.head := rfl
@[simp] theorem State.updQueue_fab (s : State) (q : Fin 64) (f : MQueue → MQueue) : (s.updQueue q f).fab = s.fab := rfl
@[simp] theorem State.updQueue_twin (s : State) (q : Fin 64) (f : MQueue → MQueue) : (s.updQueue q f).twin = s.twin := rfl
@[simp] theorem State.updQueue_mon (s : State) (q : Fin 64) (f : MQueue → MQueue) : (s.updQueue q f).mon = s.mon := rfl
@[simp] theorem State.updQueue_draws (s : State) (q : Fin 64) (f : MQueue → MQueue) : (s.updQueue q f).draws = s.draws := rfl
@[simp] theorem State.updQueue_pending (s : State) (q : Fin 64) (f : MQueue → MQueue) : (s.updQueue q f).pending = s.pending := rfl
@[simp] theorem State.updQueue_self (s : State) (q : Fin 64) (f : MQueue → MQueue) : (s.updQueue q f).mov.queue[q] = f s.mov.queue[q] := by
  simp [State.updQueue]
theorem State.updQueue_other (s : State) (q : Fin 64) (f : MQueue → MQueue) (j : Fin 64) (h : j ≠ q) :
    (s.updQueue q f).mov.queue[j] = s.mov.queue[j] := by
  have hv : q.val ≠ j.val := fun e => h (Fin.ext e.symm)
  simp [State.updQueue, hv]

@[simp] theorem State.setStore_dev (s : State) (m : Mem) : (s.setStore m).dev = s.dev := rfl
@[simp] theorem State.setStore_bead (s : State) (m : Mem) : (s.setStore m).bead = s.bead := rfl
@[simp] theorem State.setStore_loc (s : State) (m : Mem) : (s.setStore m).loc = s.loc := rfl
@[simp] theorem State.setStore_clk (s : State) (m : Mem) : (s.setStore m).clk = s.clk := rfl
@[simp] theorem State.setStore_tr (s : State) (m : Mem) : (s.setStore m).tr = s.tr := rfl
@[simp] theorem State.setStore_cam (s : State) (m : Mem) : (s.setStore m).cam = s.cam := rfl
@[simp] theorem State.setStore_rcp (s : State) (m : Mem) : (s.setStore m).rcp = s.rcp := rfl
@[simp] theorem State.setStore_kiln (s : State) (m : Mem) : (s.setStore m).kiln = s.kiln := rfl
@[simp] theorem State.setStore_mov (s : State) (m : Mem) : (s.setStore m).mov = s.mov := rfl
@[simp] theorem State.setStore_head (s : State) (m : Mem) : (s.setStore m).head = s.head := rfl
@[simp] theorem State.setStore_fab (s : State) (m : Mem) : (s.setStore m).fab = s.fab := rfl
@[simp] theorem State.setStore_twin (s : State) (m : Mem) : (s.setStore m).twin = s.twin := rfl
@[simp] theorem State.setStore_mon (s : State) (m : Mem) : (s.setStore m).mon = s.mon := rfl
@[simp] theorem State.setStore_draws (s : State) (m : Mem) : (s.setStore m).draws = s.draws := rfl
@[simp] theorem State.setStore_pending (s : State) (m : Mem) : (s.setStore m).pending = s.pending := rfl
@[simp] theorem State.setStore_store (s : State) (m : Mem) : (s.setStore m).tal.store = m := rfl

end Sys2Proof.Machine
end

