-- ==== Sys2Proof/Tests/Slice0.lean ====
section
/-!
SUPPORT. Tests of the model: ill-formed operands, worked examples of the spec, and states that meet the hypotheses of the
obligations.
-/
namespace Sys2Proof.Tests
set_option linter.unusedVariables false
set_option Elab.async false
open Sys2Proof.Machine

/-- A device out of reset with mains, its clocks running, in a mode. -/
def base (m : Mode) : State := { State.reset with
  dev := { mode := m, released := true, mainsOk := true, core := .running, supDone := true, keepOn := true }
  clk := { tick := 1000000, xoRun := true, xoReady := true, tdcCalibrated := true, pll := .locked }
  fab := { uid := 5, timeRun := true } }

/-- The beads in effect: the indices listed, and every other bead at its open default. -/
def effs (l : List (Nat × Fin 16)) : Bead :=
  { eff := Vector.ofFn fun b => Vector.replicate 8 ((l.lookup b.val).getD (openDefault b)) }

/-- Two discharges of a pin with a difference in TDC units. -/
def pinOf (d : Nat) : PinMeasure := ⟨true, true, some 1000, some (1000 + d)⟩

/-- A seal that was not measured. -/
def noSeal : SealMeasure := ⟨pinOf 0, pinOf 0, pinOf 0⟩

/-- A sounding device whose path 0 is in a state. -/
def pathAt (q : PathSt) : State := { base .loam with tr := { sounding := true, path := (Vector.replicate 8 {}).set 0 q } }

/-- A device whose path 0 has these tallies. -/
def tallyAt (q : PathTally) : State :=
  { base .loam with tal := { path := (Vector.replicate 8 {}).set 0 q, scanned := true } }

/-- A VALID pair of path 0. -/
def pairOk : PairRecord where
  path := 0
  sec := 0
  tick := 0
  status := .valid
  up := .ok
  down := .ok
  uncal := false
  ovr := false
  unverified := false
  health := false
  tAb := 0
  tBa := 0
  dt := 0
  v := 0
  c := 343000000
  tAir := 0
  gain := 20
  peakUp := 100
  peakDown := 100
  period := 4096
  fired := true
  causeUp := none
  causeDown := none

/-- A shot with no echo, and one whose first hit is timed. -/
def noShot : ShotMeasure := ⟨none, [], 0, false⟩
def someShot : ShotMeasure := ⟨some 1310720, [1310720], 200, true⟩

/-- A recipe. -/
def recipe (es : List Entry) : Recipe where
  hdr := { cciAddr := 0x10, cciOpts := 0, lanes := 1, laneRate := 400, mclk := 24, dt := 0x2B, vc := 0, cfa := 0, flags := 4
           width := 640, lines := 480, ob := 0, fsyncWidth := 10, rate := 1500, latency := 0, powerUp := 5
           startTimeout := 1000 }
  entries := es

/-- A recipe too fast for the slots of the kiln at any output rate. -/
def tooFast : Recipe := { recipe [] with hdr := { (recipe []).hdr with rate := 65535, lines := 4095 } }

/-- An exposure map. -/
def expmap : ExpMap where
  expReg := 0x3500
  expWidth := 2
  latency := 2
  lineTime := 20000
  frameLen := 500
  minExp := 4
  margin := 4
  gainReg := 0x3508
  gainWidth := 2
  law := 0
  code1 := 16
  codeMax := 255
  step := 0
  holdReg := 0x3208
  holdVal := 1
  relVal := 2

/-- A camera frame with all lines received. -/
def frameOk : CamFrame :=
  { stamp := 100, num := 1, counter := 0, startTick := 0, lines := 480, matched := 480 }

/-- A device in Sand whose camera port 0 uses a recipe and is in a state. -/
def camAt (q : CamSt) (es : List Entry := [.done]) : State := { base .sand with
  bead := effs [(16, 1)]
  rcp := { valid := true, slots := Vector.replicate 12 (.good (recipe es)) }
  cam := (Vector.replicate 12 {}).set 0 q }

/-- A context of the kiln whose frames have 480 lines. -/
def ctxOn : KCtx := { work := ((Vector.replicate 46 0).set 0 1).set 4 480 }

/-- A device in Sand with the kiln on and context 0 in a state. -/
def kilnAt (k : KCtx) (q : CamSt := { state := .streaming }) : State := { camAt q with
  kiln := { running := true, ctx := (Vector.replicate 13 {}).set 0 k, readySince := some 0 }
  mov := { queue := (Vector.replicate 64 {}).set 0 { level := 5 }, bufs := [⟨.input 0, 0, 2⟩, ⟨.export_ 0, 2, 2⟩] } }

/-- Statistics of 64 zones alike. -/
def statsOf (v : Nat) : Stats := ⟨List.replicate 64 { r := v, g := v, b := v, counted := 100 }, []⟩

/-- A word of a mover program: its operation and the fields below it. -/
def word (op rest : Nat) : BitVec 128 := BitVec.ofNat 128 (op * 2 ^ 124 + rest)

/-- A device in Sand whose mover channel 0 is at a word. -/
def movAt (w : BitVec 128) (c : MChan := { state := .run, owner := 29 }) : State := { base .sand with mov := {
  chan := (Vector.replicate 32 {}).set 0 c, prog := (Vector.replicate 512 0).set 0 w } }

/-- A fault latch. -/
def latchOf (o : BitVec 5) : FaultLatch := ⟨3, true, 0, 0, o⟩

/-- A device whose port FA is a trunk in a state. -/
def fabAt (q : FPort) (m : Mode := .loam) : State := { base m with
  bead := effs [(3, 1), (8, 1)]
  fab := { uid := 5, port := (Vector.replicate 3 {}).set 0 q, timeRun := true, addr := 7, kind := .beadSet } }

/-- A frame of a type and flow from device 9. -/
def frameOf (typ : BitVec 4) (flow : BitVec 8) (l : List Byte) : Frame where
  hdr := { dest := 7, src := 9, typ := typ, flow := flow, hop := 10, standby := false
           len := BitVec.ofNat 11 (l.length - 1), seq := 0 }
  payload := l

/-- The same with a frame waiting in its inbox. -/
def inboxAt (q : FPort) (f : Frame) : State :=
  { fabAt q with fab := { (fabAt q).fab with inbox := [(0, f)] } }

/-- Bytes with their CRC-32. -/
def withCrc (l : List Byte) : List Byte := l ++ crcLE l

/-- A LINKSTATE entry of another device. -/
def otherLs : LsEntry where
  uid := 3
  addr := 7
  kind := 1
  role := 1
  site := 0
  prio := 0
  refin := false
  links := []
  seq := 9

/-- The payload of a LINKSTATE frame with a unique ID and a sequence. -/
def lsPayload (u : Byte) (seq : Byte) : List Byte :=
  [u, 0, 0, 0, 0, 0, 0, 0] ++ [7, 0x10] ++ [1, 0, 0, 0] ++ [seq, 0, 0, 0] ++ [0, 0]

/-- A pairing. -/
def pairing0 : Pairing where
  scalar := [1]
  nonce := []
  pub := []

/-- A key record. -/
def key0 : KeyRec := ⟨9, List.replicate 16 1, List.replicate 16 2, 1, 0, 0, 1⟩

/-- A twin, by bead 3 at index 4 the primary and at index 3 the secondary, with its twin port admitted. -/
def twinAt (t : Twin) (role : Fin 16 := 4) : State := { fabAt { link := .active, trust := .admitted } with
  bead := effs [(3, role), (8, 3)], twin := t }

/-- A partner in synchronism. -/
def partnerOk : PartnerState := { mode := 1, inSync := true }

/-- A response in a time exchange with all stamps of the partner 1,000 later. -/
def timeResp : Frame := frameOf 5 1 ([1] ++ bytesLE 10 6000 ++ bytesLE 10 6000 ++ [1, 0] ++ zeros 9)

/-- A port in a pairing whose window is open, with a frame in the inbox. -/
def pairAt (g : Pairing) (f : Frame) : State :=
  { inboxAt { link := .active, pairing := some g } f with
    fab := { (inboxAt { link := .active, pairing := some g } f).fab with windowTill := some 1000001 } }

/-- A pairing that waits for its partner's CONFIRM, and that CONFIRM. -/
def pairing1 : Pairing := { pairing0 with partner := some (9, [2], [3]), kC := zeros 16 }
def confirmOk : List Byte := bytesLE 8 9 ++ confirmTag (zeros 16) 9 5 [2] [] ++ zeros 8

/-- A port in session setup, and the partner's HELLO that echoes its nonce. -/
def helloPort : FPort := { link := .active, trust := .sessionSetup, key := some key0, nonce := List.replicate 16 7 }
def helloOk : Frame := frameOf 7 0x10 (zeros 12 ++ List.replicate 16 8 ++ List.replicate 16 7)

/-- A recipe directory of a generation with no slots. -/
def directory (gen : Nat) : List Byte :=
  let l := [0x52, 0x43, 0x50, 0x31, 0x01, 0, 0, 0] ++ bytesLE 4 gen ++ zeros 96
  l ++ crcLE l

/-- Every calibration run of a state has ended, by a check of each path. -/
theorem runs_ended (s : State)
    (h : ∀ p : PathNo, (s.tr.path[p]).calRun.all (fun c => decide (64 ≤ c.diffs.length ∨ 96 ≤ c.collected ∨ s.configured p = false)) = true)
    (p : PathNo) (c : CalRun) (hc : (s.tr.path[p]).calRun = some c) :
    64 ≤ c.diffs.length ∨ 96 ≤ c.collected ∨ s.configured p = false := by
  have := h p
  rw [hc] at this
  simpa using this

/-- A store after some writes of one record. -/
def slots (n : Nat) : Mem := (List.range n).foldl (fun m _ => commitRecord m .device (zeros 17)) []

theorem natLE_bytesLE4 (n : Nat) (h : n < 2 ^ 32) : natLE (bytesLE 4 n) = n := by
  simp [bytesLE, natLE]
  omega

/-- Such a directory has no fault. -/
theorem directory_good (g : Nat) : directoryFault (some (directory g)) = none := by
  have hl : ([0x52, 0x43, 0x50, 0x31, 0x01, 0, 0, 0] ++ bytesLE 4 g ++ zeros 96 : List Byte).length = 108 := by
    simp [bytesLE, zeros]
  generalize hd : ([0x52, 0x43, 0x50, 0x31, 0x01, 0, 0, 0] ++ bytesLE 4 g ++ zeros 96 : List Byte) = l at hl
  have h5 : (l ++ crcLE l).take 5 = [0x52#8, 0x43#8, 0x50#8, 0x31#8, 0x01#8] := by
    subst hd
    simp
  have h0 : slice (l ++ crcLE l) 0 108 = l := by
    simp [slice, zeros, ← hl]
  have h1 : slice (l ++ crcLE l) 108 4 = crcLE l := by
    simp [slice, zeros, ← hl, crcLE, bytesLE]
  have : directory g = l ++ crcLE l := by
    simp only [directory, hd]
  rw [this]
  have h2 : natLE (crcLE l) = (crc32 l).toNat := natLE_bytesLE4 _ (crc32 l).isLt
  simp [directoryFault, h5, h0, h1, h2]

/-- Nine stops: no shot has them (R187). -/
def nineStops : ShotMeasure := ⟨none, List.replicate 9 0, 0, false⟩

/-- A pair whose first shot has nine stops is refused. -/
theorem test_illFormed_pairComplete :
    exec (.pairComplete 0 nineStops noShot) (base .loam) = .refused .illFormed := by
  have h : nineStops.wellFormed = false := by decide +kernel
  simp [exec, execPairComplete, whenFormed, h]

/-- A first hit that is no 40-bit count (R195). -/
def lateShot : ShotMeasure := ⟨some (2 ^ 40), [], 0, false⟩

/-- A stop time is a 40-bit count (R195). -/
theorem test_illFormed_pairComplete_time :
    exec (.pairComplete 0 noShot lateShot) (base .loam) = .refused .illFormed := by
  have h : lateShot.wellFormed = false := by decide +kernel
  simp [exec, execPairComplete, whenFormed, h]

/-- Nine stops, and a count of more than 40 bits, in a ring shot. -/
theorem test_illFormed_ringShotResult (m : RingMeasure) :
    m.stops = List.replicate 9 0 ∨ m.stops = [2 ^ 40] → exec (.ringShotResult 0 m) (base .loam) = .refused .illFormed := by
  intro h
  have h2 : m.wellFormed = false := by
    rcases h with h | h <;> simp [RingMeasure.wellFormed, h, tdcCount]
  simp [exec, execRingShotResult, whenFormed, h2]

/-- A short packet has no payload (Table 7.4). -/
theorem test_illFormed_csi2PacketReceived (p : CsiPacket) :
    p.dt = 0 → p.payload = [0] → exec (.csi2PacketReceived 0 p) (base .sand) = .refused .illFormed := by
  intro h g
  have h2 : p.wellFormed = false := by simp [CsiPacket.wellFormed, h, g]
  simp [exec, execCsi2PacketReceived, whenFormed, h2]

/-- A packet has a 16-bit word count. -/
theorem test_illFormed_csi2PacketReceived_long (p : CsiPacket) :
    p.payload.length = 2 ^ 16 → exec (.csi2PacketReceived 0 p) (base .sand) = .refused .illFormed := by
  intro h
  have h2 : p.wellFormed = false := by simp [CsiPacket.wellFormed, h]
  simp [exec, execCsi2PacketReceived, whenFormed, h2]

/-- An EEPROM image lies within 64 KiB (R298). -/
theorem test_illFormed_recipeCacheRead (l : List Byte) :
    l.length = 2 ^ 16 + 1 → exec (.recipeCacheRead (some l)) (base .sand) = .refused .illFormed := by
  intro h
  have h2 : imageWellFormed (some l) = false := by simp [imageWellFormed, h]
  simp [exec, execRecipeCacheRead, whenFormed, h2]

theorem test_illFormed_recipePoll (l : List Byte) :
    l.length = 2 ^ 16 + 1 → exec (.recipePoll (some l)) (base .sand) = .refused .illFormed := by
  intro h
  have h2 : imageWellFormed (some l) = false := by simp [imageWellFormed, h]
  simp [exec, execRecipePoll, whenFormed, h2]

/-- A channel has 16 words (R373). -/
theorem test_illFormed_moverProgramLoad :
    exec (.moverProgramLoad 0 (List.replicate 17 0)) (base .sand) = .refused .illFormed := by
  simp [exec, execMoverProgramLoad, whenFormed]

/-- The daily points of device 0x017 (Table 4.8) and their fit (§4.10). -/
theorem test_example_fit : fitPoints ([(100, 67200), (101, 67232), (102, 67248), (103, 67280)] ++
    [(104, 67296), (105, 67312), (106, 67344), (107, 67360)]) 107 0 = (false, 92062, 67363) := by decide +kernel

/-- The fraction of the feedback divider at that offset (§4.10). -/
theorem test_example_fraction : fracOf 67363 = 5577690 := by decide +kernel

/-- The window boundaries of Table 3.2: 1.5 s is short, 5 s and 8 s are long, 15 s is none. -/
theorem test_gesture_lengths : classifyPresses [49152] = .short ∧ classifyPresses [49153] = .none ∧
    classifyPresses [163840] = .long ∧ classifyPresses [262144] = .long ∧ classifyPresses [491520] = .none ∧
    classifyPresses [4000, 4000] = .double ∧ classifyPresses [4000, 4000, 4000] = .triple := by decide +kernel

/-- The words of Table 9.11 and their meanings. -/
theorem test_words_table_9_11 :
    decodeWord 0x8004_0000_0000_0000_0000_0000_0001_0000#128 = some (.set 4 0x0001_0000) ∧
    decodeWord 0x8005_0000_0000_0000_0000_0000_0000_9600#128 = some (.set 5 38400) ∧
    decodeWord 0x8007_0000_0000_0000_0000_0000_0001_0000#128 = some (.set 7 0x0001_0000) ∧
    decodeWord 0x3003_0000_0000_0000_0000_0000_0000_0000#128 = some (.wait 0 3 0 0) ∧
    decodeWord 0x6000_8090_0000_0000_0000_000D_0000_0000#128 = some (.compare 0 0 2 false 9 0 13) ∧
    decodeWord 0x2002_0220_0000_0000_0000_0000_0000_0000#128 = some (.loop 4 1088 0) ∧
    decodeWord 0x4000_8080_0000_0000_0000_0000_0000_0000#128 = some (.signal 0 0 true 1) ∧
    decodeWord 0x2001_8000_0000_0000_0000_0000_0000_0000#128 = some (.loop 3 0 0) ∧
    decodeWord 0x4003_8100_0000_0000_0000_0000_0000_0000#128 = some (.signal 0 3 true 2) := by decide +kernel

/-- The MOVE of Table 9.11: 2,400 bytes from 0x1000_0000 to DCUR, one line, 128-bit widths, queue 0 incremented. -/
theorem test_move_table_9_11 : decodeWord 0x1010_0000_0000_0000_0009_6000_1920_1000#128 = some (.move {
    half := false, full := false, crc := false, desc := false, src := 0x1000_0000, dst := 0, len := 2400, count := 1
    srcW := 4, dstW := 4, q := true, qDec := false, queue := 0, sc := false, dc := true }) := by decide +kernel

/-- An opcode above 8 is an illegal instruction (R383). -/
theorem test_illegal_word : decodeWord 0x9000_0000_0000_0000_0000_0000_0000_0000#128 = none := by decide +kernel

/-- CAM0 into tile 0: the whole active area, and scaler ratio 5,461 (§10.9). -/
theorem test_example_tile0 : tileGeometry 1920 1080 1440 810 0 1 = ⟨0, 0, 1920, 1080, 1440, 810, 0, 1⟩ ∧
    scaleRatio 1920 1440 = 5461 := by decide +kernel

/-- CAM6 into tile 6: crop 2,592 by 1,458 at row 242, and scaler ratios 22,118 (§10.9). -/
theorem test_example_tile6 : tileGeometry 2592 1944 480 270 0 1 = ⟨0, 242, 2592, 1458, 480, 270, 0, 1⟩ ∧
    scaleRatio 2592 480 = 22118 ∧ scaleRatio 1458 270 = 22118 := by decide +kernel

/-- The output period at bead 15 index 6 (§10.9). -/
theorem test_example_period : framePeriodNs 6 = 33333333 := by decide +kernel

/-- The line of par 0x44 (§16.6). -/
theorem test_example_par : paramLine 0x44 ("PATH_FLAGS", 0x001F1F1F) = "0x44 PATH_FLAGS 0x001F_1F1F" := by decide +kernel

/-- A port with 71 CRC errors in its interval (§12.10). -/
theorem test_example_quarantine : ({ link := .active, cnt := { crcErr := 71 } } : FPort).intervalCause = some 1 ∧
    quarSeconds 1 = 10 := by decide +kernel

/-- The trim of a nominal period is 0 (R132). -/
theorem test_trim : trimOf 1024000000000 = 0 := by decide +kernel

/-- No word of the command table has bits. -/
theorem test_decodeTableWord (n w : Nat) : decodeTableWord n w = none := by
  simp [decodeTableWord]

/-- With no word placed, the queue is as before. -/
theorem test_withFetchWord (s : State) (n w : Nat) : s.withFetchWord n w = s := by
  simp [State.withFetchWord, decodeTableWord]

/-- States that meet the hypotheses of StepRunsFront. -/
theorem test_hyps_StepRunsFront :
    (∃ (s : State) (c : Instr) (rest : List Instr), s.pending = c :: rest) :=
    ⟨{ State.reset with pending := [.help] }, .help, [], by decide +kernel⟩

/-- States that meet the hypotheses of IdleTick. -/
theorem test_hyps_IdleTick :
    (∃ (s : State), s.pending = [] ∧ s.dev.released = false) ∧
    (∃ (s : State), s.pending = [] ∧ s.dev.released = true ∧ s.dev.mainsLow = true) ∧
    (∃ (s : State), s.pending = [] ∧ s.dev.released = true ∧ s.dev.mainsLow = false) ∧
    (∃ (s : State), s.pending = [] ∧ s.dev.released = true ∧ s.dev.mainsLow = false ∧ s.fab.timeRun = true ∧ s.fab.slewTicks = 0) ∧
    (∃ (s : State), s.pending = [] ∧ s.dev.released = true ∧ s.dev.mainsLow = false ∧ s.fab.timeRun = false) ∧
    (∃ (s : State), s.pending = [] ∧ s.dev.released = true ∧ s.dev.mainsLow = false ∧ s.mov.syncDue = false ∧ s.dev.mode ≠ .bedBattery ∧ s.dev.mode ≠ .sand) ∧
    (∃ (s : State), s.pending = [] ∧ s.dev.released = true ∧ s.dev.mainsLow = false ∧ (s.fab.port[(0 : FabPort)]).link = .active ∧ s.fab.parked = [] ∧ (s.fab.port[(0 : FabPort)]).txFifo ≠ []) ∧
    (∃ (s : State), s.pending = [] ∧ s.dev.released = true ∧ s.dev.mainsLow = false ∧ s.clk.trim = 0 ∧ s.clk.trimAcc = 0 ∧ s.clk.calTick.toNat = 32767) ∧
    (∃ (s : State), s.pending = [] ∧ s.dev.released = true ∧ s.dev.mainsLow = false ∧ s.clk.trim = 0 ∧ s.clk.trimAcc = 0 ∧ s.clk.calTick.toNat < 32767) :=
    ⟨⟨State.reset, by decide +kernel⟩,
    ⟨{ base .sand with dev := { mode := .sand, released := true, mainsOk := true, core := .running, mainsLow := true } }, by decide +kernel⟩,
    ⟨base .loam, by decide +kernel⟩,
    ⟨base .loam, by decide +kernel⟩,
    ⟨{ base .bedBattery with fab := { uid := 5 } }, by decide +kernel⟩,
    ⟨base .loam, by decide +kernel⟩,
    ⟨fabAt { link := .active, txFifo := [1] }, by decide +kernel⟩,
    ⟨{ base .loam with clk := { calTick := 32767 } }, by decide +kernel⟩,
    ⟨base .loam, by decide +kernel⟩⟩

/-- States that meet the hypotheses of ResetAndRelease. -/
theorem test_hyps_ResetAndRelease :
    (∃ (s : State), s.tal.writes = [] ∧ s.tal.jQueue = []) ∧
    (∃ (s : State), s.dev.released = true) ∧
    (∃ (s : State) (mv : Nat), s.dev.released = false) ∧
    (∃ (s : State) (mv : Nat), s.dev.released = false) :=
    ⟨⟨State.reset, by decide +kernel⟩,
    ⟨base .loam, by decide +kernel⟩,
    ⟨State.reset, 3600, by decide +kernel⟩,
    ⟨State.reset, 3600, by decide +kernel⟩⟩

/-- States that meet the hypotheses of SuppliesAndKeepDomain. -/
theorem test_hyps_SuppliesAndKeepDomain :
    (∃ (s : State) (n : Nat), s.dev.released = true ∧ s.dev.mainsOk = false ∧ 3277 ≤ n) ∧
    (∃ (s : State), s.dev.released = true ∧ s.dev.mainsOk = true ∧ s.dev.evalAt = some s.now ∧ s.dev.mode = .sand) ∧
    (∃ (s : State), s.dev.released = true ∧ s.dev.mainsOk = true ∧ ¬ (s.dev.evalAt = some s.now ∧ s.dev.mode = .sand)) ∧
    (∃ (s : State) (mv : Nat), s.dev.released = true ∧ s.dev.nextVbat ≤ s.now) ∧
    (∃ (s : State) (mv : Nat), s.dev.released = true ∧ s.dev.nextVbat ≤ s.now ∧ (s.dev.vbatLow = true)) ∧
    (∃ (s : State), s.loc.ledaWindow = true ∧ s.loc.setAssertedAt + 30 * 32768 ≤ s.now) ∧
    (∃ (s : State), s.dev.keepOn = true ∧ s.dev.mode = .bedBattery ∧ s.dev.mainsOk = false ∧ s.needXo = false ∧ s.tr.regJob = none ∧ s.bead.phase = .idle) ∧
    (∃ (s : State), (s.loc.supRun ≠ none ∨ s.tr.busy[(0 : Fin 2)] ≠ none ∨ s.tr.busy[(1 : Fin 2)] ≠ none ∨ (∃ c : Chan, (s.tr.chan[c]).ringBusy = true) ∨ s.tr.handed ≠ [] ∨ s.tal.writes ≠ [] ∨ s.tal.jQueue ≠ [] ∨ s.tr.regJob ≠ none ∨ s.bead.phase ≠ .idle) ∧ (s.tr.chan[(3 : Chan)]).ringBusy = true) ∧
    (∃ (s : State), (s.loc.supRun ≠ none ∨ s.tr.busy[(0 : Fin 2)] ≠ none ∨ s.tr.busy[(1 : Fin 2)] ≠ none ∨ (∃ c : Chan, (s.tr.chan[c]).ringBusy = true) ∨ s.tr.handed ≠ [] ∨ s.tal.writes ≠ [] ∨ s.tal.jQueue ≠ [] ∨ s.tr.regJob ≠ none ∨ s.bead.phase ≠ .idle) ∧ s.tr.regJob ≠ none) :=
    ⟨⟨{ base .bedBattery with dev := { mode := .bedBattery, released := true } }, 3277, by decide +kernel⟩,
    ⟨{ base .sand with dev := { mode := .sand, released := true, mainsOk := true, core := .running, evalAt := some 1000000 } }, by decide +kernel⟩,
    ⟨base .sand, by decide +kernel⟩,
    ⟨base .loam, 2400, by decide +kernel⟩,
    ⟨{ base .loam with dev := { mode := .loam, released := true, mainsOk := true, vbatLow := true } }, 2601, by decide +kernel⟩,
    ⟨{ base .bedBattery with loc := { ledaWindow := true, setAssertedAt := 1000000 - 30 * 32768 } }, by decide +kernel⟩,
    ⟨{ base .bedBattery with dev := { mode := .bedBattery, released := true, keepOn := true } }, by decide +kernel⟩,
    ⟨{ base .bedBattery with tr := { chan := Vector.replicate 16 { ringBusy := true } } }, by decide +kernel⟩,
    ⟨{ base .bedBattery with tr := { regJob := some .trim } }, by decide +kernel⟩⟩

/-- States that meet the hypotheses of StartUpSteps. -/
theorem test_hyps_StartUpSteps :
    (∃ (s : State), s.tal.scanned = true ∧ s.dev.scanDone = false) ∧
    (∃ (s : State), s.dev.core = .romCheck ∧ s.clk.xoReady = true) ∧
    (∃ (s : State) (k : StartKind), s.dev.start = some k ∧ s.startReady = true ∧ s.dev.mode = .startup ∧ s.dev.mainsOk = true ∧ s.dev.hold = 0 ∧ s.dev.fatal = []) ∧
    (∃ (s : State) (k : StartKind), s.dev.start = some k ∧ s.startReady = true ∧ s.dev.mode = .startup ∧ s.dev.mainsOk = true ∧ 0 < s.dev.hold ∧ s.levelHolds = false ∧ s.dev.fatal = []) ∧
    (∃ (s : State), s.dev.fatal ≠ [] ∧ s.dev.mode ≠ .bedFault) :=
    ⟨⟨{ base .startup with tal := { scanned := true } }, by decide +kernel⟩,
    ⟨{ base .startup with dev := { released := true, mainsOk := true, core := .romCheck, readDone := true } }, by decide +kernel⟩,
    ⟨{ base .startup with dev := { released := true, mainsOk := true, core := .running, start := some .powerUp, scanDone := true, readDone := true, supDone := true, romOk := true, compileDone := true, cacheDone := true } }, .powerUp, by decide +kernel⟩,
    ⟨{ base .startup with dev := { released := true, mainsOk := true, core := .running, hold := 5, start := some .powerUp, scanDone := true, readDone := true, supDone := true, romOk := true, compileDone := true, cacheDone := true } }, .powerUp, by decide +kernel⟩,
    ⟨{ base .startup with dev := { mode := .startup, released := true, mainsOk := true, core := .running, fatal := [.romFault] } }, by decide +kernel⟩⟩

/-- States that meet the hypotheses of FatalFaults. -/
theorem test_hyps_FatalFaults :
    (∃ (s : State), s.dev.fatal ≠ [] ∧ s.dev.mainsOk = true ∧ (s.dev.mode = .loam ∨ s.dev.mode = .sand ∨ s.dev.mode = .startup)) ∧
    (∃ (s : State), s.dev.fatal ≠ [] ∧ s.dev.mode = .bedBattery ∧ s.dev.start = some .mainsReturn) ∧
    (∃ (s : State), s.dev.core = .romCheck ∧ s.dev.mode ≠ .bedFault) ∧
    (∃ (s : State) (t0 : Nat), (s.dev.mode = .loam ∨ s.dev.mode = .sand) ∧ (s.clk.xoFail = true ∨ s.clk.tdcFault = true) ∧ s.dev.clockBadSince = some t0 ∧ t0 + 32768 ≤ s.now) ∧
    (∃ (s : State) (d : Int) (n : Nat), s.mainsRunning = true ∧ s.dev.mode ≠ .bedFault ∧ 120 * 128 ≤ d ∧ 32768 ≤ n) ∧
    (∃ (s : State) (p : FabPort), s.portRole p ≠ .off ∧ s.clk.pll = .locked ∧ s.dev.serdesFault[p] = false) ∧
    (∃ (s : State), (s.dev.core = .running ∨ s.dev.core = .romCheck)) ∧
    (∃ (s : State), (s.dev.core = .running ∨ s.dev.core = .romCheck) ∧ 3 ≤ (s.now :: recent s.now (600 * 32768) s.dev.coreRestarts).length) :=
    ⟨⟨{ base .sand with dev := { mode := .sand, released := true, mainsOk := true, core := .held, fatal := [.romFault] } }, by decide +kernel⟩,
    ⟨{ base .bedBattery with dev := { mode := .bedBattery, released := true, mainsOk := true, core := .held, start := some .mainsReturn, fatal := [.coreFault] } }, by decide +kernel⟩,
    ⟨{ base .startup with dev := { released := true, mainsOk := true, core := .romCheck } }, by decide +kernel⟩,
    ⟨{ base .sand with dev := { mode := .sand, released := true, mainsOk := true, core := .running, clockBadSince := some (1000000 - 32768) }, clk := { tick := 1000000, xoFail := true } }, 1000000 - 32768, by decide +kernel⟩,
    ⟨base .loam, 120 * 128, 32768, by decide +kernel⟩,
    ⟨fabAt {}, 0, by decide +kernel⟩,
    ⟨base .loam, by decide +kernel⟩,
    ⟨{ base .loam with dev := { mode := .loam, released := true, mainsOk := true, core := .running, coreRestarts := [999999, 999998] } }, by decide +kernel⟩⟩

/-- States that meet the hypotheses of LoamAndSand. -/
theorem test_hyps_LoamAndSand :
    (∃ (s : State), s.dev.accepted ≠ [] ∧ s.dev.mode = .loam ∧ s.dev.fatal = []) ∧
    (∃ (s : State), s.dev.accepted ≠ [] ∧ s.dev.mode = .sand ∧ s.dev.fatal = [] ∧ s.dev.changeover ≠ .drain) ∧
    (∃ (s : State), s.dev.accepted ≠ [] ∧ s.dev.mode = .sand ∧ s.dev.fatal = [] ∧ s.dev.changeover = .drain) ∧
    (∃ (s : State), s.levelHolds = true ∧ s.dev.fatal = [] ∧ s.dev.mode = .loam) ∧
    (∃ (s : State), s.dev.mode = .sand ∧ s.dev.hold = 0 ∧ s.levelHolds = false ∧ s.dev.accepted = [] ∧ s.dev.fatal = [] ∧ s.dev.mainsLow = false ∧ s.dev.changeover = .idle) ∧
    (∃ (s : State), s.dev.changeover = .drain ∧ (headMode (s.eff 12) = .off → s.exporting = true) ∧ s.head.on = true ∧ s.now < s.dev.drainAt + cdiv (framePeriodNs s.rateIdx * 32768) 1000000000 ∧ (s.fab.time < s.head.startedAt + s.head.period * 65536 ∨ s.tilesWait = true) ∧ s.fab.time < s.head.startedAt + s.head.period * 65536) ∧
    (∃ (s : State), s.dev.changeover = .drain ∧ s.drainOver = true ∧ s.head.on = false) ∧
    (∃ (s : State), s.dev.changeover = .drain ∧ s.drainOver = true ∧ s.head.on = true) ∧
    (∃ (s : State), s.dev.changeover = .powerDown false) ∧
    (∃ (s : State), s.dev.changeover = .powerDown true) :=
    ⟨⟨{ base .loam with dev := { mode := .loam, released := true, mainsOk := true, core := .running, accepted := [.tamper] } }, by decide +kernel⟩,
    ⟨{ base .sand with dev := { mode := .sand, released := true, mainsOk := true, core := .running, changeover := .powerDown false, accepted := [.breach] } }, by decide +kernel⟩,
    ⟨{ base .sand with dev := { mode := .sand, released := true, mainsOk := true, core := .running, changeover := .drain, accepted := [.breach] } }, by decide +kernel⟩,
    ⟨{ base .loam with loc := { wakeF := { level := some true } } }, by decide +kernel⟩,
    ⟨base .sand, by decide +kernel⟩,
    ⟨{ base .sand with dev := { mode := .sand, released := true, mainsOk := true, core := .running, changeover := .drain, drainAt := 1000000 }, bead := effs [(12, 1)], head := { on := true, inFrame := true, period := 33333333 } }, by decide +kernel⟩,
    ⟨{ base .sand with dev := { mode := .sand, released := true, mainsOk := true, core := .running, changeover := .drain } }, by decide +kernel⟩,
    ⟨{ base .sand with dev := { mode := .sand, released := true, mainsOk := true, core := .running, changeover := .drain, drainAt := 1000000 }, bead := effs [(12, 1)], head := { on := true, inFrame := true, period := 33333333 }, fab := { uid := 5, timeRun := true, time := 33333333 * 65536 } }, by decide +kernel⟩,
    ⟨{ base .sand with dev := { mode := .sand, released := true, mainsOk := true, core := .running, changeover := .powerDown false } }, by decide +kernel⟩,
    ⟨{ base .sand with dev := { mode := .sand, released := true, mainsOk := true, core := .running, changeover := .powerDown true, hold := 320 } }, by decide +kernel⟩⟩

/-- States that meet the hypotheses of BeadReads. -/
theorem test_hyps_BeadReads :
    (∃ (s : State) (k : ReadKind), s.bead.req = some k ∧ s.bead.phase = .idle ∧ s.clk.xoReady = true ∧ s.clk.tdcCalibrated = true ∧ s.clk.xoFail = false ∧ s.clk.tdcFault = false ∧ s.group0Free = true) ∧
    (∃ (s : State) (k : ReadKind), s.bead.req = some k ∧ s.bead.phase = .idle ∧ (s.clk.xoFail = true ∨ s.clk.tdcFault = true)) ∧
    (∃ (s : State) (k : ReadKind) (bref : PinMeasure) (beads : Vector PinMeasure 40) (r : Nat), s.bead.phase = .reading k ∧ brefDelta (s.pin bref) = .ok r) ∧
    (∃ (s : State) (k : ReadKind) (bref : PinMeasure) (beads : Vector PinMeasure 40) (c : BitVec 2), s.bead.phase = .reading k ∧ s.bead.everRead = true ∧ brefDelta (s.pin bref) = .error c) ∧
    (∃ (s : State) (k : ReadKind), s.bead.deferred = some k ∧ s.bead.nextRetry ≤ s.now ∧ s.bead.phase = .idle ∧ s.bead.req = none ∧ s.readMayRun = true) ∧
    (∃ (s : State) (k : ReadKind), s.bead.deferred = some k ∧ s.bead.nextRetry ≤ s.now ∧ s.bead.phase = .idle ∧ s.bead.req = none ∧ s.clk.xoReady = true ∧ s.clk.tdcCalibrated = true ∧ s.tdcDown = false ∧ s.group0Free = false) ∧
    (∃ (s : State) (k : ReadKind), s.bead.deferred = some k ∧ s.bead.nextRetry ≤ s.now ∧ s.bead.phase = .idle ∧ s.bead.req = none ∧ (s.clk.xoReady = false ∨ s.clk.tdcCalibrated = false ∨ s.tdcDown = true)) :=
    ⟨⟨{ base .loam with bead := { effs [] with req := some .restrap } }, .restrap, by decide +kernel⟩,
    ⟨{ base .loam with bead := { effs [] with req := some .restrap }, clk := { tick := 5, xoFail := true } }, .restrap, by decide +kernel⟩,
    ⟨{ base .startup with bead := { effs [] with phase := .reading .powerUp } }, .powerUp, pinOf 1177600, Vector.replicate 40 (pinOf 1024000), 1177600, by decide +kernel⟩,
    ⟨{ base .loam with bead := { effs [] with phase := .reading .restrap, everRead := true } }, .restrap, pinOf 1177601, Vector.replicate 40 (pinOf 1024000), 3, by decide +kernel⟩,
    ⟨{ base .loam with bead := { effs [] with deferred := some .restrap } }, .restrap, by decide +kernel⟩,
    ⟨{ base .loam with bead := { effs [] with deferred := some .restrap }, tr := { chan := Vector.replicate 16 { ringBusy := true } } }, .restrap, by decide +kernel⟩,
    ⟨{ base .loam with bead := { effs [] with deferred := some .restrap }, clk := { tick := 5 } }, .restrap, by decide +kernel⟩⟩

/-- States that meet the hypotheses of CompiledChanges. -/
theorem test_hyps_CompiledChanges :
    (∃ (s : State) (kind : Option ReadKind) (at_ : Nat), s.bead.phase = .compiling kind at_ ∧ s.dev.core = .running) ∧
    (∃ (s : State) (kind : Option ReadKind) (at_ : Nat), s.bead.phase = .compiling kind at_ ∧ s.dev.core = .running ∧ (s.bead.compiled = true ∧ kind = some .restrap ∧ (let c : State := { s with bead := { s.bead with phase := .idle, compileMs := (s.now - at_) * 1000 / 32768 } }; let n := c.withReadings (c.candidate kind); let u : State := { n with bead := { n.bead with dropped := Vector.replicate 12 false } }; u.fitRate (u.eff 15) = none))) ∧
    (∃ (s : State) (b : BeadNo) (part : Fin 8) (w : Waiting), s.bead.waiting = [w] ∧ w.bead = b ∧ w.part = part ∧ s.partBoundary b part = true) :=
    ⟨⟨{ base .startup with bead := { effs [] with phase := .compiling (some .powerUp) 999000 } }, some .powerUp, 999000, by decide +kernel⟩,
    ⟨{ camAt {} [] with rcp := { valid := true, slots := Vector.replicate 12 (.good tooFast) }, bead := { effs [] with compiled := true, phase := .compiling (some .restrap) 999000, latest := (Vector.replicate 40 .o).set 16 (.idx 1) } }, some .restrap, 999000, by decide +kernel⟩,
    ⟨{ base .loam with bead := { effs [] with waiting := [⟨36, 0, 3⟩] } }, 36, 0, ⟨36, 0, 3⟩, by decide +kernel⟩⟩

/-- States that meet the hypotheses of SetSwitch. -/
theorem test_hyps_SetSwitch :
    (∃ (s : State) (l : List Bool), s.now % 32 ≠ 1) ∧
    (∃ (s : State), s.loc.setF.level = some false ∧ s.loc.setF.run = 0 ∧ s.loc.stuck = false ∧ s.loc.seqOpen = false ∧ s.now % 32 = 1 ∧ 20 ≤ samplesBetween s.loc.setF.at_ s.now) ∧
    (∃ (s : State) (t0 : Nat), s.loc.setF.level = some true ∧ s.loc.setF.run = 0 ∧ s.loc.stuck = false ∧ s.loc.pressAt = some t0 ∧ s.now % 32 = 1 ∧ 20 ≤ samplesBetween s.loc.setF.at_ s.now) ∧
    (∃ (s : State) (t0 : Nat), s.loc.setF.level = some true ∧ s.loc.setF.run = 0 ∧ s.loc.stuck = false ∧ s.loc.pressAt = some t0 ∧ s.now % 32 = 1 ∧ 20 ≤ samplesBetween s.loc.setF.at_ s.now ∧ 5 * 32768 ≤ s.now - t0) ∧
    (∃ (s : State), s.loc.seqOpen = true ∧ s.loc.pressAt = none ∧ 6 * 32768 ≤ 10 * (s.now - s.loc.lastRelease)) ∧
    (∃ (s : State) (t0 : Nat), s.loc.stuck = false ∧ s.loc.setF.level = some true ∧ s.loc.pressAt = some t0 ∧ t0 + 15 * 32768 ≤ s.now) ∧
    (∃ (s : State) (t0 : Nat), s.loc.stuck = true ∧ s.loc.setF.level = some false ∧ s.loc.stuckReleased = some t0 ∧ t0 + 32768 ≤ s.now) ∧
    (∃ (s : State) (l : List Nat), s.loc.closed = some l ∧ classifyPresses l = .none ∧ s.busyGesture = false) ∧
    (∃ (s : State) (l : List Nat), s.loc.closed = some l ∧ classifyPresses l = .none ∧ s.busyGesture = true) ∧
    (∃ (s : State) (a : Ack) (n : Nat), s.loc.ackA = some a ∧ a.ticks = some n ∧ s.loc.ackAAt + n ≤ s.now) ∧
    (∃ (s : State) (a : Ack) (n : Nat), s.loc.ackA = none ∧ s.loc.ackG = some a ∧ a.ticks = some n ∧ s.loc.ackGAt + n ≤ s.now ∧ s.loc.ackGNext = none) ∧
    (∃ (s : State), s.loc.ackA = none ∧ ((s.loc.ackG = some .running ∧ s.tr.calOn = true) ∨ (s.loc.ackG = some .pairing ∧ s.fab.windowTill.isSome = true)) ∧ s.loc.ackG = some .running) ∧
    (∃ (s : State), s.loc.ackA = none ∧ ((s.loc.ackG = some .running ∧ s.tr.calOn = true) ∨ (s.loc.ackG = some .pairing ∧ s.fab.windowTill.isSome = true)) ∧ s.loc.ackG = some .pairing) :=
    ⟨⟨base .loam, [true], by decide +kernel⟩,
    ⟨{ base .loam with clk := { tick := 1000001 }, loc := { setF := { level := some false } } }, by decide +kernel⟩,
    ⟨{ base .loam with clk := { tick := 1000001 }, loc := { setF := { level := some true }, seqOpen := true, pressAt := some 990000 } }, 990000, by decide +kernel⟩,
    ⟨{ base .loam with clk := { tick := 1000001 }, loc := { setF := { level := some true }, seqOpen := true, pressAt := some (1000001 - 5 * 32768) } }, 1000001 - 5 * 32768, by decide +kernel⟩,
    ⟨{ base .loam with loc := { seqOpen := true, lastRelease := 1000000 - 19661 } }, by decide +kernel⟩,
    ⟨{ base .loam with loc := { setF := { level := some true }, seqOpen := true, pressAt := some (1000000 - 15 * 32768) } }, 1000000 - 15 * 32768, by decide +kernel⟩,
    ⟨{ base .loam with loc := { setF := { level := some false }, stuck := true, stuckReleased := some (1000000 - 32768) } }, 1000000 - 32768, by decide +kernel⟩,
    ⟨{ base .loam with loc := { closed := some [100] } }, [100], by decide +kernel⟩,
    ⟨{ base .loam with loc := { closed := some [100] }, tr := { calOn := true } }, [100], by decide +kernel⟩,
    ⟨{ base .loam with loc := { ackA := some .refuse, ackAAt := 1000000 - 32768 } }, .refuse, 32768, by decide +kernel⟩,
    ⟨{ base .loam with loc := { ackG := some (.ack 1), ackGAt := 1000000 - 9831 } }, .ack 1, 9831, by decide +kernel⟩,
    ⟨{ base .loam with loc := { ackG := some .running }, tr := { calOn := true } }, by decide +kernel⟩,
    ⟨{ base .loam with loc := { ackG := some .pairing }, fab := { uid := 5, windowTill := some 1000001 } }, by decide +kernel⟩⟩

/-- States that meet the hypotheses of GesturesTaken. -/
theorem test_hyps_GesturesTaken :
    (∃ (s : State) (a : Nat), s.loc.closed = some [a] ∧ 32768 ≤ 10 * a ∧ 10 * a ≤ 15 * 32768 ∧ s.mon.confirm = none ∧ s.inBedrock = false ∧ s.bead.phase = .idle ∧ s.bead.req = none ∧ s.bead.deferred = none ∧ s.bead.heldRestrap = false) ∧
    (∃ (s : State) (a b : Nat), s.loc.closed = some [a, b] ∧ isTap a = true ∧ isTap b = true ∧ s.busyGesture = false ∧ s.inBedrock = false ∧ s.tapPorts ≠ []) ∧
    (∃ (s : State) (a : Nat), s.loc.closed = some [a] ∧ 5 * 32768 ≤ a ∧ a ≤ 8 * 32768 ∧ s.busyGesture = false ∧ s.keyFitted = true ∧ s.inBedrock = false ∧ s.leaseMissing = false) ∧
    (∃ (s : State) (a b c : Nat), s.loc.closed = some [a, b, c] ∧ isTap a = true ∧ isTap b = true ∧ isTap c = true ∧ s.busyGesture = false ∧ s.keyFitted = true ∧ s.inBedrock = false ∧ s.trole ≠ .none ∧ s.leaseMissing = false ∧ s.handoverBar = none) ∧
    (∃ (s : State) (a : Nat), s.loc.closed = some [a] ∧ 10 * 32768 ≤ a ∧ a < 15 * 32768 ∧ s.busyGesture = false ∧ s.keyFitted = true ∧ s.loc.sealState = some .opened ∧ s.inBedrock = false) :=
    ⟨⟨{ base .loam with loc := { closed := some [3277] } }, 3277, by decide +kernel⟩,
    ⟨{ fabAt {} with loc := { closed := some [3277, 19660] } }, 3277, 19660, by decide +kernel⟩,
    ⟨{ base .loam with loc := { closed := some [5 * 32768], keyF := { level := some true } } }, 5 * 32768, by decide +kernel⟩,
    ⟨{ twinAt { holding := true, partner := some partnerOk, mirror := .inSync } with loc := { closed := some [4000, 5000, 6000], keyF := { level := some true } } }, 4000, 5000, 6000, by decide +kernel⟩,
    ⟨{ base .loam with loc := { closed := some [10 * 32768], keyF := { level := some true }, sealState := some .opened } }, 10 * 32768, by decide +kernel⟩⟩

/-- States that meet the hypotheses of GesturesRefused. -/
theorem test_hyps_GesturesRefused :
    (∃ (s : State) (a : Nat), s.loc.closed = some [a] ∧ 5 * 32768 ≤ a ∧ a ≤ 8 * 32768 ∧ s.busyGesture = false ∧ s.keyFitted = false) ∧
    (∃ (s : State) (a : Nat), s.loc.closed = some [a] ∧ 10 * 32768 ≤ a ∧ a < 15 * 32768 ∧ s.busyGesture = false ∧ s.keyFitted = true ∧ s.loc.sealState ≠ some .opened) ∧
    (∃ (s : State) (a b : Nat), s.loc.closed = some [a, b] ∧ isTap a = true ∧ isTap b = true ∧ s.busyGesture = true) ∧
    (∃ (s : State) (a b c : Nat), s.loc.closed = some [a, b, c] ∧ isTap a = true ∧ isTap b = true ∧ isTap c = true ∧ s.busyGesture = false ∧ s.keyFitted = true ∧ s.inBedrock = false ∧ s.trole = .none) :=
    ⟨⟨{ base .loam with loc := { closed := some [8 * 32768], keyF := { level := some false } } }, 8 * 32768, by decide +kernel⟩,
    ⟨{ base .loam with loc := { closed := some [10 * 32768], keyF := { level := some true }, sealState := some .intact } }, 10 * 32768, by decide +kernel⟩,
    ⟨{ base .loam with loc := { closed := some [4000, 5000] }, tr := { calOn := true } }, 4000, 5000, by decide +kernel⟩,
    ⟨{ base .loam with loc := { closed := some [4000, 5000, 6000], keyF := { level := some true } } }, 4000, 5000, 6000, by decide +kernel⟩⟩

/-- States that meet the hypotheses of LevelInputs. -/
theorem test_hyps_LevelInputs :
    (∃ (s : State), s.loc.keyF.level = some false ∧ s.loc.keyF.run = 0 ∧ s.now % 32 = 1 ∧ 102 ≤ samplesBetween s.loc.keyF.at_ s.now) ∧
    (∃ (s : State), s.loc.keyF.level = some true ∧ s.loc.keyF.run = 0 ∧ s.now % 32 = 1 ∧ 102 ≤ samplesBetween s.loc.keyF.at_ s.now ∧ s.loc.sealState = some .opened ∧ s.loc.sealTamper = false) ∧
    (∃ (s : State), s.loc.keyF.level = some true ∧ s.loc.keyF.run = 0 ∧ s.now % 32 = 1 ∧ 102 ≤ samplesBetween s.loc.keyF.at_ s.now ∧ s.loc.sealState = some .opened ∧ s.loc.sealTamper = false ∧ s.accepts .tamper = true ∧ s.inBedrock = false) ∧
    (∃ (s : State), s.loc.armF.level = some false ∧ s.loc.armF.run = 0 ∧ s.now % 32 = 1 ∧ 32 ≤ samplesBetween s.loc.armF.at_ s.now) ∧
    (∃ (s : State), s.loc.armF.level = some true ∧ s.loc.armF.run = 0 ∧ s.now % 32 = 1 ∧ 32 ≤ samplesBetween s.loc.armF.at_ s.now) ∧
    (∃ (s : State), s.loc.wakeF.level = some false ∧ s.loc.wakeF.run = 0 ∧ s.now % 32 = 1 ∧ 32 ≤ samplesBetween s.loc.wakeF.at_ s.now) ∧
    (∃ (s : State), s.loc.wakeF.level = some true ∧ s.loc.wakeF.run = 0 ∧ s.now % 32 = 1 ∧ 32 ≤ samplesBetween s.loc.wakeF.at_ s.now ∧ s.dev.mode = .sand) ∧
    (∃ (s : State), s.loc.silF.level = some false ∧ s.loc.silF.run = 0 ∧ s.now % 32 = 1 ∧ 102 ≤ samplesBetween s.loc.silF.at_ s.now) ∧
    (∃ (s : State), s.loc.silF.level = some true ∧ s.loc.silF.run = 0 ∧ s.now % 32 = 1 ∧ 102 ≤ samplesBetween s.loc.silF.at_ s.now) :=
    ⟨⟨{ base .loam with clk := { tick := 1000001 }, loc := { keyF := { level := some false } } }, by decide +kernel⟩,
    ⟨{ base .loam with clk := { tick := 1000001 }, loc := { keyF := { level := some true }, sealState := some .opened } }, by decide +kernel⟩,
    ⟨{ base .loam with clk := { tick := 1000001 }, loc := { keyF := { level := some true }, sealState := some .opened } }, by decide +kernel⟩,
    ⟨{ base .loam with clk := { tick := 1000001 }, loc := { armF := { level := some false } } }, by decide +kernel⟩,
    ⟨{ base .loam with clk := { tick := 1000001 }, loc := { armF := { level := some true }, alm := Vector.replicate 2 { active := true, onset := some 5 } } }, by decide +kernel⟩,
    ⟨{ base .loam with clk := { tick := 1000001 }, loc := { wakeF := { level := some false } } }, by decide +kernel⟩,
    ⟨{ base .sand with clk := { tick := 1000001 }, loc := { wakeF := { level := some true } } }, by decide +kernel⟩,
    ⟨{ base .loam with clk := { tick := 1000001 }, loc := { silF := { level := some false }, alm := Vector.replicate 2 { active := true, onset := some 5 } } }, by decide +kernel⟩,
    ⟨{ base .loam with clk := { tick := 1000001 }, loc := { silF := { level := some true } } }, by decide +kernel⟩⟩

/-- States that meet the hypotheses of SupervisionAndOutputs. -/
theorem test_hyps_SupervisionAndOutputs :
    (∃ (s : State), s.loc.supOn = true ∧ s.loc.supRun = none ∧ s.loc.supNext ≤ s.now ∧ s.clk.xoReady = true ∧ s.clk.xoFail = false ∧ s.clk.tdcFault = false ∧ s.twin.hand = none ∧ s.tr.busy[(1 : Fin 2)] = none ∧ s.group3Ring = false) ∧
    (∃ (s : State) (r : SupShot) (bref : PinMeasure) (zs : Vector PinMeasure 4) (sm : SealMeasure), s.loc.supRun = some r) ∧
    (∃ (s : State) (r : SupShot) (bref : PinMeasure) (zs : Vector PinMeasure 4) (sm : SealMeasure) (z : ZoneNo) (x : Zone), s.loc.supRun = some r ∧ r.withRef = false ∧ r.withSeal = false ∧ s.drives = true ∧ (s.zoneKind z).isSome = true ∧ zoneClassify (s.eff 36 (zonePart z)) (zoneMeasure (s.pin zs[z]) s.refNow) = x ∧ s.loc.zone[z] ≠ some x ∧ s.loc.zoneCand[z] = some x ∧ s.loc.zoneRun[z] = 2) ∧
    (∃ (s : State) (o : AlmOut) (t0 : Nat), (alarmMap (s.eff 7) o).2 = .follow ∧ (s.loc.alm[o]).active = true ∧ (s.loc.alm[o]).onset = some t0 ∧ t0 + 32768 ≤ s.now ∧ s.followPresent o = false) ∧
    (∃ (s : State) (o : AlmOut) (cut t0 : Nat), (alarmMap (s.eff 7) o).2 = .latched (some cut) ∧ (s.loc.alm[o]).active = true ∧ (s.loc.alm[o]).cutAt = none ∧ (s.loc.alm[o]).onset = some t0 ∧ t0 + cut ≤ s.now) ∧
    (∃ (s : State) (o : AlmOut), (s.loc.alm[o]).active = true ∧ (s.loc.alm[o]).retryUntil = none) :=
    ⟨⟨{ base .loam with loc := { supOn := true, supNext := 1000000 } }, by decide +kernel⟩,
    ⟨{ base .loam with loc := { supRun := some ⟨false, true⟩ } }, ⟨false, true⟩, pinOf 1024000, Vector.replicate 4 (pinOf 20480000), noSeal, by decide +kernel⟩,
    ⟨{ base .loam with bead := effs [(37, 5)], loc := { supRun := some ⟨false, false⟩, dref := some 1024000, zone := Vector.replicate 4 (some .normal), zoneCand := Vector.replicate 4 (some .short), zoneRun := Vector.replicate 4 2 } }, ⟨false, false⟩, pinOf 1024000, Vector.replicate 4 ⟨false, false, none, none⟩, noSeal, 3, .short, by decide +kernel⟩,
    ⟨{ base .loam with bead := effs [(7, 9)], loc := { alm := Vector.replicate 2 { active := true, onset := some (1000000 - 32768) } } }, 0, 1000000 - 32768, by decide +kernel⟩,
    ⟨{ base .loam with bead := effs [(7, 6)], clk := { tick := 6000000 }, loc := { alm := Vector.replicate 2 { active := true, onset := some (6000000 - 180 * 32768) } } }, 0, 180 * 32768, 6000000 - 180 * 32768, by decide +kernel⟩,
    ⟨{ base .loam with loc := { alm := Vector.replicate 2 { active := true, onset := some 5 } } }, 1, by decide +kernel⟩⟩

/-- States that meet the hypotheses of AonClock. -/
theorem test_hyps_AonClock :
    (∃ (s : State) (n t0 : Nat), s.clk.source = .rc ∧ s.clk.qualBy = some t0 ∧ t0 < s.now) ∧
    (∃ (s : State) (n t0 : Nat), s.clk.source = .rc ∧ s.clk.qualBy = some t0 ∧ s.now ≤ t0 ∧ s.clk.xoReady = true ∧ 4096 ≤ n) ∧
    (∃ (s : State), s.clk.source = .crystal ∧ s.clk.x32Fail = false) ∧
    (∃ (s : State), s.clk.x32Fail = true ∧ s.clk.qualBy = none ∧ s.clk.x32Next ≤ s.now) ∧
    (∃ (s : State), s.dev.released = true ∧ s.clk.win = none ∧ s.clk.winNext ≤ s.now) ∧
    (∃ (s : State) (x : Nat), s.clk.win = some { second := false, job := true } ∧ s.clk.winNext - 8388608 + 2048 ≤ s.now ∧ s.tr.regQueue.contains RegJob.trim = false ∧ s.clk.xoReady = true ∧ s.clk.source = .crystal ∧ periodGood (s.corrected x) = true) ∧
    (∃ (s : State) (x : Nat), s.clk.win = some { second := false, job := true } ∧ s.clk.winNext - 8388608 + 2048 ≤ s.now ∧ s.tr.regQueue.contains RegJob.trim = false ∧ s.clk.xoReady = true ∧ s.clk.source = .rc) ∧
    (∃ (s : State) (w : TrimWindow) (x y : Option Nat), s.clk.win = some w ∧ w.job = false) :=
    ⟨⟨{ base .loam with clk := { tick := 70000, xoReady := true, qualBy := some 69999, x32Fail := true } }, 4096, 69999, by decide +kernel⟩,
    ⟨{ base .loam with clk := { tick := 70000, xoReady := true, qualBy := some 70000, x32Fail := true } }, 4096, 70000, by decide +kernel⟩,
    ⟨{ base .loam with clk := { source := .crystal } }, by decide +kernel⟩,
    ⟨{ base .loam with clk := { tick := 5000000, x32Fail := true, x32Next := 5000000 } }, by decide +kernel⟩,
    ⟨{ base .loam with clk := { tick := 8388608, source := .crystal, winNext := 8388608, winNo := 16 } }, by decide +kernel⟩,
    ⟨{ base .loam with clk := { tick := 8390656, xoReady := true, source := .crystal, winNext := 16777216, win := some ⟨false, true⟩ } }, 1034240000000, by decide +kernel⟩,
    ⟨{ base .loam with clk := { tick := 8390656, xoReady := true, winNext := 16777216, win := some ⟨false, true⟩ } }, 1034240000000, by decide +kernel⟩,
    ⟨{ base .loam with clk := { tick := 8390656, xoReady := true, winNext := 16777216, win := some ⟨false, false⟩ } }, ⟨false, false⟩, none, some 5, by decide +kernel⟩⟩

/-- States that meet the hypotheses of CrystalOscillator. -/
theorem test_hyps_CrystalOscillator :
    (∃ (s : State), s.dev.released = true ∧ s.needXo = true ∧ s.clk.xoRun = false ∧ s.clk.xoFail = false) ∧
    (∃ (s : State) (k : Nat), s.clk.xoRun = true ∧ s.clk.xoReady = false ∧ s.clk.xoFail = false) ∧
    (∃ (s : State), s.clk.xoRun = true ∧ s.needXo = false) ∧
    (∃ (s : State) (n : Nat), n < 1000000) ∧
    (∃ (s : State) (n : Nat), s.clk.xoRun = true ∧ s.clk.xoFail = false ∧ 1000000 ≤ n) ∧
    (∃ (s : State), s.clk.xoFail = true ∧ s.clk.xoRestartAt ≤ s.now) ∧
    (∃ (s : State), s.clk.xoFail = true ∧ s.clk.xoRestartAt ≤ s.now) :=
    ⟨⟨{ base .loam with clk := { demands := [.beadRead] } }, by decide +kernel⟩,
    ⟨{ base .loam with clk := { xoRun := true } }, 700, by decide +kernel⟩,
    ⟨{ base .loam with clk := { xoRun := true, xoReady := true } }, by decide +kernel⟩,
    ⟨base .loam, 999999, by decide +kernel⟩,
    ⟨base .loam, 1000000, by decide +kernel⟩,
    ⟨{ base .loam with clk := { tick := 40000, xoFail := true, xoRestartAt := 40000 } }, by decide +kernel⟩,
    ⟨{ base .loam with clk := { tick := 40000, xoFail := true, xoRestartAt := 40000 } }, by decide +kernel⟩⟩

/-- States that meet the hypotheses of AgeingAndRefin. -/
theorem test_hyps_AgeingAndRefin :
    (∃ (s : State) (src : AgeSource) (x : Int) (v : Bool) (d : Nat), s.gateEnded src = false) ∧
    (∃ (s : State) (x : Int) (d : Nat), s.clk.xoReady = true ∧ s.pointDue = false ∧ s.gateEnded .fabric = true ∧ d < 256 ∧ x.natAbs ≤ 30000 ∧ (16 * x - s.prediction).natAbs ≤ 32000) ∧
    (∃ (s : State) (x : Int) (d : Nat), s.clk.xoReady = true ∧ s.pointDue = false ∧ s.clk.refinPresent = true ∧ s.clk.refinDone = true ∧ d < 256 ∧ x.natAbs ≤ 30000 ∧ (16 * x - s.prediction).natAbs ≤ 32000) ∧
    (∃ (s : State) (x : Int) (d : Nat), s.clk.xoReady = true ∧ s.pointDue = false ∧ s.clk.refinPresent = true ∧ s.clk.refinDone = true ∧ 30000 < x.natAbs) ∧
    (∃ (s : State), s.pointDue = true ∧ s.tal.cleaning = false) ∧
    (∃ (s : State), s.clk.age.unverified = false ∧ s.clk.age.unknownDays = false ∧ s.clk.age.points ≠ [] ∧ s.clk.age.dL + 400 < s.day) ∧
    (∃ (s : State) (n : Nat), s.clk.xoReady = true ∧ s.dev.mainsOk = true ∧ 9990 ≤ n ∧ n ≤ 10010 ∧ s.clk.refinGates = 3 ∧ s.clk.refinPresent = false) ∧
    (∃ (s : State), s.clk.refinPresent = true ∧ s.clk.refinAdvertised = false) ∧
    (∃ (s : State), s.clk.refinPresent = true ∧ s.clk.refinAdvertised = false ∧ s.clk.refinSince + 10 * 32768 ≤ s.now) :=
    ⟨⟨base .loam, .fabric, 2000, true, 5, by decide +kernel⟩,
    ⟨{ base .loam with clk := { xoReady := true, fabGate := some 0 }, fab := { uid := 5, tstate := .fine, time := 67108864000000000 } }, 2000, 255, by decide +kernel⟩,
    ⟨{ base .loam with clk := { xoReady := true, refinPresent := true, refinDone := true } }, 2000, 255, by decide +kernel⟩,
    ⟨{ base .loam with clk := { xoReady := true, refinPresent := true, refinDone := true } }, 30001, 0, by decide +kernel⟩,
    ⟨{ base .loam with clk := { xoReady := true, sec := 86400, age := { dayCount := 3, daySum := 300, day := 0 } } }, by decide +kernel⟩,
    ⟨{ base .loam with clk := { sec := 86400 * 401, age := { points := [(0, 5)] } } }, by decide +kernel⟩,
    ⟨{ base .loam with clk := { xoReady := true, refinGates := 3 } }, 9990, by decide +kernel⟩,
    ⟨{ base .loam with clk := { xoReady := true, refinPresent := true } }, by decide +kernel⟩,
    ⟨{ base .loam with clk := { tick := 400000, xoReady := true, refinPresent := true, refinSince := 400000 - 327680 } }, by decide +kernel⟩⟩

/-- States that meet the hypotheses of PllCrossingsAndRelay. -/
theorem test_hyps_PllCrossingsAndRelay :
    (∃ (s : State), s.clk.xoReady = true ∧ s.clk.pllNoLock = false ∧ s.wantPll = true ∧ s.clk.pll = .off) ∧
    (∃ (s : State), s.clk.pll = .seeking ∧ s.refGone = false) ∧
    (∃ (s : State), s.clk.pll = .seeking ∧ s.refGone = true) ∧
    (∃ (s : State), s.clk.pll = .seeking ∧ s.refGone = false ∧ s.clk.pllAt + 164 ≤ s.now ∧ s.clk.pllAttempts < 2) ∧
    (∃ (s : State), s.clk.pll = .seeking ∧ s.refGone = false ∧ s.clk.pllAt + 164 ≤ s.now ∧ 2 ≤ s.clk.pllAttempts ∧ s.dev.mode = .bedFault) ∧
    (∃ (s : State), s.clk.pll = .seeking ∧ s.refGone = false ∧ s.clk.pllAt + 164 ≤ s.now ∧ 2 ≤ s.clk.pllAttempts ∧ s.dev.mode ≠ .bedFault) ∧
    (∃ (s : State), s.clk.pll = .locked) ∧
    (∃ (s : State), s.clk.pll = .locked ∧ s.clk.pllRef ≠ .xo ∧ s.refLost = true ∧ s.clk.xoReady = true) ∧
    (∃ (s : State), s.clk.pll = .locked ∧ s.clk.pllRef = .xo ∧ s.clk.xoReady = false) ∧
    (∃ (s : State), s.clk.pll = .locked ∧ s.clk.pllRef ≠ .xo ∧ s.refGone = true ∧ s.clk.xoReady = true) ∧
    (∃ (s : State), s.clk.pll = .locked ∧ s.clk.pllRef = .xo ∧ s.clk.pllFrozen = false) ∧
    (∃ (s : State), s.clk.pll ≠ .off ∧ s.clk.pllRef = .xo) ∧
    (∃ (s : State) (b : PllBoundary), s.clk.pll = .locked ∧ s.boundaryNow b = true) ∧
    (∃ (s : State) (b : PllBoundary), s.clk.pll = .locked ∧ s.boundaryNow b = true ∧ (s.clk.pllOut[(0 : PllOut)]).shadow = some ({ n := 5 }, b)) ∧
    (∃ (s : State), s.dev.core = .running ∧ s.corePll = true ∧ s.clk.coreOnPll = false) ∧
    (∃ (s : State), s.clk.pll = .seeking ∧ s.refLost = false) ∧
    (∃ (s : State), s.clk.pll = .seeking ∧ s.clk.pllAt + 164 ≤ s.now ∧ s.clk.pllAttempts < 2) ∧
    (∃ (s : State), s.clk.pll = .seeking ∧ s.clk.pllAt + 164 ≤ s.now ∧ 2 ≤ s.clk.pllAttempts ∧ s.dev.mode ≠ .bedFault) ∧
    (∃ (s : State), s.dev.mode = .loam ∧ s.dev.relay = true ∧ (∀ p : FabPort, (s.fab.port[p]).link ≠ LinkState.active ∧ (s.fab.port[p]).link ≠ LinkState.training) ∧ s.dev.portsBusyAt + 32768 ≤ s.now) ∧
    (∃ (s : State) (p : FabPort), s.dev.mode = .loam ∧ s.portRole p ≠ .off ∧ s.clk.pll = .off ∧ s.dev.relay = false ∧ (s.fab.port[p]).link = LinkState.training) :=
    ⟨⟨{ base .sand with clk := { xoReady := true } }, by decide +kernel⟩,
    ⟨{ base .sand with clk := { xoReady := true, pll := .seeking } }, by decide +kernel⟩,
    ⟨{ base .sand with clk := { xoReady := true, pll := .seeking, pllRef := .refin, pllRefLost := true } }, by decide +kernel⟩,
    ⟨{ base .sand with clk := { tick := 164, xoReady := true, pll := .seeking, pllAttempts := 1 } }, by decide +kernel⟩,
    ⟨{ base .bedFault with clk := { tick := 164, xoReady := true, pll := .seeking, pllAttempts := 2 } }, by decide +kernel⟩,
    ⟨{ base .sand with clk := { tick := 164, xoReady := true, pll := .seeking, pllAttempts := 2 } }, by decide +kernel⟩,
    ⟨base .sand, by decide +kernel⟩,
    ⟨{ base .sand with clk := { xoReady := true, pll := .locked, pllRef := .refin } }, by decide +kernel⟩,
    ⟨{ base .sand with clk := { pll := .locked } }, by decide +kernel⟩,
    ⟨{ base .sand with clk := { xoReady := true, pll := .locked, pllRef := .refin } }, by decide +kernel⟩,
    ⟨base .sand, by decide +kernel⟩,
    ⟨base .sand, by decide +kernel⟩,
    ⟨base .sand, .lock, by decide +kernel⟩,
    ⟨{ base .sand with clk := { pll := .locked, pllOut := Vector.replicate 18 { shadow := some ({ n := 5 }, .epoch) } } }, .epoch, by decide +kernel⟩,
    ⟨{ base .sand with clk := { pll := .locked, pllOut := Vector.replicate 18 { now := { enable := true } } } }, by decide +kernel⟩,
    ⟨{ base .sand with clk := { xoReady := true, pll := .seeking } }, by decide +kernel⟩,
    ⟨{ base .sand with clk := { tick := 164, xoReady := true, pll := .seeking, pllAttempts := 1 } }, by decide +kernel⟩,
    ⟨{ base .sand with clk := { tick := 164, xoReady := true, pll := .seeking, pllAttempts := 2 } }, by decide +kernel⟩,
    ⟨{ base .loam with dev := { mode := .loam, released := true, mainsOk := true, core := .running, relay := true, portsBusyAt := 1000000 - 32768 } }, by decide +kernel⟩,
    ⟨{ fabAt { link := .training } with clk := { xoReady := true } }, 0, by decide +kernel⟩⟩

/-- States that meet the hypotheses of ShotPairs. -/
theorem test_hyps_ShotPairs :
    (∃ (s : State) (p : PathNo) (mv t0 : Nat), ((s.tr.path[p]).takeDue s.now).waiting = some t0 ∧ s.mayFire = true ∧ s.configured p = true ∧ s.sounds p = true ∧ s.groupPairFree (groupPair p) = true ∧ s.ringInPair (groupPair p) = false ∧ s.firstInLine p t0 = true ∧ (s.tr.path[p]).inTime s.now = true ∧ s.shorted p = false ∧ 2900 ≤ mv) ∧
    (∃ (s : State) (p : PathNo) (mv t0 : Nat), ((s.tr.path[p]).takeDue s.now).waiting = some t0 ∧ s.mayFire = true ∧ s.configured p = true ∧ s.sounds p = true ∧ s.groupPairFree (groupPair p) = true ∧ s.ringInPair (groupPair p) = false ∧ s.firstInLine p t0 = true ∧ (s.tr.path[p]).inTime s.now = true ∧ s.shorted p = false ∧ mv < 2900) ∧
    (∃ (s : State) (p : PathNo) (mv t0 : Nat), ((s.tr.path[p]).takeDue s.now).waiting = some t0 ∧ s.mayFire = true ∧ s.configured p = true ∧ s.sounds p = true ∧ s.groupPairFree (groupPair p) = true ∧ s.ringInPair (groupPair p) = false ∧ s.firstInLine p t0 = true ∧ (s.tr.path[p]).inTime s.now = true ∧ s.shorted p = true) ∧
    (∃ (s : State) (p : PathNo) (mv : Nat), (s.sounds p = false ∨ (s.tr.path[p]).inTime s.now = false) ∧ s.sounds p = false) ∧
    (∃ (s : State) (p : PathNo) (mv : Nat), (s.sounds p = false ∨ (s.tr.path[p]).inTime s.now = false) ∧ (s.tr.path[p]).inTime s.now = false) ∧
    (∃ (s : State) (ch : Chan) (t0 : Nat), (s.tr.path[chanPath ch]).firing = some t0) ∧
    (∃ (s : State) (ch : Chan) (t0 : Nat), (s.tr.path[chanPath ch]).firing = some t0 ∧ ch ≠ chanA (chanPath ch)) ∧
    (∃ (s : State) (p : PathNo) (up down : ShotMeasure) (t0 : Nat), up.wellFormed = true ∧ down.wellFormed = true ∧ (s.tr.path[p]).firing = some t0 ∧ s.pairOver p up down = false) ∧
    (∃ (s : State) (p : PathNo) (up down : ShotMeasure) (t0 : Nat), up.wellFormed = true ∧ down.wellFormed = true ∧ (s.tr.path[p]).firing = some t0) ∧
    (∃ (s : State) (p : PathNo) (up down : ShotMeasure) (t0 : Nat), up.wellFormed = true ∧ down.wellFormed = true ∧ (s.tr.path[p]).firing = some t0 ∧ s.pairOver p up down = true) ∧
    (∃ (s : State) (p : PathNo) (t0 t1 : Nat), (s.tr.path[p]).waiting = some t0 ∧ (s.tr.path[p]).due = some t1 ∧ t1 ≤ s.now ∧ s.drives = true) :=
    ⟨⟨pathAt { due := some 1000000, period := 4096, nextPeriod := 4096 }, 0, 2900, 1000000, by decide +kernel⟩,
    ⟨pathAt { waiting := some 999990, due := some 1004086, period := 4096, nextPeriod := 4096 }, 0, 2899, 999990, by decide +kernel⟩,
    ⟨{ pathAt { due := some 1000000, nextPeriod := 4096 } with tr := { (pathAt { due := some 1000000, nextPeriod := 4096 }).tr with chan := Vector.replicate 16 { failed := some .short } } }, 0, 2899, 1000000, by decide +kernel⟩,
    ⟨{ base .loam with bead := effs [(34, 15)], tr := { sounding := true } }, 7, 2900, by decide +kernel⟩,
    ⟨pathAt { waiting := some 990000, due := some 1000000, nextPeriod := 4096 }, 0, 2900, by decide +kernel⟩,
    ⟨pathAt { firing := some 999990 }, 0, 999990, by decide +kernel⟩,
    ⟨pathAt { firing := some 999990 }, 4, 999990, by decide +kernel⟩,
    ⟨pathAt { firing := some 999990, firedAt := 1000000 }, 0, someShot, noShot, 999990, by decide +kernel⟩,
    ⟨{ pathAt { firing := some 999990, period := 4096 } with tr := { (pathAt { firing := some 999990, period := 4096 }).tr with busy := Vector.replicate 2 (some 0) } }, 0, someShot, noShot, 999990, by decide +kernel⟩,
    ⟨pathAt { firing := some 999990, firedAt := 990000, period := 4096 }, 0, someShot, noShot, 999990, by decide +kernel⟩,
    ⟨pathAt { waiting := some 990000, due := some 1000000, nextPeriod := 4096 }, 0, 990000, 1000000, by decide +kernel⟩⟩

/-- States that meet the hypotheses of RegressorCalibrationRings. -/
theorem test_hyps_RegressorCalibrationRings :
    (∃ (s : State) (j : RegJob), s.tr.regJob = none) ∧
    (∃ (s : State) (j k : RegJob), s.tr.regJob = some k ∧ s.tr.regQueue.length < 4) ∧
    (∃ (s : State) (j k : RegJob), s.tr.regJob = some k ∧ 4 ≤ s.tr.regQueue.length) ∧
    (∃ (s : State) (j : RegJob) (e : EdgeSums), s.tr.regJob = some j ∧ s.now < s.tr.regAt + regGate j) ∧
    (∃ (s : State) (j : RegJob), s.tr.regJob = some j ∧ s.clk.refinPresent = false) ∧
    (∃ (s : State) (j : RegJob) (e : EdgeSums) (x : Int), s.tr.regJob = some j ∧ s.tr.regAt + regGate j ≤ s.now ∧ edgePeriod e (regPrescale j) = some x) ∧
    (∃ (s : State) (d : Int), s.tr.calOn = true ∧ (∀ (p : PathNo) (c : CalRun), (s.tr.path[p]).calRun = some c → 64 ≤ c.diffs.length ∨ 96 ≤ c.collected ∨ s.configured p = false)) ∧
    (∃ (s : State) (d : Int), s.tr.calOn = true ∧ (∀ (p : PathNo) (c : CalRun), (s.tr.path[p]).calRun = some c → 64 ≤ c.diffs.length ∨ 96 ≤ c.collected ∨ s.configured p = false) ∧ (s.tr.path[(0 : PathNo)]).calRun = some { collected := 96, allNone := false }) ∧
    (∃ (s : State) (d : Int), s.tr.calOn = true ∧ (∀ (p : PathNo) (c : CalRun), (s.tr.path[p]).calRun = some c → 64 ≤ c.diffs.length ∨ 96 ≤ c.collected ∨ s.configured p = false) ∧ (s.tr.path[(0 : PathNo)]).calRun = some { collected := 64, diffs := List.replicate 64 0, means := List.replicate 64 1000000, allNone := false }) ∧
    (∃ (s : State) (ch : Chan) (mv : Nat), s.mayFire = true ∧ s.sounds (chanPath ch) = true ∧ s.ringDue ch = true ∧ (∀ c : Chan, (s.tr.chan[c]).ringBusy = false) ∧ s.groupFree (chanGroup ch) = true ∧ s.pairWaits (groupPair (chanPath ch)) = false ∧ s.ringDrives ch = true ∧ 2900 ≤ mv) ∧
    (∃ (s : State) (ch : Chan) (mv : Nat), s.mayFire = true ∧ s.sounds (chanPath ch) = true ∧ s.ringDue ch = true ∧ (∀ c : Chan, (s.tr.chan[c]).ringBusy = false) ∧ s.groupFree (chanGroup ch) = true ∧ s.pairWaits (groupPair (chanPath ch)) = false ∧ s.ringDrives ch = true ∧ mv < 2900) ∧
    (∃ (s : State) (ch : Chan) (mv : Nat), s.mayFire = true ∧ s.sounds (chanPath ch) = true ∧ s.ringDue ch = true ∧ (∀ c : Chan, (s.tr.chan[c]).ringBusy = false) ∧ s.groupFree (chanGroup ch) = true ∧ s.pairWaits (groupPair (chanPath ch)) = false ∧ s.ringDrives ch = false) ∧
    (∃ (s : State) (ch : Chan) (m : RingMeasure), m.wellFormed = true ∧ (s.tr.chan[ch]).ringBusy = true ∧ (s.tr.chan[ch]).ringOvr = false ∧ s.ringStatus ch (s.ringSeen ch m) ≠ .shadow ∧ (s.tr.chan[ch]).last = ringOutcome (s.ringSeen ch m) (s.eff 33 ⟨(chanPath ch).val, by omega⟩) ∧ (s.tr.chan[ch]).run = 2 ∧ (s.tr.chan[ch]).failed = none ∧ ringOutcome (s.ringSeen ch m) (s.eff 33 ⟨(chanPath ch).val, by omega⟩) ≠ .pass) :=
    ⟨⟨base .loam, .trim, by decide +kernel⟩,
    ⟨{ base .loam with tr := { regJob := some .trim, regQueue := [.refin, .refin, .refin] } }, .refin, .trim, by decide +kernel⟩,
    ⟨{ base .loam with tr := { regJob := some .trim, regQueue := [.refin, .refin, .refin, .refin] } }, .refin, .trim, by decide +kernel⟩,
    ⟨{ base .loam with tr := { regJob := some .trim, regAt := 1000000 } }, .trim, ⟨2, 1000, 1000⟩, by decide +kernel⟩,
    ⟨{ base .loam with tr := { regJob := some .trim, regQueue := [.refin] } }, .trim, by decide +kernel⟩,
    ⟨{ base .loam with tr := { regJob := some .trim, regQueue := [.refin] } }, .trim, ⟨2, 1000, 1000⟩, 65536000, by decide +kernel⟩,
    ⟨{ base .loam with tr := { calOn := true } }, 2560, by decide +kernel, by intro p c h; exact runs_ended _ (by decide +kernel) p c h⟩,
    ⟨{ pathAt { calRun := some { collected := 96, allNone := false } } with tr := { (pathAt { calRun := some { collected := 96, allNone := false } }).tr with calOn := true } }, 2560, by decide +kernel, by intro p c h; exact runs_ended _ (by decide +kernel) p c h, by decide +kernel⟩,
    ⟨{ pathAt { calRun := some { collected := 64, diffs := List.replicate 64 0, means := List.replicate 64 1000000, allNone := false } } with tr := { (pathAt { calRun := some { collected := 64, diffs := List.replicate 64 0, means := List.replicate 64 1000000, allNone := false } }).tr with calOn := true } }, 2560, by decide +kernel, by intro p c h; exact runs_ended _ (by decide +kernel) p c h, by decide +kernel⟩,
    ⟨{ base .loam with tr := { sounding := true, chan := (Vector.replicate 16 {}).set 4 { ringAt := none } } }, 4, 2900, by decide +kernel⟩,
    ⟨{ base .loam with tr := { sounding := true, chan := (Vector.replicate 16 {}).set 4 { ringAt := none } } }, 4, 2899, by decide +kernel⟩,
    ⟨{ base .loam with tr := { sounding := true, chan := (Vector.replicate 16 {}).set 4 { ringAt := none, failed := some .short, testAt := some 999999 } } }, 4, 2900, by decide +kernel⟩,
    ⟨{ base .loam with tr := { sounding := true, chan := (Vector.replicate 16 {}).set 4 { ringBusy := true, last := .short, run := 2 } } }, 4, ⟨true, 0, []⟩, by decide +kernel⟩⟩

/-- States that meet the hypotheses of TallyEngine. -/
theorem test_hyps_TallyEngine :
    (∃ (s : State) (r : PairRecord) (rest : List PairRecord), s.tr.handed = r :: rest ∧ s.dev.mode ≠ .bedBattery ∧ (s.tal.path[r.path]).restartDue = false ∧ s.tal.cleaning = false) ∧
    (∃ (s : State) (p : PathNo) (e : Nat), (s.tal.path[p]).blocked = false ∧ (s.tal.path[p]).episode = some e ∧ e + 4 * 32768 < s.calTicks) ∧
    (∃ (s : State) (p : PathNo) (ts : Nat), sampleTicks (s.eff 38 ⟨p.val, by omega⟩) = some ts ∧ s.configured p = true ∧ (s.tal.path[p]).restartDue = false ∧ ((s.tal.path[p]).ivNext + 1) * ts ≤ s.calTicks ∧ s.intervalIn p (((s.tal.path[p]).ivNext + 1) * ts) = true ∧ s.dev.mode ≠ .bedBattery ∧ (s.tal.path[p]).sinceFit < 63 ∧ (s.tal.path[p]).window.length < 1024 ∧ (∃ (v : Int) (n : Nat), (s.tal.path[p]).interval (s.tal.path[p]).ivNext = (v, n) ∧ 0 < n)) ∧
    (∃ (s : State) (p : PathNo) (ts : Nat) (v : Int), sampleTicks (s.eff 38 ⟨p.val, by omega⟩) = some ts ∧ s.configured p = true ∧ (s.tal.path[p]).restartDue = false ∧ ((s.tal.path[p]).ivNext + 1) * ts ≤ s.calTicks ∧ s.intervalIn p (((s.tal.path[p]).ivNext + 1) * ts) = true ∧ s.dev.mode ≠ .bedBattery ∧ (s.tal.path[p]).sinceFit < 63 ∧ (s.tal.path[p]).window.length < 1024 ∧ (s.tal.path[p]).interval (s.tal.path[p]).ivNext = (v, 0)) ∧
    (∃ (s : State) (p : PathNo), (s.tal.path[p]).restartDue = true) ∧
    (∃ (s : State) (p : PathNo) (w : Nat), (s.tal.path[p]).dirty = true ∧ (s.tal.path[p]).writtenAt = some w ∧ w + 32768 ≤ s.now ∧ s.tal.cleaning = false) ∧
    (∃ (s : State), s.tal.scanned = true ∧ s.dev.mode ≠ .bedBattery ∧ s.tal.devWrittenAt + 10 * 32768 ≤ s.now ∧ s.tal.cleaning = false) :=
    ⟨⟨{ tallyAt {} with tr := { handed := [pairOk] } }, pairOk, [], by decide +kernel⟩,
    ⟨{ tallyAt { episode := some 0 } with clk := { sec := 4, calTick := 1 } }, 0, 0, by decide +kernel⟩,
    ⟨{ tallyAt { ivs := [(0, 300, 3)] } with clk := { tick := 70000, sec := 2 } }, 0, 65536, by decide +kernel, by decide +kernel, by decide +kernel, by decide +kernel, by decide +kernel, by decide +kernel, by decide +kernel, by decide +kernel, 300, 3, by decide +kernel⟩,
    ⟨{ tallyAt {} with clk := { tick := 70000, sec := 2 } }, 0, 65536, 0, by decide +kernel⟩,
    ⟨tallyAt { restartDue := true }, 0, by decide +kernel⟩,
    ⟨tallyAt { dirty := true, writtenAt := some (1000000 - 32768) }, 0, 1000000 - 32768, by decide +kernel⟩,
    ⟨{ base .loam with tal := { scanned := true, devWrittenAt := 1000000 - 327680 } }, by decide +kernel⟩⟩

/-- States that meet the hypotheses of StoreAndJournal. -/
theorem test_hyps_StoreAndJournal :
    (∃ (s : State), s.clk.xoReady = false ∧ s.clk.xoFail = false) ∧
    (∃ (s : State) (w : WriteReq) (rest : List WriteReq), s.tal.writes = w :: rest ∧ s.storeWrites = true) ∧
    (∃ (s : State), s.tal.cleaning = true) ∧
    (∃ (s : State), s.tal.refireOn = true ∧ s.tal.refireNext ≤ s.now ∧ s.tal.refireBlock + 16 < 512) ∧
    (∃ (s : State), s.tal.scanned = true ∧ s.dev.scanDone = true ∧ s.tal.refireOn = false ∧ s.tal.refireDueCal ≤ s.calTicks) ∧
    (∃ (s : State) (e : JEntry) (rest : List JEntry), s.tal.jQueue = e :: rest ∧ s.storeWrites = true) ∧
    (∃ (s : State), 0 < s.tal.jDropped ∧ s.tal.jQueue.length < 33) :=
    ⟨⟨{ base .loam with clk := { tick := 5 }, tal := { scanned := true, jQueue := [⟨0, 0, 0, true, 1, 1, 0⟩] } }, by decide +kernel⟩,
    ⟨{ base .loam with tal := { scanned := true, writes := [⟨.record .device, zeros 24⟩] } }, ⟨.record .device, zeros 24⟩, [], by decide +kernel⟩,
    ⟨{ base .loam with tal := { scanned := true, cleaning := true } }, by decide +kernel⟩,
    ⟨{ base .loam with tal := { scanned := true, refireOn := true, refireNext := 1000000, refireBlock := 480 } }, by decide +kernel⟩,
    ⟨{ base .loam with dev := { mode := .loam, released := true, mainsOk := true, core := .running, scanDone := true }, tal := { scanned := true } }, by decide +kernel⟩,
    ⟨{ base .loam with tal := { scanned := true, jQueue := [⟨0, 0, 0, true, 1, 1, 0⟩] } }, ⟨0, 0, 0, true, 1, 1, 0⟩, [], by decide +kernel⟩,
    ⟨{ base .loam with tal := { scanned := true, jDropped := 2 } }, by decide +kernel⟩⟩

/-- States that meet the hypotheses of CameraFrames. -/
theorem test_hyps_CameraFrames :
    (∃ (s : State) (k : CamPort) (pkt : CsiPacket) (r : Recipe), pkt.wellFormed = true ∧ s.portRecipe k = some r ∧ (s.cam[k]).cen = true) ∧
    (∃ (s : State) (k : CamPort) (pkt : CsiPacket) (r : Recipe), pkt.wellFormed = true ∧ s.portRecipe k = some r ∧ (s.cam[k]).cen = true ∧ (pkt.hdrBad = false ∧ pkt.vc.val ≠ r.hdr.vc)) ∧
    (∃ (s : State) (k : CamPort) (pkt : CsiPacket) (r : Recipe), pkt.wellFormed = true ∧ s.portRecipe k = some r ∧ (s.cam[k]).cen = true ∧ (pkt.hdrBad = false ∧ pkt.vc.val = r.hdr.vc ∧ pkt.dt = 0)) ∧
    (∃ (s : State) (k : CamPort) (pkt : CsiPacket) (r : Recipe), pkt.wellFormed = true ∧ s.portRecipe k = some r ∧ (s.cam[k]).cen = true ∧ (pkt.hdrBad = false ∧ pkt.vc.val = r.hdr.vc ∧ pkt.dt = 1)) ∧
    (∃ (s : State) (k : CamPort) (pkt : CsiPacket) (r : Recipe), pkt.wellFormed = true ∧ s.portRecipe k = some r ∧ (s.cam[k]).cen = true ∧ (pkt.hdrBad = false ∧ pkt.vc.val = r.hdr.vc ∧ pkt.dt = 0x1E)) ∧
    (∃ (s : State) (k : CamPort) (phase : Nat) (w : BitVec 16) (rest : List (BitVec 16)) (r : Recipe) (f : CamFrame), (s.cam[k]).fsPend = w :: rest ∧ s.portRecipe k = some r ∧ (s.cam[k]).frame = some f ∧ (s.cam[k]).leave = none ∧ (s.cam[k]).badRun < 7 ∧ s.useWaits k = true) ∧
    (∃ (s : State) (k : CamPort) (phase : Nat) (w : BitVec 16) (rest : List (BitVec 16)) (r : Recipe), (s.cam[k]).fsPend = w :: rest ∧ s.portRecipe k = some r ∧ (s.cam[k]).state = .streaming ∧ (s.cam[k]).frame = none ∧ (s.cam[k]).lastStart = none ∧ (s.cam[k]).freeRun = true ∧ s.fifoDiscards k = false) ∧
    (∃ (s : State) (k : CamPort) (r : Recipe) (f : CamFrame), (s.cam[k]).fePend = true ∧ s.portRecipe k = some r ∧ (s.cam[k]).frame = some f ∧ f.lines = r.hdr.allLines ∧ f.matched = f.lines ∧ 0 < f.lines ∧ f.badLines = 0 ∧ f.longFrame = false ∧ f.discard = false ∧ (s.cam[k]).leave = none) ∧
    (∃ (s : State) (k : CamPort) (r : Recipe) (f : CamFrame), s.portRecipe k = some r ∧ (s.cam[k]).frame = some f ∧ f.discard = false ∧ (s.cam[k]).leave = none ∧ (s.cam[k]).badRun < 7 ∧ f.startTick + cdiv (2 * r.hdr.period) 2000000000 ≤ s.now) :=
    ⟨⟨camAt { state := .streaming, cen := true }, 0, ⟨true, false, 0, 0, 0, []⟩, recipe [.done], by decide +kernel⟩,
    ⟨camAt { state := .streaming, cen := true }, 0, ⟨false, false, 1, 0, 0, []⟩, recipe [.done], by decide +kernel⟩,
    ⟨camAt { state := .streaming, cen := true }, 0, ⟨false, false, 0, 0, 7, []⟩, recipe [.done], by decide +kernel⟩,
    ⟨camAt { state := .streaming, cen := true }, 0, ⟨false, false, 0, 1, 7, []⟩, recipe [.done], by decide +kernel⟩,
    ⟨camAt { state := .streaming, cen := true }, 0, ⟨false, false, 0, 0x1E, 2, [1, 2]⟩, recipe [.done], by decide +kernel⟩,
    ⟨{ camAt { state := .streaming, fsPend := [7], frame := some frameOk } with bead := { effs [(16, 1)] with waiting := [⟨16, 0, 2⟩] } }, 0, 100, 7, [], recipe [.done], frameOk, by decide +kernel⟩,
    ⟨camAt { state := .streaming, fsPend := [7], freeRun := true }, 0, 100, 7, [], recipe [.done], by decide +kernel⟩,
    ⟨camAt { state := .streaming, fePend := true, frame := some frameOk }, 0, recipe [.done], frameOk, by decide +kernel⟩,
    ⟨camAt { state := .streaming, frame := some frameOk }, 0, recipe [.done], frameOk, by decide +kernel⟩⟩

/-- States that meet the hypotheses of RecipeReplay. -/
theorem test_hyps_RecipeReplay :
    (∃ (s : State) (k : CamPort) (r : Recipe), s.portRecipe k = some r ∧ (s.cam[k]).state = .replay ∧ (s.cam[k]).phase = .idle ∧ (s.cam[k]).cen = false ∧ (s.cam[k]).failCause = none ∧ s.clk.pll = .locked ∧ (s.cam[k]).cenAt + 328 ≤ s.now) ∧
    (∃ (s : State) (k : CamPort) (t0 : Nat), (s.cam[k]).phase = .powerUp t0 ∧ t0 ≤ s.now ∧ (s.cam[k]).state = .replay) ∧
    (∃ (s : State) (k : CamPort) (reg : Nat) (data : List Byte), s.entryAt k = some (.write reg data) ∧ s.seqRuns k = true) ∧
    (∃ (s : State) (k : CamPort) (w : Nat × List Byte) (r : Recipe), s.portRecipe k = some r) ∧
    (∃ (s : State) (k : CamPort) (reg : Nat) (mask val old : Byte), s.entryAt k = some (.rmw reg mask val) ∧ s.seqRuns k = true) ∧
    (∃ (s : State) (k : CamPort) (reg ms : Nat) (mask want val : Byte), s.entryAt k = some (.poll reg mask want ms) ∧ s.seqRuns k = true ∧ (val &&& mask = want)) ∧
    (∃ (s : State) (k : CamPort) (reg ms : Nat) (mask want val : Byte), s.entryAt k = some (.poll reg mask want ms) ∧ s.seqRuns k = true ∧ (val &&& mask ≠ want ∧ (s.cam[k]).phase = .run)) ∧
    (∃ (s : State) (k : CamPort) (reg ms : Nat) (mask want val : Byte), s.entryAt k = some (.poll reg mask want ms) ∧ s.seqRuns k = true ∧ (val &&& mask ≠ want ∧ (s.cam[k]).phase = .pollTill 1000000 ∧ 1000000 ≤ s.now)) ∧
    (∃ (s : State) (k : CamPort) (ms t0 : Nat), s.entryAt k = some (.delay ms) ∧ (s.seqRuns k = true ∧ (s.cam[k]).phase = .run)) ∧
    (∃ (s : State) (k : CamPort) (ms t0 : Nat), s.entryAt k = some (.delay ms) ∧ (s.cam[k]).state = .replay ∧ (s.cam[k]).phase = .delayTill t0 ∧ t0 ≤ s.now) ∧
    (∃ (s : State) (k : CamPort) (m : ExpMap), s.entryAt k = some (.expmap m) ∧ s.seqRuns k = true) ∧
    (∃ (s : State) (k : CamPort), s.entryAt k = some .done ∧ s.seqRuns k = true) ∧
    (∃ (s : State) (k : CamPort) (op : Byte), s.entryAt k = some (.skip op) ∧ s.seqRuns k = true) ∧
    (∃ (s : State) (k : CamPort) (n : Nat) (ack : Bool), (s.cam[k]).nacks = some n ∧ s.now < (s.cam[k]).cciNext) ∧
    (∃ (s : State) (k : CamPort), (s.cam[k]).nacks = some 0 ∧ (s.cam[k]).cciNext ≤ s.now) ∧
    (∃ (s : State) (k : CamPort), (s.cam[k]).nacks = some 2 ∧ (s.cam[k]).cciNext ≤ s.now ∧ (s.cam[k]).burstBusy = false) ∧
    (∃ (s : State) (k : CamPort) (freed : Bool), (s.cam[k]).cen = false) ∧
    (∃ (s : State) (k : CamPort), (s.cam[k]).cen = true ∧ (s.cam[k]).burstBusy = false) ∧
    (∃ (s : State) (k : CamPort), (s.cam[k]).cen = true ∧ (s.cam[k]).burstBusy = true ∧ (s.cam[k]).burstFails < 7) ∧
    (∃ (s : State) (k : CamPort), (s.cam[k]).cen = true ∧ (s.cam[k]).state = .replay) :=
    ⟨⟨camAt { state := .replay, cenAt := 1000000 - 328 }, 0, recipe [.done], by decide +kernel⟩,
    ⟨camAt { state := .replay, phase := .powerUp 1000000 }, 0, 1000000, by decide +kernel⟩,
    ⟨camAt { state := .replay, cen := true, phase := .run } [.write 0x100 [1]], 0, 0x100, [1], by decide +kernel⟩,
    ⟨camAt { state := .replay, cen := true }, 0, (0x3500, [1]), recipe [.done], by decide +kernel⟩,
    ⟨camAt { state := .replay, cen := true, phase := .run } [.rmw 0x100 0x0F 5], 0, 0x100, 0x0F, 5, 0xA0, by decide +kernel⟩,
    ⟨camAt { state := .replay, cen := true, phase := .run } [.poll 0x100 0x0F 5 10], 0, 0x100, 10, 0x0F, 5, 0x15, by decide +kernel⟩,
    ⟨camAt { state := .replay, cen := true, phase := .run } [.poll 0x100 0x0F 5 10], 0, 0x100, 10, 0x0F, 5, 0x14, by decide +kernel⟩,
    ⟨camAt { state := .replay, cen := true, phase := .pollTill 1000000 } [.poll 0x100 0x0F 5 10], 0, 0x100, 10, 0x0F, 5, 0x14, by decide +kernel⟩,
    ⟨camAt { state := .replay, cen := true, phase := .run } [.delay 10], 0, 10, 0, by decide +kernel⟩,
    ⟨camAt { state := .replay, phase := .delayTill 1000000 } [.delay 10], 0, 10, 1000000, by decide +kernel⟩,
    ⟨camAt { state := .replay, cen := true, phase := .run } [.expmap expmap], 0, expmap, by decide +kernel⟩,
    ⟨camAt { state := .replay, cen := true, phase := .run }, 0, by decide +kernel⟩,
    ⟨camAt { state := .replay, cen := true, phase := .run } [.skip 0x80], 0, 0x80, by decide +kernel⟩,
    ⟨camAt { state := .replay, cen := true, nacks := some 1, cciNext := 1000001 }, 0, 1, false, by decide +kernel⟩,
    ⟨camAt { state := .replay, cen := true, nacks := some 0 }, 0, by decide +kernel⟩,
    ⟨camAt { state := .replay, cen := true, nacks := some 2 }, 0, by decide +kernel⟩,
    ⟨camAt {}, 0, true, by decide +kernel⟩,
    ⟨camAt { state := .replay, cen := true }, 0, by decide +kernel⟩,
    ⟨camAt { state := .streaming, cen := true, burstBusy := true, burstFails := 6 }, 0, by decide +kernel⟩,
    ⟨camAt { state := .replay, cen := true }, 0, by decide +kernel⟩⟩

/-- States that meet the hypotheses of CameraPortsAndRecipeCache. -/
theorem test_hyps_CameraPortsAndRecipeCache :
    (∃ (s : State) (k : CamPort) (t0 : Nat) (r : Recipe), (s.cam[k]).phase = .ended t0 ∧ s.portRecipe k = some r ∧ (s.cam[k]).state = .waiting ∧ (s.cam[k]).failCause = none ∧ t0 + msTicks r.hdr.startTimeout ≤ s.now) ∧
    (∃ (s : State) (k : CamPort) (c : Nat), (s.cam[k]).failCause = some c ∧ (s.cam[k]).restarts = [] ∧ (s.cam[k]).frame = none) ∧
    (∃ (s : State) (k : CamPort) (c a b : Nat), (s.cam[k]).failCause = some c ∧ (s.cam[k]).restarts = [a, b] ∧ s.now < a + 60 * 32768 ∧ s.now < b + 60 * 32768 ∧ (s.cam[k]).frame = none) ∧
    (∃ (s : State) (k : CamPort), s.dev.changeover ≠ .idle) ∧
    (∃ (s : State) (k : CamPort), s.dev.changeover = .idle ∧ (s.cam[k]).state = .restart ∧ (s.cam[k]).cen = false ∧ (s.cam[k]).cenAt + 328 ≤ s.now) ∧
    (∃ (s : State) (k : CamPort) (r : Recipe) (t0 g : Nat), s.portRecipe k = some r ∧ (s.cam[k]).phase = .ended t0 ∧ (s.cam[k]).state = .streaming ∧ r.hdr.triggered = true ∧ (s.cam[k]).freeRun = false ∧ s.fab.timeRun = true ∧ r.hdr.latency = 0 ∧ g = s.fab.time / (r.hdr.grid * 65536) ∧ (s.cam[k]).fsyncLast < g ∧ t0 + 33 + cdiv (s.fab.time - g * (r.hdr.grid * 65536)) 2000000000 ≤ s.now) ∧
    (∃ (s : State) (k : CamPort) (x : BitVec 64) (r : Recipe), s.portRecipe k = some r ∧ (s.cam[k]).state = .streaming ∧ (s.cam[k]).measured = some x) ∧
    (∃ (s : State) (k : CamPort) (r : Recipe), s.portRecipe k = some r ∧ (s.cam[k]).state = .streaming ∧ (s.cam[k]).measured = none ∧ (s.cam[k]).rateNext ≤ s.now) ∧
    (∃ (s : State) (k : CamPort) (e g : Nat) (m : ExpMap), (s.cam[k]).state = .streaming ∧ (s.cam[k]).burst = some (e, g) ∧ (s.cam[k]).expmap = some m ∧ (s.cam[k]).burstBusy = false ∧ (s.cam[k]).frame = none ∧ 0 < (s.cam[k]).frames ∧ (s.cam[k]).cen = true) ∧
    (∃ (s : State) (k : CamPort), (s.cam[k]).state = .streaming ∧ (s.cam[k]).joinReady = true ∧ (s.cam[k]).joined = false ∧ s.head.inFrame = true ∧ (s.cam[k]).joinAt ≤ s.head.startedAt) ∧
    (∃ (s : State) (why : Nat), s.dev.core = .running ∧ s.dev.compileDone = true ∧ s.dev.cacheDone = false ∧ directoryFault none = some why) ∧
    (∃ (s : State) (l : List Byte), l.length ≤ 2 ^ 16 ∧ s.dev.core = .running ∧ s.dev.compileDone = true ∧ s.dev.cacheDone = false ∧ directoryFault (some l) = none) ∧
    (∃ (s : State) (l : List Byte), l.length ≤ 2 ^ 16 ∧ s.dev.mode = .sand ∧ s.dev.core = .running ∧ s.dev.cacheDone = true ∧ s.rcp.pollNext ≤ s.now ∧ s.rcp.valid = true ∧ directoryFault (some l) = none ∧ directoryGen l = s.rcp.gen) ∧
    (∃ (s : State) (l : List Byte), l.length ≤ 2 ^ 16 ∧ s.dev.mode = .sand ∧ s.dev.core = .running ∧ s.dev.cacheDone = true ∧ s.rcp.pollNext ≤ s.now ∧ s.rcp.valid = true ∧ directoryFault (some l) = none ∧ directoryGen l ≠ s.rcp.gen ∧ (∀ i : Fin 12, s.slotUsed i = true → (directoryEntries l)[i] = s.rcp.entries[i]) ∧ s.rcp.crcFails = Vector.replicate 12 0) :=
    ⟨⟨camAt { state := .waiting, phase := .ended (1000000 - 32768) }, 0, 1000000 - 32768, recipe [.done], by decide +kernel⟩,
    ⟨camAt { state := .replay, failCause := some 1, cen := true }, 0, 1, by decide +kernel⟩,
    ⟨camAt { state := .replay, failCause := some 1, cen := true, restarts := [990000, 980000] }, 0, 1, 990000, 980000, by decide +kernel⟩,
    ⟨{ camAt { state := .replay, failCause := some 1, cen := true } with dev := { mode := .sand, released := true, mainsOk := true, core := .running, changeover := .drain } }, 0, by decide +kernel⟩,
    ⟨camAt { state := .restart, cenAt := 1000000 - 328 }, 0, by decide +kernel⟩,
    ⟨{ camAt { state := .streaming, phase := .ended 0 } with fab := { uid := 5, timeRun := true, time := 66666667 * 65536 + 65536 } }, 0, recipe [.done], 0, 1, by decide +kernel⟩,
    ⟨camAt { state := .streaming, measured := some 5000000 }, 0, 5000000, recipe [.done], by decide +kernel⟩,
    ⟨camAt { state := .streaming }, 0, recipe [.done], by decide +kernel⟩,
    ⟨camAt { state := .streaming, cen := true, burst := some (100, 20), expmap := some expmap, frames := 4 }, 0, 100, 20, expmap, by decide +kernel⟩,
    ⟨{ camAt { state := .streaming, joinReady := true, joinAt := 10 } with head := { inFrame := true, startedAt := 10 } }, 0, by decide +kernel⟩,
    ⟨{ base .startup with dev := { released := true, mainsOk := true, core := .running, compileDone := true } }, 1, by decide +kernel⟩,
    ⟨{ base .startup with dev := { released := true, mainsOk := true, core := .running, compileDone := true } }, directory 4, by decide +kernel, by decide +kernel, by decide +kernel, by decide +kernel, by exact directory_good 4⟩,
    ⟨{ camAt {} with dev := { mode := .sand, released := true, mainsOk := true, core := .running, cacheDone := true }, rcp := { valid := true, gen := 4 } }, directory 4, by decide +kernel, by decide +kernel, by decide +kernel, by decide +kernel, by decide +kernel, by decide +kernel, by exact directory_good 4, by decide +kernel⟩,
    ⟨{ camAt {} with dev := { mode := .sand, released := true, mainsOk := true, core := .running, cacheDone := true }, rcp := { valid := true, gen := 3 } }, directory 4, by decide +kernel, by decide +kernel, by decide +kernel, by decide +kernel, by decide +kernel, by decide +kernel, by exact directory_good 4, by decide +kernel⟩⟩

/-- States that meet the hypotheses of KilnSlotsAndLoops. -/
theorem test_hyps_KilnSlotsAndLoops :
    (∃ (s : State) (c : Ctx) (f g : CamFrame) (n b rl : Nat), s.kilnOn = true ∧ s.kiln.slot = none ∧ (∀ d : Ctx, (s.kiln.ctx[d]).skipping = false ∧ ((s.kiln.ctx[d]).frames = [] ∨ (s.kiln.ctx[d]).cur.isSome = true)) ∧ s.slotOrder.find? s.ctxReady = some c ∧ s.kilnFrame c = some (f, n) ∧ (s.kiln.ctx[c]).cur = some g ∧ s.inRing c = some (b, rl)) ∧
    (∃ (s : State) (c : Ctx), s.kilnOn = true ∧ s.kiln.slot = some c ∧ s.kiln.feed ≠ [] ∧ (∀ d : Ctx, (s.kiln.ctx[d]).skipping = false ∧ ((s.kiln.ctx[d]).frames = [] ∨ (s.kiln.ctx[d]).cur.isSome = true))) ∧
    (∃ (s : State) (c : Ctx) (g : CamFrame), s.kilnOn = true ∧ s.kiln.slot = some c ∧ s.kiln.feed = [] ∧ (∀ d : Ctx, (s.kiln.ctx[d]).skipping = false ∧ ((s.kiln.ctx[d]).frames = [] ∨ (s.kiln.ctx[d]).cur.isSome = true)) ∧ (s.kiln.ctx[c]).cur = some g ∧ (s.kiln.ctx[c]).rows.length + 1 < (s.kiln.ctx[c]).lines) ∧
    (∃ (s : State) (c : Ctx) (p : CamPort) (st : Stats), (s.kiln.ctx[c]).stats = some st ∧ ctxCam c = some p ∧ (s.kiln.ctx[c]).statsNew = true ∧ s.moversOn = true ∧ (s.cam[p]).state = .streaming ∧ (s.kiln.ctx[c]).statLate = false ∧ (s.kiln.ctx[c]).updFrame + s.aeLatency c ≤ (s.kiln.ctx[c]).statFrame) ∧
    (∃ (s : State) (c : Ctx) (p : CamPort) (st : Stats), (s.kiln.ctx[c]).stats = some st ∧ ctxCam c = some p ∧ (s.kiln.ctx[c]).statsNew = true ∧ s.moversOn = true ∧ ((s.kiln.ctx[c]).statLate = true ∨ (s.kiln.ctx[c]).statFrame < (s.kiln.ctx[c]).updFrame + s.aeLatency c)) ∧
    (∃ (s : State) (c : CamPort) (st : Stats) (m : ExpMap) (r : Recipe), (s.kiln.ctx[camCtx c]).stats = some st ∧ (s.cam[c]).expmap = some m ∧ s.portRecipe c = some r ∧ (s.kiln.ctx[camCtx c]).aePend = true ∧ (s.cam[c]).state = .streaming ∧ logAtLeast ((s.kiln.ctx[camCtx c]).errorRatio st).1 ((s.kiln.ctx[camCtx c]).errorRatio st).2 1 = true) ∧
    (∃ (s : State) (c : CamPort) (st : Stats) (m : ExpMap) (r : Recipe), (s.kiln.ctx[camCtx c]).stats = some st ∧ (s.cam[c]).expmap = some m ∧ s.portRecipe c = some r ∧ (s.kiln.ctx[camCtx c]).aePend = true ∧ (s.cam[c]).state = .streaming ∧ logAtLeast ((s.kiln.ctx[camCtx c]).errorRatio st).1 ((s.kiln.ctx[camCtx c]).errorRatio st).2 1 = false ∧ logAtLeast ((s.kiln.ctx[camCtx c]).errorRatio st).1 ((s.kiln.ctx[camCtx c]).errorRatio st).2 3 = false) ∧
    (∃ (s : State) (c : CamPort) (st : Stats) (d : Nat), (s.kiln.ctx[camCtx c]).stats = some st ∧ (s.kiln.ctx[camCtx c]).awbPend = true ∧ (s.cam[c]).state = .streaming ∧ s.eff 29 = 1 ∧ s.ctxCfa (camCtx c) ≠ 4 ∧ d = 64 ∧ 8 ≤ st.awbZones.length) ∧
    (∃ (s : State) (c : CamPort) (t0 : Nat), s.eff 29 = 6 ∧ s.ctxUsed (camCtx c) = true ∧ (if (s.kiln.ctx[camCtx c]).mono then (s.kiln.ctx[camCtx c]).lowSince else (s.kiln.ctx[camCtx c]).maxSince) = some t0 ∧ t0 + 10 * 32768 ≤ s.now) ∧
    (∃ (s : State) (c : CamPort) (t0 : Nat), s.eff 29 = 6 ∧ s.ctxUsed (camCtx c) = true ∧ (if (s.kiln.ctx[camCtx c]).mono then (s.kiln.ctx[camCtx c]).lowSince else (s.kiln.ctx[camCtx c]).maxSince) = some t0 ∧ t0 + 10 * 32768 ≤ s.now ∧ (s.kiln.ctx[camCtx c]).mono = true) :=
    ⟨⟨kilnAt { ctxOn with cur := some frameOk }, 0, frameOk, frameOk, 480, 0, (recipe [.done]).hdr.rl, by decide +kernel⟩,
    ⟨{ kilnAt { ctxOn with cur := some frameOk } with kiln := { (kilnAt { ctxOn with cur := some frameOk }).kiln with slot := some 0, feed := [(0, 0, 16)] } }, 0, by decide +kernel⟩,
    ⟨{ kilnAt { ctxOn with cur := some frameOk } with kiln := { (kilnAt { ctxOn with cur := some frameOk }).kiln with slot := some 0 } }, 0, frameOk, by decide +kernel⟩,
    ⟨kilnAt { ctxOn with stats := some (statsOf 1000), statsNew := true }, 0, 0, statsOf 1000, by decide +kernel⟩,
    ⟨kilnAt { ctxOn with stats := some (statsOf 1000), statsNew := true, statLate := true }, 0, 0, statsOf 1000, by decide +kernel⟩,
    ⟨kilnAt { ctxOn with stats := some (statsOf 200000), aePend := true } { state := .streaming, expmap := some expmap }, 0, statsOf 200000, expmap, recipe [.done], by decide +kernel⟩,
    ⟨kilnAt { ctxOn with stats := some (statsOf 98267), aePend := true } { state := .streaming, expmap := some expmap }, 0, statsOf 98267, expmap, recipe [.done], by decide +kernel⟩,
    ⟨{ kilnAt { ctxOn with stats := some (statsOf 98267), awbPend := true } with bead := effs [(16, 1), (29, 1)] }, 0, statsOf 98267, 64, by decide +kernel⟩,
    ⟨{ kilnAt { ctxOn with maxSince := some (1000000 - 327680) } with bead := effs [(16, 1), (29, 6)] }, 0, 1000000 - 327680, by decide +kernel⟩,
    ⟨{ kilnAt { ctxOn with mono := true, lowSince := some (1000000 - 327680) } with bead := effs [(16, 1), (29, 6)] }, 0, 1000000 - 327680, by decide +kernel⟩⟩

/-- States that meet the hypotheses of KilnFaults. -/
theorem test_hyps_KilnFaults :
    (∃ (s : State) (c : Ctx), s.kiln.running = true ∧ (s.kiln.ctx[c]).resync = true) ∧
    (∃ (s : State) (c : Ctx) (slot : Fin 46), s.kilnOn = true ∧ s.ctxUsed c = true ∧ (s.kiln.ctx[c]).parityAt = []) ∧
    (∃ (s : State) (c : Ctx) (t0 : Nat), s.kilnOn = true ∧ s.ctxReady c = true ∧ s.kiln.readySince = some t0 ∧ t0 + 33 ≤ s.now ∧ s.kiln.hangs = []) ∧
    (∃ (s : State) (c : Ctx) (t0 h0 : Nat), s.kilnOn = true ∧ s.ctxReady c = true ∧ s.kiln.readySince = some t0 ∧ t0 + 33 ≤ s.now ∧ s.kiln.hangs = [h0] ∧ s.now < h0 + 60 * 32768) :=
    ⟨⟨kilnAt { ctxOn with resync := true }, 0, by decide +kernel⟩,
    ⟨kilnAt ctxOn, 0, 45, by decide +kernel⟩,
    ⟨kilnAt { ctxOn with cur := some frameOk }, 0, 0, by decide +kernel⟩,
    ⟨{ kilnAt { ctxOn with cur := some frameOk } with kiln := { (kilnAt { ctxOn with cur := some frameOk }).kiln with hangs := [990000] } }, 0, 0, 990000, by decide +kernel⟩⟩

/-- States that meet the hypotheses of MoverPrograms. -/
theorem test_hyps_MoverPrograms :
    (∃ (s : State) (ch : MovCh) (prog : List (BitVec 128)), prog.length ≤ 16 ∧ s.moversOn = true ∧ chanUsed ch = true ∧ ((s.mov.chan[ch]).state = .idle ∨ (s.mov.chan[ch]).state = .done ∨ (s.mov.chan[ch]).state = .stopped)) ∧
    (∃ (s : State) (ch : MovCh) (prog : List (BitVec 128)), 16 < prog.length) ∧
    (∃ (s : State) (c : MovCh), s.requests c = true ∧ c ≠ 31) ∧
    (∃ (s : State), (∀ c : MovCh, s.requests c = false)) ∧
    (∃ (s : State) (ch : MovCh) (acc r e : Bool), s.running ch = some (.fin r e) ∧ (r = false ∨ s.readsBack ch acc = true)) ∧
    (∃ (s : State) (ch : MovCh) (acc r e : Bool), s.running ch = some (.fin r e) ∧ (r = false ∨ s.readsBack ch acc = true) ∧ (r = true)) ∧
    (∃ (s : State) (ch : MovCh) (acc e : Bool), s.running ch = some (.fin true e) ∧ s.readsBack ch acc = false) ∧
    (∃ (s : State) (ch : MovCh) (e : Bool), s.running ch = some (.fin true e)) ∧
    (∃ (s : State) (ch : MovCh), s.moversOn = true ∧ (s.mov.chan[ch]).state = .run) ∧
    (∃ (s : State) (ch : MovCh), s.moversOn = true ∧ (s.mov.chan[ch]).state = .wait) :=
    ⟨⟨base .sand, 31, [word 0 0], by decide +kernel⟩,
    ⟨base .sand, 3, List.replicate 17 0, by decide +kernel⟩,
    ⟨movAt (word 5 (16128 * 2 ^ 56 + 256 * 2 ^ 40 + 1 * 2 ^ 28)), 0, by decide +kernel⟩,
    ⟨base .sand, by decide +kernel⟩,
    ⟨movAt (word 0 (2 ^ 118)), 0, false, false, true, by decide +kernel⟩,
    ⟨movAt (word 0 (2 ^ 119)), 0, false, true, false, by decide +kernel⟩,
    ⟨movAt (word 0 (2 ^ 119)) { state := .run, owner := 29, last := some (0, [1]) }, 0, true, false, by decide +kernel⟩,
    ⟨movAt (word 0 (2 ^ 119)), 0, false, by decide +kernel⟩,
    ⟨movAt 0, 0, by decide +kernel⟩,
    ⟨movAt 0 { state := .wait }, 0, by decide +kernel⟩⟩

/-- States that meet the hypotheses of MoverWords. -/
theorem test_hyps_MoverWords :
    (∃ (s : State) (ch : MovCh) (m : MoveFields), s.running ch = some (.move m) ∧ m.desc = false ∧ m.sc = false ∧ m.dc = false ∧ m.count = 1 ∧ m.q = false ∧ m.half = false ∧ m.full = false ∧ m.crc = false ∧ m.srcW = 0 ∧ m.dstW = 0 ∧ 0 < m.len ∧ m.src % 16384 + m.len ≤ 16384 ∧ m.dst % 16384 + m.len ≤ 16384 ∧ m.src + m.len ≤ 0x600000 ∧ m.dst + m.len ≤ 0x600000 ∧ (m.src + m.len ≤ m.dst ∨ m.dst + m.len ≤ m.src) ∧ readable (s.mov.ownerAt m.src) = true ∧ s.mov.ownerAt m.dst = (s.mov.chan[ch]).owner ∧ (s.mov.chan[ch]).line = 0 ∧ (s.mov.chan[ch]).off = 0 ∧ (∀ d : MovCh, d ≠ ch → s.running d = none)) ∧
    (∃ (s : State) (ch : MovCh) (m : MoveFields), s.running ch = some (.move m) ∧ s.requests ch = true ∧ s.arbitrate ≠ some ch ∧ 0 < m.count) ∧
    (∃ (s : State) (ch : MovCh) (m : MoveFields), s.running ch = some (.fill m) ∧ m.dc = false ∧ m.sc = false ∧ m.count = 1 ∧ m.q = false ∧ m.half = false ∧ m.full = false ∧ m.crc = false ∧ m.dstW = 0 ∧ 0 < m.len ∧ m.dst % 16384 + m.len ≤ 16384 ∧ m.dst + m.len ≤ 0x600000 ∧ s.mov.ownerAt m.dst = (s.mov.chan[ch]).owner ∧ (s.mov.chan[ch]).line = 0 ∧ (s.mov.chan[ch]).off = 0 ∧ (∀ d : MovCh, d ≠ ch → s.running d = none)) ∧
    (∃ (s : State) (ch : MovCh) (m : MoveFields), s.running ch = some (.fill m) ∧ m.dc = false ∧ m.sc = false ∧ m.count = 1 ∧ m.crc = false ∧ m.dstW = 0 ∧ 0 < m.len ∧ m.dst + m.len ≤ 0x600000 ∧ ch ≠ 31 ∧ s.mov.ownerAt m.dst ≠ (s.mov.chan[ch]).owner ∧ (s.mov.chan[ch]).line = 0 ∧ (s.mov.chan[ch]).off = 0) ∧
    (∃ (s : State) (ch : MovCh) (qn : Fin 64) (timeout target : Nat), s.moversOn = true ∧ (s.mov.chan[ch]).state = .run ∧ decodeWord (s.wordAt ch) = some (.wait qn 2 timeout target) ∧ (s.mov.chan[ch]).stopReq = false ∧ 1 ≤ (s.mov.queue[qn]).level) ∧
    (∃ (s : State) (ch : MovCh) (qn : Fin 64) (timeout target : Nat), s.moversOn = true ∧ (s.mov.chan[ch]).state = .run ∧ decodeWord (s.wordAt ch) = some (.wait qn 2 timeout target) ∧ (s.mov.chan[ch]).stopReq = false ∧ (s.mov.queue[qn]).level = 0) ∧
    (∃ (s : State) (ch : MovCh) (qn : Fin 64) (cond timeout target t0 : Nat), s.moversOn = true ∧ decodeWord (s.wordAt ch) = some (.wait qn cond timeout target) ∧ (s.mov.chan[ch]).waitTill = some t0 ∧ (s.mov.chan[ch]).state = .wait ∧ t0 ≤ s.now) ∧
    (∃ (s : State) (ch : MovCh) (qn : Fin 64) (ev : Bool) (code : Nat), s.running ch = some (.signal qn 1 ev code) ∧ (s.mov.queue[qn]).level < 65535) ∧
    (∃ (s : State) (ch : MovCh) (qn : Fin 64) (ev : Bool) (code : Nat), s.running ch = some (.signal qn 2 ev code) ∧ (s.mov.queue[qn]).level = 0) ∧
    (∃ (s : State) (ch : MovCh) (qn : Fin 64) (rel target addr imm : Nat), s.running ch = some (.compare 0 qn rel false target addr imm)) ∧
    (∃ (s : State) (ch : MovCh) (reset : Bool) (addr : Nat), s.running ch = some (.crc reset false addr)) ∧
    (∃ (s : State) (ch : MovCh) (r : Fin 10) (v : BitVec 32), s.running ch = some (.set r v)) :=
    ⟨⟨{ movAt (word 1 (0 * 2 ^ 88 + 256 * 2 ^ 56 + 16 * 2 ^ 40 + 1 * 2 ^ 28)) with mov := { (movAt (word 1 (0 * 2 ^ 88 + 256 * 2 ^ 56 + 16 * 2 ^ 40 + 1 * 2 ^ 28)) { state := .run, owner := 3 }).mov with owner := Vector.replicate 384 3 } }, 0, moveFields (word 1 (0 * 2 ^ 88 + 256 * 2 ^ 56 + 16 * 2 ^ 40 + 1 * 2 ^ 28)), by decide +kernel⟩,
    ⟨{ movAt (word 1 (0 * 2 ^ 88 + 256 * 2 ^ 56 + 16 * 2 ^ 40 + 1 * 2 ^ 28)) with mov := { (movAt (word 1 (0 * 2 ^ 88 + 256 * 2 ^ 56 + 16 * 2 ^ 40 + 1 * 2 ^ 28))).mov with owner := Vector.replicate 384 3, chan := ((Vector.replicate 32 {}).set 0 { state := .run, owner := 3 }).set 1 { state := .run, owner := 3, level := 7 } } }, 0, moveFields (word 1 (0 * 2 ^ 88 + 256 * 2 ^ 56 + 16 * 2 ^ 40 + 1 * 2 ^ 28)), by decide +kernel⟩,
    ⟨movAt (word 5 (16128 * 2 ^ 56 + 256 * 2 ^ 40 + 1 * 2 ^ 28)), 0, { moveFields (word 5 (16128 * 2 ^ 56 + 256 * 2 ^ 40 + 1 * 2 ^ 28)) with crc := false, desc := false, src := 0, srcW := 0, sc := false }, by decide +kernel⟩,
    ⟨movAt (word 5 (16128 * 2 ^ 56 + 256 * 2 ^ 40 + 1 * 2 ^ 28)) { state := .run, owner := 3 }, 0, { moveFields (word 5 (16128 * 2 ^ 56 + 256 * 2 ^ 40 + 1 * 2 ^ 28)) with crc := false, desc := false, src := 0, srcW := 0, sc := false }, by decide +kernel⟩,
    ⟨{ movAt 0 with mov := { (movAt (word 3 (2 * 2 ^ 114 + 2 * 2 ^ 112 + 100 * 2 ^ 96))).mov with queue := Vector.replicate 64 { level := 1 } } }, 0, 2, 100, 0, by decide +kernel⟩,
    ⟨movAt (word 3 (2 * 2 ^ 114 + 2 * 2 ^ 112 + 100 * 2 ^ 96)), 0, 2, 100, 0, by decide +kernel⟩,
    ⟨movAt (word 3 (2 * 2 ^ 114 + 2 * 2 ^ 112 + 100 * 2 ^ 96 + 7 * 2 ^ 87)) { state := .wait, waitTill := some 1000000 }, 0, 2, 2, 100, 7, 1000000, by decide +kernel⟩,
    ⟨movAt (word 4 (3 * 2 ^ 114 + 1 * 2 ^ 112 + 2 ^ 111 + 9 * 2 ^ 103)), 0, 3, true, 9, by decide +kernel⟩,
    ⟨movAt (word 4 (3 * 2 ^ 114 + 2 * 2 ^ 112)), 0, 3, false, 0, by decide +kernel⟩,
    ⟨movAt (word 6 (0 * 2 ^ 118 + 5 * 2 ^ 112 + 1 * 2 ^ 110 + 12 * 2 ^ 100 + 4 * 2 ^ 32)), 0, 5, 1, 12, 0, 4, by decide +kernel⟩,
    ⟨movAt (word 7 (2 ^ 119)), 0, true, 0, by decide +kernel⟩,
    ⟨movAt (word 8 (9 * 2 ^ 112 + 0x12345678)), 0, 9, 0x12345678#32, by decide +kernel⟩⟩

/-- States that meet the hypotheses of MoverRecovery. -/
theorem test_hyps_MoverRecovery :
    (∃ (s : State) (ch : MovCh) (w : Bool) (a : BitVec 32), s.moversOn = true ∧ ((s.mov.chan[ch]).state = .run ∨ (s.mov.chan[ch]).state = .wait) ∧ s.ownFault ch = none) ∧
    (∃ (s : State) (ch : MovCh) (w : Bool) (a : BitVec 32), s.moversOn = true ∧ (s.mov.chan[ch]).state = .run ∧ decodeWord (s.wordAt ch) = none) ∧
    (∃ (s : State) (c : MovCh) (l : FaultLatch), s.faulted = some c ∧ (s.mov.chan[c]).latch = some l ∧ s.dev.core = .running ∧ s.dev.changeover ≠ .idle ∧ l.owner.toNat < 19) ∧
    (∃ (s : State) (c : MovCh) (l : FaultLatch), s.faulted = some c ∧ (s.mov.chan[c]).latch = some l ∧ s.dev.core = .running ∧ s.dev.changeover = .idle) ∧
    (∃ (s : State) (l : FaultLatch), (s.mov.chan[(31 : MovCh)]).latch = some l ∧ (s.mov.chan[(31 : MovCh)]).state = .halted ∧ s.dev.core = .running ∧ s.mov.fault31At = []) ∧
    (∃ (s : State) (n : Nat) (rest : List Job), s.mov.jobs = .scrub n :: rest ∧ s.moversOn = true ∧ (s.mov.chan[(31 : MovCh)]).state ≠ .halted ∧ (s.mov.chan[(31 : MovCh)]).state ≠ .fenced ∧ s.kiln.running = false) ∧
    (∃ (s : State), s.dev.mode = .sand ∧ s.dev.changeover = .idle ∧ s.moversOn = true ∧ s.kiln.running = false ∧ (placeAll [] s.sandNeeds s.mov.owner).isSome = true) :=
    ⟨⟨movAt (word 7 (2 ^ 119)), 0, false, 0x70000000, by decide +kernel, by decide +kernel, by exact Option.isNone_iff_eq_none.mp (by decide +kernel)⟩,
    ⟨movAt (word 9 0), 0, true, 0x100, by decide +kernel⟩,
    ⟨{ movAt 0 { state := .halted, latch := some (latchOf 3) } with dev := { mode := .sand, released := true, mainsOk := true, core := .running, changeover := .drain } }, 0, latchOf 3, by decide +kernel⟩,
    ⟨movAt 0 { state := .halted, latch := some (latchOf 3) }, 0, latchOf 3, by decide +kernel⟩,
    ⟨{ base .sand with mov := { chan := (Vector.replicate 32 {}).set 31 { state := .halted, latch := some (latchOf 18) } } }, latchOf 18, by decide +kernel⟩,
    ⟨{ base .sand with mov := { jobs := [.scrub 383], owner := Vector.replicate 384 30 } }, 383, [], by decide +kernel⟩,
    ⟨base .sand, by decide +kernel⟩⟩

/-- States that meet the hypotheses of HeadOutput. -/
theorem test_hyps_HeadOutput :
    (∃ (s : State), s.frameDue = true) ∧
    (∃ (s : State) (vc : Fin 16) (f : HeadFrame), s.head.last = some f ∧ s.head.inFrame = true ∧ s.drives = true ∧ f.onVc vc.val ≠ []) ∧
    (∃ (s : State) (r : HeadRec) (rest : List HeadRec), s.head.offered = r :: rest ∧ 256 ≤ s.head.records.length) ∧
    (∃ (s : State) (r : HeadRec) (rest : List HeadRec), s.head.offered = r :: rest ∧ s.head.records.length < 256) ∧
    (∃ (s : State), s.dev.mode = .sand ∧ s.head.snapNext ≤ s.now) ∧
    (∃ (s : State) (k : CamPort), s.dev.mode = .sand ∧ (s.head.tile[k]).held = false ∧ (s.head.tile[k]).freshAt + s.holdLimit < s.now) ∧
    (∃ (s : State) (i : TileImage) (rest : List TileImage) (d : Nat), s.head.images = i :: rest ∧ i.doneAt = some d ∧ s.now ≤ d + cdiv (2 * framePeriodNs s.rateIdx * 32768) 1000000000 ∧ s.head.on = true ∧ s.head.inFrame = true ∧ s.drives = true ∧ s.carries 14 = true) ∧
    (∃ (s : State) (i : TileImage) (rest : List TileImage) (d : Nat), s.head.images = i :: rest ∧ i.doneAt = some d ∧ d + cdiv (2 * framePeriodNs s.rateIdx * 32768) 1000000000 < s.now) :=
    ⟨⟨{ base .sand with head := { on := true, period := 33333333 }, fab := { uid := 5, timeRun := true, time := 33333333 * 65536 } }, by decide +kernel⟩,
    ⟨{ base .sand with head := { on := true, inFrame := true, last := some ⟨0, [⟨3, 0x24, [1]⟩], 0⟩ } }, 3, ⟨0, [⟨3, 0x24, [1]⟩], 0⟩, by decide +kernel⟩,
    ⟨{ base .sand with head := { offered := [⟨1, 0, zeros 16⟩], records := List.replicate 256 [] } }, ⟨1, 0, zeros 16⟩, [], by decide +kernel⟩,
    ⟨{ base .sand with head := { offered := [⟨1, 0, zeros 16⟩], records := List.replicate 255 [] } }, ⟨1, 0, zeros 16⟩, [], by decide +kernel⟩,
    ⟨{ base .sand with head := { snapNext := 1000000 }, tal := { dev := Vector.replicate 17 3 } }, by decide +kernel⟩,
    ⟨{ camAt {} with head := { tile := Vector.replicate 12 { freshAt := 0, held := false } } }, 0, by decide +kernel⟩,
    ⟨{ base .sand with head := { on := true, inFrame := true, counter := 3, images := [⟨9, 0, zeros 64, zeros 32, 2, some 999990⟩] } }, ⟨9, 0, zeros 64, zeros 32, 2, some 999990⟩, [], 999990, by decide +kernel⟩,
    ⟨{ base .sand with head := { images := [⟨9, 0, zeros 64, zeros 32, 2, some 5⟩] } }, ⟨9, 0, zeros 64, zeros 32, 2, some 5⟩, [], 5, by decide +kernel⟩⟩

/-- States that meet the hypotheses of LinkTrainingAndEmber. -/
theorem test_hyps_LinkTrainingAndEmber :
    (∃ (s : State) (p : FabPort) (r : BitVec 2), s.serdesOn = true ∧ s.portRole p ≠ .off ∧ s.dev.serdesFault[p] = false ∧ (s.fab.port[p]).mayTrain s.now = true ∧ r.toNat = (s.portRole p).code) ∧
    (∃ (s : State) (p : FabPort) (r : BitVec 2), s.serdesOn = true ∧ s.portRole p ≠ .off ∧ s.dev.serdesFault[p] = false ∧ (s.fab.port[p]).mayTrain s.now = true ∧ r.toNat = (s.portRole p).code ∧ (s.fab.port[p]).link = LinkState.ember) ∧
    (∃ (s : State) (p : FabPort) (r : BitVec 2), (s.fab.port[p]).link = LinkState.training ∧ (s.fab.port[p]).trainAt + 328 ≤ s.now) ∧
    (∃ (s : State) (p : FabPort) (r : BitVec 2), s.serdesOn = true ∧ s.portRole p ≠ .off ∧ s.dev.serdesFault[p] = false ∧ (s.fab.port[p]).mayTrain s.now = true ∧ r.toNat ≠ (s.portRole p).code) ∧
    (∃ (s : State) (p : FabPort) (signal : Bool), (s.fab.port[p]).link = LinkState.training ∧ (s.fab.port[p]).trainAt + 328 ≤ s.now) ∧
    (∃ (s : State) (p : FabPort) (signal : Bool), (s.fab.port[p]).link = LinkState.training ∧ (s.fab.port[p]).trainAt + 328 ≤ s.now ∧ signal = true) ∧
    (∃ (s : State) (p : FabPort) (signal : Bool), s.fabricOn = true ∧ s.portRole p ≠ .off ∧ s.dev.serdesFault[p] = false ∧ (s.fab.port[p]).link = LinkState.down ∧ (s.fab.port[p]).retrainAt + (if signal || (s.fab.port[p]).trainAt = 0 then 0 else 29492) ≤ s.now) ∧
    (∃ (s : State) (p : FabPort) (signal : Bool), s.fabricOn = true ∧ s.portRole p ≠ .off ∧ s.dev.serdesFault[p] = false ∧ (s.fab.port[p]).link = LinkState.down ∧ (s.fab.port[p]).retrainAt + (if signal || (s.fab.port[p]).trainAt = 0 then 0 else 29492) ≤ s.now ∧ signal = true) ∧
    (∃ (s : State) (p : FabPort) (c : DownCause), (s.fab.port[p]).link = LinkState.active ∧ (c = .noBeacon → (s.fab.port[p]).beaconAt + 114688 ≤ s.now)) ∧
    (∃ (s : State) (p : FabPort) (c : DownCause), (s.fab.port[p]).link = LinkState.active ∧ (c = .noBeacon → (s.fab.port[p]).beaconAt + 114688 ≤ s.now) ∧ c = .noBeacon) ∧
    (∃ (s : State) (p : FabPort), (s.fab.port[p]).link = LinkState.active ∧ s.dev.mode = .loam ∧ (s.fab.port[p]).frameAt + 6554 ≤ s.now ∧ (s.fab.port[p]).txq[(0 : Fin 2)] = [] ∧ (s.fab.port[p]).txq[(1 : Fin 2)] = [] ∧ 128 ≤ (s.fab.port[p]).credits[(0 : Fin 2)] ∧ 896 ≤ (s.fab.port[p]).credits[(1 : Fin 2)]) ∧
    (∃ (s : State) (p : FabPort), (s.fab.port[p]).link = LinkState.ember ∧ (s.fab.port[p]).pulseNext ≤ s.now) ∧
    (∃ (s : State) (p : FabPort), (s.fab.port[p]).link = LinkState.ember ∧ (s.fab.port[p]).pulseAt + 114688 ≤ s.now) ∧
    (∃ (s : State) (p : FabPort), (s.fab.port[p]).link = LinkState.ember) ∧
    (∃ (s : State) (p : FabPort) (t0 : Nat), (s.fab.port[p]).link = LinkState.ember ∧ (s.fab.port[p]).toneAt = some t0 ∧ t0 + 3605 ≤ s.now) :=
    ⟨⟨fabAt { link := .training, trainAt := 999999 }, 0, 1, by decide +kernel⟩,
    ⟨fabAt { link := .ember, toneAt := some 999999 }, 0, 1, by decide +kernel⟩,
    ⟨fabAt { link := .training, trainAt := 1000000 - 328 }, 0, 1, by decide +kernel⟩,
    ⟨fabAt { link := .training, trainAt := 1000000 - 327 }, 0, 2, by decide +kernel⟩,
    ⟨fabAt { link := .training, trainAt := 1000000 - 328 }, 0, false, by decide +kernel⟩,
    ⟨fabAt { link := .training, trainAt := 1000000 - 328, trainRun := 7 }, 0, true, by decide +kernel⟩,
    ⟨fabAt { link := .down, trainAt := 1, retrainAt := 1000000 - 29492 }, 0, false, by decide +kernel⟩,
    ⟨fabAt { link := .down, trainAt := 1, retrainAt := 1000000 }, 0, true, by decide +kernel⟩,
    ⟨fabAt { link := .active }, 0, .lossOfSignal, by decide +kernel⟩,
    ⟨fabAt { link := .active, beaconAt := 1000000 - 114688 }, 0, .noBeacon, by decide +kernel⟩,
    ⟨fabAt { link := .active, trust := .admitted, frameAt := 1000000 - 6554, credits := #v[128, 896] }, 0, by decide +kernel⟩,
    ⟨fabAt { link := .ember, pulseNext := 1000000 }, 0, by decide +kernel⟩,
    ⟨fabAt { link := .ember, pulseAt := 1000000 - 114688 }, 0, by decide +kernel⟩,
    ⟨fabAt { link := .ember }, 0, by decide +kernel⟩,
    ⟨fabAt { link := .ember, toneAt := some (1000000 - 3605) }, 0, 1000000 - 3605, by decide +kernel⟩⟩

/-- States that meet the hypotheses of CreditsAndBeacons. -/
theorem test_hyps_CreditsAndBeacons :
    (∃ (s : State) (p : FabPort) (cls : Fin 2) (n : Byte), (s.fab.port[p]).link = LinkState.active ∧ n ≠ 0 ∧ (s.fab.port[p]).txq = Vector.replicate 2 []) ∧
    (∃ (s : State) (p : FabPort) (f : TxFrame) (rest : List TxFrame) (n : Byte), (s.fab.port[p]).link = LinkState.active ∧ n ≠ 0 ∧ (s.fab.port[p]).txq[(0 : Fin 2)] = f :: rest ∧ (s.fab.port[p]).rekeying = false ∧ (s.fab.port[p]).trust ≠ .sessionSetup ∧ s.txCarries p = true ∧ (s.fab.port[p]).frameCredits f.frame ≤ (s.fab.port[p]).credits[(0 : Fin 2)] + n.toNat) ∧
    (∃ (s : State) (p : FabPort) (c : Fin 2), (s.fab.port[p]).stalled s.now = some c ∧ (s.fab.port[p]).link = LinkState.active ∧ (s.fab.port[p]).stallTimes = []) ∧
    (∃ (s : State) (p : FabPort) (c : Fin 2) (a b : Nat), (s.fab.port[p]).stalled s.now = some c ∧ (s.fab.port[p]).link = LinkState.active ∧ (s.fab.port[p]).stallTimes = [a, b] ∧ s.now < a + 60 * 32768 ∧ s.now < b + 60 * 32768) ∧
    (∃ (s : State) (p : FabPort) (f : TxFrame), f ∈ (s.fab.port[p]).txq[(1 : Fin 2)] ∧ f.tooOld s.now = true ∧ (s.fab.port[p]).link ≠ LinkState.active) ∧
    (∃ (s : State) (p : FabPort), (s.fab.port[p]).link = LinkState.active ∧ (s.fab.port[p]).carries (s.portRole p) 0 0 = true ∧ (s.fab.port[p]).beaconNext ≤ s.now) :=
    ⟨⟨fabAt { link := .active }, 0, 1, 255, by decide +kernel⟩,
    ⟨fabAt { link := .active, txq := #v[[⟨frameOf 0 0 (zeros 32), 5, false⟩], []] }, 0, ⟨frameOf 0 0 (zeros 32), 5, false⟩, [], 1, by decide +kernel⟩,
    ⟨fabAt { link := .active, stallAt := #v[some 1000, none] }, 0, 0, by decide +kernel⟩,
    ⟨fabAt { link := .active, stallAt := #v[none, some 1000], stallTimes := [990000, 980000] }, 0, 1, 990000, 980000, by decide +kernel⟩,
    ⟨fabAt { link := .training, txq := #v[[], [⟨frameOf 4 0 [1], 1000000 - 1639, true⟩]] }, 0, ⟨frameOf 4 0 [1], 1000000 - 1639, true⟩, by decide +kernel⟩,
    ⟨fabAt { link := .active, beaconNext := 1000000 }, 0, by decide +kernel⟩⟩

/-- States that meet the hypotheses of FrameChecks. -/
theorem test_hyps_FrameChecks :
    (∃ (s : State) (p : FabPort) (f : RxFrame), (s.fab.port[p]).link = LinkState.active ∧ s.fabricOn = true) ∧
    (∃ (s : State) (p : FabPort) (f : RxFrame), (s.fab.port[p]).link = LinkState.active ∧ s.fabricOn = true ∧ (0 < f.symErrors ∨ f.aborted = true)) ∧
    (∃ (s : State) (p : FabPort) (l : List Byte), (s.fab.port[p]).link = LinkState.active ∧ s.fabricOn = true ∧ l.length < 13) ∧
    (∃ (s : State) (p : FabPort) (l : List Byte) (h : Header), (s.fab.port[p]).link = LinkState.active ∧ s.fabricOn = true ∧ h = Header.unpack (natBE (l.take 8)) ∧ l.length = h.len.toNat + 13 ∧ (s.fab.port[p]).trust = .unpaired ∧ crcLE (l.take (l.length - 4)) ≠ l.drop (l.length - 4)) ∧
    (∃ (s : State) (p : FabPort) (l : List Byte) (h : Header), (s.fab.port[p]).link = LinkState.active ∧ s.fabricOn = true ∧ h = Header.unpack (natBE (l.take 8)) ∧ l.length = h.len.toNat + 13 ∧ (s.fab.port[p]).trust = .unpaired ∧ crcLE (l.take (l.length - 4)) = l.drop (l.length - 4) ∧ h.typ ≠ 0 ∧ h.typ ≠ 7) ∧
    (∃ (s : State) (p : FabPort) (l : List Byte) (h : Header), (s.fab.port[p]).link = LinkState.active ∧ s.fabricOn = true ∧ h = Header.unpack (natBE (l.take 8)) ∧ l.length = h.len.toNat + 13 ∧ (s.fab.port[p]).trust = .unpaired ∧ crcLE (l.take (l.length - 4)) = l.drop (l.length - 4) ∧ h.typ = 0 ∧ s.portRole p ≠ .off ∧ h.src ≠ 0xFFF ∧ 32768 ≤ ((s.fab.port[p]).fillBuckets s.now).bucket[(0 : Fin 5)] ∧ s.fab.parked = [] ∧ s.rxCarries p = true) ∧
    (∃ (s : State) (p : FabPort) (l : List Byte) (h : Header), (s.fab.port[p]).link = LinkState.active ∧ s.fabricOn = true ∧ h = Header.unpack (natBE (l.take 8)) ∧ l.length = h.len.toNat + 13 ∧ (s.fab.port[p]).trust = .unpaired ∧ crcLE (l.take (l.length - 4)) = l.drop (l.length - 4) ∧ h.typ = 0 ∧ s.portRole p ≠ .off ∧ h.src ≠ 0xFFF ∧ 32768 ≤ ((s.fab.port[p]).fillBuckets s.now).bucket[(0 : Fin 5)] ∧ s.fab.parked = [] ∧ s.rxCarries p = true ∧ (s.mov.chan.getD (15 + p.val) {}).state = .run) ∧
    (∃ (s : State) (p : FabPort) (l : List Byte) (h : Header), (s.fab.port[p]).link = LinkState.active ∧ s.fabricOn = true ∧ h = Header.unpack (natBE (l.take 8)) ∧ l.length = h.len.toNat + 13 ∧ (s.fab.port[p]).trust = .unpaired ∧ crcLE (l.take (l.length - 4)) = l.drop (l.length - 4) ∧ h.typ = 0 ∧ s.portRole p ≠ .off ∧ h.src ≠ 0xFFF ∧ 32768 ≤ ((s.fab.port[p]).fillBuckets s.now).bucket[(0 : Fin 5)] ∧ s.rxCarries p = false) :=
    ⟨⟨fabAt { link := .active }, 0, ⟨0, false, zeros 44⟩, by decide +kernel⟩,
    ⟨fabAt { link := .active }, 0, ⟨0, true, []⟩, by decide +kernel⟩,
    ⟨fabAt { link := .active }, 0, zeros 12, by decide +kernel⟩,
    ⟨fabAt { link := .active }, 0, (frameOf 0 0 (zeros 32)).hdr.bytes ++ zeros 36, (frameOf 0 0 (zeros 32)).hdr, by decide +kernel⟩,
    ⟨fabAt { link := .active }, 0, withCrc ((frameOf 2 0 (zeros 32)).hdr.bytes ++ zeros 32), (frameOf 2 0 (zeros 32)).hdr, by decide +kernel⟩,
    ⟨fabAt { link := .active, bucket := Vector.replicate 5 32768 }, 0, withCrc ((frameOf 0 0 (zeros 32)).hdr.bytes ++ zeros 32), (frameOf 0 0 (zeros 32)).hdr, by decide +kernel⟩,
    ⟨{ fabAt { link := .active, bucket := Vector.replicate 5 32768 } with mov := { chan := (Vector.replicate 32 {}).set 15 { state := .run } } }, 0, withCrc ((frameOf 0 0 (zeros 32)).hdr.bytes ++ zeros 32), (frameOf 0 0 (zeros 32)).hdr, by decide +kernel⟩,
    ⟨{ fabAt { link := .active, bucket := Vector.replicate 5 32768 } with mov := { chan := (Vector.replicate 32 {}).set 15 { state := .halted } } }, 0, withCrc ((frameOf 0 0 (zeros 32)).hdr.bytes ++ zeros 32), (frameOf 0 0 (zeros 32)).hdr, by decide +kernel⟩⟩

/-- States that meet the hypotheses of AddressDiscovery. -/
theorem test_hyps_AddressDiscovery :
    (∃ (s : State) (a t0 : Nat), s.fab.discoverAt = some t0 ∧ t0 ≤ s.now ∧ s.fab.kind = .unassigned ∧ s.standby = false ∧ s.anyTrunk = true ∧ s.fabricOn = true ∧ s.discovered = some a) ∧
    (∃ (s : State) (a : Nat), s.discovered = some a) ∧
    (∃ (s : State) (e : LsEntry), e ∈ s.fab.lsdb ∧ s.losesTo e = true ∧ s.fabricOn = true ∧ s.fab.kind = .discovered) ∧
    (∃ (s : State) (e : LsEntry), e ∈ s.fab.lsdb ∧ s.losesTo e = true ∧ s.fabricOn = true ∧ s.fab.kind = .beadSet) :=
    ⟨⟨{ fabAt {} with fab := { uid := 5, lastAddr := 0xFFE, discoverAt := some 1000000 } }, 0xFFE, 1000000, by decide +kernel⟩,
    ⟨{ fabAt {} with fab := { uid := 5, lastAddr := 0xFFE } }, 0xFFE, by decide +kernel⟩,
    ⟨{ fabAt {} with fab := { uid := 5, addr := 7, kind := .discovered, lsdb := [otherLs] } }, otherLs, by decide +kernel⟩,
    ⟨{ fabAt {} with fab := { uid := 5, addr := 7, kind := .beadSet, lsdb := [otherLs] } }, otherLs, by decide +kernel⟩⟩

/-- States that meet the hypotheses of LinkStateDatabase. -/
theorem test_hyps_LinkStateDatabase :
    (∃ (s : State) (t0 : Nat), s.anyTrunk = true ∧ s.fabricOn = true ∧ s.standby = false ∧ s.fab.lsDue = some t0 ∧ t0 ≤ s.now ∧ s.fab.lsdb.length < 4608) ∧
    (∃ (s : State) (p : FabPort) (f : Frame) (rest : List (FabPort × Frame)) (o : LsEntry), s.fab.inbox = (p, f) :: rest ∧ f.hdr.typ = 1#4 ∧ (LsEntry.parse s.now f.payload).uid ≠ s.netUid ∧ s.lsOf (LsEntry.parse s.now f.payload).uid = some o ∧ (LsEntry.parse s.now f.payload).seq = o.seq) ∧
    (∃ (s : State) (p : FabPort) (f : Frame) (rest : List (FabPort × Frame)), s.fab.inbox = (p, f) :: rest ∧ f.hdr.typ = 1#4 ∧ (LsEntry.parse s.now f.payload).uid ≠ s.netUid ∧ (∀ o, s.lsOf (LsEntry.parse s.now f.payload).uid = some o → newerSeq (LsEntry.parse s.now f.payload).seq o.seq = true) ∧ s.fab.lsdb.length < 4608) ∧
    (∃ (s : State) (p : FabPort) (f : Frame) (rest : List (FabPort × Frame)), s.fab.inbox = (p, f) :: rest ∧ f.hdr.typ = 1#4 ∧ (LsEntry.parse s.now f.payload).uid = s.netUid ∧ s.standby = false ∧ newerSeq (LsEntry.parse s.now f.payload).seq s.fab.ownSeq = true) ∧
    (∃ (s : State) (e : LsEntry), e ∈ s.fab.lsdb ∧ e.at_ + 95 * 32768 ≤ s.now) :=
    ⟨⟨{ fabAt {} with fab := { uid := 5, addr := 7, kind := .beadSet, lsDue := some 1000000 } }, 1000000, by decide +kernel⟩,
    ⟨{ inboxAt {} (frameOf 1 0 (lsPayload 3 9)) with fab := { (inboxAt {} (frameOf 1 0 (lsPayload 3 9))).fab with lsdb := [otherLs] } }, 0, frameOf 1 0 (lsPayload 3 9), [], otherLs, by decide +kernel⟩,
    ⟨inboxAt {} (frameOf 1 0 (lsPayload 3 9)), 0, frameOf 1 0 (lsPayload 3 9), [], by decide +kernel, by decide +kernel, by decide +kernel, nofun, by decide +kernel⟩,
    ⟨inboxAt {} (frameOf 1 0 (lsPayload 5 9)), 0, frameOf 1 0 (lsPayload 5 9), [], by decide +kernel⟩,
    ⟨{ fabAt {} with clk := { tick := 95 * 32768 }, fab := { uid := 5, lsdb := [otherLs] } }, otherLs, by decide +kernel⟩⟩

/-- States that meet the hypotheses of RoutesAndExport. -/
theorem test_hyps_RoutesAndExport :
    (∃ (s : State) (t0 : Nat), s.fab.dbChangedAt = some t0 ∧ s.fab.routedAt + 1639 ≤ s.now ∧ s.fabricOn = true) ∧
    (∃ (s : State), s.dev.mode = .sand ∧ headRole (s.eff 3) = false ∧ s.standby = false ∧ s.fab.tallyNext ≤ s.now ∧ s.fab.exportHead = none) ∧
    (∃ (s : State) (h : BitVec 12), s.dev.mode = .sand ∧ headRole (s.eff 3) = false ∧ s.standby = false ∧ s.fab.tallyNext ≤ s.now ∧ s.fab.exportHead = some h ∧ s.held = false) ∧
    (∃ (s : State) (c : Ctx) (base : Nat), s.mov.base (.export_ c) = some base ∧ 0 < (s.mov.queue[exportQueue c]).level ∧ s.kiln.running = true) :=
    ⟨⟨{ fabAt {} with fab := { uid := 5, dbChangedAt := some 5, routedAt := 1000000 - 1639 } }, 5, by decide +kernel⟩,
    ⟨fabAt {} .sand, by decide +kernel⟩,
    ⟨{ fabAt {} .sand with fab := { uid := 5, addr := 7, kind := .beadSet, exportHead := some 9 } }, 9, by decide +kernel⟩,
    ⟨{ kilnAt ctxOn with mov := { (kilnAt ctxOn).mov with queue := Vector.replicate 64 { level := 1 } } }, 0, 32768, by decide +kernel⟩⟩

/-- States that meet the hypotheses of FabricTime. -/
theorem test_hyps_FabricTime :
    (∃ (s : State) (phase : Nat) (p : FabPort), s.fab.parent = some p ∧ (s.fab.port[p]).link = LinkState.active ∧ s.serdesOn = true ∧ (s.fab.port[p]).trust = .admitted ∧ s.fab.exch = none ∧ s.fab.exchNext ≤ s.now ∧ s.fastTime = true) ∧
    (∃ (s : State) (a b : Nat) (p : FabPort) (f : Frame) (rest : List (FabPort × Frame)), s.fab.inbox = (p, f) :: rest ∧ f.hdr.typ = 5#4 ∧ f.hdr.flow = 0#8) ∧
    (∃ (s : State) (ph : Nat) (p : FabPort) (f : Frame) (rest : List (FabPort × Frame)) (x : Exchange) (theta : Int), s.fab.inbox = (p, f) :: rest ∧ f.hdr.typ = 5#4 ∧ f.hdr.flow = 1#8 ∧ s.fab.exch = some x ∧ s.fab.parent = some p ∧ f.payload.getD 0 0 = x.e ∧ s.now < x.at_ + 33 ∧ usableState ((f.payload.getD 21 0).toNat % 8) = true ∧ (f.payload.getD 22 0).toNat < 63 ∧ s.fab.tstate = .free ∧ (let t2 := natLE (slice f.payload 1 10); let t3 := natLE (slice f.payload 11 10); let t4 := s.stamp ph; 0 ≤ rdiv (stampDiff t4 x.t1 - stampDiff t3 t2) 2 ∧ rdiv (stampDiff t4 x.t1 - stampDiff t3 t2) 2 ≤ 13107200 ∧ theta = rdiv (stampDiff t2 x.t1 + stampDiff t3 t4) 2)) ∧
    (∃ (s : State) (x : Exchange), s.fab.exch = some x ∧ x.at_ + 33 ≤ s.now) ∧
    (∃ (s : State), (s.fab.tstate = .coarse ∨ s.fab.tstate = .fine) ∧ (s.fab.acceptedAt + 70 * 32768 ≤ s.now ∨ s.parentUsable = false)) :=
    ⟨⟨{ fabAt { link := .active, trust := .admitted } .sand with fab := { (fabAt { link := .active, trust := .admitted }).fab with parent := some 0 } }, 9, 0, by decide +kernel⟩,
    ⟨inboxAt { link := .active, trust := .admitted } (frameOf 5 0 (zeros 32)), 1, 2, 0, frameOf 5 0 (zeros 32), [], by decide +kernel⟩,
    ⟨{ inboxAt { link := .active, trust := .admitted } timeResp with fab := { (inboxAt { link := .active, trust := .admitted } timeResp).fab with parent := some 0, exch := some ⟨1, 1000, 999990⟩, time := 9000 } }, 0, 0, timeResp, [], ⟨1, 1000, 999990⟩, 1000, by decide +kernel⟩,
    ⟨{ fabAt {} with fab := { uid := 5, exch := some ⟨1, 1000, 1000000 - 33⟩ } }, ⟨1, 1000, 1000000 - 33⟩, by decide +kernel⟩,
    ⟨{ fabAt {} with fab := { uid := 5, tstate := .fine, acceptedAt := 1000000 } }, by decide +kernel⟩⟩

/-- States that meet the hypotheses of clause 2 of PortPairing. -/
theorem test_hyps_PortPairing_2 :
    ∃ (s : State) (p : FabPort) (f : Frame) (rest : List (FabPort × Frame)) (g : Pairing), s.fab.inbox = (p, f) :: rest ∧ f.hdr.typ = 7#4 ∧ f.hdr.flow = 1#8 ∧ (s.fab.port[p]).pairing = some g ∧ g.partner = none ∧ s.windowOpen = true ∧ x25519 g.scalar (slice f.payload 8 32) ≠ zeros 32 :=
    ⟨pairAt { pairing0 with scalar := bytesLE 32 1 } (frameOf 7 1 (zeros 8 ++ bytesLE 32 9 ++ zeros 16)), 0, frameOf 7 1 (zeros 8 ++ bytesLE 32 9 ++ zeros 16), [], { pairing0 with scalar := bytesLE 32 1 }, by decide +kernel⟩

/-- States that meet the hypotheses of clause 3 of PortPairing. -/
theorem test_hyps_PortPairing_3 :
    ∃ (s : State) (p : FabPort) (f : Frame) (rest : List (FabPort × Frame)) (g : Pairing), s.fab.inbox = (p, f) :: rest ∧ f.hdr.typ = 7#4 ∧ f.hdr.flow = 1#8 ∧ (s.fab.port[p]).pairing = some g ∧ g.partner = none ∧ s.windowOpen = true ∧ x25519 g.scalar (slice f.payload 8 32) = zeros 32 :=
    ⟨pairAt pairing0 (frameOf 7 1 (zeros 56)), 0, frameOf 7 1 (zeros 56), [], pairing0, by decide +kernel⟩

/-- States that meet the hypotheses of clause 5 of PortPairing. -/
theorem test_hyps_PortPairing_5 :
    ∃ (s : State) (p : FabPort) (f : Frame) (rest : List (FabPort × Frame)) (g : Pairing) (u : BitVec 64) (pub nonce : List Byte), s.fab.inbox = (p, f) :: rest ∧ f.hdr.typ = 7#4 ∧ f.hdr.flow = 2#8 ∧ (s.fab.port[p]).pairing = some g ∧ g.partner = some (u, pub, nonce) ∧ g.verified = false ∧ s.windowOpen = true ∧ natLE (slice f.payload 0 8) = u.toNat ∧ slice f.payload 8 16 = confirmTag g.kC u s.fab.uid pub g.pub ∧ s.tal.cleaning = false :=
    ⟨pairAt pairing1 (frameOf 7 2 (confirmOk)), 0, frameOf 7 2 confirmOk, [], pairing1, 9, [2], [3], by decide +kernel⟩

/-- States that meet the hypotheses of clause 6 of PortPairing. -/
theorem test_hyps_PortPairing_6 :
    ∃ (s : State) (p : FabPort) (f : Frame) (rest : List (FabPort × Frame)) (g : Pairing) (u : BitVec 64) (pub nonce : List Byte), s.fab.inbox = (p, f) :: rest ∧ f.hdr.typ = 7#4 ∧ f.hdr.flow = 2#8 ∧ (s.fab.port[p]).pairing = some g ∧ g.partner = some (u, pub, nonce) ∧ g.verified = false ∧ s.windowOpen = true ∧ slice f.payload 8 16 ≠ confirmTag g.kC u s.fab.uid pub g.pub :=
    ⟨pairAt pairing1 (frameOf 7 2 (zeros 32)), 0, frameOf 7 2 (zeros 32), [], pairing1, 9, [2], [3], by decide +kernel⟩

/-- States that meet the hypotheses of PortPairing. -/
theorem test_hyps_PortPairing :
    (∃ (s : State) (p : FabPort) (g : Pairing), (s.fab.port[p]).pairing = some g ∧ (s.fab.port[p]).link = LinkState.active ∧ s.windowOpen = true ∧ g.verified = false ∧ g.offerNext ≤ s.now) ∧
    (∃ (s : State) (p : FabPort) (g : Pairing) (u : BitVec 64) (pub nonce : List Byte), (s.fab.port[p]).pairing = some g ∧ g.partner = some (u, pub, nonce) ∧ (s.fab.port[p]).link = LinkState.active ∧ s.windowOpen = true ∧ g.partnerCommitted = false ∧ g.confirmNext ≤ s.now) ∧
    (∃ (s : State) (p : FabPort) (g : Pairing) (a : Nat), (s.fab.port[p]).pairing = some g ∧ g.committedAt = some a ∧ (s.fab.port[p]).link = LinkState.active ∧ g.committedNext ≤ s.now) ∧
    (∃ (s : State) (p : FabPort) (g : Pairing) (a : Nat), (s.fab.port[p]).pairing = some g ∧ g.committedAt = some a ∧ (g.partnerCommitted = true ∨ a + 32768 ≤ s.now)) ∧
    (∃ (s : State) (t0 : Nat), s.fab.windowTill = some t0 ∧ t0 ≤ s.now) ∧
    (∃ (s : State) (t0 : Nat), s.fab.windowTill = some t0 ∧ t0 ≤ s.now ∧ 0 < s.fab.windowPaired) :=
    ⟨⟨{ fabAt { link := .active, pairing := some pairing0 } with fab := { (fabAt { link := .active, pairing := some pairing0 }).fab with windowTill := some 1000001 } }, 0, pairing0, by decide +kernel⟩,
    ⟨{ fabAt { link := .active, pairing := some { pairing0 with partner := some (9, [2], [3]) } } with fab := { (fabAt { link := .active, pairing := some { pairing0 with partner := some (9, [2], [3]) } }).fab with windowTill := some 1000001 } }, 0, { pairing0 with partner := some (9, [2], [3]) }, 9, [2], [3], by decide +kernel⟩,
    ⟨fabAt { link := .active, pairing := some { pairing0 with committedAt := some 999000 } }, 0, { pairing0 with committedAt := some 999000 }, 999000, by decide +kernel⟩,
    ⟨fabAt { link := .active, key := some key0, pairing := some { pairing0 with committedAt := some (1000000 - 32768) } }, 0, { pairing0 with committedAt := some (1000000 - 32768) }, 1000000 - 32768, by decide +kernel⟩,
    ⟨{ fabAt { window := true } with fab := { (fabAt { window := true }).fab with windowTill := some 1000000 } }, 1000000, by decide +kernel⟩,
    ⟨{ fabAt { window := true } with fab := { (fabAt { window := true }).fab with windowTill := some 1000000, windowPaired := 2 } }, 1000000, by decide +kernel⟩⟩

/-- States that meet the hypotheses of Sessions. -/
theorem test_hyps_Sessions :
    (∃ (s : State) (p : FabPort), (s.fab.port[p]).link = LinkState.active ∧ (s.fab.port[p]).inSetup = true ∧ (s.fab.port[p]).nonce ≠ [] ∧ (s.fab.port[p]).helloNext ≤ s.now) ∧
    (∃ (s : State) (p : FabPort) (f : Frame) (rest : List (FabPort × Frame)) (k : KeyRec), s.fab.inbox = (p, f) :: rest ∧ f.hdr.typ = 7#4 ∧ f.hdr.flow = 0x10#8 ∧ (s.fab.port[p]).pairing = none ∧ (s.fab.port[p]).trust = .sessionSetup ∧ (s.fab.port[p]).rekeying = false ∧ (s.fab.port[p]).key = some k ∧ (s.fab.port[p]).nonce ≠ [] ∧ slice f.payload 28 16 = (s.fab.port[p]).nonce ∧ s.fab.uid.toNat < k.partner.toNat ∧ s.trole = .none) ∧
    (∃ (s : State) (p : FabPort) (f : Frame) (rest : List (FabPort × Frame)), s.fab.inbox = (p, f) :: rest ∧ f.hdr.typ = 7#4 ∧ f.hdr.flow = 0x10#8 ∧ (s.fab.port[p]).pairing = none ∧ (s.fab.port[p]).trust = .sessionSetup ∧ slice f.payload 28 16 ≠ (s.fab.port[p]).nonce) ∧
    (∃ (s : State) (p : FabPort), (s.fab.port[p]).link = LinkState.active ∧ (s.fab.port[p]).inSetup = true ∧ (s.fab.port[p]).keysDiffer = false ∧ (s.fab.port[p]).setupAt + 3277 ≤ s.now) ∧
    (∃ (s : State) (p : FabPort), (s.fab.port[p]).link = LinkState.active ∧ (s.fab.port[p]).inSetup = true ∧ (s.fab.port[p]).partnerNonce = none ∧ (16 ≤ (s.fab.port[p]).badHello ∨ 16 ≤ (s.fab.port[p]).noCmac)) ∧
    (∃ (s : State) (p : FabPort), (s.fab.port[p]).link = LinkState.active ∧ (s.fab.port[p]).inSetup = true ∧ (s.fab.port[p]).partnerNonce = none ∧ (16 ≤ (s.fab.port[p]).badHello ∨ 16 ≤ (s.fab.port[p]).noCmac) ∧ (s.fab.port[p]).rekeying = true) ∧
    (∃ (s : State) (p : FabPort), (s.fab.port[p]).trust = .keyMismatch ∧ (s.fab.port[p]).mismatchNext ≤ s.now ∧ (s.fab.port[p]).link = LinkState.active) ∧
    (∃ (s : State) (p : FabPort), (s.fab.port[p]).link = LinkState.active ∧ (s.fab.port[p]).established = true ∧ (s.fab.port[p]).rekeying = false ∧ (4 ≤ (s.fab.port[p]).macFails ∨ 2 ^ 47 ≤ (s.fab.port[p]).txCount)) ∧
    (∃ (s : State) (p : FabPort), (s.fab.port[p]).link = LinkState.active ∧ (s.fab.port[p]).established = true ∧ (s.fab.port[p]).rekeying = false ∧ (4 ≤ (s.fab.port[p]).macFails ∨ 2 ^ 47 ≤ (s.fab.port[p]).txCount) ∧ (s.fab.port[p]).macFails = 0) :=
    ⟨⟨fabAt { link := .active, trust := .sessionSetup, nonce := [1] }, 0, by decide +kernel⟩,
    ⟨inboxAt helloPort helloOk, 0, helloOk, [], key0, by decide +kernel⟩,
    ⟨inboxAt { helloPort with nonce := [7] } helloOk, 0, helloOk, [], by decide +kernel⟩,
    ⟨fabAt { link := .active, trust := .sessionSetup, setupAt := 1000000 - 3277 }, 0, by decide +kernel⟩,
    ⟨fabAt { link := .active, trust := .sessionSetup, badHello := 16 }, 0, by decide +kernel⟩,
    ⟨fabAt { link := .active, trust := .admitted, rekeying := true, noCmac := 16 }, 0, by decide +kernel⟩,
    ⟨fabAt { link := .active, trust := .keyMismatch, mismatchNext := 1000000, key := some key0 }, 0, by decide +kernel⟩,
    ⟨fabAt { link := .active, trust := .admitted, established := true, macFails := 4 }, 0, by decide +kernel⟩,
    ⟨fabAt { link := .active, trust := .admitted, established := true, txCount := 2 ^ 47 }, 0, by decide +kernel⟩⟩

/-- States that meet the hypotheses of QuarantineAndProbation. -/
theorem test_hyps_QuarantineAndProbation :
    (∃ (s : State) (p : FabPort), (s.fab.port[p]).linked = true ∧ (s.fab.port[p]).ivAt + 32768 ≤ s.now) ∧
    (∃ (s : State) (p : FabPort) (cause : Nat), (s.fab.port[p]).quarPend = some cause ∧ s.portRole p ≠ .off ∧ (s.fab.port[p]).link ≠ LinkState.quarantined ∧ (s.fab.port[p]).link ≠ LinkState.off ∧ cause ≠ 8) ∧
    (∃ (s : State) (p : FabPort), (s.fab.port[p]).quarPend = some 8 ∧ s.portRole p ≠ .off ∧ (s.fab.port[p]).link = LinkState.active) ∧
    (∃ (s : State) (p : FabPort) (t0 : Nat), (s.fab.port[p]).link = LinkState.quarantined ∧ (s.fab.port[p]).quarTill = some t0 ∧ t0 ≤ s.now) ∧
    (∃ (s : State) (p : FabPort), (s.fab.port[p]).trust = .admitted ∧ (s.fab.port[p]).admittedAt + 600 * 32768 ≤ s.now) ∧
    (∃ (s : State) (p : FabPort), (s.fab.port[p]).trust = .clean ∧ (s.fab.port[p]).cleanAt + 2 * 32768 ≤ s.now) ∧
    (∃ (s : State) (p : FabPort), (s.fab.port[p]).link = LinkState.active ∧ (s.fab.port[p]).trust = .test ∧ (s.fab.port[p]).testNext ≤ s.now) ∧
    (∃ (s : State) (p : FabPort), (s.fab.port[p]).trust = .test ∧ 256 ≤ (s.fab.port[p]).cleanCount ∧ 256 ≤ (s.fab.port[p]).partnerClean) ∧
    (∃ (s : State) (p : FabPort), ((s.fab.port[p]).trust = .clean ∨ (s.fab.port[p]).trust = .test) ∧ (s.fab.port[p]).linked = true ∧ (s.fab.port[p]).probAt + 30 * 32768 ≤ s.now) ∧
    (∃ (s : State) (p : FabPort), (s.fab.port[p]).trust = .admitted ∧ (s.fab.port[p]).penalty = true ∧ (s.fab.port[p]).admittedAt + 30 * 32768 ≤ s.now) :=
    ⟨⟨fabAt { link := .active, ivAt := 1000000 - 32768, cnt := { symErr := 65 } }, 0, by decide +kernel⟩,
    ⟨fabAt { link := .active, quarPend := some 1 }, 0, 1, by decide +kernel⟩,
    ⟨fabAt { link := .active, quarPend := some 8 }, 0, by decide +kernel⟩,
    ⟨fabAt { link := .quarantined, quarTill := some 1000000 }, 0, 1000000, by decide +kernel⟩,
    ⟨{ fabAt { link := .active, trust := .admitted, q := 3 } with clk := { tick := 600 * 32768, xoReady := true, pll := .locked } }, 0, by decide +kernel⟩,
    ⟨fabAt { link := .active, trust := .clean, cleanAt := 1000000 - 65536 }, 0, by decide +kernel⟩,
    ⟨fabAt { link := .active, trust := .test, testNext := 1000000 }, 0, by decide +kernel⟩,
    ⟨fabAt { link := .active, trust := .test, cleanCount := 256, partnerClean := 256 }, 0, by decide +kernel⟩,
    ⟨fabAt { link := .active, trust := .test, probAt := 1000000 - 30 * 32768 }, 0, by decide +kernel⟩,
    ⟨fabAt { link := .active, trust := .admitted, penalty := true, admittedAt := 1000000 - 30 * 32768 }, 0, by decide +kernel⟩⟩

/-- States that meet the hypotheses of Lease. -/
theorem test_hyps_Lease :
    (∃ (s : State), s.isTwin = true ∧ s.twin.toggleNext ≤ s.now) ∧
    (∃ (s : State) (t0 : Nat), s.isTwin = true ∧ s.twin.lastEdge = some t0) ∧
    (∃ (s : State), s.isTwin = true ∧ s.twin.lastEdge = none) ∧
    (∃ (s : State), s.isTwin = true ∧ s.dev.released = true ∧ s.twin.holding = false ∧ s.twin.inhibit = false ∧ s.takeLimit ≤ s.quiet) ∧
    (∃ (s : State), s.isTwin = true ∧ s.twin.holding = true ∧ s.beatSeen = true ∧ s.twin.hand = none) ∧
    (∃ (s : State), s.wireBroken ≠ s.twin.wireFault) ∧
    (∃ (s : State) (q : PartnerState), s.trole = .secondary ∧ s.twin.holding = true ∧ s.twin.partner = some q ∧ q.holds = true ∧ s.twin.takenAt ≤ q.at_ ∧ s.twin.hand = none) ∧
    (∃ (s : State), s.twin.inhibit = true ∧ s.twin.inhibitAt + 1024 ≤ s.now) :=
    ⟨⟨twinAt { toggleNext := 1000000 }, by decide +kernel⟩,
    ⟨twinAt { lastEdge := some (1000000 - 64) }, 1000000 - 64, by decide +kernel⟩,
    ⟨twinAt {}, by decide +kernel⟩,
    ⟨twinAt { lastHolderEdge := some (1000000 - 656) }, by decide +kernel⟩,
    ⟨twinAt { holding := true, lastHolderEdge := some (1000000 - 656) }, by decide +kernel⟩,
    ⟨twinAt { holding := true, mirror := .inSync, partner := some partnerOk }, by decide +kernel⟩,
    ⟨twinAt { holding := true, partner := some { partnerOk with holds := true, at_ := 5 } } 3, { partnerOk with holds := true, at_ := 5 }, by decide +kernel⟩,
    ⟨twinAt { inhibit := true, inhibitAt := 1000000 - 1024 }, by decide +kernel⟩⟩

/-- States that meet the hypotheses of Mirror. -/
theorem test_hyps_Mirror :
    (∃ (s : State) (p : FabPort) (f : Frame) (rest : List (FabPort × Frame)), s.fab.inbox = (p, f) :: rest ∧ f.hdr.typ = 6#4 ∧ (f.payload.length < 20 ∨ crcLE (f.payload.take (f.payload.length - 4)) ≠ f.payload.drop (f.payload.length - 4)) ∧ f.payload.length < 20) ∧
    (∃ (s : State) (p : FabPort) (f : Frame) (rest : List (FabPort × Frame)), s.fab.inbox = (p, f) :: rest ∧ f.hdr.typ = 6#4 ∧ (f.payload.length < 20 ∨ crcLE (f.payload.take (f.payload.length - 4)) ≠ f.payload.drop (f.payload.length - 4)) ∧ 20 ≤ f.payload.length) ∧
    (∃ (s : State) (p : FabPort) (f : Frame) (rest : List (FabPort × Frame)) (w : List Byte), s.fab.inbox = (p, f) :: rest ∧ f.hdr.typ = 6#4 ∧ f.payload = w ++ crcLE w ∧ 16 ≤ w.length ∧ s.twin.mirror = .down) ∧
    (∃ (s : State) (p : FabPort) (f : Frame) (rest : List (FabPort × Frame)) (w : List Byte), s.fab.inbox = (p, f) :: rest ∧ f.hdr.typ = 6#4 ∧ f.hdr.flow = 6#8 ∧ f.payload = w ++ crcLE w ∧ 17 ≤ w.length ∧ s.twin.mirror = .inSync ∧ slice w 4 4 = bytesLE 4 (s.twin.rxSeq + 1).toNat) ∧
    (∃ (s : State), s.isTwin = true ∧ s.twin.mirror ≠ .down ∧ (s.twin.stateDirty = true ∨ s.stateFields ≠ s.twin.stateSent ∨ s.twin.stateNext ≤ s.now) ∧ s.twin.stateDirty = true) ∧
    (∃ (s : State), s.isTwin = true ∧ s.twin.mirror ≠ .down ∧ (s.twin.stateDirty = true ∨ s.stateFields ≠ s.twin.stateSent ∨ s.twin.stateNext ≤ s.now) ∧ s.stateFields ≠ s.twin.stateSent) ∧
    (∃ (s : State) (u : MirrorTx), s.twin.mirror ≠ .down ∧ u ∈ s.twin.unacked ∧ u.at_ + 1639 ≤ s.now ∧ 8 ≤ u.tries) ∧
    (∃ (s : State) (u : MirrorTx), s.twin.mirror ≠ .down ∧ s.twin.unacked = [u] ∧ u.at_ + 1639 ≤ s.now ∧ u.tries < 8) ∧
    (∃ (s : State) (t0 : Nat), s.twin.mirror ≠ .down ∧ s.twin.ackDue = some t0 ∧ t0 ≤ s.now) ∧
    (∃ (s : State), s.twin.mirror = .down ∧ s.mirrorReady = true) ∧
    (∃ (s : State), s.twin.mirror = .resync ∧ s.twin.holding = true ∧ s.twin.resyncSent = false ∧ s.twin.rxSeq ≠ 0 ∧ s.fab.inbox = []) :=
    ⟨⟨{ inboxAt {} (frameOf 6 1 (zeros 19)) with twin := { mirror := .inSync } }, 0, frameOf 6 1 (zeros 19), [], by decide +kernel⟩,
    ⟨inboxAt {} (frameOf 6 1 (zeros 20)), 0, frameOf 6 1 (zeros 20), [], by decide +kernel⟩,
    ⟨inboxAt {} (frameOf 6 1 (withCrc (zeros 16))), 0, frameOf 6 1 (withCrc (zeros 16)), [], zeros 16, by decide +kernel⟩,
    ⟨{ inboxAt {} (frameOf 6 6 (withCrc (zeros 4 ++ [1, 0, 0, 0] ++ zeros 8 ++ [2, 0, 0, 0]))) with twin := { mirror := .inSync } }, 0, frameOf 6 6 (withCrc (zeros 4 ++ [1, 0, 0, 0] ++ zeros 8 ++ [2, 0, 0, 0])), [], zeros 4 ++ [1, 0, 0, 0] ++ zeros 8 ++ [2, 0, 0, 0], by decide +kernel⟩,
    ⟨twinAt { mirror := .inSync, stateDirty := true }, by decide +kernel⟩,
    ⟨twinAt { mirror := .inSync, stateNext := 1000001 }, by decide +kernel⟩,
    ⟨twinAt { mirror := .inSync, unacked := [⟨1, 1, [], 1000000 - 1639, 8⟩] }, ⟨1, 1, [], 1000000 - 1639, 8⟩, by decide +kernel⟩,
    ⟨twinAt { mirror := .inSync, unacked := [⟨1, 1, [], 1000000 - 1639, 7⟩] }, ⟨1, 1, [], 1000000 - 1639, 7⟩, by decide +kernel⟩,
    ⟨twinAt { mirror := .inSync, ackDue := some 1000000 }, 1000000, by decide +kernel⟩,
    ⟨twinAt {}, by decide +kernel⟩,
    ⟨twinAt { mirror := .resync, holding := true, rxSeq := 1 }, by decide +kernel⟩⟩

/-- States that meet the hypotheses of HandOver. -/
theorem test_hyps_HandOver :
    (∃ (s : State) (auto : Bool) (why : Nat), s.twin.handReq = some auto ∧ s.handoverBar = some why) ∧
    (∃ (s : State) (auto : Bool), s.twin.handReq = some auto ∧ s.handoverBar = none ∧ s.twin.holding = true) ∧
    (∃ (s : State), s.twin.handMsg = some 1 ∧ s.standby = true) ∧
    (∃ (s : State) (h : HandWin), s.twin.handMsg = some 2 ∧ s.twin.holding = true ∧ s.twin.hand = some h ∧ h.asHolder = true) ∧
    (∃ (s : State) (h : HandWin), s.twin.handMsg = some 3 ∧ s.twin.hand = some h) ∧
    (∃ (s : State) (h : HandWin), s.twin.handMsg = none ∧ s.twin.hand = some h ∧ h.asHolder = true ∧ h.till ≤ s.now) ∧
    (∃ (s : State) (h : HandWin), s.twin.handMsg = none ∧ s.twin.hand = some h ∧ h.asHolder = false ∧ h.till ≤ s.now) ∧
    (∃ (s : State) (h : HandWin), s.twin.handMsg = some 4 ∧ s.twin.hand = some h ∧ h.asHolder = false ∧ s.twin.holding = true) :=
    ⟨⟨twinAt { holding := true, handReq := some false }, false, 1, by decide +kernel⟩,
    ⟨twinAt { holding := true, handReq := some true, mirror := .inSync, partner := some partnerOk }, true, by decide +kernel⟩,
    ⟨twinAt { handMsg := some 1, mirror := .inSync, partner := some partnerOk }, by decide +kernel⟩,
    ⟨twinAt { handMsg := some 2, holding := true, mirror := .inSync, hand := some ⟨1003277, false, true⟩ }, ⟨1003277, false, true⟩, by decide +kernel⟩,
    ⟨twinAt { handMsg := some 3, holding := true, hand := some ⟨1003277, false, false⟩ }, ⟨1003277, false, false⟩, by decide +kernel⟩,
    ⟨twinAt { holding := true, hand := some ⟨1000000, true, true⟩ }, ⟨1000000, true, true⟩, by decide +kernel⟩,
    ⟨twinAt { holding := true, hand := some ⟨1000000, false, false⟩ }, ⟨1000000, false, false⟩, by decide +kernel⟩,
    ⟨twinAt { handMsg := some 4, holding := true, hand := some ⟨1003277, false, false⟩ }, ⟨1003277, false, false⟩, by decide +kernel⟩⟩

/-- States that meet the hypotheses of MonitorLines. -/
theorem test_hyps_MonitorLines :
    (∃ (s : State), s.loc.keyF.level = some true ∧ s.mon.awaitKey = true ∧ s.dev.core ≠ .off ∧ s.dev.mode ≠ .bedFault) ∧
    (∃ (s : State), s.loc.keyF.level = some true ∧ s.mon.awaitKey = true ∧ s.dev.core ≠ .off ∧ s.dev.mode ≠ .bedFault ∧ s.inBedrock = true) ∧
    (∃ (s : State), s.loc.keyF.level = some false ∧ s.mon.awaitKey = true ∧ s.dev.core ≠ .off ∧ s.dev.mode ≠ .bedFault) ∧
    (∃ (s : State) (c : Byte), s.mon.enabled = true) ∧
    (∃ (s : State) (c : Byte), s.mon.enabled = true ∧ s.mon.busy = false ∧ c ≠ 0x0A ∧ c ≠ 0x0D ∧ c ≠ 0x08 ∧ c ≠ 0x7F) ∧
    (∃ (s : State) (c : Byte), s.mon.enabled = true ∧ s.mon.busy = false ∧ c ≠ 0x0A ∧ c ≠ 0x0D ∧ c ≠ 0x08 ∧ c ≠ 0x7F ∧ 80 ≤ s.mon.line.length) ∧
    (∃ (s : State) (c : Byte), s.mon.enabled = true ∧ s.mon.busy = true) ∧
    (∃ (s : State) (c : MonCmd), s.mon.enabled = true ∧ s.mon.busy = false ∧ s.mon.overrun = false ∧ splitWords [] s.mon.line ≠ [] ∧ parseLine s.mon.line = .ok c) ∧
    (∃ (s : State) (c : MonCmd) (t0 : Nat), s.mon.confirm = some (c, t0) ∧ t0 ≤ s.now) :=
    ⟨⟨{ base .loam with loc := { keyF := { level := some true } }, mon := { awaitKey := true } }, by decide +kernel⟩,
    ⟨{ base .bedBattery with dev := { mode := .bedBattery, released := true, mainsOk := true, core := .running, start := some .mainsReturn }, loc := { keyF := { level := some true } }, mon := { awaitKey := true } }, by decide +kernel⟩,
    ⟨{ base .loam with loc := { keyF := { level := some false } }, mon := { awaitKey := true } }, by decide +kernel⟩,
    ⟨{ base .loam with mon := { enabled := true } }, 0x41, by decide +kernel⟩,
    ⟨{ base .loam with mon := { enabled := true, line := List.replicate 79 0x41 } }, 0x42, by decide +kernel⟩,
    ⟨{ base .loam with mon := { enabled := true, line := List.replicate 80 0x41 } }, 0x42, by decide +kernel⟩,
    ⟨{ base .loam with mon := { enabled := true, busy := true, cmd := some .help, out := ["a", "b"] } }, 0x20, by decide +kernel⟩,
    ⟨{ base .loam with mon := { enabled := true, line := ascii "help" } }, .help, by decide +kernel⟩,
    ⟨{ base .loam with mon := { enabled := true, confirm := some (.cal, 1000000) } }, .cal, 1000000, by decide +kernel⟩⟩

/-- States that meet the hypotheses of MonitorReadCommands. -/
theorem test_hyps_MonitorReadCommands :
    (∃ (s : State), s.mon.cmd = some .help) ∧
    (∃ (s : State), (s.mon.cmd = some (.thumb 0) ∧ s.dev.mode = .sand ∧ s.kiln.running = true ∧ s.ctxUsed 0 = true ∧ s.mov.base (.tile 0) = some 0)) ∧
    (∃ (s : State), (s.mon.cmd = some (.thumb 0) ∧ s.dev.mode ≠ .sand)) ∧
    (∃ (s : State), s.mon.cmd = some .jourFollow) :=
    ⟨⟨{ base .loam with mon := { enabled := true, cmd := some .help } }, by decide +kernel⟩,
    ⟨{ kilnAt ctxOn with mov := { bufs := [⟨.tile 0, 0, 4⟩] }, mon := { enabled := true, cmd := some (.thumb 0) } }, by decide +kernel⟩,
    ⟨{ base .loam with mon := { enabled := true, cmd := some (.thumb 0) } }, by decide +kernel⟩,
    ⟨{ base .loam with mon := { enabled := true, cmd := some .jourFollow } }, by decide +kernel⟩⟩

/-- States that meet the hypotheses of MonitorMaintenance. -/
theorem test_hyps_MonitorMaintenance :
    (∃ (s : State) (i : Instr) (c : MonCmd), s.mon.cmd = some c ∧ s.keyFitted = false ∧ ((i = .cal ∧ c = .cal) ∨ (i = .restrap ∧ c = .restrap) ∨ (i = .pair ∧ ∃ p, c = .pair p) ∨ (i = .quar ∧ ∃ p, c = .quar p) ∨ (i = .readmit ∧ ∃ p, c = .readmit p) ∨ (i = .handover ∧ c = .handover))) ∧
    (∃ (s : State) (i : Instr) (c : MonCmd), s.mon.cmd = some c ∧ s.keyFitted = true ∧ ((i = .cal ∧ c = .cal) ∨ (i = .restrap ∧ c = .restrap) ∨ (i = .pair ∧ ∃ p, c = .pair p) ∨ (i = .quar ∧ ∃ p, c = .quar p) ∨ (i = .readmit ∧ ∃ p, c = .readmit p) ∨ (i = .handover ∧ c = .handover))) ∧
    (∃ (s : State) (p : FabPort), s.mon.confirmed = some (.quar p)) ∧
    (∃ (s : State) (p : FabPort), s.mon.confirmed = some (.readmit p) ∧ (s.fab.port[p]).link = LinkState.quarantined) ∧
    (∃ (s : State), s.mon.confirmed = some .cal) ∧
    (∃ (s : State), s.mon.confirmed = some .restrap ∧ s.bead.phase = .idle ∧ s.bead.req = none ∧ s.bead.deferred = none ∧ s.bead.heldRestrap = false) ∧
    (∃ (s : State) (p : FabPort), s.mon.confirmed = some (.pair p)) ∧
    (∃ (s : State), s.mon.confirmed = some .handover ∧ s.handoverBar = none) :=
    ⟨⟨{ base .loam with mon := { cmd := some .cal }, loc := { keyF := { level := some false } } }, .cal, .cal, by decide +kernel⟩,
    ⟨{ base .loam with mon := { cmd := some .handover }, loc := { keyF := { level := some true } } }, .handover, .handover, by decide +kernel⟩,
    ⟨{ fabAt {} with mon := { confirmed := some (.quar 0) } }, 0, by decide +kernel⟩,
    ⟨{ fabAt { link := .quarantined, quarForever := true } with mon := { confirmed := some (.readmit 0) } }, 0, by decide +kernel⟩,
    ⟨{ base .loam with mon := { confirmed := some .cal } }, by decide +kernel⟩,
    ⟨{ base .loam with mon := { confirmed := some .restrap } }, by decide +kernel⟩,
    ⟨{ fabAt {} with mon := { confirmed := some (.pair 0) } }, 0, by decide +kernel⟩,
    ⟨{ twinAt { holding := true, partner := some partnerOk, mirror := .inSync } with mon := { confirmed := some .handover } }, by decide +kernel⟩⟩

/-- States that meet the hypotheses of StoreReadsBack. -/
theorem test_hyps_StoreReadsBack :
    (∃ (m : Mem) (r : RecId) (content : List Byte), Memory.wf m = true ∧ content.length = r.len) ∧
    (∃ (m : Mem) (a : Nat) (l : List Byte), Memory.wf m = true) :=
    ⟨⟨[], .ageing, zeros RecId.ageing.len, by decide +kernel⟩,
    ⟨[], 5, [1], by decide +kernel⟩⟩

/-- States that meet the hypotheses of BrefAccepted. -/
theorem test_hyps_BrefAccepted :
    (∃ (m : PinMeasure) (r : Nat), brefDelta m = .ok r) ∧
    (∃ (m : PinMeasure) (d : Nat), pinPre m = true ∧ pinDelta m 130000 400000 = some d ∧ 100 * d ≤ 115 * 1024000 ∧ 85 * 1024000 ≤ 100 * d) ∧
    (∃ (s : State) (k : ReadKind) (bref : PinMeasure) (beads : Vector PinMeasure 40), s.bead.phase = .reading k ∧ (∀ r : Nat, brefDelta bref = .ok r → False)) :=
    ⟨⟨pinOf 870400, 870400, by decide +kernel⟩,
    ⟨pinOf 870400, 870400, by decide +kernel⟩,
    ⟨{ base .loam with bead := { effs [] with phase := .reading .restrap } }, .restrap, pinOf 870399, Vector.replicate 40 (pinOf 1024000), by decide +kernel, by intro r h; cases h⟩⟩

/-- States that meet the hypotheses of HoldTimer. -/
theorem test_hyps_HoldTimer :
    (∃ (s : State), s.dev.accepted ≠ [] ∧ (s.dev.mode = .loam ∨ s.dev.mode = .sand) ∧ s.dev.fatal = []) ∧
    (∃ (s : State), s.pending = [] ∧ s.dev.released = true ∧ s.dev.mode = .sand ∧ s.levelHolds = false ∧ s.dev.mainsLow = false) ∧
    (∃ (now secs end_ : Nat), end_ = (now / 1024 + (secs * 32 + (if now % 1024 = 0 then 0 else 1))) * 1024) :=
    ⟨⟨{ base .loam with dev := { mode := .loam, released := true, mainsOk := true, core := .running, accepted := [.tamper] } }, by decide +kernel⟩,
    ⟨{ base .sand with dev := { mode := .sand, released := true, mainsOk := true, core := .running, hold := 5 } }, by decide +kernel⟩,
    ⟨5, 10, 321 * 1024, by decide +kernel⟩⟩

/-- States that meet the hypotheses of FilterLevels. -/
theorem test_hyps_FilterLevels :
    (∃ (f : Filter) (n : Nat) (x : Bool), 0 < n ∧ f.level ≠ some x ∧ f.run = 0) ∧
    (∃ (f : Filter) (n k : Nat) (x : Bool), 0 < n ∧ k < n ∧ f.run = 0) ∧
    (∃ (f : Filter) (n : Nat) (x y : Bool) (k : Nat), f.level = some x ∧ y ≠ x ∧ f.run = 0 ∧ k < n) :=
    ⟨⟨{}, 20, true, by decide +kernel⟩,
    ⟨{}, 20, 19, true, by decide +kernel⟩,
    ⟨{ level := some true }, 20, true, false, 19, by decide +kernel⟩⟩

/-- States that meet the hypotheses of Rounding. -/
theorem test_hyps_Rounding :
    (∃ (n : Int) (d : Nat), 0 < d) ∧
    (∃ (n d : Nat), 0 < d) ∧
    (∃ (n d k : Nat), 0 < d) ∧
    (∃ (n k : Int) (d : Nat), 0 < d) :=
    ⟨⟨-5, 2, by decide +kernel⟩,
    ⟨5, 2, by decide +kernel⟩,
    ⟨5, 2, 3, by decide +kernel⟩,
    ⟨-7, -4, 2, by decide +kernel⟩⟩

/-- States that meet the hypotheses of EntryNumbers. -/
theorem test_hyps_EntryNumbers :
    (∃ (n : BitVec 32), n ≠ 0xFFFFFFFE#32) ∧
    (∃ (s : State) (code data : Nat), s.takesEntry code) :=
    ⟨⟨5, by decide +kernel⟩,
    ⟨base .loam, 0x01, 5, by exact ⟨by decide +kernel, 0, by decide +kernel⟩⟩⟩

/-- States that meet the hypotheses of LoopWord. -/
theorem test_hyps_LoopWord :
    (∃ (s : State) (ch : MovCh) (target count : Nat) (k : Fin 2), s.running ch = some (.loop target count k)) ∧
    (∃ (s : State) (ch : MovCh) (target count : Nat) (k : Fin 2), s.running ch = some (.loop target count k) ∧ (count = 1 ∧ (s.mov.chan[ch]).loops[k] = none)) ∧
    (∃ (s : State) (ch : MovCh) (target count : Nat) (k : Fin 2), s.running ch = some (.loop target count k) ∧ (count = 2 ∧ (s.mov.chan[ch]).loops[k] = none)) ∧
    (∃ (s : State) (ch : MovCh) (target count : Nat) (k : Fin 2), s.running ch = some (.loop target count k) ∧ (count = 2 ∧ (s.mov.chan[ch]).loops[k] = some 1)) ∧
    (∃ (s : State) (ch : MovCh) (target count : Nat) (k : Fin 2), s.running ch = some (.loop target count k) ∧ (count = 2 ∧ (s.mov.chan[ch]).loops[k] = some 2)) :=
    ⟨⟨movAt (word 2 (7 * 2 ^ 111)), 0, 7, 0, 0, by decide +kernel⟩,
    ⟨movAt (word 2 (7 * 2 ^ 111 + 1 * 2 ^ 95)), 0, 7, 1, 0, by decide +kernel⟩,
    ⟨movAt (word 2 (7 * 2 ^ 111 + 2 * 2 ^ 95)), 0, 7, 2, 0, by decide +kernel⟩,
    ⟨movAt (word 2 (7 * 2 ^ 111 + 2 * 2 ^ 95)) { state := .run, loops := #v[some 1, none] }, 0, 7, 2, 0, by decide +kernel⟩,
    ⟨movAt (word 2 (7 * 2 ^ 111 + 2 * 2 ^ 95)) { state := .run, loops := #v[some 2, none] }, 0, 7, 2, 0, by decide +kernel⟩⟩

/-- States that meet the hypotheses of Channel31Share. -/
theorem test_hyps_Channel31Share :
    (∃ (s t : State) (d : MovCh), d ≠ 31 ∧ s.requests d = true) ∧
    (∃ (s : State) (d : MovCh), d ≠ 31 ∧ s.requests d = true ∧ s.mov.since31 < 7) :=
    ⟨⟨movAt (word 5 (16128 * 2 ^ 56 + 256 * 2 ^ 40 + 1 * 2 ^ 28)), movAt (word 5 (16128 * 2 ^ 56 + 256 * 2 ^ 40 + 1 * 2 ^ 28)), 0, by decide +kernel⟩,
    ⟨{ movAt (word 5 (16128 * 2 ^ 56 + 256 * 2 ^ 40 + 1 * 2 ^ 28)) with mov := { (movAt (word 5 (16128 * 2 ^ 56 + 256 * 2 ^ 40 + 1 * 2 ^ 28))).mov with since31 := 6 } }, 0, by decide +kernel⟩⟩

/-- States that meet the hypotheses of MemoriesKept and QueueKept: a step that runs a command. -/
theorem test_hyps_MemoriesKept :
    ∃ s t : State, s.memoriesWf = true ∧ s.pending ≠ [] ∧ step s = .next t :=
    ⟨{ base .loam with pending := [.fifoFlush .kilnIn] }, base .loam, by decide +kernel, by decide +kernel, rfl⟩

/-- Two VALID slots with the same number, with the second the newer one, and with the first the newer one. -/
theorem test_hyps_NewerSlot :
    (∃ (m : Mem) (r : RecId) (a b : Nat), classify m r false = .valid a ∧ classify m r true = .valid b ∧ a ≠ b ∧
      (b + 2 ^ 32 - a) % 2 ^ 32 < 2 ^ 31) ∧
    (∃ (m : Mem) (r : RecId) (a b : Nat), classify m r false = .valid a ∧ classify m r true = .valid b ∧ a ≠ b ∧
      (a + 2 ^ 32 - b) % 2 ^ 32 < 2 ^ 31) :=
  ⟨⟨slots 2, .device, 1, 2, by decide +kernel⟩,
   ⟨slots 3, .device, 3, 2, by decide +kernel⟩⟩

end Sys2Proof.Tests
end

namespace Sys2Proof.Machine

/-! Rounding (R650): rdivNat and cdiv on naturals, and rdiv from rdivNat by the sign of the dividend. -/

theorem rdiv_natCast (m d : Nat) : rdiv m d = rdivNat m d := by
  rw [rdiv, if_neg (by omega), Int.natAbs_natCast, rdivNat]

/-- A divisor of 0 is included: Lean's division by 0 gives 0. -/
@[simp] theorem rdivNat_zero (d : Nat) : rdivNat 0 d = 0 :=
  Nat.div_eq_zero_iff.mpr (by omega)

/-- Rounding is symmetric about 0: the size of the quotient does not depend on the sign. -/
theorem rdiv_neg_natCast (m d : Nat) : rdiv (-m) d = -rdivNat m d := by
  obtain rfl | hm := m.eq_zero_or_pos
  · simpa using rdiv_natCast 0 d
  · have hneg : -(m : Int) < 0 := by omega
    rw [rdiv, if_pos hneg, Int.natAbs_neg, Int.natAbs_natCast, rdivNat]

/-- The two bounds differ in strictness: that is what sends a half up. -/
theorem rdivNat_bounds (m : Nat) {d : Nat} (hd : 0 < d) :
    2 * (d * rdivNat m d) ≤ 2 * m + d ∧ 2 * m < 2 * (d * rdivNat m d) + d := by
  have hle : 2 * d * rdivNat m d ≤ 2 * m + d := Nat.mul_div_le _ _
  have hlt : 2 * m + d < 2 * d * (rdivNat m d + 1) := Nat.lt_mul_div_succ _ (by omega)
  rw [mul_add_one, mul_assoc] at hlt
  rw [mul_assoc] at hle
  omega

/-- The nearest integer, and at a tie the one farther from zero (R650). -/
theorem rdiv_nearest (n : Int) {d : Nat} (hd : 0 < d) :
    2 * ((d : Int) * rdiv n d - n).natAbs ≤ d ∧
      (2 * ((d : Int) * rdiv n d - n).natAbs = d → n.natAbs < ((d : Int) * rdiv n d).natAbs) := by
  obtain ⟨m, hn⟩ := n.eq_nat_or_neg
  have hbounds := rdivNat_bounds m hd
  obtain rfl | rfl := hn
  · rw [rdiv_natCast, ← Nat.cast_mul]
    omega
  · rw [rdiv_neg_natCast, mul_neg, ← Nat.cast_mul]
    omega

theorem cdiv_le_iff (n k : Nat) {d : Nat} (hd : 0 < d) : cdiv n d ≤ k ↔ n ≤ k * d := by
  rw [cdiv, ← Nat.ceilDiv_eq_add_pred_div, ceilDiv_le_iff_le_mul hd, mul_comm]

/-- Settles O57: each direction of rounding by its own law, and division down by the library's. -/
theorem rounding : Obligations.Rounding :=
  ⟨fun n _ hd => rdiv_nearest n hd,
   fun n d _ => (rdiv_natCast n d).symm,
   fun n _ k hd => cdiv_le_iff n k hd,
   fun _ _ _ hd => Int.le_ediv_iff_mul_le (by omega)⟩

end Sys2Proof.Machine

namespace Sys2Proof.Machine

/-! Loops over the ports, paths and outputs: what a loop keeps, and what it does to each element of a vector. -/

/-- What every step of a loop keeps, the loop keeps. -/
theorem foldl_keeps {α β γ : Type} {f : β → α → β} (g : β → γ) {l : List α} (h : ∀ b, ∀ a ∈ l, g (f b a) = g b) (b : β) :
    g (l.foldl f b) = g b := by
  induction l generalizing b with
  | nil => rfl
  | cons a l ih =>
    rw [List.foldl_cons, ih fun b a ha => h b a (List.mem_cons_of_mem _ ha), h b a List.mem_cons_self]

/-- A loop whose steps each change one element of a view, the step's own, by a rule that an invariant of the loop fixes. -/
theorem foldl_pointwise {ι β : Type} [DecidableEq ι] {f : State → ι → State} (g : State → ι → β) (φ : ι → β → β)
    (Inv : State → Prop) (hinv : ∀ t k, Inv t → Inv (f t k))
    (hf : ∀ t k j, Inv t → g (f t k) j = if j = k then φ k (g t k) else g t j)
    {l : List ι} (hl : l.Nodup) (s : State) (hs : Inv s) (j : ι) :
    g (l.foldl f s) j = if j ∈ l then φ j (g s j) else g s j := by
  induction l generalizing s with
  | nil => rfl
  | cons k l ih =>
    obtain ⟨hk, hl⟩ := List.nodup_cons.mp hl
    rw [List.foldl_cons, ih hl _ (hinv s k hs), hf s k j hs]
    by_cases hj : j = k
    · subst hj; simp [hk]
    · simp [hj]

/-- The loop over all elements. -/
theorem foldl_finRange {n : Nat} {β : Type} {f : State → Fin n → State} (g : State → Fin n → β) (φ : Fin n → β → β)
    (Inv : State → Prop) (hinv : ∀ t k, Inv t → Inv (f t k))
    (hf : ∀ t k j, Inv t → g (f t k) j = if j = k then φ k (g t k) else g t j)
    (s : State) (hs : Inv s) (j : Fin n) : g ((List.finRange n).foldl f s) j = φ j (g s j) := by
  rw [foldl_pointwise g φ Inv hinv hf (List.nodup_finRange n) s hs j, if_pos (List.mem_finRange j)]

/-! What queueing frames can change in the fabric. -/

/-- Between two states of the fabric only frames of this device were queued and sent, and a link-state origination
fell due. -/
structure Fab.Sends (a b : Fab) : Prop where
  rest : b = { a with port := b.port, seqs := b.seqs, lsDue := b.lsDue }
  link : ∀ p : FabPort, (b.port[p]).link = (a.port[p]).link

namespace Fab.Sends
variable {a b c : Fab}

theorem refl (a : Fab) : a.Sends a := ⟨rfl, fun _ => rfl⟩
theorem trans (h : a.Sends b) (k : b.Sends c) : a.Sends c :=
  ⟨k.rest.trans (by rw [h.rest]), fun p => (k.link p).trans (h.link p)⟩
theorem tstate (h : a.Sends b) : b.tstate = a.tstate := by rw [h.rest]

end Fab.Sends

theorem FPort.emit_link (q : FPort) (now : Nat) (f : Frame) : (q.emit now f).link = q.link := by
  unfold FPort.emit; dsimp only; split
  · split <;> rfl
  · rfl

theorem FPort.drainList_link (cls : Fin 2) (now : Nat) (l : List TxFrame) (q : FPort) :
    (FPort.drainList cls now l q).1.link = q.link := by
  induction l generalizing q with
  | nil => rfl
  | cons t l ih =>
    unfold FPort.drainList; dsimp only; split
    · rw [ih, FPort.emit_link]
    · rfl

theorem FPort.markStall_link (q : FPort) (cls : Fin 2) (now : Nat) (left : Bool) :
    (q.markStall cls now left).link = q.link := by
  unfold FPort.markStall
  extract_lets q1
  have h : q1.link = q.link := by unfold q1; split <;> rfl
  split
  · exact h
  · split
    · exact h
    · split <;> exact h

theorem FPort.drain_link (q : FPort) (now : Nat) (carried : Bool) : (q.drain now carried).link = q.link := by
  unfold FPort.drain; split
  · rw [FPort.markStall_link, FPort.markStall_link]
    split
    · exact (FPort.drainList_link ..).trans (FPort.drainList_link ..)
    · exact FPort.drainList_link ..
  · rfl

theorem FPort.queueFrame_link (q : FPort) (now : Nat) (f : Frame) (forwarded carried : Bool) :
    (q.queueFrame now f forwarded carried).link = q.link := by
  unfold FPort.queueFrame; split
  · exact FPort.drain_link ..
  · rfl

section sends
variable (s : State)

theorem State.updPort_sends (p : FabPort) {f : FPort → FPort} (h : ∀ q, (f q).link = q.link) :
    s.fab.Sends (s.updPort p f).fab := by
  refine ⟨rfl, fun j => ?_⟩
  by_cases hj : j = p
  · subst hj; rw [State.updPort_self, h]
  · rw [State.updPort_other _ _ _ _ hj]

theorem State.nextSeq_sends (a b : Nat) : s.fab.Sends (s.nextSeq a b).2.fab := by
  unfold State.nextSeq; dsimp only; split <;> exact ⟨rfl, fun _ => rfl⟩

theorem State.queueOn_sends (f : Frame) (b : Bool) (l : List FabPort) : s.fab.Sends (s.queueOn f b l).fab := by
  induction l generalizing s with
  | nil => exact .refl _
  | cons p l ih =>
    refine Fab.Sends.trans ?_ (ih _)
    split
    · exact s.updPort_sends p fun q => q.queueFrame_link ..
    · exact .refl _

theorem State.originate_sends (a b : Nat) (d c : BitVec 12) (l : List Byte) (ps : List FabPort) :
    s.fab.Sends (s.originate a b d c l ps).fab := (s.nextSeq_sends a b).trans (State.queueOn_sends ..)

theorem State.sendMirror_sends (k : Nat) (l : List Byte) : s.fab.Sends (s.sendMirror k l).fab := by
  unfold State.sendMirror; split
  · exact .refl _
  · dsimp only
    unfold State.mirrorOut; split
    · split
      · exact State.originate_sends ..
      · exact .refl _
    · exact .refl _

theorem State.journal_sends (code data : Nat) : s.fab.Sends (s.journal code data).fab := by
  have hf {t : State} : (t.addTally 23 1).fab = t.fab := State.addTally_changes t 23 1 .fabric (by decide)
  unfold State.journal State.journalEntry; split
  · exact .refl _
  · split
    · exact .refl _
    · split
      · rw [hf]; exact .refl _
      · dsimp only; split
        · exact .refl _
        · refine Fab.Sends.trans ?_ (State.sendMirror_sends ..)
          split <;> exact .refl _

theorem State.lsChange_sends : s.fab.Sends s.lsChange.fab := by
  unfold State.lsChange; split
  · exact .refl _
  · exact ⟨rfl, fun _ => rfl⟩

end sends
end Sys2Proof.Machine

namespace Sys2Proof.Machine

/-! What the bookkeeping at the end of a meaning can change: entries, tallies, rates, alarm outputs and frames. -/

/-- The parts that bookkeeping changes freely. -/
def bookParts : List Part :=
  [.wiring, .pathTallies, .deviceTallies, .journal, .writes, .tallyRest, .twin]

/-- Between two states only bookkeeping was done: the mode times, the clamps, the XO demands, the periods of the paths and
what queueing frames changes, beside the parts that are free. -/
structure Bookkeeping (s t : State) : Prop where
  dev : ∃ k, t.dev = { s.dev with modeTicks := k }
  bead : ∃ c, t.bead = { s.bead with clamp := c }
  clk : ∃ d, t.clk = { s.clk with demands := d }
  tr : ∃ v, t.tr = { s.tr with path := v }
  fab : s.fab.Sends t.fab
  rest : ChangesOnly ([.device, .beads, .clocks, .sounding, .fabric] ++ bookParts) s t

namespace Bookkeeping
variable {s t u : State}

theorem refl (s : State) : Bookkeeping s s :=
  ⟨⟨_, rfl⟩, ⟨_, rfl⟩, ⟨_, rfl⟩, ⟨_, rfl⟩, .refl _, .refl _ s⟩

theorem trans (h : Bookkeeping s t) (k : Bookkeeping t u) : Bookkeeping s u := by
  obtain ⟨⟨_, hd⟩, ⟨_, hb⟩, ⟨_, hc⟩, ⟨_, ht⟩, hf, hr⟩ := h
  obtain ⟨⟨_, kd⟩, ⟨_, kb⟩, ⟨_, kc⟩, ⟨_, kt⟩, kf, kr⟩ := k
  exact ⟨⟨_, by rw [kd, hd]⟩, ⟨_, by rw [kb, hb]⟩, ⟨_, by rw [kc, hc]⟩, ⟨_, by rw [kt, ht]⟩, hf.trans kf, hr.trans kr⟩

/-- An operation on free parts and the fabric. -/
theorem of_sends {ps : List Part} (h : ChangesOnly ps s t) (hps : ps ⊆ .fabric :: bookParts) (hf : s.fab.Sends t.fab) :
    Bookkeeping s t := by
  have h' := h.mono hps
  have hd : t.dev = s.dev := h' .device (by decide)
  have hb : t.bead = s.bead := h' .beads (by decide)
  have hc : t.clk = s.clk := h' .clocks (by decide)
  have ht : t.tr = s.tr := h' .sounding (by decide)
  exact ⟨⟨_, hd⟩, ⟨_, hb⟩, ⟨_, hc⟩, ⟨_, ht⟩, hf, h'.mono (by decide)⟩

/-- An operation on free parts only. -/
theorem of_free {ps : List Part} (h : ChangesOnly ps s t) (hps : ps ⊆ bookParts) : Bookkeeping s t := by
  have hf : t.fab = s.fab := h.mono hps .fabric (by decide)
  exact of_sends h (List.subset_cons_of_subset _ hps) (hf ▸ .refl _)

/-- A loop does bookkeeping where its body does. -/
theorem foldl {α : Type} {f : State → α → State} (h : ∀ s a, Bookkeeping s (f s a)) (l : List α) (s : State) :
    Bookkeeping s (l.foldl f s) := by
  induction l generalizing s with
  | nil => exact .refl s
  | cons a l ih => exact (h s a).trans (ih (f s a))

theorem mode (h : Bookkeeping s t) : t.dev.mode = s.dev.mode := by obtain ⟨_, e⟩ := h.dev; rw [e]
theorem now (h : Bookkeeping s t) : t.now = s.now := by obtain ⟨_, e⟩ := h.clk; unfold State.now; rw [e]
theorem cam (h : Bookkeeping s t) : t.cam = s.cam := h.rest .cameras (by decide)
theorem rcp (h : Bookkeeping s t) : t.rcp = s.rcp := h.rest .recipes (by decide)
theorem kiln (h : Bookkeeping s t) : t.kiln = s.kiln := h.rest .kiln (by decide)
theorem pool (h : Bookkeeping s t) : t.mov.pool = s.mov.pool := h.rest .pool (by decide)
theorem head (h : Bookkeeping s t) : t.head = s.head := h.rest .head (by decide)
theorem mon (h : Bookkeeping s t) : t.mon = s.mon := h.rest .monitor (by decide)
theorem draws (h : Bookkeeping s t) : t.draws = s.draws := h.rest .draws (by decide)
theorem pending (h : Bookkeeping s t) : t.pending = s.pending := h.rest .pending (by decide)
theorem link (h : Bookkeeping s t) (p : FabPort) : (t.fab.port[p]).link = (s.fab.port[p]).link := h.fab.link p

end Bookkeeping

/-- The movers are the same where both of their parts are. -/
theorem ChangesOnly.mov {ps : List Part} {s t : State} (h : ChangesOnly ps s t) (hm : Part.movers ∉ ps)
    (hp : Part.pool ∉ ps) : t.mov = s.mov := by
  have hpool : t.mov.pool = s.mov.pool := h .pool hp
  have hrest : s.mov.restSame t.mov := h .movers hm
  cases ht : t.mov; cases hs : s.mov
  simp_all [Mov.restSame]


section operations
variable (s : State)

theorem State.journal_book (code data : Nat) : Bookkeeping s (s.journal code data) :=
  .of_sends (s.journal_le code data) (by decide) (s.journal_sends code data)

theorem State.demand_book (d : XoDemand) : Bookkeeping s (s.demand d) := by
  unfold State.demand; split
  · exact .refl s
  · exact ⟨⟨_, rfl⟩, ⟨_, rfl⟩, ⟨_, rfl⟩, ⟨_, rfl⟩, .refl _, (changes_clk s _).mono (by decide)⟩

theorem State.undemand_book (d : XoDemand) : Bookkeeping s (s.undemand d) :=
  ⟨⟨_, rfl⟩, ⟨_, rfl⟩, ⟨_, rfl⟩, ⟨_, rfl⟩, .refl _, (changes_clk s _).mono (by decide)⟩

theorem State.addTally_book (n k : Nat) : Bookkeeping s (s.addTally n k) :=
  .of_free (s.addTally_changes n k) (by decide)

theorem State.settle_book : Bookkeeping s s.settle := .of_free s.settle_changes (by decide)
theorem State.stateChanged_book : Bookkeeping s s.stateChanged := .of_free s.stateChanged_changes (by decide)

/-- The mode times are carried into the tallies one by one. -/
theorem State.readSources_book : Bookkeeping s s.readSources := by
  have tally (t : State) (l : Tal) (h : ChangesOnly [.tallyRest] t { t with tal := l }) (n k : Nat) :
      Bookkeeping t ((({ t with tal := l } : State)).addTally n k) :=
    (Bookkeeping.of_free h (by decide)).trans (State.addTally_book _ n k)
  unfold State.readSources; split
  · exact .refl s
  · refine Bookkeeping.trans ?_ (Bookkeeping.foldl (fun t m => ?_) _ _)
    · refine Bookkeeping.trans ?_ (Bookkeeping.foldl (fun t z => ?_) _ _)
      · refine (tally s _ ?_ _ _).trans (State.addTally_book _ _ _)
        intro q hq; cases q <;> simp_all [Part.same, Mov.restSame]
      · refine tally t _ ?_ _ _
        intro q hq; cases q <;> simp_all [Part.same, Mov.restSame]
    · refine Bookkeeping.trans ?_ (State.addTally_book _ _ _)
      exact ⟨⟨_, rfl⟩, ⟨_, rfl⟩, ⟨_, rfl⟩, ⟨_, rfl⟩, .refl _, (changes_dev t _).mono (by decide)⟩

theorem State.modeTallies_book : Bookkeeping s s.modeTallies :=
  (s.readSources_book.trans (.of_free (State.requestPaths_changes _) (by decide))).trans
    (.of_free (State.requestDeviceTallies_changes _) (by decide))

theorem State.setPeriods_book : Bookkeeping s s.setPeriods :=
  ⟨⟨_, rfl⟩, ⟨_, rfl⟩, ⟨_, rfl⟩, ⟨_, rfl⟩, .refl _, s.setPeriods_changes.mono (by decide)⟩

theorem State.applyRates_book : Bookkeeping s s.applyRates := by
  refine Bookkeeping.trans ?_ (State.setPeriods_book _)
  refine Bookkeeping.trans (t := _) ?_ (Bookkeeping.foldl (fun t g => ?_) _ _)
  · exact ⟨⟨_, rfl⟩, ⟨_, rfl⟩, ⟨_, rfl⟩, ⟨_, rfl⟩, .refl _, (changes_bead s _).mono (by decide)⟩
  · dsimp only; split
    · exact State.journal_book t _ _
    · exact .refl t

/-- The state with a mode put in force, before its entry and its rates (R25). -/
def State.withMode (s : State) (m : Mode) : State :=
  { s with dev := { s.dev with mode := m, hold := if m.bedrock then 0 else s.dev.hold } }

/-- Beside the mode and the hold, a change of mode is bookkeeping. -/
theorem State.setMode_book (m : Mode) : Bookkeeping (s.withMode m) (s.setMode m) := by
  have tallied (t : State) : Bookkeeping t (if m = .sand then t.addTally 12 1 else t) := by
    split
    · exact t.addTally_book 12 1
    · exact .refl t
  have demanded (t : State) :
      Bookkeeping t (if m = .sand ∨ m = .bedFault then t.demand .mainsMode else t.undemand .mainsMode) := by
    split
    · exact t.demand_book _
    · exact t.undemand_book _
  unfold State.setMode
  extract_lets old d s1 s2 s3 s4
  have h2 : Bookkeeping s1 s2 := s1.journal_book _ _
  have h3 : Bookkeeping s2 s3 := tallied s2
  have h4 : Bookkeeping s3 s4 := demanded s3
  exact ((((h2.trans h3).trans h4).trans s4.modeTallies_book).trans (State.applyRates_book _)).trans
    (State.stateChanged_book _)

theorem State.setMode_clk (m : Mode) : ∃ d, (s.setMode m).clk = { s.clk with demands := d } := (s.setMode_book m).clk
theorem State.setMode_tr (m : Mode) : ∃ v, (s.setMode m).tr = { s.tr with path := v } := (s.setMode_book m).tr

end operations
end Sys2Proof.Machine

namespace Sys2Proof.Machine

/-! Guarded outcomes. -/

theorem occurs_of {g : Bool} {s t : State} (h : g = true) : occurs g s t = .next t := h ▸ occurs_true s t
theorem occurs_of_not {g : Bool} {s t : State} (h : g = false) : occurs g s t = .next s := h ▸ occurs_false s t

/-! Entries of the journal (R275 to R277). -/

theorem ChangesOnly.takesEntry {ps : List Part} {s t : State} (h : ChangesOnly ps s t) (hj : Part.journal ∉ ps)
    (hb : Part.beads ∉ ps) (code : Nat) : t.takesEntry code ↔ s.takesEntry code := by
  obtain ⟨-, hq, -⟩ : t.tal.jNext = s.tal.jNext ∧ t.tal.jQueue = s.tal.jQueue ∧ _ := h .journal hj
  have hbead : t.bead = s.bead := h .beads hb
  simp only [State.takesEntry, State.verbosity, State.eff, hq, hbead]

/-- An entry that the port takes is journalled, whatever the twin role. -/
theorem State.journal_logs {s : State} {code : Nat} (h : s.takesEntry code) (data : Nat) :
    LogsEntry s (s.journal code data) code data := by
  obtain ⟨hroom, l, hl, hv⟩ := h
  have mirrored (t : State) (k : Nat) (b : List Byte) :
      (t.sendMirror k b).tal.jNext = t.tal.jNext ∧ (t.sendMirror k b).tal.jQueue = t.tal.jQueue :=
    ⟨(t.sendMirror_changes k b .journal (by decide)).1, (t.sendMirror_changes k b .journal (by decide)).2.1⟩
  have hv' : ¬ s.verbosity < l := by omega
  have hroom' : ¬ 33 ≤ s.tal.jQueue.length := by omega
  unfold State.journal State.journalEntry
  simp only [hl, if_neg hv', if_neg hroom']
  split
  · exact ⟨rfl, _, rfl, rfl, rfl, rfl⟩
  · refine ⟨(mirrored ..).1.trans ?_, s.entryNow s.tal.jNext code data, (mirrored ..).2.trans ?_, rfl, rfl, rfl⟩ <;>
      split <;> rfl

/-- What goes before an entry and after it, away from the journal, does not count. -/
theorem LogsEntry.within {ps qs : List Part} {s s1 t1 t : State} {code data : Nat} (k : LogsEntry s1 t1 code data)
    (h : ChangesOnly ps s s1) (g : ChangesOnly qs t1 t) (hp : Part.journal ∉ ps) (hq : Part.journal ∉ qs) :
    LogsEntry s t code data := by
  obtain ⟨hn, hl, -⟩ : s1.tal.jNext = s.tal.jNext ∧ s1.tal.jQueue = s.tal.jQueue ∧ _ := h .journal hp
  obtain ⟨gn, gl, -⟩ : t.tal.jNext = t1.tal.jNext ∧ t.tal.jQueue = t1.tal.jQueue ∧ _ := g .journal hq
  obtain ⟨kn, e, kl, he⟩ := k
  rw [hn] at kn he
  rw [hl] at kl
  exact ⟨gn.trans kn, e, gl.trans kl, he⟩

/-- Other parts first, then an entry. -/
theorem ChangesOnly.then_journal {ps : List Part} {s t : State} (h : ChangesOnly ps s t) (hb : Part.beads ∉ ps)
    (code data : Nat) : ChangesOnly (ps ++ s.journalling) s (t.journal code data) := by
  have k := t.journal_changes code data
  rw [h.journalling hb] at k
  exact h.join k

/-- An entry first, then other parts. -/
theorem ChangesOnly.of_journal {ps : List Part} {s t : State} {code data : Nat} (h : ChangesOnly ps (s.journal code data) t) :
    ChangesOnly (ps ++ s.journalling) s t :=
  ((s.journal_changes code data).mono (List.subset_append_right _ _)).trans (h.mono (List.subset_append_left _ _))

/-- More of the same parts after what an entry is among. -/
theorem ChangesOnly.more {ps qs js : List Part} {s t u : State} (h : ChangesOnly (ps ++ js) s t) (k : ChangesOnly qs t u)
    (hq : qs ⊆ ps) : ChangesOnly (ps ++ js) s u := h.trans (k.mono (List.subset_append_of_subset_left _ hq))

/-! One camera port and all of them (R280, R313). -/

/-- A camera port put OFF: the sensor stops, and its clock (R313). -/
def CamSt.putOff (q : CamSt) (now : Nat) : CamSt := { ({ q with state := .off } : CamSt).stopped now with mclk := false }

@[simp] theorem CamSt.putOff_state (q : CamSt) (now : Nat) : (q.putOff now).state = .off := by
  simp only [CamSt.putOff, CamSt.stopped, CamSt.setCen]; split <;> rfl
@[simp] theorem CamSt.putOff_mclk (q : CamSt) (now : Nat) : (q.putOff now).mclk = false := rfl
@[simp] theorem CamSt.putOff_cen (q : CamSt) (now : Nat) : (q.putOff now).cen = false := by
  simp only [CamSt.putOff, CamSt.stopped, CamSt.setCen]; split
  · assumption
  · rfl

section cameras
variable (s : State)

theorem State.updCam_cam (k : CamPort) (f : CamSt → CamSt) (j : CamPort) :
    (s.updCam k f).cam[j] = if j = k then f s.cam[k] else s.cam[j] := by
  split
  · subst j; exact s.updCam_self k f
  · exact s.updCam_other k f j ‹_›

theorem State.setCam_cam (k : CamPort) (st : PortState) (j : CamPort) :
    (s.setCam k st).cam[j] = if j = k then { s.cam[k] with state := st } else s.cam[j] := by
  by_cases h : (s.cam[k]).state = st
  · rw [State.setCam, if_pos h]
    split
    · subst j; subst h; rfl
    · rfl
  · rw [State.setCam, if_neg h]
    exact (congrArg (·[j]) (State.journal_book _ _ _).cam).trans (s.updCam_cam k (fun q => { q with state := st }) j)

/-- The parts that a port put OFF can change. -/
theorem State.putOff_changes (k : CamPort) (f : CamSt → CamSt) :
    ChangesOnly [.cameras, .journal, .deviceTallies, .fabric, .twin] s ((s.setCam k .off).updCam k f) :=
  (s.setCam_changes k .off).trans ((State.updCam_changes _ k f).mono (by decide))

theorem State.putOff_cam (k : CamPort) (now : Nat) (j : CamPort) :
    ((s.setCam k .off).updCam k fun q => { q.stopped now with mclk := false }).cam[j] =
      if j = k then (s.cam[k]).putOff now else s.cam[j] := by
  rw [State.updCam_cam]
  split
  · rw [State.setCam_cam, if_pos rfl]; rfl
  · rw [State.setCam_cam, if_neg ‹_›]

theorem ChangesOnly.now {ps : List Part} {s t : State} (h : ChangesOnly ps s t) (k : Part.clocks ∉ ps) : t.now = s.now :=
  congrArg Clk.tick (h .clocks k)

/-- The cameras are the same port by port. -/
theorem ChangesOnly.camState {ps : List Part} {s t : State} (h : ChangesOnly ps s t) (hc : Part.cameras ∉ ps) (k : CamPort) :
    (t.cam[k]).state = (s.cam[k]).state := by
  have hcam : t.cam = s.cam := h .cameras hc
  rw [hcam]

theorem State.camsOff_changes : ChangesOnly [.cameras, .journal, .deviceTallies, .fabric, .twin] s s.camsOff :=
  ChangesOnly.foldl (fun t k => t.putOff_changes k _) _ s

theorem State.camsOff_cam (k : CamPort) : s.camsOff.cam[k] = (s.cam[k]).putOff s.now := by
  refine foldl_finRange (fun t (k : CamPort) => t.cam[k]) (fun _ q => q.putOff s.now) (fun t => t.now = s.now)
    (fun t k ht => ((t.putOff_changes k _).now (by decide)).trans ht) (fun t k j ht => ?_) s rfl k
  rw [← ht]
  exact t.putOff_cam k t.now j

theorem State.mclkOff_changes (k : CamPort) : ChangesOnly [.clocks] s (s.mclkOff k) := by
  unfold State.mclkOff; dsimp only; split
  · exact s.armOut_changes _ _ _
  · exact .refl _ s
theorem State.mclkOff_cam (k : CamPort) : (s.mclkOff k).cam = s.cam := s.mclkOff_changes k .cameras (by decide)
theorem State.mclkOff_now (k : CamPort) : (s.mclkOff k).now = s.now := by
  unfold State.mclkOff; dsimp only; split <;> rfl

/-- A port put OFF with its clock, which stops at the boundary (R313). -/
theorem State.shutCam_changes (k : CamPort) (f : CamSt → CamSt) :
    ChangesOnly [.clocks, .cameras, .journal, .deviceTallies, .fabric, .twin] s (((s.mclkOff k).setCam k .off).updCam k f) :=
  ((s.mclkOff_changes k).mono (by decide)).trans ((State.putOff_changes _ k f).mono (by decide))
theorem State.shutCam_now (k : CamPort) (f : CamSt → CamSt) : (((s.mclkOff k).setCam k .off).updCam k f).now = s.now :=
  (((s.mclkOff k).putOff_changes k f).now (by decide)).trans (s.mclkOff_now k)
theorem State.shutCam_cam (k : CamPort) (now : Nat) (j : CamPort) :
    (((s.mclkOff k).setCam k .off).updCam k fun q => { q.stopped now with mclk := false }).cam[j] =
      if j = k then (s.cam[k]).putOff now else s.cam[j] := by
  rw [State.putOff_cam, State.mclkOff_cam]

/-- The ports in RESTART, and only those, are OFF (§7.9). -/
theorem State.restartsOff_changes :
    ChangesOnly [.clocks, .cameras, .journal, .deviceTallies, .fabric, .twin] s s.restartsOff :=
  ChangesOnly.foldl (fun t k => by
    split
    · exact t.shutCam_changes k _
    · exact .refl _ t) _ s

theorem State.restartsOff_cam (k : CamPort) :
    s.restartsOff.cam[k] = if (s.cam[k]).state = .restart then (s.cam[k]).putOff s.now else s.cam[k] := by
  refine foldl_finRange (fun t (k : CamPort) => t.cam[k]) (fun _ q => if q.state = .restart then q.putOff s.now else q)
    (fun t => t.now = s.now) (fun t k ht => ?_) (fun t k j ht => ?_) s rfl k
  · split
    · exact (t.shutCam_now k _).trans ht
    · exact ht
  · rw [← ht]
    split
    · exact t.shutCam_cam k t.now j
    · split
      · subst j; rfl
      · rfl

/-- A port as the power-down phase leaves it: one that streams finishes its frame in progress (R32, R313). -/
def CamSt.leaving (q : CamSt) (now : Nat) : CamSt :=
  if q.state = .streaming ∧ q.frame.isSome = true then { q with leave := some .off } else q.putOff now

theorem State.camsLeave_changes :
    ChangesOnly [.clocks, .cameras, .journal, .deviceTallies, .fabric, .twin] s s.camsLeave :=
  ChangesOnly.foldl (fun t k => by
    split
    · exact (t.updCam_changes k _).mono (by decide)
    · exact t.shutCam_changes k _) _ s

theorem State.camsLeave_cam (k : CamPort) : s.camsLeave.cam[k] = (s.cam[k]).leaving s.now := by
  refine foldl_finRange (fun t (k : CamPort) => t.cam[k]) (fun _ q => q.leaving s.now)
    (fun t => t.now = s.now) (fun t k ht => ?_) (fun t k j ht => ?_) s rfl k
  · split
    · exact ht
    · exact (t.shutCam_now k _).trans ht
  · rw [← ht]
    unfold CamSt.leaving
    split
    · exact t.updCam_cam k _ j
    · exact t.shutCam_cam k t.now j

/-- The state that a Sand entry gives a port rests on its use, the recipe cache and the recipe that it keeps. -/
theorem State.camEntry_congr {s t : State} (heff : ∀ k, t.eff (camBead k) = s.eff (camBead k))
    (hdrop : t.bead.dropped = s.bead.dropped) (hrcp : t.rcp = s.rcp) (hcache : t.dev.cacheDone = s.dev.cacheDone)
    (hheld : ∀ k : CamPort, (t.cam[k]).held = (s.cam[k]).held) (k : CamPort) : t.camEntry k = s.camEntry k := by
  have huse : t.camUse k = s.camUse k := heff k
  have hrecipe : t.portRecipe k = s.portRecipe k := by
    simp only [State.portRecipe, huse, hdrop, hrcp, hheld]
  simp only [State.camEntry, huse, hrecipe, hdrop, hcache]

theorem ChangesOnly.camEntry {ps : List Part} {s t : State} (h : ChangesOnly ps s t) (hb : Part.beads ∉ ps)
    (hr : Part.recipes ∉ ps) (hd : Part.device ∉ ps) (hheld : ∀ k : CamPort, (t.cam[k]).held = (s.cam[k]).held)
    (k : CamPort) : t.camEntry k = s.camEntry k := by
  have hbead : t.bead = s.bead := h .beads hb
  have hdev : t.dev = s.dev := h .device hd
  exact State.camEntry_congr (fun _ => by simp only [State.eff, hbead]) (by rw [hbead]) (h .recipes hr) (by rw [hdev]) hheld k

theorem State.setCam_camEntry (k : CamPort) (st : PortState) (j : CamPort) : (s.setCam k st).camEntry j = s.camEntry j := by
  refine (s.setCam_changes k st).camEntry (by decide) (by decide) (by decide) (fun i => ?_) j
  rw [State.setCam_cam]
  split
  · subst i; rfl
  · rfl

/-- Every port takes the state of its use. -/
theorem State.enterCams_state (k : CamPort) :
    ((allCams.foldl (fun t (k : CamPort) => t.setCam k (t.camEntry k)) s).cam[k]).state = s.camEntry k := by
  refine foldl_finRange (fun t (k : CamPort) => (t.cam[k]).state) (fun k _ => s.camEntry k)
    (fun t => ∀ j, t.camEntry j = s.camEntry j) (fun t k ht j => (t.setCam_camEntry k _ j).trans (ht j))
    (fun t k j ht => ?_) s (fun _ => rfl) k
  rw [State.setCam_cam, ht k]
  split <;> rfl

/-- The ports that are OFF, and only those, take the state of their use. -/
theorem State.restartsBack_changes : ChangesOnly [.cameras, .journal, .deviceTallies, .fabric, .twin] s s.restartsBack :=
  ChangesOnly.foldl (fun t k => by
    split
    · exact t.setCam_changes k _
    · exact .refl _ t) _ s

theorem State.restartsBack_state (k : CamPort) :
    (s.restartsBack.cam[k]).state = if (s.cam[k]).state = .off then s.camEntry k else (s.cam[k]).state := by
  refine foldl_finRange (fun t (k : CamPort) => (t.cam[k]).state) (fun k st => if st = .off then s.camEntry k else st)
    (fun t => ∀ j, t.camEntry j = s.camEntry j) (fun t k ht j => ?_) (fun t k j ht => ?_) s (fun _ => rfl) k
  · split
    · exact (t.setCam_camEntry k _ j).trans (ht j)
    · exact ht j
  · split
    · rw [State.setCam_cam, ht k]
      split <;> rfl
    · split
      · subst j; rfl
      · rfl

end cameras
end Sys2Proof.Machine

namespace Sys2Proof.Machine

/-! What waits for a bead part, and the load of the hold timer (R28, R31, R62). -/

/-- The change that waits for a part. -/
def State.waitingFor (s : State) (b : BeadNo) (i : Fin 8) : Option Waiting :=
  s.bead.waiting.find? fun w => decide (w.bead = b) && decide (w.part = i)

section waiting
variable (s : State)

theorem State.takeWaiting_bead_congr {t : State} (h : t.bead = s.bead) (b : BeadNo) (i : Fin 8) :
    (t.takeWaiting b i).bead = (s.takeWaiting b i).bead := by
  unfold State.takeWaiting; rw [h]; split
  · rfl
  · exact h

/-- A part that takes what waits for it leaves the other beads as they were. -/
theorem State.takeWaiting_eff_other {b c : BeadNo} (h : c ≠ b) (i j : Fin 8) : (s.takeWaiting b i).eff c j = s.eff c j := by
  have hv : b.val ≠ c.val := fun e => h (Fin.ext e.symm)
  unfold State.takeWaiting State.eff; split
  · simp [hv]
  · rfl

theorem State.takeWaiting_waitingFor_other {b c : BeadNo} (h : c ≠ b) (i j : Fin 8) :
    (s.takeWaiting b i).waitingFor c j = s.waitingFor c j := by
  unfold State.takeWaiting State.waitingFor; split
  · rw [List.find?_filter]
    refine congrFun (congrArg _ (funext fun w => ?_)) _
    by_cases hw : w.bead = c
    · simp [hw, h]
    · simp [hw]
  · rfl

/-- What a part takes is what waits for it, or what it has. -/
theorem State.takeWaiting_eff (b : BeadNo) (i : Fin 8) :
    (s.takeWaiting b i).eff b i = ((s.waitingFor b i).map fun w => w.value.val).getD (s.eff b i) := by
  unfold State.takeWaiting State.waitingFor State.eff; split <;> simp [*]

/-- Bead 5 is no video part. -/
theorem videoPart_bead {w : Waiting} (h : videoPart w = true) : (5 : BeadNo) ≠ w.bead := by
  intro e
  simp [videoPart, ← e] at h

theorem State.takeVideo_hold : (s.takeVideo.takeWaiting 5 0).eff 5 0 = (s.takeWaiting 5 0).eff 5 0 := by
  have keep (t : State) (w : Waiting) (hw : w ∈ s.bead.waiting.filter videoPart) : (5 : BeadNo) ≠ w.bead :=
    videoPart_bead (List.mem_filter.mp hw).2
  have heff : s.takeVideo.eff 5 0 = s.eff 5 0 :=
    foldl_keeps (fun t : State => t.eff 5 0) (fun t w hw => t.takeWaiting_eff_other (keep t w hw) _ _) s
  have hwait : s.takeVideo.waitingFor 5 0 = s.waitingFor 5 0 :=
    foldl_keeps (fun t : State => t.waitingFor 5 0) (fun t w hw => t.takeWaiting_waitingFor_other (keep t w hw) _ _) s
  rw [State.takeWaiting_eff, State.takeWaiting_eff, heff, hwait]

theorem State.takeVideo_bead_congr {t : State} (h : t.bead = s.bead) : t.takeVideo.bead = s.takeVideo.bead := by
  have loop (l : List Waiting) : ∀ {t s : State}, t.bead = s.bead →
      (l.foldl (fun t (w : Waiting) => t.takeWaiting w.bead w.part) t).bead =
        (l.foldl (fun t (w : Waiting) => t.takeWaiting w.bead w.part) s).bead := by
    induction l with
    | nil => exact fun h => h
    | cons w l ih => exact fun h => ih (State.takeWaiting_bead_congr _ h w.bead w.part)
  simp only [State.takeVideo, h, loop _ h]

/-- What the hold timer is loaded with: the bead 5 time in steps of 1/32 s, one more between two steps (R28, R30). -/
def State.holdLoad (s : State) : Nat :=
  holdSecs ⟨(s.takeWaiting 5 0).eff 5 % 16, by omega⟩ * 32 + (if s.now % 1024 = 0 then 0 else 1)

theorem State.loadHold_dev : s.loadHold.dev = { s.dev with hold := s.holdLoad } := by
  have hd : (s.takeWaiting 5 0).dev = s.dev := s.takeWaiting_changes 5 0 .device (by decide)
  simp only [State.loadHold, State.holdLoad, hd]

theorem State.holdLoad_congr {t : State} (heff : (t.takeWaiting 5 0).eff 5 0 = (s.takeWaiting 5 0).eff 5 0)
    (hnow : t.now = s.now) : t.holdLoad = s.holdLoad := by
  simp only [State.holdLoad, heff, hnow]

theorem State.holdLoad_of_bead {t : State} (hb : t.bead = s.bead) (hnow : t.now = s.now) : t.holdLoad = s.holdLoad :=
  s.holdLoad_congr (by simp only [State.eff, State.takeWaiting_bead_congr s hb]) hnow

end waiting

/-! The entry into Sand (R25, R28, R281). -/

section entry
variable (s : State)

theorem State.armOut_now (o : PllOut) (x : PllSetting) (b : PllBoundary) : (s.armOut o x b).now = s.now := rfl
theorem State.boundary_now (b : PllBoundary) : (s.boundary b).now = s.now := by
  unfold State.boundary; dsimp only [State.now]
theorem State.armAll_now : s.armAll.now = s.now := by
  unfold State.armAll
  exact foldl_keeps State.now (fun t o _ => t.armOut_now o _ _) s

/-- The outputs of a running PLL at a Sand entry (Table 4.5). -/
def State.sandOutputs (s : State) : State :=
  if s.clk.pll = .off then s else if s.clk.pll = .locked then s.armAll.boundary .lock else s.armAll

theorem State.sandOutputs_changes : ChangesOnly [.clocks] s s.sandOutputs := by
  unfold State.sandOutputs; split
  · exact .refl _ s
  · split
    · exact s.armAll_changes.trans (State.boundary_changes _ _)
    · exact s.armAll_changes

theorem State.sandOutputs_now : s.sandOutputs.now = s.now := by
  unfold State.sandOutputs; split
  · rfl
  · split
    · exact (State.boundary_now _ _).trans s.armAll_now
    · exact s.armAll_now

/-- The cameras' part of a Sand entry. -/
def State.enterCams (s : State) : State := allCams.foldl (fun t (k : CamPort) => t.setCam k (t.camEntry k)) s

theorem State.enterCams_changes : ChangesOnly [.cameras, .journal, .deviceTallies, .fabric, .twin] s s.enterCams :=
  ChangesOnly.foldl (fun t (k : CamPort) => t.setCam_changes k _) _ s

theorem State.sandActions_clk : s.sandActions.clk = s.sandOutputs.enterCams.clk := by
  unfold State.sandActions State.enterCams State.sandOutputs
  dsimp only
theorem State.sandActions_cam : s.sandActions.cam = s.sandOutputs.enterCams.cam := by
  unfold State.sandActions State.enterCams State.sandOutputs
  dsimp only

theorem State.sandActions_now : s.sandActions.now = s.now := by
  rw [State.now, State.sandActions_clk]
  exact (s.sandOutputs.enterCams_changes.now (by decide)).trans s.sandOutputs_now

/-- The recipes that the ports keep are the same where the ports are. -/
theorem ChangesOnly.held {ps : List Part} {s t : State} (h : ChangesOnly ps s t) (hc : Part.cameras ∉ ps) (k : CamPort) :
    (t.cam[k]).held = (s.cam[k]).held := by
  have hcam : t.cam = s.cam := h .cameras hc
  rw [hcam]

theorem State.sandActions_state (k : CamPort) : (s.sandActions.cam[k]).state = s.camEntry k := by
  rw [State.sandActions_cam]
  refine (s.sandOutputs.enterCams_state k).trans ?_
  have h := s.sandOutputs_changes
  exact h.camEntry (by decide) (by decide) (by decide) (h.held (by decide)) k

theorem State.enterSand_dev :
    ∃ k, s.enterSand.dev = { s.dev with mode := .sand, hold := s.holdLoad, modeTicks := k } := by
  have hv : s.takeVideo.dev = s.dev := s.takeVideo_changes .device (by decide)
  have hload : s.takeVideo.holdLoad = s.holdLoad :=
    s.holdLoad_congr s.takeVideo_hold (s.takeVideo_changes.now (by decide))
  have hl : s.takeVideo.loadHold.dev = { s.dev with hold := s.holdLoad } := by rw [State.loadHold_dev, hv, hload]
  obtain ⟨k, hm⟩ := (s.takeVideo.loadHold.setMode_book .sand).dev
  have ha : s.enterSand.dev = (s.takeVideo.loadHold.setMode .sand).dev :=
    State.sandActions_changes _ .device (by decide)
  exact ⟨k, by rw [ha, hm]; simp [State.withMode, Mode.bedrock, hl]⟩

theorem State.enterSand_now : s.enterSand.now = s.now :=
  calc s.enterSand.now
    _ = (s.takeVideo.loadHold.setMode .sand).now := State.sandActions_now _
    _ = s.takeVideo.loadHold.now := (State.setMode_book _ _).now
    _ = s.takeVideo.now := (State.loadHold_changes _).now (by decide)
    _ = s.now := s.takeVideo_changes.now (by decide)

theorem State.loadHold_camEntry (k : CamPort) : s.loadHold.camEntry k = s.camEntry k := by
  have hc := s.loadHold_changes
  refine State.camEntry_congr (fun i => ?_) ?_ (hc .recipes (by decide)) ?_ (hc.held (by decide)) k
  · have hbead : camBead i ≠ 5 := fun e => by
      have hv := congrArg Fin.val e
      simp only [camBead] at hv
      omega
    exact s.takeWaiting_eff_other hbead 0 _
  · have hdrop : (s.takeWaiting 5 0).bead.dropped = s.bead.dropped := by
      unfold State.takeWaiting; split <;> rfl
    exact hdrop
  · rw [State.loadHold_dev]

theorem State.setMode_camEntry (m : Mode) (k : CamPort) : (s.setMode m).camEntry k = s.camEntry k := by
  have hbook := s.setMode_book m
  obtain ⟨_, hb⟩ := hbook.bead
  obtain ⟨_, hd⟩ := hbook.dev
  refine State.camEntry_congr (fun i => ?_) ?_ hbook.rcp ?_ (fun i => ?_) k
  · rw [State.eff, hb]; rfl
  · rw [hb, State.withMode]
  · rw [hd, State.withMode]
  · rw [hbook.cam, State.withMode]

theorem State.enterSand_state (k : CamPort) : (s.enterSand.cam[k]).state = s.takeVideo.camEntry k :=
  ((State.sandActions_state _ k).trans (State.setMode_camEntry _ _ k)).trans (State.loadHold_camEntry _ k)

end entry
end Sys2Proof.Machine

namespace Sys2Proof.Machine

/-! Triggers in Loam and in Sand (R26 to R28, R33, R34). -/

section triggers
variable {s : State}

/-- The device in Loam with a trigger goes into Sand (R26, R28). -/
theorem State.takeTrigger_loam (h : s.dev.mode = .loam) :
    s.takeTrigger = { s.enterSand with dev := { s.enterSand.dev with evalAt := some s.now } } := by
  simp only [State.takeTrigger, h, State.enterSand_now]

theorem State.takeTrigger_loam_dev (h : s.dev.mode = .loam) :
    ∃ k, s.takeTrigger.settle.dev =
      { s.dev with mode := .sand, hold := s.holdLoad, evalAt := some s.now, modeTicks := k } := by
  obtain ⟨k, hk⟩ := s.enterSand_dev
  refine ⟨k, (State.settle_changes _ .device (by decide)).trans ?_⟩
  rw [State.takeTrigger_loam h, hk]

theorem State.takeTrigger_loam_changes (h : s.dev.mode = .loam) :
    ChangesOnly [.device, .beads, .wiring, .clocks, .sounding, .pathTallies, .deviceTallies, .journal, .writes, .tallyRest,
      .cameras, .recipes, .head, .fabric, .twin] s s.takeTrigger.settle := by
  rw [State.takeTrigger_loam h]
  exact ((s.enterSand_changes.mono (by decide)).trans ((changes_dev _ _).mono (by decide))).trans
    ((State.settle_changes _).mono (by decide))

theorem State.takeTrigger_loam_state (h : s.dev.mode = .loam) (k : CamPort) :
    (s.takeTrigger.settle.cam[k]).state = s.takeVideo.camEntry k := by
  have hcam : s.takeTrigger.cam = s.enterSand.cam := by rw [State.takeTrigger_loam h]
  rw [(State.settle_changes _).camState (by decide) k, hcam]
  exact s.enterSand_state k

/-- A power-down phase is marked for re-entry, a drain is cancelled (R33, R34). -/
def Changeover.triggered : Changeover → Changeover
  | .powerDown _ => .powerDown true
  | _ => .idle

theorem State.loadHold_changeover : s.loadHold.dev.changeover = s.dev.changeover := by rw [State.loadHold_dev]

theorem State.takeTrigger_idle (h : s.dev.mode = .sand) (hc : s.dev.changeover = .idle) :
    s.takeTrigger = s.loadHold := by
  have hl := s.loadHold_changeover.trans hc
  simp only [State.takeTrigger, h, hl]

theorem State.takeTrigger_powerDown {r : Bool} (h : s.dev.mode = .sand) (hc : s.dev.changeover = .powerDown r) :
    s.takeTrigger = { s.loadHold with dev := { s.loadHold.dev with changeover := .powerDown true } } := by
  have hl := s.loadHold_changeover.trans hc
  simp only [State.takeTrigger, h, hl]

theorem State.takeTrigger_sand_dev (h : s.dev.mode = .sand) (hd : s.dev.changeover ≠ .drain) :
    s.takeTrigger.dev = { s.dev with hold := s.holdLoad, changeover := s.dev.changeover.triggered } := by
  cases hc : s.dev.changeover with
  | idle =>
    have kept : Changeover.idle.triggered = s.dev.changeover := hc.symm
    rw [State.takeTrigger_idle h hc, State.loadHold_dev, kept]
  | drain => exact absurd hc hd
  | powerDown r => rw [State.takeTrigger_powerDown h hc, State.loadHold_dev, Changeover.triggered]

theorem State.takeTrigger_sand_changes (h : s.dev.mode = .sand) (hd : s.dev.changeover ≠ .drain) :
    ChangesOnly [.device, .beads] s s.takeTrigger := by
  cases hc : s.dev.changeover with
  | idle =>
    rw [State.takeTrigger_idle h hc]
    exact s.loadHold_changes
  | drain => exact absurd hc hd
  | powerDown r =>
    rw [State.takeTrigger_powerDown h hc]
    exact s.loadHold_changes.trans ((changes_dev _ _).mono (by decide))

/-- The state in which a drain that a trigger cancels gives the ports back. -/
def State.drainCancelled (s : State) : State :=
  { s.loadHold with dev := { s.loadHold.dev with changeover := .idle } }

/-- A drain that a trigger cancels: the ports that it put OFF come back (R33). -/
theorem State.takeTrigger_drain (h : s.dev.mode = .sand) (hd : s.dev.changeover = .drain) :
    s.takeTrigger = s.drainCancelled.restartsBack := by
  have hl := s.loadHold_changeover.trans hd
  simp only [State.takeTrigger, h, hl, State.drainCancelled]

theorem State.drainCancelled_changes : ChangesOnly [.device, .beads] s s.drainCancelled :=
  s.loadHold_changes.trans ((changes_dev _ _).mono (by decide))

theorem State.drainCancelled_dev : s.drainCancelled.dev = { s.dev with hold := s.holdLoad, changeover := .idle } := by
  rw [State.drainCancelled, State.loadHold_dev]

theorem State.drainCancelled_camEntry (k : CamPort) : s.drainCancelled.camEntry k = s.camEntry k :=
  (State.camEntry_congr (fun _ => rfl) rfl rfl rfl (fun _ => rfl) k).trans (s.loadHold_camEntry k)

/-- The accepted triggers of a tick are taken together (R27). -/
def State.triggersTaken (s : State) : State := { s with dev := { s.dev with accepted := [] } }

theorem exec_acceptedEventTrigger (ha : s.dev.accepted ≠ []) (hf : s.dev.fatal = [])
    (hm : s.dev.mode = .loam ∨ s.dev.mode = .sand) :
    exec .acceptedEventTrigger s = .next s.triggersTaken.takeTrigger.settle := by
  have hb : s.inBedrock = false := by rcases hm with h | h <;> simp [State.inBedrock, Mode.bedrock, h]
  refine (occurs_of (by simpa using ha)).trans ?_
  rw [hb, hf]
  rfl

theorem exec_levelConditionBegins (hl : s.levelHolds = true) (hf : s.dev.fatal = [])
    (hm : s.dev.mode = .loam ∨ s.dev.mode = .sand) :
    exec .levelConditionBegins s = .next s.takeTrigger.settle :=
  occurs_of (by simpa [hl, hf] using hm)

theorem State.triggersTaken_holdLoad : s.triggersTaken.holdLoad = s.holdLoad := s.holdLoad_of_bead rfl rfl

theorem State.triggersTaken_camEntry (k : CamPort) : s.triggersTaken.takeVideo.camEntry k = s.takeVideo.camEntry k := by
  have hb : s.triggersTaken.takeVideo.bead = s.takeVideo.bead := s.takeVideo_bead_congr rfl
  have h1 := s.triggersTaken.takeVideo_changes
  have h2 := s.takeVideo_changes
  have hd1 : s.triggersTaken.takeVideo.dev = s.triggersTaken.dev := h1 .device (by decide)
  have hd2 : s.takeVideo.dev = s.dev := h2 .device (by decide)
  refine State.camEntry_congr (fun _ => by simp only [State.eff, hb]) (by rw [hb]) ?_ (by rw [hd1, hd2]; rfl) (fun i => ?_) k
  · exact (h1 .recipes (by decide) : _ = s.rcp).trans (h2 .recipes (by decide)).symm
  · exact (h1.held (by decide) i).trans (h2.held (by decide) i).symm

end triggers

/-! The changeover from Sand to Loam (R30, R32, R34). -/

section changeover
variable {s : State}

theorem exec_holdExpiry (hm : s.dev.mode = .sand) (hh : s.dev.hold = 0) (hl : s.levelHolds = false)
    (ha : s.dev.accepted = []) (hf : s.dev.fatal = []) (hw : s.dev.mainsLow = false) (hc : s.dev.changeover = .idle) :
    exec .holdExpiry s =
      .next ({ s with dev := { s.dev with changeover := .drain, drainAt := s.now } } : State).restartsOff := by
  exact occurs_of (by simp [hm, hh, hl, ha, hf, hw, hc])

/-- The drain waits for the output frame in progress and its tiles, at most one frame period (R32). -/
theorem State.drainOver_false (hmode : headMode (s.eff 12) = .off → s.exporting = true) (hon : s.head.on = true)
    (hnow : s.now < s.dev.drainAt + cdiv (framePeriodNs s.rateIdx * 32768) 1000000000)
    (hframe : s.fab.time < s.head.startedAt + s.head.period * 65536 ∨ s.tilesWait = true) : s.drainOver = false := by
  have hlate : ¬ s.dev.drainAt + cdiv (framePeriodNs s.rateIdx * 32768) 1000000000 ≤ s.now := by omega
  have hend : s.head.startedAt + s.head.period * 65536 ≤ s.fab.time → s.tilesWait = true := fun hle =>
    hframe.resolve_left (by omega)
  simp only [State.drainOver, hon, hlate]
  simpa using ⟨hmode, hend⟩

theorem exec_drainEnd_waits (h : s.drainOver = false) : exec .drainEnd s = .next s :=
  occurs_of_not (by simp [h])

/-- The state in which the power-down phase begins, its ports on their way to OFF. -/
def State.drained (s : State) : State := ({ s with dev := { s.dev with changeover := .powerDown false } } : State).camsLeave

/-- The video parts stopped and their buffers released (R32, R405, R439). -/
def State.videoEnded (s : State) : State := ((s.videoStop true).clearRecords).releaseBufs keptBuffer

theorem State.videoStop_changes (s : State) (b : Bool) : ChangesOnly [.kiln, .head, .movers] s (s.videoStop b) := by
  intro q hq; cases q <;> simp_all [Part.same, Tal.restSame, State.videoStop, Mov.videoIdle]
theorem State.clearRecords_changes (s : State) : ChangesOnly [.head] s s.clearRecords := changes_head s _
theorem State.releaseBufs_changes (s : State) (f : BufKind → Bool) : ChangesOnly [.movers] s (s.releaseBufs f) := by
  intro q hq; cases q <;> simp_all [Part.same, Tal.restSame, State.releaseBufs]

theorem State.videoEnded_changes (s : State) : ChangesOnly [.kiln, .head, .movers] s s.videoEnded :=
  ((s.videoStop_changes true).trans ((State.clearRecords_changes _).mono (by decide))).trans
    ((State.releaseBufs_changes _ _).mono (by decide))

theorem State.videoEnded_idle (s : State) :
    s.videoEnded.kiln.running = false ∧ s.videoEnded.head.on = false ∧ s.videoEnded.head.records = [] := by
  simp only [State.videoEnded, State.releaseBufs, State.clearRecords, State.videoStop, and_self]

theorem State.videoEnded_bufs (s : State) : ∀ b ∈ s.videoEnded.mov.bufs, keptBuffer b.kind = true :=
  fun _ hb => (List.mem_filter.mp hb).2

theorem exec_drainEnd (hc : s.dev.changeover = .drain) (h : s.drainOver = true) :
    exec .drainEnd s = .next s.drained.videoEnded := by
  exact occurs_of (by simp [hc, h])

theorem State.drained_dev : s.drained.dev = { s.dev with changeover := .powerDown false } :=
  State.camsLeave_changes _ .device (by decide)

theorem State.drained_cam (s : State) (k : CamPort) : s.drained.cam[k] = (s.cam[k]).leaving s.now :=
  State.camsLeave_cam _ k

/-- A port on its way to OFF: a frame in progress goes on, else everything stops. -/
theorem CamSt.leaving_spec {q r : CamSt} (now : Nat) (h : r = q.leaving now) :
    if q.state = .streaming ∧ q.frame.isSome = true then r.state = .streaming ∧ r.leave = some .off
    else r.state = .off ∧ r.mclk = false ∧ r.cen = false := by
  subst h
  unfold CamSt.leaving
  split
  · exact ⟨by simp_all, rfl⟩
  · exact ⟨CamSt.putOff_state _ _, rfl, CamSt.putOff_cen _ _⟩

theorem State.drained_changes :
    ChangesOnly [.device, .clocks, .cameras, .journal, .deviceTallies, .fabric, .twin] s s.drained :=
  ((changes_dev s _).mono (by decide)).trans ((State.camsLeave_changes _).mono (by decide))

/-- The outputs and ports that the end of the power-down phase leaves, before the mode changes. -/
def State.darkened (s : State) : State :=
  let s0 := s.camsOff.pllRelayOnly
  { s0 with mov := s0.mov.scrubAll, dev := { s0.dev with changeover := .idle, relay := decide (s0.clk.pll ≠ .off) } }

theorem exec_powerDownComplete (h : s.dev.changeover = .powerDown false) :
    exec .powerDownComplete s = .next (s.darkened.setMode .loam).settle := by
  show execPowerDownComplete s = _
  simp only [execPowerDownComplete, h, Bool.false_eq_true, if_false, State.darkened]

theorem exec_powerDownComplete_reentry (h : s.dev.changeover = .powerDown true) :
    exec .powerDownComplete s = .next (State.settle { (s.darkened.setMode .loam).enterSand with
      dev := { (s.darkened.setMode .loam).enterSand.dev with hold := (s.darkened.setMode .loam).dev.hold } }) := by
  show execPowerDownComplete s = _
  simp only [execPowerDownComplete, h, if_true, State.darkened]

theorem State.darkened_dev : s.darkened.dev = { s.dev with changeover := .idle, relay := decide (s.clk.pll ≠ .off) } := by
  have hd : s.camsOff.dev = s.dev := s.camsOff_changes .device (by decide)
  have hc : s.camsOff.clk = s.clk := s.camsOff_changes .clocks (by decide)
  simp only [State.darkened, State.pllRelayOnly, hd, hc]

theorem State.darkened_loam_dev : ∃ k, (s.darkened.setMode .loam).dev =
    { s.dev with mode := .loam, changeover := .idle, relay := decide (s.clk.pll ≠ .off), modeTicks := k } := by
  obtain ⟨k, hk⟩ := (s.darkened.setMode_book .loam).dev
  exact ⟨k, by rw [hk]; simp [State.withMode, Mode.bedrock, State.darkened_dev]⟩

theorem State.darkened_cam_off (s : State) (k : CamPort) : s.darkened.cam[k] = (s.cam[k]).putOff s.now := s.camsOff_cam k

theorem State.darkened_pllOut (o : PllOut) (h : relayOutput o = false) :
    ((s.darkened.clk.pllOut[o]).now).enable = false := by
  simp [State.darkened, State.pllRelayOnly, h, PllOutput.off]

/-- An output is as its entry in the vector of outputs says. -/
theorem Clk.enable_congr {c d : Clk} (h : d.pllOut = c.pllOut) (o : PllOut) (k : (c.pllOut[o]).now.enable = false) :
    (d.pllOut[o]).now.enable = false := by
  simpa only [h] using k

theorem State.pllRelayOnly_changes (s : State) : ChangesOnly [.clocks] s s.pllRelayOnly := changes_clk s _

theorem State.darkened_changes :
    ChangesOnly [.device, .clocks, .cameras, .pool, .movers, .journal, .deviceTallies, .fabric, .twin] s s.darkened := by
  have outputs := s.camsOff.pllRelayOnly_changes
  have last (t : State) (d : Dev) (m : Mov) : ChangesOnly [.pool, .movers, .device] t { t with mov := m, dev := d } :=
    (changes_mov t m).join (changes_dev { t with mov := m } d)
  exact (s.camsOff_changes.mono (by decide)).trans
    ((outputs.mono (by decide)).trans ((last s.camsOff.pllRelayOnly _ _).mono (by decide)))

theorem State.darkened_loam_pending : (s.darkened.setMode .loam).pending = s.pending :=
  (s.darkened.setMode_changes .loam .pending (by decide)).trans (s.darkened_changes .pending (by decide))

end changeover

/-- Settles O11: each mode change by what it makes of the device, the ports and the outputs, and by the parts it reaches. -/
theorem loamAndSand : Obligations.LoamAndSand := by
  refine ⟨?_, ?_, ?_, ?_, ?_, ?_, ?_, ?_, ?_⟩
  · intro s ha hm hf
    obtain ⟨m, hdev⟩ := State.takeTrigger_loam_dev (s := s.triggersTaken) hm
    have hc := State.takeTrigger_loam_changes (s := s.triggersTaken) hm
    refine ⟨_, exec_acceptedEventTrigger ha hf (.inl hm), ?_, ?_, ?_, ?_, fun k => ?_, hc.mov (by decide) (by decide),
      hc .kiln (by decide), hc .pending (by decide)⟩
    · rw [hdev]
    · rw [hdev]; rfl
    · rw [hdev]; rfl
    · rw [hdev]; exact State.triggersTaken_holdLoad
    · exact (State.takeTrigger_loam_state (s := s.triggersTaken) hm k).trans (State.triggersTaken_camEntry k)
  · intro s ha hm hf hd
    have hc := State.takeTrigger_sand_changes (s := s.triggersTaken) hm hd
    have hdev := (State.settle_changes s.triggersTaken.takeTrigger .device (by decide)).trans
      (State.takeTrigger_sand_dev (s := s.triggersTaken) hm hd)
    refine ⟨_, exec_acceptedEventTrigger ha hf (.inr hm), ?_, ?_, ?_, ?_, ?_⟩
    · rw [hdev]; exact hm
    · rw [hdev]; rfl
    · rw [hdev]; exact State.triggersTaken_holdLoad
    · rw [hdev]; rfl
    · exact (((changes_dev s _).mono (by decide)).trans (hc.mono (by decide))).trans ((State.settle_changes _).mono (by decide))
  · intro s ha hm hf hd
    have hc := s.triggersTaken.drainCancelled_changes
    have hback := s.triggersTaken.drainCancelled.restartsBack_changes.join (State.settle_changes _)
    have hdev := (hback .device (by decide)).trans s.triggersTaken.drainCancelled_dev
    have hexec := exec_acceptedEventTrigger ha hf (.inr hm)
    rw [State.takeTrigger_drain (s := s.triggersTaken) hm hd] at hexec
    refine ⟨_, hexec, ?_, ?_, ?_, ?_, fun k => ?_, ?_⟩
    · rw [hdev]; exact hm
    · rw [hdev]; rfl
    · rw [hdev]
    · rw [hdev]; exact State.triggersTaken_holdLoad
    · rw [(State.settle_changes _).camState (by decide) k, State.restartsBack_state, hc.camState (by decide) k,
        State.drainCancelled_camEntry]
      rfl
    · exact (((changes_dev s _).mono (by decide)).trans (hc.mono (by decide))).trans (hback.mono (by decide))
  · intro s hl hf hm
    obtain ⟨m, hdev⟩ := State.takeTrigger_loam_dev hm
    have hc := State.takeTrigger_loam_changes hm
    refine ⟨_, exec_levelConditionBegins hl hf (.inl hm), ?_, ?_, State.takeTrigger_loam_state hm,
      hc.mov (by decide) (by decide), hc .kiln (by decide), hc .pending (by decide)⟩
    · rw [hdev]
    · rw [hdev]; rfl
  · intro s hm hh hl ha hf hw hc
    have hoff := State.restartsOff_changes { s with dev := { s.dev with changeover := .drain, drainAt := s.now } }
    refine ⟨_, exec_holdExpiry hm hh hl ha hf hw hc, hoff .device (by decide), fun k => ?_,
      ((changes_dev s _).mono (by decide)).trans (hoff.mono (by decide))⟩
    rw [State.restartsOff_cam]
    split
    · exact CamSt.putOff_state _ _
    · rfl
  · intro s _ hmode hon hnow hframe
    exact exec_drainEnd_waits (State.drainOver_false hmode hon hnow hframe)
  · intro s hc ho
    have h := s.drained_changes
    have hv := s.drained.videoEnded_changes
    have hdev := (hv .device (by decide)).trans s.drained_dev
    have hcam : s.drained.videoEnded.cam = s.drained.cam := hv .cameras (by decide)
    obtain ⟨hkiln, hhead, hrec⟩ := s.drained.videoEnded_idle
    refine ⟨_, exec_drainEnd hc ho, ?_, ?_, hkiln, hhead, hrec, fun k => ?_, s.drained.videoEnded_bufs,
      (hv .pool (by decide)).trans (h .pool (by decide)), (hv .sounding (by decide)).trans (h .sounding (by decide)),
      (hv .pending (by decide)).trans (h .pending (by decide))⟩
    · rw [hdev]
    · rw [hdev]
    · rw [hcam]; exact CamSt.leaving_spec _ (s.drained_cam k)
  · intro s hc
    obtain ⟨m, hdev⟩ := s.darkened_loam_dev
    have hset := State.settle_changes (s.darkened.setMode .loam)
    have hfinal := (hset .device (by decide)).trans hdev
    have hcam : (s.darkened.setMode .loam).settle.cam = s.darkened.cam :=
      (hset .cameras (by decide)).trans (State.setMode_changes _ _ .cameras (by decide))
    obtain ⟨_, hclk⟩ := s.darkened.setMode_clk .loam
    obtain ⟨_, htr⟩ := s.darkened.setMode_tr .loam
    have hout : (s.darkened.setMode .loam).settle.clk.pllOut = s.darkened.clk.pllOut := by
      rw [(hset .clocks (by decide)).trans hclk]
    have htr' := (hset .sounding (by decide)).trans htr
    have hdark : s.darkened.tr = s.tr := s.darkened_changes .sounding (by decide)
    have hpend := (hset .pending (by decide)).trans s.darkened_loam_pending
    have hexec := exec_powerDownComplete hc
    generalize (s.darkened.setMode .loam).settle = t at hfinal hcam hout htr' hpend hexec
    refine ⟨t, hexec, ?_, ?_, ?_, fun k => ?_, fun o ho => Clk.enable_congr hout o (State.darkened_pllOut o ho), ?_, ?_, hpend⟩
    · rw [hfinal]
    · rw [hfinal]
    · rw [hfinal]
    · rw [hcam, s.darkened_cam_off k]
      exact ⟨CamSt.putOff_state _ _, CamSt.putOff_mclk _ _⟩
    · rw [hfinal]
    · rw [htr', hdark]
  · intro s hc
    obtain ⟨m, hdev⟩ := s.darkened_loam_dev
    obtain ⟨m', hdev'⟩ := (s.darkened.setMode .loam).enterSand_dev
    have hpend := ((State.enterSand_changes (s.darkened.setMode .loam)) .pending (by decide)).trans s.darkened_loam_pending
    have hexec := exec_powerDownComplete_reentry hc
    generalize (s.darkened.setMode .loam).enterSand = u at hdev' hpend hexec
    have hset := State.settle_changes { u with dev := { u.dev with hold := (s.darkened.setMode .loam).dev.hold } }
    have hfinal := hset .device (by decide)
    refine ⟨_, hexec, ?_, ?_, ?_, (hset .pending (by decide)).trans hpend⟩
    · rw [hfinal, hdev']
    · rw [hfinal, hdev', hdev]
    · rw [hfinal, hdev]

end Sys2Proof.Machine

namespace Sys2Proof.Machine

/-! What stops parts of the device: a calibration, a hand-over, the PLL, the monitor, the buffers. -/

section stops
variable (s : State)

theorem State.endRunning_changes : ChangesOnly [.wiring] s s.endRunning := changes_loc s _
theorem State.monStop_changes : ChangesOnly [.monitor] s s.monStop := changes_mon s _
theorem State.dropSlabs_changes : ChangesOnly [.pool, .movers] s s.dropSlabs := changes_mov s _
theorem State.calNoRefin_changes : ChangesOnly [.sounding] s s.calNoRefin := changes_tr s _

theorem State.abandonCal_changes :
    ChangesOnly [.sounding, .wiring, .monitor, .journal, .deviceTallies, .fabric, .twin] s s.abandonCal := by
  have ended (t : State) : ChangesOnly [.sounding, .journal, .deviceTallies, .fabric, .twin] t
      (allPaths.foldl (fun t (p : PathNo) => if (t.tr.path[p]).calRun.isSome then
        (t.updPath p fun q => { q with calRun := none }).journal 0x2C (p.val * 4096 + 4) else t) t) :=
    ChangesOnly.foldl (fun u p => by
      split
      · exact ((u.updPath_changes p _).mono (by decide)).trans ((State.journal_le _ _ _).mono (by decide))
      · exact .refl _ u) _ t
  have refusals (t : State) (l : List PathNo) : ChangesOnly [.monitor] t
      (l.foldl (fun t (p : PathNo) => t.say ("path " ++ natStr p.val ++ " refused abandoned")) t) :=
    ChangesOnly.foldl (fun u p => u.say_changes _) l t
  unfold State.abandonCal
  split
  · extract_lets s1 any tr s2a s2
    have h1 : ChangesOnly [.sounding, .wiring, .monitor, .journal, .deviceTallies, .fabric, .twin] s s1 :=
      (ended s).mono (by decide)
    have h2a : ChangesOnly [.sounding] s1 s2a := (changes_tr s1 _).trans (State.setPeriods_changes _)
    have h2 : ChangesOnly [.wiring] s2a s2 :=
      ChangesOnly.ite ((State.endRunning_changes s2a).trans (State.ackAmber_changes _ _)) (State.endRunning_changes s2a)
    have h := (h1.trans (h2a.mono (by decide))).trans (h2.mono (by decide))
    split
    · exact h.trans ((((changes_mon s2 _).trans (refusals _ _)).trans (State.endCmd_changes _ _)).mono (by decide))
    · exact h
  · exact .refl _ s

theorem State.beginHandover_changes (b : Bool) :
    ChangesOnly [.journal, .deviceTallies, .fabric, .twin] s (s.beginHandover b) := by
  unfold State.beginHandover; split
  · exact State.journal_le s _ _
  · exact (changes_twin s _).mono (by decide)

/-- The PLL stops with its outputs, and the house core goes back to the XO (R152, R165). -/
theorem State.pllStop_clk : ∃ d, s.pllStop.clk = { s.clk with
    pll := .off, pllFrozen := false, pllRefLost := false, pllRelock := false, pllAttempts := 0, coreOnPll := false
    pllOut := Vector.ofFn fun o => (s.clk.pllOut[o]).off, demands := d } := by
  unfold State.pllStop
  extract_lets c s1
  split
  · obtain ⟨d, h⟩ := (s1.demand_book .core).clk
    exact ⟨d, h⟩
  · exact ⟨_, rfl⟩

theorem State.pllStop_changes : ChangesOnly [.clocks] s s.pllStop := by
  unfold State.pllStop
  extract_lets c s1
  have h1 : ChangesOnly [.clocks] s s1 := (changes_clk s _).trans (State.undemand_changes _ _)
  exact ChangesOnly.ite (h1.trans (s1.demand_changes _)) h1

theorem State.pllRetry_changes : ChangesOnly [.clocks] s s.pllRetry := s.pllStop_changes.trans (changes_clk _ _)

theorem State.pllRetry_clk : ∃ d, s.pllRetry.clk = { s.clk with
    pll := .off, pllFrozen := false, pllRefLost := false, pllRelock := false, pllAttempts := 0, coreOnPll := false
    pllNoLock := false, pllOut := Vector.ofFn fun o => (s.clk.pllOut[o]).off, demands := d } := by
  obtain ⟨d, h⟩ := s.pllStop_clk
  exact ⟨d, by rw [State.pllRetry, h]⟩

end stops

/-! The fabric ports going down (§10.1). -/

section ports
variable (s : State)

theorem State.setLink_link (p : FabPort) (l : LinkState) (j : FabPort) :
    ((s.setLink p l).fab.port[j]).link = if j = p then l else (s.fab.port[j]).link := by
  unfold State.setLink
  split
  · split
    · subst j; assumption
    · rfl
  · rw [(State.journal_book _ _ _).link]
    split
    · subst j; rw [State.updPort_self]
    · rw [State.updPort_other _ _ _ _ ‹_›]

/-- The mirror going down is journalled; no link moves. -/
theorem State.mirrorDown_sends : s.fab.Sends s.mirrorDown.fab := by
  unfold State.mirrorDown State.setMirror; dsimp only; split
  · exact .refl _
  · exact State.journal_sends { s with twin := { s.twin with mirror := .down } } _ _

/-- Going down moves the link of the port, and no other. -/
theorem State.portDown_link (p : FabPort) (l : LinkState) (j : FabPort) :
    ((s.portDown p l).fab.port[j]).link = if j = p then l else (s.fab.port[j]).link := by
  unfold State.portDown
  extract_lets s0 s1 f s2 s3
  have h0 : (s0.fab.port[j]).link = (s.fab.port[j]).link := by
    unfold s0; split
    · exact (State.journal_book _ _ _).link j
    · rfl
  have h1 : (s1.fab.port[j]).link = if j = p then l else (s.fab.port[j]).link := by
    by_cases hj : j = p
    · subst hj
      rw [if_pos rfl, State.updPort_self]; rfl
    · rw [if_neg hj, State.updPort_other _ _ _ _ hj, State.setLink_link, if_neg hj, h0]
  have h3 : s2.fab.Sends s3.fab := by
    unfold s3; split
    · exact s2.mirrorDown_sends
    · exact .refl _
  have hlast : s2.fab.Sends (if s.portRole p = .trunk then s3.lsChange else s3).fab := by
    split
    · exact h3.trans s3.lsChange_sends
    · exact h3
  exact (hlast.link j).trans h1

theorem ChangesOnly.portRole {ps : List Part} {s t : State} (h : ChangesOnly ps s t) (hb : Part.beads ∉ ps) (p : FabPort) :
    t.portRole p = s.portRole p := by
  have hbead : t.bead = s.bead := h .beads hb
  simp only [State.portRole, State.eff, hbead]

/-- One port of `portsOff`. -/
def State.portOff (s : State) (p : FabPort) : State := if s.portRole p = .off then s else s.portDown p .off

theorem State.portOff_changes (p : FabPort) : ChangesOnly [.journal, .deviceTallies, .fabric, .twin] s (s.portOff p) :=
  ChangesOnly.ite (.refl _ s) (s.portDown_changes p .off)

theorem State.portOff_link (p j : FabPort) : ((s.portOff p).fab.port[j]).link =
    if j = p then (if s.portRole p = .off then (s.fab.port[p]).link else .off) else (s.fab.port[j]).link := by
  unfold State.portOff
  by_cases hp : s.portRole p = .off
  · rw [if_pos hp, if_pos hp]
    split
    · subst j; rfl
    · rfl
  · rw [if_neg hp, if_neg hp, State.portDown_link]

theorem State.portsOff_eq : s.portsOff = (List.finRange 3).foldl State.portOff s := by
  unfold State.portsOff State.portOff allPorts
  rfl

theorem State.portsOff_changes : ChangesOnly [.journal, .deviceTallies, .fabric, .twin] s s.portsOff :=
  s.portsOff_eq ▸ ChangesOnly.foldl (fun t p => t.portOff_changes p) _ s

/-- Every port with a role is OFF. -/
theorem State.portsOff_link (j : FabPort) :
    (s.portsOff.fab.port[j]).link = if s.portRole j = .off then (s.fab.port[j]).link else .off := by
  rw [State.portsOff_eq]
  have loop := foldl_finRange (f := State.portOff) (fun t (j : FabPort) => (t.fab.port[j]).link)
    (fun p l => if s.portRole p = .off then l else .off) (fun t => ∀ p, t.portRole p = s.portRole p)
    (fun t p ht j => ((t.portOff_changes p).portRole (by decide) j).trans (ht j))
    (fun t p j ht => by rw [← ht p]; exact t.portOff_link p j) s (fun _ => rfl) j
  beta_reduce at loop
  generalize (List.finRange 3).foldl State.portOff s = t at loop ⊢
  exact loop

end ports

/-! The reset of the mains-domain parts (§14.2). -/

section mains
variable (s : State)

/-- Camera ports off, video stopped, PLL stopped: what comes before the mains-domain parts take their reset values. -/
def State.mainsStopped (s : State) : State := (s.camsOff.videoStop false).pllStop

theorem State.mainsStopped_changes : ChangesOnly [.cameras, .journal, .deviceTallies, .fabric, .twin, .kiln, .head, .movers,
    .clocks] s s.mainsStopped :=
  ((s.camsOff_changes.mono (by decide)).trans ((State.videoStop_changes _ false).mono (by decide))).trans
    ((State.pllStop_changes _).mono (by decide))

theorem State.mainsStopped_idle : s.mainsStopped.kiln.running = false ∧ s.mainsStopped.head.on = false := by
  have h := State.pllStop_changes (s.camsOff.videoStop false)
  have hk : s.mainsStopped.kiln = (s.camsOff.videoStop false).kiln := h .kiln (by decide)
  have hh : s.mainsStopped.head = (s.camsOff.videoStop false).head := h .head (by decide)
  rw [hk, hh]
  exact ⟨rfl, rfl⟩

/-- What the mains-domain parts are after their reset. -/
structure MainsReset (s t : State) : Prop where
  dev : t.dev = { s.dev with core := .off, relay := false, romOk := false, compileDone := false, cacheDone := false
                             serdesFault := Vector.replicate 3 false }
  cam : ∀ k : CamPort, (t.cam[k]).state = .off
  link : ∀ p : FabPort, (t.fab.port[p]).link = .off
  kiln : t.kiln.running = false
  mov : t.mov = {}
  head : t.head.on = false
  mon : t.mon.enabled = false
  pll : t.clk.pll = .off ∧ t.clk.coreOnPll = false ∧ t.clk.pllNoLock = false
  rest : ChangesOnly [.device, .cameras, .recipes, .journal, .deviceTallies, .fabric, .twin, .kiln, .head, .pool, .movers,
    .clocks, .monitor] s t

/-- The reset values that the mains-domain parts take, with what they keep (R590). -/
def State.mainsDefaults (s : State) : State :=
  { s with
    cam := Vector.ofFn fun k => { ({} : CamSt) with cenAt := if (s.cam[k]).cen then s.now else (s.cam[k]).cenAt }
    rcp := {}
    mov := {}
    kiln := { s.kiln with ctx := Vector.replicate 13 {} }
    clk := { s.clk with pllNoLock := false }
    fab := {
      uid := s.fab.uid, lastAddr := s.fab.lastAddr, addr := 0, kind := .unassigned
      port := Vector.ofFn fun p => { ({} : FPort) with key := (s.fab.port[p]).key }
      time := s.fab.time, timeRun := false, stoppedAt := s.calTicks, noiseBad := s.fab.noiseBad
      ownSeq := s.fab.ownSeq
      sentDev := s.fab.sentDev, sentPath := s.fab.sentPath }
    mon := { ({} : Mon) with framing := s.mon.framing, overruns := s.mon.overruns }
    dev := { s.dev with
      core := .off, relay := false, romOk := false, compileDone := false, cacheDone := false
      serdesFault := Vector.replicate 3 false } }

theorem State.resetMains_eq : s.resetMains = s.mainsStopped.mainsDefaults.undemand .core := by
  unfold State.resetMains
  rw [show (s.camsOff.videoStop false).pllStop = s.mainsStopped from rfl]
  generalize s.mainsStopped = u
  rfl

theorem State.mainsDefaults_changes : ChangesOnly [.device, .cameras, .recipes, .fabric, .kiln, .pool, .movers, .clocks,
    .monitor] s s.mainsDefaults := by
  intro q hq
  cases q <;> simp_all [Part.same, Tal.restSame, State.mainsDefaults]

theorem State.mainsDefaults_cam (k : CamPort) : ((s.mainsDefaults.cam)[k]).state = .off := by
  simp [State.mainsDefaults]
theorem State.mainsDefaults_link (p : FabPort) : ((s.mainsDefaults.fab.port)[p]).link = .off := by
  simp [State.mainsDefaults]

theorem State.resetMains_reset : MainsReset s s.resetMains := by
  have hstop := s.mainsStopped_changes
  have hdev : s.mainsStopped.dev = s.dev := hstop .device (by decide)
  obtain ⟨hkiln, hhead⟩ := s.mainsStopped_idle
  have hpll : s.mainsStopped.clk.pll = .off ∧ s.mainsStopped.clk.coreOnPll = false := by
    obtain ⟨d, hclk⟩ := State.pllStop_clk (s.camsOff.videoStop false)
    rw [State.mainsStopped, hclk]; exact ⟨rfl, rfl⟩
  rw [State.resetMains_eq]
  generalize s.mainsStopped = u at *
  refine ⟨hdev ▸ rfl, u.mainsDefaults_cam, u.mainsDefaults_link, hkiln, rfl, hhead, rfl, ⟨hpll.1, hpll.2, rfl⟩, ?_⟩
  exact ((hstop.mono (by decide)).trans (u.mainsDefaults_changes.mono (by decide))).trans
    ((State.undemand_changes _ _).mono (by decide))

end mains
end Sys2Proof.Machine

namespace Sys2Proof.Machine

/-! The start of the house core and the running of fabric time (R581, R498). -/

section start
variable (s : State)

theorem State.startCore_changes (k : StartKind) :
    ChangesOnly [.device, .head, .monitor, .fabric, .clocks] s (s.startCore k) := by
  have parts (d : Dev) (h : Head) (m : Mon) (f : Fab) : ChangesOnly [.device, .head, .monitor, .fabric] s
      { s with dev := d, head := h, mon := m, fab := f } := by
    intro q hq; cases q <;> simp_all [Part.same, Tal.restSame, Mov.restSame]
  exact ((parts _ _ _ _).mono (by decide)).trans ((State.demand_changes _ _).mono (by decide))

theorem State.startCore_dev (k : StartKind) : (s.startCore k).dev = { s.dev with
    core := .romCheck, start := some k, startAt := s.now, romOk := false, compileDone := false, cacheDone := false } :=
  State.demand_changes _ _ .device (by decide)

theorem State.resumeTime_changes : ChangesOnly [.fabric] s s.resumeTime :=
  ChangesOnly.ite (.refl _ s) (changes_fab s _)

theorem State.resumeTime_timeRun : s.resumeTime.fab.timeRun = true := by
  unfold State.resumeTime; split
  · assumption
  · rfl

end start

/-! The loss of mains (§14.2; R589, R590). -/

section loss
variable (s : State)

theorem State.clearRecords_head : s.clearRecords.head = { s.head with offered := [], records := [] } := rfl

theorem State.refinGone_changes :
    ChangesOnly [.clocks, .sounding, .journal, .deviceTallies, .fabric, .twin] s s.refinGone := by
  unfold State.refinGone
  extract_lets s1
  have h1 : ChangesOnly [.clocks, .sounding, .journal, .deviceTallies, .fabric, .twin] s s1 :=
    ChangesOnly.ite ((State.journal_le s _ _).mono (by decide)) (.refl _ s)
  exact ((h1.trans ((changes_clk s1 _).mono (by decide))).trans ((State.calNoRefin_changes _).mono (by decide))).trans
    ((State.undemand_changes _ _).mono (by decide))

theorem State.refinGone_now : s.refinGone.now = s.now := by
  unfold State.refinGone
  extract_lets s1
  have h1 : s1.now = s.now := by
    unfold s1; split
    · exact (State.journal_book _ _ _).now
    · rfl
  exact h1

/-- What the abandoned work reaches, and what it leaves. -/
theorem State.abandonWork_changes : ChangesOnly [.beads, .clocks, .sounding, .wiring, .monitor, .journal, .deviceTallies,
    .fabric, .twin] s s.abandonWork ∧ s.abandonWork.now = s.now := by
  have journalled (t : State) (c : Prop) [Decidable c] (code data : Nat) :
      ChangesOnly [.sounding, .wiring, .monitor, .journal, .deviceTallies, .fabric, .twin] t
        (if c then t.journal code data else t) :=
    ChangesOnly.ite ((State.journal_le t _ _).mono (by decide)) (.refl _ t)
  unfold State.abandonWork
  extract_lets s1 keepRead s2 s3 s4 s5 tw s6
  have h3 : ChangesOnly [.sounding, .wiring, .monitor, .journal, .deviceTallies, .fabric, .twin] s s3 :=
    ((journalled s _ _ _).trans (journalled s1 _ _ _)).trans (journalled s2 _ _ _)
  have h4 : ChangesOnly [.sounding, .wiring, .monitor, .journal, .deviceTallies, .fabric, .twin] s s4 :=
    (h3.trans s3.abandonCal_changes).trans ((State.pairFailAll_changes _ _).mono (by decide))
  have h5 : ChangesOnly [.sounding, .wiring, .monitor, .journal, .deviceTallies, .fabric, .twin] s s5 :=
    h4.trans (ChangesOnly.ite (.refl _ s4) (s4.mirrorDown_changes.mono (by decide)))
  have h6 : ChangesOnly [.sounding, .wiring, .monitor, .journal, .deviceTallies, .fabric, .twin] s s6 :=
    h5.trans ((changes_twin s5 _).mono (by decide))
  have hnow : s6.now = s.now := h6.now (by decide)
  split
  · exact ⟨(h6.mono (by decide)).trans ((changes_bead s6 _).mono (by decide)), hnow⟩
  · exact ⟨((h6.mono (by decide)).trans ((changes_bead s6 _).mono (by decide))).trans
      ((State.undemand_changes _ _).mono (by decide)), hnow⟩

theorem State.pllStop_now : s.pllStop.now = s.now := by
  obtain ⟨d, h⟩ := s.pllStop_clk
  rw [State.now, h]
  rfl
theorem State.mainsDefaults_now : s.mainsDefaults.now = s.now := rfl
theorem State.undemand_now (d : XoDemand) : (s.undemand d).now = s.now := rfl

theorem State.resetMains_now : s.resetMains.now = s.now :=
  calc s.resetMains.now
    _ = s.mainsStopped.now := by rw [State.resetMains_eq, State.undemand_now, State.mainsDefaults_now]
    _ = (s.camsOff.videoStop false).now := State.pllStop_now _
    _ = s.camsOff.now := (State.videoStop_changes _ false).now (by decide)
    _ = s.now := s.camsOff_changes.now (by decide)

theorem State.writeWorks_changes : ChangesOnly [.writes] s s.writeWorks :=
  ChangesOnly.foldl (fun t p => t.writeWork_changes p) _ s

/-- The device part of an entry into Bedrock on battery: what was decided or waited for is dropped. -/
def Dev.onBattery (d : Dev) : Dev :=
  { d with accepted := [], fatal := [], fatalCause := none, changeover := .idle, fabricKept := false, fabricFault := false
           mainsLow := false }

/-- The state at an entry into Bedrock on battery, before the mode changes. -/
def State.batteryReady (s : State) : State :=
  (((({ s with dev := s.dev.onBattery } : State).takeWaiting 6 0).clearRecords).writeWorks)

theorem State.enterBattery_eq : s.enterBattery = (s.batteryReady.setMode .bedBattery).settle := by
  simp only [State.enterBattery, State.batteryReady, Dev.onBattery]

/-- From the device part on. -/
theorem State.batteryReady_rest : ChangesOnly [.beads, .head, .writes] { s with dev := s.dev.onBattery } s.batteryReady :=
  (((State.takeWaiting_changes _ _ _).mono (by decide)).trans ((State.clearRecords_changes _).mono (by decide))).trans
    ((State.writeWorks_changes _).mono (by decide))

theorem State.batteryReady_dev : s.batteryReady.dev = s.dev.onBattery := s.batteryReady_rest .device (by decide)

theorem State.batteryReady_changes : ChangesOnly [.device, .beads, .head, .writes] s s.batteryReady :=
  ((changes_dev s _).mono (by decide)).trans (s.batteryReady_rest.mono (by decide))

theorem State.batteryReady_head : s.batteryReady.head = { s.head with offered := [], records := [] } := by
  have h : s.batteryReady.head = (({ s with dev := s.dev.onBattery } : State).takeWaiting 6 0).clearRecords.head :=
    State.writeWorks_changes _ .head (by decide)
  have h0 : (({ s with dev := s.dev.onBattery } : State).takeWaiting 6 0).head = s.head :=
    State.takeWaiting_changes { s with dev := s.dev.onBattery } 6 0 .head (by decide)
  rw [h, State.clearRecords_head, h0]

theorem State.enterBattery_book : Bookkeeping (s.batteryReady.withMode .bedBattery) s.enterBattery :=
  s.enterBattery_eq ▸ (State.setMode_book _ _).trans (State.settle_book _)

/-- What a loss of mains leaves of the mains domain, in whatever mode (R590). -/
structure MainsGone (s t : State) : Prop where
  mainsOk : t.dev.mainsOk = false
  mainsLow : t.dev.mainsLow = false
  core : t.dev.core = .off
  cam : ∀ k : CamPort, (t.cam[k]).state = .off
  link : ∀ p : FabPort, (t.fab.port[p]).link = .off
  kiln : t.kiln.running = false
  pool : t.mov.pool = []
  headOn : t.head.on = false
  mon : t.mon.enabled = false
  pll : t.clk.pll = .off ∧ t.clk.coreOnPll = false ∧ t.clk.pllNoLock = false
  now : t.now = s.now
  pending : t.pending = s.pending
  draws : t.draws = s.draws

theorem MainsGone.book {s t u : State} (h : MainsGone s t) (k : Bookkeeping t u) : MainsGone s u := by
  obtain ⟨m, hd⟩ := k.dev
  obtain ⟨d, hc⟩ := k.clk
  refine ⟨?_, ?_, ?_, fun c => ?_, fun p => (k.link p).trans (h.link p), ?_, ?_, ?_, ?_, ?_, k.now.trans h.now,
    k.pending.trans h.pending, k.draws.trans h.draws⟩
  · rw [hd]; exact h.mainsOk
  · rw [hd]; exact h.mainsLow
  · rw [hd]; exact h.core
  · rw [k.cam]; exact h.cam c
  · rw [k.kiln]; exact h.kiln
  · rw [k.pool]; exact h.pool
  · rw [k.head]; exact h.headOn
  · rw [k.mon]; exact h.mon
  · rw [hc]; exact h.pll

/-- An operation that reaches the device, the beads, the head and writes only, and there nothing of the mains domain. -/
theorem MainsGone.keep {s t u : State} (h : MainsGone s t) (k : ChangesOnly [.device, .beads, .head, .writes] t u)
    (hok : u.dev.mainsOk = t.dev.mainsOk) (hlow : u.dev.mainsLow = false) (hcore : u.dev.core = t.dev.core)
    (hhead : u.head.on = t.head.on) : MainsGone s u := by
  have hclk : u.clk = t.clk := k .clocks (by decide)
  have hcam : u.cam = t.cam := k .cameras (by decide)
  have hfab : u.fab = t.fab := k .fabric (by decide)
  have hkiln : u.kiln = t.kiln := k .kiln (by decide)
  have hpool : u.mov.pool = t.mov.pool := k .pool (by decide)
  have hmon : u.mon = t.mon := k .monitor (by decide)
  exact ⟨hok.trans h.mainsOk, hlow, hcore.trans h.core, hcam ▸ h.cam, hfab ▸ h.link, hkiln ▸ h.kiln, hpool.trans h.pool,
    hhead.trans h.headOn, hmon ▸ h.mon, hclk ▸ h.pll, (k.now (by decide)).trans h.now,
    (k .pending (by decide)).trans h.pending, (k .draws (by decide)).trans h.draws⟩

/-- The state at a loss of mains with its work abandoned, before the mains domain goes. -/
def State.mainsLost (s : State) : State :=
  ((({ s with dev := { s.dev with mainsOk := false, mainsLow := false } } : State).abandonWork).refinGone)

/-- The state with its start-up that goes on, if one does. -/
def State.withStart (s : State) (k : Option StartKind) : State := { s with dev := { s.dev with start := k } }

/-- The state with the mains domain gone. -/
def State.mainsCut (s : State) : State :=
  s.mainsLost.resetMains.withStart (if s.dev.start = some .powerUp then some .powerUp else none)

/-- Into Bedrock on battery, or on in it (R590). -/
def State.toBattery (s : State) (old : Mode) : State := if old = .bedBattery then s.clearRecords else s.enterBattery

theorem State.loseMains_eq : s.loseMains =
    (((s.mainsCut.toBattery s.dev.mode).addTally 13 1).requestDeviceTallies).journal 0xA2 (1 + 2 * s.dev.mode.code) := by
  simp only [State.loseMains, State.mainsCut, State.withStart, State.toBattery, State.mainsLost]

theorem State.mainsLost_changes : ChangesOnly [.device, .beads, .clocks, .sounding, .wiring, .monitor, .journal,
    .deviceTallies, .fabric, .twin] s s.mainsLost :=
  (((changes_dev s _).mono (by decide)).trans ((State.abandonWork_changes _).1.mono (by decide))).trans
    ((State.refinGone_changes _).mono (by decide))

theorem State.mainsLost_dev : s.mainsLost.dev = { s.dev with mainsOk := false, mainsLow := false } :=
  (State.refinGone_changes _ .device (by decide)).trans ((State.abandonWork_changes _).1 .device (by decide))

theorem State.mainsLost_now : s.mainsLost.now = s.now :=
  (State.refinGone_now _).trans
    (State.abandonWork_changes { s with dev := { s.dev with mainsOk := false, mainsLow := false } }).2

theorem MainsReset.gone {s u t : State} (h : MainsReset u t) (hok : u.dev.mainsOk = false) (hlow : u.dev.mainsLow = false)
    (hnow : t.now = s.now) (hpend : u.pending = s.pending) (hdraws : u.draws = s.draws) (k : Option StartKind) :
    MainsGone s (t.withStart k) := by
  refine ⟨?_, ?_, ?_, h.cam, h.link, h.kiln, congrArg Mov.pool h.mov, h.head, h.mon, h.pll, hnow,
    (h.rest .pending (by decide)).trans hpend, (h.rest .draws (by decide)).trans hdraws⟩
  · rw [State.withStart, h.dev]; exact hok
  · rw [State.withStart, h.dev]; exact hlow
  · rw [State.withStart, h.dev]

theorem State.mainsCut_gone : MainsGone s s.mainsCut := by
  have hl := s.mainsLost_changes
  exact s.mainsLost.resetMains_reset.gone (by rw [s.mainsLost_dev]) (by rw [s.mainsLost_dev])
    ((State.resetMains_now _).trans s.mainsLost_now) (hl .pending (by decide)) (hl .draws (by decide)) _

theorem State.mainsCut_mode : s.mainsCut.dev.mode = s.dev.mode := by
  have h := s.mainsLost.resetMains_reset
  rw [State.mainsCut, State.withStart, h.dev, s.mainsLost_dev]

theorem State.toBattery_gone {t : State} (h : MainsGone s t) (old : Mode) : MainsGone s (t.toBattery old) := by
  unfold State.toBattery; split
  · exact h.keep ((State.clearRecords_changes t).mono (by decide)) rfl h.mainsLow rfl rfl
  · refine MainsGone.book ?_ t.enterBattery_book
    have hd : (t.batteryReady.withMode .bedBattery).dev =
        { t.dev.onBattery with mode := .bedBattery, hold := 0 } := by
      simp [State.withMode, State.batteryReady_dev, Mode.bedrock]
    have hh : (t.batteryReady.withMode .bedBattery).head = t.batteryReady.head := rfl
    refine h.keep ((t.batteryReady_changes.mono (by decide)).trans ((changes_dev _ _).mono (by decide))) ?_ ?_ ?_ ?_
    · rw [hd]; rfl
    · rw [hd]; rfl
    · rw [hd]; rfl
    · rw [hh, State.batteryReady_head]

theorem State.toBattery_mode : (s.toBattery s.dev.mode).dev.mode = .bedBattery := by
  unfold State.toBattery; split
  · assumption
  · rw [s.enterBattery_book.mode, State.withMode]

theorem State.toBattery_records (old : Mode) : (s.toBattery old).head.records = [] := by
  unfold State.toBattery; split
  · rfl
  · have hh : (s.batteryReady.withMode .bedBattery).head = s.batteryReady.head := rfl
    rw [s.enterBattery_book.head, hh, State.batteryReady_head]

/-- The end of a loss of mains is bookkeeping. -/
theorem State.loseMains_book : Bookkeeping (s.mainsCut.toBattery s.dev.mode) s.loseMains :=
  s.loseMains_eq ▸ (((State.addTally_book _ 13 1).trans
    (.of_free (State.requestDeviceTallies_changes _) (by decide))).trans (State.journal_book _ _ _))

theorem State.loseMains_gone : MainsGone s s.loseMains := (s.toBattery_gone s.mainsCut_gone _).book s.loseMains_book

theorem State.loseMains_mode : s.loseMains.dev.mode = .bedBattery := by
  rw [s.loseMains_book.mode, ← s.mainsCut_mode, State.toBattery_mode]

theorem State.loseMains_records : s.loseMains.head.records = [] := by
  rw [s.loseMains_book.head, State.toBattery_records]

end loss

/-! The keep domain (R10, R595). -/

section keep
variable {s : State}

/-- A sounding, a record, a write, a read or a regression in progress needs the keep domain. -/
theorem State.keep_needed (h : s.loc.supRun ≠ none ∨ s.tr.busy[(0 : Fin 2)] ≠ none ∨ s.tr.busy[(1 : Fin 2)] ≠ none ∨
    (∃ c : Chan, (s.tr.chan[c]).ringBusy = true) ∨ s.tr.handed ≠ [] ∨ s.tal.writes ≠ [] ∨ s.tal.jQueue ≠ [] ∨
    s.tr.regJob ≠ none ∨ s.bead.phase ≠ .idle) :
    s.needXo = true ∨ s.tr.regJob ≠ none ∨ s.bead.phase ≠ .idle := by
  have busy (g : Fin 2) (hg : s.tr.busy[g] ≠ none) : (List.finRange 2).any (fun g => (s.tr.busy[g]).isSome) = true :=
    List.any_eq_true.mpr ⟨g, List.mem_finRange g, Option.isSome_iff_ne_none.mpr hg⟩
  have ring (c : Chan) (hc : (s.tr.chan[c]).ringBusy = true) :
      (List.finRange 16).any (fun c => (s.tr.chan[c]).ringBusy) = true :=
    List.any_eq_true.mpr ⟨c, List.mem_finRange c, hc⟩
  rcases h with hsup | hbusy | hbusy | ⟨c, hring⟩ | hhanded | hwrites | hjournal | hjob | hphase
  · exact .inl (by simp [State.needXo, Option.isSome_iff_ne_none.mpr hsup])
  · exact .inl (by simp only [State.needXo, busy 0 hbusy, Bool.or_true, Bool.true_or])
  · exact .inl (by simp only [State.needXo, busy 1 hbusy, Bool.or_true, Bool.true_or])
  · exact .inl (by simp only [State.needXo, ring c hring, Bool.or_true, Bool.true_or])
  · exact .inl (by simp [State.needXo, hhanded])
  · exact .inl (by simp [State.needXo, hwrites])
  · exact .inl (by simp [State.needXo, hjournal])
  · exact .inr (.inl hjob)
  · exact .inr (.inr hphase)

theorem exec_keepDomainPowerDown_needed (h : s.needXo = true ∨ s.tr.regJob ≠ none ∨ s.bead.phase ≠ .idle) :
    exec .keepDomainPowerDown s = .next s := by
  refine occurs_of_not ?_
  rcases h with h | h | h
  · simp [h]
  · have hjob : s.tr.regJob.isNone = false := by simpa using Option.isSome_iff_ne_none.mpr h
    simp [hjob]
  · simp [h]

end keep

/-! The supply checks (R588, R591). -/

section supplies
variable {s : State}

/-- What a return of mains begins, up to the entry that a twin may send. -/
def State.mainsBack (s : State) : State :=
  let s1 : State := { s with dev := { s.dev with mainsOk := true, keepOn := true, readDone := false } }
  let s2 := (s1.journal 0xA2 0).startCore .mainsReturn
  { s2 with bead := { s2.bead with req := some .mainsReturn } }

theorem exec_mainsReturn {n : Nat} (hr : s.dev.released = true) (hm : s.dev.mainsOk = false) (hn : 3277 ≤ n) :
    exec (.mainsReturn n) s = .next ((s.mainsBack.demand .beadRead).resumeTime).stateChanged :=
  occurs_of (by simp [hr, hm, hn])

theorem State.mainsBack_dev : s.mainsBack.dev = { s.dev with
    mainsOk := true, keepOn := true, readDone := false, core := .romCheck, start := some .mainsReturn, startAt := s.now
    romOk := false, compileDone := false, cacheDone := false } := by
  have hj := State.journal_le { s with dev := { s.dev with mainsOk := true, keepOn := true, readDone := false } } 0xA2 0
  have hdev := hj .device (by decide)
  refine (State.startCore_dev _ _).trans ?_
  rw [hj.now (by decide), hdev]
  rfl

theorem State.mainsBack_changes :
    ChangesOnly [.device, .beads, .clocks, .deviceTallies, .journal, .head, .fabric, .twin, .monitor] s s.mainsBack :=
  ((((changes_dev s _).mono (by decide)).trans ((State.journal_le _ _ _).mono (by decide))).trans
    ((State.startCore_changes _ _).mono (by decide))).trans ((changes_bead _ _).mono (by decide))

/-- VBAT LOW after a measurement: below 2,500 mV it is set, above 2,600 mV it is cleared (R591). -/
def vbatLowAfter (low : Bool) (mv : Nat) : Bool := if low then decide (mv ≤ 2600) else decide (mv < 2500)

/-- The device after a VBAT measurement. -/
def State.vbatTaken (s : State) (mv : Nat) : State :=
  { s with dev := { s.dev with
      vbatMv := mv, nextVbat := s.dev.nextVbat + 64 * 32768, vbatLow := vbatLowAfter s.dev.vbatLow mv } }

/-- An entry where VBAT LOW moves, none where it stays. -/
theorem exec_vbatCheck {mv : Nat} (hr : s.dev.released = true) (hn : s.dev.nextVbat ≤ s.now) :
    exec (.vbatCheck mv) s = .next (if vbatLowAfter s.dev.vbatLow mv = s.dev.vbatLow then s.vbatTaken mv
      else (s.vbatTaken mv).journal 0xA4 (if vbatLowAfter s.dev.vbatLow mv then 1 else 0)) := by
  refine (occurs_of (by simp [hr, hn])).trans (congrArg _ ?_)
  unfold State.vbatTaken vbatLowAfter
  cases hlow : s.dev.vbatLow
  · by_cases h : mv < 2500
    · simp [h, tps]
    · simp [h, hlow, tps]
  · by_cases h : mv ≤ 2600
    · simp [h, hlow, tps]
    · simp [h, tps, Nat.not_le.mp h]

end supplies

/-- Settles O8: each clause by its guard and by what the return, the loss and the checks make of the parts. -/
theorem suppliesAndKeepDomain : Obligations.SuppliesAndKeepDomain := by
  refine ⟨?_, ?_, ?_, ?_, ?_, ?_, ?_⟩
  · intro s n hr hm hn
    have hd := s.mainsBack.demand_changes .beadRead
    have ht := State.resumeTime_changes (s.mainsBack.demand .beadRead)
    have hc := State.stateChanged_changes (s.mainsBack.demand .beadRead).resumeTime
    have hdev := (hc .device (by decide)).trans ((ht .device (by decide)).trans
      ((hd .device (by decide)).trans s.mainsBack_dev))
    refine ⟨_, exec_mainsReturn hr hm hn, ?_, ?_, ?_, ?_, ?_, ?_, ?_, ?_⟩
    · rw [hdev]
    · rw [hdev]
    · rw [hdev]
    · rw [hdev]
    · rw [hdev]
    · exact congrArg Bead.req ((hc .beads (by decide)).trans ((ht .beads (by decide)).trans (hd .beads (by decide))))
    · exact (congrArg Fab.timeRun (hc .fabric (by decide))).trans (State.resumeTime_timeRun _)
    · exact ((s.mainsBack_changes.trans (hd.mono (by decide))).trans (ht.mono (by decide))).trans (hc.mono (by decide))
  · intro s hr hm he hmode
    exact (occurs_of (by simp [hr, hm])).trans (by rw [if_pos ⟨he, hmode⟩])
  · intro s hr hm he
    have h := s.loseMains_gone
    refine ⟨_, (occurs_of (by simp [hr, hm])).trans (by rw [if_neg he]), h.mainsOk, s.loseMains_mode, h.core, h.pll.1,
      h.pll.2.1, h.cam, h.link, h.kiln, h.pool, h.headOn, s.loseMains_records, h.mon, h.pll.2.2, h.pending, h.draws⟩
  · intro s mv hr hn
    have taken : ChangesOnly [.device] s (s.vbatTaken mv) := changes_dev s _
    refine ⟨_, exec_vbatCheck hr hn, ?_⟩
    by_cases hlow : vbatLowAfter s.dev.vbatLow mv = s.dev.vbatLow
    · rw [if_pos hlow]
      exact ⟨rfl, rfl, rfl, fun hne => absurd hlow hne, taken.mono (by simp)⟩
    · rw [if_neg hlow]
      have hdev : ((s.vbatTaken mv).journal 0xA4 (if vbatLowAfter s.dev.vbatLow mv then 1 else 0)).dev =
        (s.vbatTaken mv).dev := State.journal_le _ _ _ .device (by decide)
      refine ⟨?_, ?_, ?_, fun _ hlog => ?_, taken.then_journal (by decide) _ _⟩
      · rw [hdev]; rfl
      · rw [hdev]; rfl
      · rw [hdev]; rfl
      · rw [hdev]
        have logs := State.journal_logs ((taken.takesEntry (by decide) (by decide) 0xA4).mpr hlog)
          (if vbatLowAfter s.dev.vbatLow mv then 1 else 0)
        exact logs.within taken (.refl [] _) (by decide) (by decide)
  · intro s hw ht
    have ht' : s.loc.setAssertedAt + 30 * tps ≤ s.now := ht
    exact occurs_of (by simp [hw, ht'])
  · intro s hk hm hmains hx hj hp
    exact occurs_of (by simp [hk, hm, hmains, hx, hj, hp])
  · intro s h
    exact exec_keepDomainPowerDown_needed (State.keep_needed h)

end Sys2Proof.Machine

namespace Sys2Proof.Machine

/-! A latched fatal fault (R26, R596, R597). -/

section latch
variable (s : State)

/-- The house core held in reset, before what waited for it is discarded (R597). -/
def State.coreHeld (s : State) : State := ({ s with dev := { s.dev with core := .held } } : State).undemand .core

theorem State.discardForCore_changes : ChangesOnly [.cameras, .kiln, .fabric, .monitor] s s.discardForCore := by
  intro q hq; cases q <;> simp_all [Part.same, Tal.restSame, Mov.restSame, State.discardForCore]

theorem State.coreHeld_changes : ChangesOnly [.device, .clocks] s s.coreHeld :=
  ((changes_dev s _).mono (by decide)).trans ((State.undemand_changes _ _).mono (by decide))

theorem State.holdCore_changes : ChangesOnly [.device, .clocks, .cameras, .kiln, .fabric, .monitor] s s.holdCore :=
  (s.coreHeld_changes.mono (by decide)).trans ((State.discardForCore_changes _).mono (by decide))

theorem State.holdCore_dev : s.holdCore.dev = { s.dev with core := .held } := rfl

theorem State.holdCore_cam (k : CamPort) : s.holdCore.cam[k] = { s.cam[k] with fsPend := [], fePend := false } := by
  simp [State.holdCore, State.discardForCore, State.undemand]

/-- What a latched fault does to the house core before it is latched. -/
def State.latchCore (s : State) (c : FatalCause) : State := if c.holdsCore then s.holdCore else s

/-- The state with a cause latched. -/
def State.latched (s : State) (c : FatalCause) : State :=
  { s with dev := { s.dev with fatal := s.dev.fatal ++ [c], fabricFault := s.dev.fabricFault || c.fabricSide } }

theorem State.latched_changes (c : FatalCause) : ChangesOnly [.device] s (s.latched c) := changes_dev s _

/-- Outside Bedrock on fault the cause waits for the evaluation of R26. -/
theorem State.latchFatal_of_ne {c : FatalCause} (h : s.dev.mode ≠ .bedFault) :
    s.latchFatal c = (s.latchCore c).latched c := by
  simp only [State.latchFatal, if_neg h, State.latchCore, State.latched]

theorem State.latchCore_changes (c : FatalCause) :
    ChangesOnly [.device, .clocks, .cameras, .kiln, .fabric, .monitor] s (s.latchCore c) :=
  ChangesOnly.ite s.holdCore_changes (.refl _ s)

theorem State.latchCore_dev (c : FatalCause) :
    (s.latchCore c).dev = { s.dev with core := if c.holdsCore then .held else s.dev.core } := by
  unfold State.latchCore; split
  · exact s.holdCore_dev
  · rfl

theorem State.latchCore_state (c : FatalCause) (k : CamPort) : ((s.latchCore c).cam[k]).state = (s.cam[k]).state := by
  unfold State.latchCore; split
  · rw [State.holdCore_cam]
  · rfl

/-- A fabric-side fault in Bedrock on fault: the fabric is no longer kept (R38). -/
def State.fabricFailed (s : State) (c : FatalCause) : State :=
  { s with dev := { s.dev with fabricFault := true, fabricKept := false }
           mon := if c.holdsCore then { s.mon with enabled := false, confirm := none } else s.mon }

theorem State.fabricFailed_changes (c : FatalCause) : ChangesOnly [.device, .monitor] s (s.fabricFailed c) := by
  intro q hq; cases q <;> simp_all [Part.same, Tal.restSame, Mov.restSame, State.fabricFailed]

/-- In Bedrock on fault a cause takes the ports down where it lies on the fabric side. -/
theorem State.latchFatal_of_eq {c : FatalCause} (h : s.dev.mode = .bedFault) :
    s.latchFatal c = if c.fabricSide then (s.latchCore c).portsOff.fabricFailed c else s.latchCore c := by
  simp only [State.latchFatal, if_pos h, State.latchCore, State.fabricFailed]

/-- What a latched fault makes of the device, in any mode. -/
theorem State.latchFatal_dev (c : FatalCause) : ∃ f a b, (s.latchFatal c).dev = { s.dev with
    core := if c.holdsCore then .held else s.dev.core, fatal := f, fabricFault := a, fabricKept := b } := by
  have h := s.latchCore_dev c
  by_cases hm : s.dev.mode = .bedFault
  · have hp : (s.latchCore c).portsOff.dev = (s.latchCore c).dev := State.portsOff_changes _ .device (by decide)
    rw [State.latchFatal_of_eq s hm]
    split
    · exact ⟨_, _, _, by rw [State.fabricFailed, hp, h]⟩
    · exact ⟨_, _, _, h⟩
  · rw [State.latchFatal_of_ne s hm, State.latched, h]
    exact ⟨_, _, _, rfl⟩

theorem State.latchFatal_rest (c : FatalCause) :
    ChangesOnly [.device, .fabric, .monitor, .journal, .deviceTallies, .twin] (s.latchCore c) (s.latchFatal c) := by
  by_cases hm : s.dev.mode = .bedFault
  · rw [State.latchFatal_of_eq s hm]
    exact ChangesOnly.ite (((State.portsOff_changes _).mono (by decide)).trans
      ((State.fabricFailed_changes _ c).mono (by decide))) (.refl _ _)
  · rw [State.latchFatal_of_ne s hm]
    exact (State.latched_changes _ c).mono (by decide)

theorem State.latchFatal_changes (c : FatalCause) : ChangesOnly [.device, .clocks, .cameras, .kiln, .fabric, .monitor,
    .journal, .deviceTallies, .twin] s (s.latchFatal c) :=
  ((s.latchCore_changes c).mono (by decide)).trans ((s.latchFatal_rest c).mono (by decide))

theorem State.latchFatal_state (c : FatalCause) (k : CamPort) : ((s.latchFatal c).cam[k]).state = (s.cam[k]).state :=
  ((s.latchFatal_rest c).camState (by decide) k).trans (s.latchCore_state c k)

end latch

/-! The entry into Bedrock on fault (R38, R598). -/

section enter
variable (s : State)

/-- What stops at an entry into Bedrock on fault, up to the ports. -/
def State.faultStopped (s : State) : State :=
  let s0 := if s.trole != .none && s.twin.holding then s.beginHandover true else s
  (((((s0.abandonCal).camsOff).videoStop true).clearRecords).dropSlabs.pllRetry).monStop

/-- The ports stay on where the fabric is kept. -/
def State.faultPorts (s : State) (kept : Bool) : State := if kept then s else s.portsOff

/-- The state in which Bedrock on fault begins. -/
def State.faultReady (s : State) (kept : Bool) (cause : FatalCause) : State :=
  { s with dev := { s.dev with
      fatal := [], fatalCause := some cause, fabricKept := kept, accepted := [], changeover := .idle, relay := kept
      start := if s.dev.start = some .powerUp then some .powerUp else none } }

/-- The fabric is kept where no fabric-side fault is latched. -/
def State.keepsFabric (s : State) : Bool := !s.dev.fabricFault && s.anyPort

theorem State.enterFault_eq : s.enterFault =
    ((((s.faultStopped.faultPorts s.faultStopped.keepsFabric).faultReady s.faultStopped.keepsFabric
      (s.dev.fatal.headD .clockFault)).setMode .bedFault).journal 0xAE
        ((s.dev.fatal.headD .clockFault).code + 16 * bit s.faultStopped.keepsFabric)).settle := by
  unfold State.enterFault
  extract_lets cause s0 s1 s2 kept s3 d s4
  rw [show s.faultStopped = s2 from rfl]
  clear_value s2
  rfl

/-- What is still after the stops. -/
structure FaultStill (t : State) : Prop where
  kiln : t.kiln.running = false
  head : t.head.on = false
  pll : t.clk.pll = .off
  mon : t.mon.enabled = false
  cam : ∀ k : CamPort, (t.cam[k]).state = .off

theorem FaultStill.congr {t u : State} (h : FaultStill t) (hkiln : u.kiln = t.kiln) (hhead : u.head = t.head)
    (hpll : u.clk.pll = t.clk.pll) (hmon : u.mon = t.mon) (hcam : u.cam = t.cam) : FaultStill u :=
  ⟨hkiln ▸ h.kiln, hhead ▸ h.head, hpll.trans h.pll, hmon ▸ h.mon, hcam ▸ h.cam⟩

theorem State.faultStopped_parts : s.faultStopped.dev = s.dev ∧ s.faultStopped.pending = s.pending ∧
    FaultStill s.faultStopped := by
  unfold State.faultStopped
  extract_lets s0
  have h0 : ChangesOnly [.sounding, .wiring, .monitor, .journal, .deviceTallies, .fabric, .twin] s s0 :=
    ChangesOnly.ite ((s.beginHandover_changes true).mono (by decide)) (.refl _ s)
  have h1 := h0.trans s0.abandonCal_changes
  generalize s0.abandonCal = u at h1
  have hcams := h1.join u.camsOff_changes
  have hoff (k : CamPort) : ((u.camsOff.cam)[k]).state = .off := by rw [State.camsOff_cam, CamSt.putOff_state]
  generalize u.camsOff = v at hcams hoff
  have hv := State.videoStop_changes v true
  have hr := (State.clearRecords_changes (v.videoStop true)).join (State.dropSlabs_changes _)
  have hp := State.pllRetry_changes (v.videoStop true).clearRecords.dropSlabs
  have hm := State.monStop_changes (v.videoStop true).clearRecords.dropSlabs.pllRetry
  obtain ⟨d, hclk⟩ := State.pllRetry_clk (v.videoStop true).clearRecords.dropSlabs
  have hlast := hr.join (hp.join hm)
  have hall := hcams.join (hv.join hlast)
  refine ⟨hall .device (by decide), hall .pending (by decide), ?_, ?_, ?_, ?_, fun k => ?_⟩
  · exact congrArg Kiln.running (hlast .kiln (by decide))
  · have hd : (v.videoStop true).clearRecords.dropSlabs.head = (v.videoStop true).clearRecords.head :=
      State.dropSlabs_changes _ .head (by decide)
    exact (congrArg Head.on ((hp.join hm) .head (by decide))).trans (congrArg Head.on hd)
  · exact (congrArg Clk.pll (hm .clocks (by decide))).trans (congrArg Clk.pll hclk)
  · rfl
  · exact ((hv.join hlast).camState (by decide) k).trans (hoff k)

theorem State.faultPorts_changes (kept : Bool) :
    ChangesOnly [.journal, .deviceTallies, .fabric, .twin] s (s.faultPorts kept) :=
  ChangesOnly.ite (.refl _ s) s.portsOff_changes

/-- The state as Bedrock on fault is entered. -/
def State.faultEntry (s : State) : State :=
  (s.faultStopped.faultPorts s.faultStopped.keepsFabric).faultReady s.faultStopped.keepsFabric
    (s.dev.fatal.headD .clockFault)

/-- The entry itself is a change of mode and bookkeeping. -/
theorem State.enterFault_book : Bookkeeping (s.faultEntry.withMode .bedFault) s.enterFault :=
  s.enterFault_eq ▸ ((State.setMode_book s.faultEntry .bedFault).trans (State.journal_book _ _ _)).trans
    (State.settle_book _)

theorem State.faultEntry_rest : ChangesOnly [.device, .journal, .deviceTallies, .fabric, .twin] s.faultStopped
    (s.faultEntry.withMode .bedFault) :=
  (((State.faultPorts_changes _ _).mono (by decide)).trans ((changes_dev _ _).mono (by decide))).trans
    ((changes_dev _ _).mono (by decide))

theorem State.faultEntry_dev : s.faultEntry.dev = { s.dev with
    fatal := [], fatalCause := some (s.dev.fatal.headD .clockFault), fabricKept := s.faultStopped.keepsFabric
    accepted := [], changeover := .idle, relay := s.faultStopped.keepsFabric
    start := if s.dev.start = some .powerUp then some .powerUp else none } := by
  have h : (s.faultStopped.faultPorts s.faultStopped.keepsFabric).dev = s.dev :=
    (State.faultPorts_changes _ _ .device (by decide)).trans s.faultStopped_parts.1
  rw [State.faultEntry, State.faultReady, h]

theorem State.enterFault_dev : ∃ k b, s.enterFault.dev = { s.dev with
    mode := .bedFault, hold := 0, fatal := [], fatalCause := some (s.dev.fatal.headD .clockFault), fabricKept := b
    accepted := [], changeover := .idle, relay := b, modeTicks := k
    start := if s.dev.start = some .powerUp then some .powerUp else none } := by
  obtain ⟨k, hk⟩ := s.enterFault_book.dev
  exact ⟨k, _, by rw [hk]; simp only [State.withMode, State.faultEntry_dev, Mode.bedrock]; rfl⟩

theorem State.enterFault_still : FaultStill s.enterFault := by
  obtain ⟨-, -, h⟩ := s.faultStopped_parts
  have hk := s.enterFault_book
  have hr := s.faultEntry_rest
  obtain ⟨d, hclk⟩ := hk.clk
  have hclk' : (s.faultEntry.withMode .bedFault).clk = s.faultStopped.clk := hr .clocks (by decide)
  have hkiln : s.enterFault.kiln = s.faultStopped.kiln := hk.kiln.trans (hr .kiln (by decide))
  have hhead : s.enterFault.head = s.faultStopped.head := hk.head.trans (hr .head (by decide))
  have hmon : s.enterFault.mon = s.faultStopped.mon := hk.mon.trans (hr .monitor (by decide))
  have hcam : s.enterFault.cam = s.faultStopped.cam := hk.cam.trans (hr .cameras (by decide))
  exact h.congr hkiln hhead (by rw [hclk, hclk']) hmon hcam

theorem State.enterFault_pending : s.enterFault.pending = s.pending :=
  s.enterFault_book.pending.trans ((s.faultEntry_rest .pending (by decide)).trans s.faultStopped_parts.2.1)

theorem headD_of_ne_nil {α : Type} {l : List α} (h : l ≠ []) (a : α) : some (l.headD a) = l.head? := by
  cases l with
  | nil => exact absurd rfl h
  | cons x l => rfl

end enter

/-! A restart of the house core (R596, R597). -/

section restart
variable (s : State)

/-- A compile in progress is abandoned. -/
def State.compileDropped (s : State) : State :=
  { s with bead := { s.bead with
      phase := match s.bead.phase with
        | .compiling _ _ => .idle
        | x => x } }

/-- The device with a restart counted. -/
def State.restartCounted (s : State) : State :=
  { s with dev := { s.dev with
      coreRestarts := s.now :: recent s.now (600 * tps) s.dev.coreRestarts, watchdogs := s.dev.watchdogs + 1 } }

/-- The restarts of the latest 600 s, this one included. -/
def State.restartCount (s : State) : Nat := (s.now :: recent s.now (600 * 32768) s.dev.coreRestarts).length

/-- The restart as counted and journalled, before the mains-domain parts reset. -/
def State.restartLogged (s : State) : State := (s.restartCounted.journal 0xA8 (min 3 s.restartCount)).mirrorDown

/-- The state with the mains-domain parts reset by a core restart. -/
def State.restarted (s : State) : State := s.restartLogged.resetMains.compileDropped

theorem exec_coreRestart {s : State} (h : s.dev.core = .running ∨ s.dev.core = .romCheck) :
    exec .coreRestart s = .next (if 3 ≤ s.restartCount then (s.restarted.journal 0xA9 0).latchFatal .coreFault
      else (s.restarted.startCore (s.dev.start.getD .coreRestart)).resumeTime) := by
  have hg : (decide (s.dev.core = .running) || decide (s.dev.core = .romCheck)) = true := by simpa using h
  show execCoreRestart s = _
  rw [execCoreRestart, hg, occurs_true]
  extract_lets times d s1 s2 s3 b s4
  have h4 : s4 = s3.compileDropped := by clear_value s3; rfl
  have h3 : s3.compileDropped = s.restarted := congrArg State.compileDropped (congrArg State.resetMains rfl)
  rw [h4, h3]
  rfl

theorem State.restartLogged_changes :
    ChangesOnly [.device, .journal, .deviceTallies, .fabric, .twin] s s.restartLogged :=
  (((changes_dev s _).mono (by decide)).trans ((State.journal_le _ _ _).mono (by decide))).trans
    ((State.mirrorDown_changes _).mono (by decide))

theorem State.restartLogged_dev : s.restartLogged.dev = s.restartCounted.dev :=
  (State.mirrorDown_changes _ .device (by decide)).trans (State.journal_le _ _ _ .device (by decide))

theorem State.compileDropped_changes : ChangesOnly [.beads] s s.compileDropped := changes_bead s _

theorem State.restarted_dev : s.restarted.dev = { s.restartCounted.dev with
    core := .off, relay := false, romOk := false, compileDone := false, cacheDone := false
    serdesFault := Vector.replicate 3 false } := by
  have hd : s.restarted.dev = s.restartLogged.resetMains.dev := State.compileDropped_changes _ .device (by decide)
  rw [hd, s.restartLogged.resetMains_reset.dev, s.restartLogged_dev]

theorem State.restarted_parts : (∀ k : CamPort, (s.restarted.cam[k]).state = .off) ∧ s.restarted.pending = s.pending ∧
    s.restarted.tr = s.tr := by
  have h := s.restartLogged.resetMains_reset
  have hb := s.restartLogged_changes
  have hc := State.compileDropped_changes s.restartLogged.resetMains
  exact ⟨fun k => (hc.camState (by decide) k).trans (h.cam k),
    (hc .pending (by decide)).trans ((h.rest .pending (by decide)).trans (hb .pending (by decide))),
    (hc .sounding (by decide)).trans ((h.rest .sounding (by decide)).trans (hb .sounding (by decide)))⟩

end restart

end Sys2Proof.Machine

namespace Sys2Proof.Machine

/-! Fatal faults, from their detection to what they latch (§14.4). -/

section faults
variable {s : State}

theorem exec_fatalFaultBedrockEntry (hf : s.dev.fatal ≠ []) (hmains : s.dev.mainsOk = true)
    (hm : s.dev.mode = .loam ∨ s.dev.mode = .sand ∨ s.dev.mode = .startup) :
    exec .fatalFaultBedrockEntry s = .next s.enterFault := by
  have hne : s.dev.fatal.isEmpty = false := by simpa using hf
  refine occurs_of ?_
  rcases hm with h | h | h <;> simp [hne, hmains, h]

theorem exec_fatalFaultInMainsReturn (hf : s.dev.fatal ≠ []) (hm : s.dev.mode = .bedBattery)
    (hst : s.dev.start = some .mainsReturn) : exec .fatalFaultInMainsReturn s = .next s.enterFault := by
  have hne : s.dev.fatal.isEmpty = false := by simpa using hf
  exact occurs_of (by simp [hne, hm, hst])

/-- A fault of the house core, journalled and then latched outside Bedrock on fault. -/
theorem State.latchFatal_journal_changes {code data : Nat} {c : FatalCause} (hm : s.dev.mode ≠ .bedFault) :
    ChangesOnly ([.device, .clocks, .cameras, .kiln, .fabric, .monitor] ++ s.journalling) s
      ((s.journal code data).latchFatal c) := by
  have hmode : (s.journal code data).dev.mode ≠ .bedFault := (State.journal_book s code data).mode ▸ hm
  refine ChangesOnly.of_journal (code := code) (data := data) ?_
  rw [State.latchFatal_of_ne _ hmode]
  exact (State.latchCore_changes _ c).trans ((State.latched_changes _ c).mono (by decide))

theorem State.latchFatal_journal_dev {code data : Nat} {c : FatalCause} (hm : s.dev.mode ≠ .bedFault) :
    ((s.journal code data).latchFatal c).dev = { s.dev with
      core := if c.holdsCore then .held else s.dev.core, fatal := s.dev.fatal ++ [c]
      fabricFault := s.dev.fabricFault || c.fabricSide } := by
  have hj : (s.journal code data).dev = s.dev := State.journal_le s code data .device (by decide)
  have hmode : (s.journal code data).dev.mode ≠ .bedFault := hj ▸ hm
  rw [State.latchFatal_of_ne _ hmode, State.latched, State.latchCore_dev, hj]

theorem exec_romFault (h : s.dev.core = .romCheck) :
    exec .romFault s = .next ((s.journal 0xAA 0).latchFatal .romFault) := occurs_of (by simp [h])

theorem exec_clockFault {t0 : Nat} (hm : s.dev.mode = .loam ∨ s.dev.mode = .sand)
    (hx : s.clk.xoFail = true ∨ s.clk.tdcFault = true) (hs : s.dev.clockBadSince = some t0) (ht : t0 + 32768 ≤ s.now) :
    exec .clockFault s = .next ((s.journal 0xAB (bit s.clk.xoFail)).latchFatal .clockFault) := by
  have hmode : (decide (s.dev.mode = .loam) || decide (s.dev.mode = .sand)) = true := by simpa using hm
  have hdown : s.tdcDown = true := by simpa [State.tdcDown] using hx
  have ht' : t0 + tps ≤ s.now := ht
  exact occurs_of (by rw [hmode, hdown, hs]; simpa using ht')

/-- The state with a die temperature measured. -/
def State.heated (s : State) (d : Int) : State := { s with dev := { s.dev with dieTemp := d } }

theorem exec_overtemp {d : Int} {n : Nat} (hr : s.mainsRunning = true) (hm : s.dev.mode ≠ .bedFault) (hd : 120 * 128 ≤ d)
    (hn : 32768 ≤ n) : exec (.overtemp d n) s =
      .next (((s.heated d).journal 0xAC ((d / 128) % 256).toNat).latchFatal .overtemp) := by
  have hd' : decide (120 * 128 ≤ d) = true := decide_eq_true hd
  have hn' : decide (tps ≤ n) = true := decide_eq_true hn
  refine (occurs_of (by rw [hr, hd', hn']; rfl)).trans ?_
  rw [if_neg hm, State.heated]

/-- The state with a port's SERDES FAULT noted, journalled, and the port OFF. -/
def State.serdesNoted (s : State) (p : FabPort) : State :=
  { s with dev := { s.dev with serdesFault := s.dev.serdesFault.set p true } }
def State.serdesDown (s : State) (p : FabPort) : State := ((s.serdesNoted p).journal 0xAD (p.val * 16384)).portDown p .off

/-- A fabric-side fault is latched where every port has one. -/
def State.latchSerdes (s : State) : State := if s.allSerdes then s.latchFatal .serdesFault else s

theorem exec_serdesFault {p : FabPort} (hrole : s.portRole p ≠ .off) (hl : s.clk.pll = .locked)
    (hf : s.dev.serdesFault[p] = false) :
    exec (.serdesFault p) s = .next (s.serdesDown p).latchSerdes := by
  have hg : (decide (s.portRole p ≠ .off) && decide (s.clk.pll = .locked) && !s.dev.serdesFault[p]) = true := by
    rw [hf]; simp [hrole, hl]
  show execSerdesFault p s = _
  rw [execSerdesFault, hg, occurs_true]
  extract_lets d s1 s2
  rw [show s.serdesDown p = s2 from rfl, State.latchSerdes]

theorem State.serdesDown_changes (p : FabPort) : ChangesOnly [.journal, .deviceTallies, .fabric, .twin] (s.serdesNoted p)
    (s.serdesDown p) := (State.journal_le _ _ _).trans (State.portDown_changes _ p .off)

theorem State.latchSerdes_serdesFault : s.latchSerdes.dev.serdesFault = s.dev.serdesFault := by
  obtain ⟨f, a, b, hlatch⟩ := s.latchFatal_dev .serdesFault
  unfold State.latchSerdes; split
  · rw [hlatch]
  · rfl

theorem State.latchSerdes_changes :
    ChangesOnly [.device, .fabric, .monitor, .journal, .deviceTallies, .twin] s s.latchSerdes :=
  ChangesOnly.ite (s.latchFatal_rest .serdesFault) (.refl _ s)

theorem State.latchSerdes_fab (hm : s.dev.mode ≠ .bedFault) : s.latchSerdes.fab = s.fab := by
  unfold State.latchSerdes; split
  · rw [State.latchFatal_of_ne s hm]; rfl
  · rfl

theorem State.serdesNoted_changes (p : FabPort) : ChangesOnly [.device] s (s.serdesNoted p) := changes_dev s _

theorem State.serdesDown_dev (p : FabPort) : (s.serdesDown p).dev = (s.serdesNoted p).dev :=
  State.serdesDown_changes p .device (by decide)

theorem State.serdesDown_link (p : FabPort) : (((s.serdesDown p).fab.port)[p]).link = .off := by
  rw [State.serdesDown, State.portDown_link, if_pos rfl]

/-- No part but those of a port going down and of a fault is reached. -/
theorem State.serdesLatched_changes (p : FabPort) :
    ChangesOnly [.device, .fabric, .monitor, .journal, .deviceTallies, .twin] s (s.serdesDown p).latchSerdes :=
  (((State.serdesNoted_changes p).mono (by decide)).trans ((State.serdesDown_changes p).mono (by decide))).trans
    State.latchSerdes_changes

end faults

/-- Settles O10: a latched cause changes the device and, where it holds the house core, what waited for the core; the entry
into Bedrock on fault stops the parts one by one and changes the mode. -/
theorem fatalFaults : Obligations.FatalFaults := by
  refine ⟨?_, ?_, ?_, ?_, ?_, ?_, ?_⟩
  · intro s hf hmains hm
    obtain ⟨k, b, hdev⟩ := s.enterFault_dev
    have h := s.enterFault_still
    refine ⟨_, exec_fatalFaultBedrockEntry hf hmains hm, ?_, ?_, ?_, ?_, ?_, ?_, h.kiln, h.head, h.pll, h.mon, h.cam,
      s.enterFault_pending⟩
    · rw [hdev]
    · rw [hdev]
    · rw [hdev]; exact headD_of_ne_nil hf _
    · rw [hdev]
    · rw [hdev]
    · rw [hdev]
  · intro s hf hm hst
    obtain ⟨k, b, hdev⟩ := s.enterFault_dev
    refine ⟨_, exec_fatalFaultInMainsReturn hf hm hst, ?_, ?_, ?_, ?_, s.enterFault_pending⟩
    · rw [hdev]
    · rw [hdev]; simp [hst]
    · rw [hdev]
    · rw [hdev]; exact headD_of_ne_nil hf _
  · intro s hc hm
    have hdev := State.latchFatal_journal_dev (s := s) (code := 0xAA) (data := 0) (c := .romFault) hm
    have hmode : (s.journal 0xAA 0).dev.mode ≠ .bedFault := (State.journal_book s 0xAA 0).mode ▸ hm
    have hcore : (s.journal 0xAA 0).latchFatal .romFault = _ := State.latchFatal_of_ne _ hmode
    have hfab : ((s.journal 0xAA 0).latchFatal .romFault).fab = { (s.journal 0xAA 0).fab with inbox := [] } := by
      rw [hcore]; rfl
    have hcam (k : CamPort) : ((s.journal 0xAA 0).latchFatal .romFault).cam[k] =
        { (s.journal 0xAA 0).cam[k] with fsPend := [], fePend := false } := by
      rw [hcore]; exact State.holdCore_cam _ k
    refine ⟨_, exec_romFault hc, ?_, ?_, ?_, fun k => ⟨?_, ?_, ?_⟩, ?_, ?_, State.latchFatal_journal_changes hm⟩
    · rw [hdev]; rfl
    · rw [hdev]
    · rw [hdev]; simp [FatalCause.fabricSide, FatalCause.holdsCore]
    · rw [hcam]
    · rw [hcam]
    · rw [hcam, (State.journal_book s 0xAA 0).cam]
    · rw [hfab]
    · rw [hfab]
  · intro s t0 hm hx hs ht
    have hne : s.dev.mode ≠ .bedFault := by rcases hm with h | h <;> simp [h]
    have hdev := State.latchFatal_journal_dev (s := s) (code := 0xAB) (data := bit s.clk.xoFail) (c := .clockFault) hne
    refine ⟨_, exec_clockFault hm hx hs ht, ?_, ?_, State.latchFatal_journal_changes hne⟩
    · rw [hdev]; rfl
    · rw [hdev]
  · intro s d n hr hm hd hn
    have hdev := State.latchFatal_journal_dev (s := s.heated d) (code := 0xAC) (data := ((d / 128) % 256).toNat)
      (c := .overtemp) hm
    have hmode : ((s.heated d).journal 0xAC ((d / 128) % 256).toNat).dev.mode ≠ .bedFault :=
      (State.journal_book (s.heated d) _ _).mode ▸ hm
    refine ⟨_, exec_overtemp hr hm hd hn, ?_, ?_, ?_, ?_⟩
    · rw [hdev]; rfl
    · rw [hdev]; rfl
    · rw [hdev]; rfl
    · have heat : ChangesOnly [.device] s (s.heated d) := changes_dev s _
      rw [State.latchFatal_of_ne _ hmode]
      exact (heat.then_journal (by decide) _ _).more (State.latched_changes _ .overtemp) (by decide)
  · intro s p hrole hl hf
    have hc := State.serdesLatched_changes (s := s) p
    refine ⟨_, exec_serdesFault hrole hl hf, ?_, fun hm => ?_, hc .pending (by decide), hc .sounding (by decide),
      hc .cameras (by decide)⟩
    · rw [State.latchSerdes_serdesFault, State.serdesDown_dev, State.serdesNoted]
      simp
    · rw [State.latchSerdes_fab (State.serdesDown_dev (s := s) p ▸ hm)]
      exact State.serdesDown_link p
  · intro s hc
    have hdev := s.restarted_dev
    obtain ⟨hcam, hpend, htr⟩ := s.restarted_parts
    have hcount : (s.now :: recent s.now (600 * 32768) s.dev.coreRestarts).length = s.restartCount := rfl
    rw [hcount, exec_coreRestart hc]
    by_cases h3 : 3 ≤ s.restartCount
    · have hj := State.journal_le s.restarted 0xA9 0
      obtain ⟨f, a, b, hlatch⟩ := (s.restarted.journal 0xA9 0).latchFatal_dev .coreFault
      have hd : (s.restarted.journal 0xA9 0).dev = s.restarted.dev := hj .device (by decide)
      rw [hd, hdev] at hlatch
      have hl := (s.restarted.journal 0xA9 0).latchFatal_changes .coreFault
      rw [if_pos h3, if_pos h3]
      refine ⟨_, rfl, ?_, ?_, ?_, ?_, fun k => ?_, ?_, ?_⟩
      · rw [hlatch]; rfl
      · rw [hlatch]; rfl
      · rw [hlatch]; rfl
      · rw [hlatch]; rfl
      · exact (State.latchFatal_state _ _ k).trans ((hj.camState (by decide) k).trans (hcam k))
      · exact (hl .pending (by decide)).trans ((hj .pending (by decide)).trans hpend)
      · exact (hl .sounding (by decide)).trans ((hj .sounding (by decide)).trans htr)
    · have hs := s.restarted.startCore_changes (s.dev.start.getD .coreRestart)
      have ht := State.resumeTime_changes (s.restarted.startCore (s.dev.start.getD .coreRestart))
      have hend := (ht .device (by decide)).trans (s.restarted.startCore_dev (s.dev.start.getD .coreRestart))
      rw [hdev] at hend
      rw [if_neg h3, if_neg h3]
      refine ⟨_, rfl, ?_, ?_, ?_, ?_, fun k => ?_, ?_, ?_⟩
      · rw [hend]; rfl
      · rw [hend]; rfl
      · rw [hend]; rfl
      · rw [hend]
      · exact (ht.camState (by decide) k).trans ((hs.camState (by decide) k).trans (hcam k))
      · exact (ht .pending (by decide)).trans ((hs .pending (by decide)).trans hpend)
      · exact (ht .sounding (by decide)).trans ((hs .sounding (by decide)).trans htr)

end Sys2Proof.Machine

namespace Sys2Proof.Machine

/-! The PLL's outputs and their shadow settings (§4.4; R159). -/

section outputs
variable (s : State)

theorem State.armOut_pllOut (o : PllOut) (x : PllSetting) (b : PllBoundary) (j : PllOut) :
    (s.armOut o x b).clk.pllOut[j] =
      if j = o then { s.clk.pllOut[o] with shadow := some (x, b) } else s.clk.pllOut[j] := by
  by_cases h : j = o
  · subst h; simp [State.armOut]
  · have hv : o.val ≠ j.val := fun e => h (Fin.ext e.symm)
    simp [State.armOut, h, hv]

/-- What an output wants does not hang on what waits for it. -/
theorem State.armOut_wantOut (o : PllOut) (x : PllSetting) (b : PllBoundary) (j : PllOut) :
    (s.armOut o x b).wantOut j = s.wantOut j := by
  have hnow : ((s.armOut o x b).clk.pllOut[j]).now = (s.clk.pllOut[j]).now := by
    rw [State.armOut_pllOut]
    split
    · subst j; rfl
    · rfl
  have heff (c : BeadNo) (i : Fin 8) : (s.armOut o x b).eff c i = s.eff c i := rfl
  have hport : (s.armOut o x b).anyPort = s.anyPort := rfl
  have hdev : (s.armOut o x b).dev = s.dev := rfl
  simp only [State.wantOut, hnow, heff, hport, hdev]

theorem State.armAll_shadow (o : PllOut) : (s.armAll.clk.pllOut[o]).shadow = some (s.wantOut o, .lock) := by
  have loop := foldl_finRange (f := fun t (o : PllOut) => t.armOut o (t.wantOut o) .lock)
    (fun t (o : PllOut) => (t.clk.pllOut[o]).shadow) (fun o _ => some (s.wantOut o, .lock))
    (fun t => ∀ o, t.wantOut o = s.wantOut o) (fun t o ht j => (t.armOut_wantOut o _ _ j).trans (ht j))
    (fun t o j ht => by rw [State.armOut_pllOut, ht o]; split <;> rfl) s (fun _ => rfl) o
  beta_reduce at loop
  unfold State.armAll
  generalize (List.finRange 18).foldl (fun t (o : PllOut) => t.armOut o (t.wantOut o) .lock) s = t at loop ⊢
  exact loop

theorem State.armAll_clk : ∃ v, s.armAll.clk = { s.clk with pllOut := v } := by
  have loop (l : List PllOut) : ∀ t : State, (∃ v, t.clk = { s.clk with pllOut := v }) →
      ∃ v, (l.foldl (fun t (o : PllOut) => t.armOut o (t.wantOut o) .lock) t).clk = { s.clk with pllOut := v } := by
    induction l with
    | nil => exact fun _ h => h
    | cons o l ih =>
      intro t ⟨v, hv⟩
      refine ih _ ⟨t.clk.pllOut.set o { t.clk.pllOut[o] with shadow := some (t.wantOut o, .lock) }, ?_⟩
      have harm : (t.armOut o (t.wantOut o) .lock).clk = { t.clk with
          pllOut := t.clk.pllOut.set o { t.clk.pllOut[o] with shadow := some (t.wantOut o, .lock) } } := rfl
      rw [harm, hv]
  exact loop _ s ⟨_, rfl⟩

theorem State.pickRef_congr {t : State} (hc : t.clk.refinPresent = s.clk.refinPresent) (hf : t.fab = s.fab) :
    t.pickRef = s.pickRef := by
  have hfab : t.fabricRef = s.fabricRef := by
    unfold State.fabricRef State.fabricLocked
    rw [hf]
  simp only [State.pickRef, hc, hfab]

theorem State.armAll_pickRef : s.armAll.pickRef = s.pickRef := by
  obtain ⟨v, hclk⟩ := s.armAll_clk
  exact s.pickRef_congr (by rw [hclk]) (s.armAll_changes .fabric (by decide))

theorem State.boundary_pllOut (b : PllBoundary) (o : PllOut) : (s.boundary b).clk.pllOut[o] = (s.clk.pllOut[o]).take b := by
  simp [State.boundary]

theorem PllOutput.take_of_ne {q : PllOutput} {b : PllBoundary} (h : ∀ x, q.shadow ≠ some (x, b)) : q.take b = q := by
  unfold PllOutput.take
  split
  · rename_i x c hq
    exact if_neg (by rintro rfl; exact h x hq)
  · rfl

theorem PllOutput.take_lock {q : PllOutput} {x : PllSetting} (h : q.shadow = some (x, .lock)) :
    q.take .lock = { now := x, shadow := none, phase := 0, pos := x.delay } := by
  simp [PllOutput.take, h]

theorem PllOutput.take_of_not_lock {q : PllOutput} {x : PllSetting} {b : PllBoundary} (h : q.shadow = some (x, b))
    (hb : b ≠ .lock) : q.take b = { q with now := x, shadow := none } := by
  simp [PllOutput.take, h, hb]

end outputs

/-! Seeking lock (R150, R152, R153). -/

section seek
variable (s : State)

theorem State.useRef_changes (r : PllRef) : ChangesOnly [.clocks] s (s.useRef r) := changes_clk s _
theorem State.seekLock_changes : ChangesOnly [.clocks] s s.seekLock :=
  (s.useRef_changes _).trans (changes_clk _ _)

theorem State.seekLock_clk : s.seekLock.clk = { s.clk with
    pllRef := s.pickRef, pllFb := s.pickRef.feedback, pllFrac := s.fracFor s.pickRef, pllFrozen := false
    pllRefLost := false, pll := .seeking, pllAt := s.now } := rfl

theorem State.demand_mem (d : XoDemand) : d ∈ (s.demand d).clk.demands := by
  unfold State.demand; split
  · exact List.contains_iff_mem.mp ‹_›
  · simp

theorem State.undemand_not_mem (d : XoDemand) : d ∉ (s.undemand d).clk.demands := by
  simp [State.undemand]

/-- PLL NO LOCK set, the relay over, the fabric of Bedrock on fault no longer kept (R153, R38). -/
def State.noLockSet (s : State) : State := { s with clk := { s.clk with pllNoLock := true } }
def State.relayOver (s : State) : State := { s with dev := { s.dev with relay := false } }
def State.fabricLost (s : State) : State := { s with dev := { s.dev with fabricKept := false } }

theorem State.noLockSet_changes : ChangesOnly [.clocks] s s.noLockSet := changes_clk s _
theorem State.relayOver_changes : ChangesOnly [.device] s s.relayOver := changes_dev s _
theorem State.fabricLost_fab : s.fabricLost.fab = s.fab := rfl
theorem State.fabricLost_changes : ChangesOnly [.device] s s.fabricLost := changes_dev s _

/-- What a PLL without lock leaves off, and the relay (R153). -/
def State.pllGivenUp (s : State) : State := ((s.journal 0xA6 s.clk.pllRef.code).noLockSet.pllStop).relayOver

theorem State.pllGivenUp_after : ChangesOnly [.device, .clocks] (s.journal 0xA6 s.clk.pllRef.code) s.pllGivenUp :=
  (((State.noLockSet_changes _).mono (by decide)).trans ((State.pllStop_changes _).mono (by decide))).trans
    ((State.relayOver_changes _).mono (by decide))

theorem State.pllGivenUp_changes :
    ChangesOnly [.device, .clocks, .journal, .deviceTallies, .fabric, .twin] s s.pllGivenUp :=
  ((State.journal_le s _ _).mono (by decide)).trans (s.pllGivenUp_after.mono (by decide))

theorem State.noLockSet_stop_clk : s.noLockSet.pllStop.clk.pll = .off ∧ s.noLockSet.pllStop.clk.pllNoLock = true := by
  obtain ⟨d, hc⟩ := s.noLockSet.pllStop_clk
  rw [hc]
  exact ⟨rfl, rfl⟩

theorem State.pllGivenUp_clk : s.pllGivenUp.clk.pll = .off ∧ s.pllGivenUp.clk.pllNoLock = true :=
  State.noLockSet_stop_clk (s.journal 0xA6 s.clk.pllRef.code)

theorem State.pllGivenUp_dev : s.pllGivenUp.dev = { s.dev with relay := false } := by
  have hstop : (s.journal 0xA6 s.clk.pllRef.code).noLockSet.pllStop.dev = s.dev :=
    (State.pllStop_changes _ .device (by decide)).trans (State.journal_le s _ _ .device (by decide))
  rw [State.pllGivenUp, State.relayOver, hstop]

theorem exec_pllNoLock_again {s : State} (hp : s.clk.pll = .seeking) (hr : s.refGone = false)
    (ht : s.clk.pllAt + 164 ≤ s.now) (hn : s.clk.pllAttempts < 2) : exec .pllNoLock s =
      .next ({ s with clk := { s.clk with pllAttempts := s.clk.pllAttempts + 1 } } : State).seekLock := by
  have hlt : s.clk.pllAttempts + 1 < 3 := by omega
  refine (occurs_of (by simp [hp, hr, ht])).trans ?_
  rw [if_pos hlt]

theorem exec_pllNoLock_last {s : State} (hp : s.clk.pll = .seeking) (hr : s.refGone = false)
    (ht : s.clk.pllAt + 164 ≤ s.now) (hn : 2 ≤ s.clk.pllAttempts) : exec .pllNoLock s =
      .next (if s.dev.mode = .bedFault then s.pllGivenUp.portsOff.fabricLost else s.pllGivenUp.latchFatal .pllNoLock) := by
  have hge : ¬ s.clk.pllAttempts + 1 < 3 := by omega
  have hg : (decide (s.clk.pll = .seeking) && !s.refGone && decide (s.clk.pllAt + 164 ≤ s.now)) = true := by
    simp [hp, hr, ht]
  show execPllNoLock s = _
  rw [execPllNoLock, hg, occurs_true]
  extract_lets n c0 s1 c s2 d s3 s4
  rw [if_neg hge, show s.pllGivenUp = s3 from rfl]
  rw [show s3.portsOff = s4 from rfl]
  clear_value s4 s3
  rfl

end seek

/-! Relay activity (R20). -/

section relay
variable (s : State)

theorem State.setTimeState_changes (k : TimeState) :
    ChangesOnly [.fabric, .journal, .deviceTallies, .twin] s (s.setTimeState k) := by
  unfold State.setTimeState; split
  · exact .refl _ s
  · exact ((changes_fab s _).mono (by decide)).trans ((State.journal_le _ _ _).mono (by decide))

theorem State.setTimeState_tstate (k : TimeState) : (s.setTimeState k).fab.tstate = k := by
  unfold State.setTimeState; split
  · assumption
  · exact (State.journal_sends { s with fab := { s.fab with tstate := k, fineRun := 0 } } _ _).tstate

theorem State.fineLost_changes : ChangesOnly [.fabric, .journal, .deviceTallies, .twin] s s.fineLost :=
  ChangesOnly.ite (s.setTimeState_changes .coarse) (.refl _ s)

theorem State.fineLost_tstate (h : s.fab.tstate = .fine) : s.fineLost.fab.tstate = .coarse := by
  rw [State.fineLost, if_pos h, State.setTimeState_tstate]

theorem exec_relayPllStop {s : State} (hm : s.dev.mode = .loam) (hr : s.dev.relay = true)
    (hl : ∀ p : FabPort, (s.fab.port[p]).link ≠ LinkState.active ∧ (s.fab.port[p]).link ≠ LinkState.training)
    (ht : s.dev.portsBusyAt + 32768 ≤ s.now) : exec .relayPllStop s =
      .next ((({ s with dev := { s.dev with relay := false } } : State).pllStop).fineLost) := by
  have hall : (allPorts.all fun p => decide ((s.fab.port[p]).link ≠ .active) && decide ((s.fab.port[p]).link ≠ .training)) =
      true := List.all_eq_true.mpr fun p _ => by simpa using hl p
  have ht' : s.dev.portsBusyAt + tps ≤ s.now := ht
  exact occurs_of (by rw [hall]; simp [hm, hr, ht'])

end relay

/-- Settles O22: the PLL, its outputs, the crossings and the relay, each by what its meaning makes of the clocks. -/
theorem pllCrossingsAndRelay : Obligations.PllCrossingsAndRelay := by
  refine ⟨?_, ?_, ?_, ?_, ?_, ?_, ?_, ?_, ?_, ?_, ?_, ?_, ?_, ?_, ?_, ?_, ?_, ?_, ?_, ?_⟩
  · intro s hx hn hw hp
    have hd := State.demand_book s.armAll.seekLock .pll
    obtain ⟨v, hclk⟩ := s.armAll_clk
    obtain ⟨ds, hdem⟩ := hd.clk
    have hc : (s.armAll.seekLock.demand .pll).clk = _ := hdem
    rw [State.seekLock_clk, State.armAll_pickRef, State.armAll_now] at hc
    have hexec : exec .pllStart s = .next (s.armAll.seekLock.demand .pll) :=
      (occurs_of (by simp [hx, hn, hw, hp])).trans (by rw [if_pos hp])
    refine ⟨_, hexec, ?_, ?_, ?_, ?_, State.demand_mem _ _, fun o => ?_, ?_⟩
    · rw [hc]
    · rw [hc]
    · rw [hc]
    · rw [hc]
    · rw [hc]; exact s.armAll_shadow o
    · exact (s.armAll_changes.trans (State.seekLock_changes _)).trans (State.demand_changes _ _)
  · intro s hp hr
    refine ⟨_, occurs_of (by simp [hp, hr]), rfl, rfl, rfl, rfl, fun o x ho => ?_,
      (changes_clk s _).trans (State.boundary_changes _ _)⟩
    rw [State.boundary_pllOut, PllOutput.take_lock (x := x)]
    simpa using ho
  · intro s hp hr
    exact occurs_of_not (by simp [hr])
  · intro s hp hr ht hn
    exact ⟨_, exec_pllNoLock_again hp hr ht hn, rfl, rfl, rfl, (changes_clk s _).trans (State.seekLock_changes _)⟩
  · intro s hp hr ht hn hm
    have hoff := s.pllGivenUp.portsOff_changes
    have hlost := s.pllGivenUp.portsOff.fabricLost_changes
    have hclk := (hlost .clocks (by decide)).trans (hoff .clocks (by decide))
    have hdev : s.pllGivenUp.portsOff.dev = { s.dev with relay := false } :=
      (hoff .device (by decide)).trans s.pllGivenUp_dev
    have hexec := exec_pllNoLock_last hp hr ht hn
    have hrole (p : FabPort) : s.pllGivenUp.portRole p = s.portRole p := s.pllGivenUp_changes.portRole (by decide) p
    rw [if_pos hm] at hexec
    refine ⟨_, hexec, ?_, ?_, rfl, ?_, fun p hrp => ?_⟩
    · exact (congrArg Clk.pll hclk).trans s.pllGivenUp_clk.1
    · exact (congrArg Clk.pllNoLock hclk).trans s.pllGivenUp_clk.2
    · rw [State.fabricLost, hdev]
    · have hlink := State.portsOff_link s.pllGivenUp p
      rw [hrole p, if_neg hrp] at hlink
      rw [State.fabricLost_fab]
      exact hlink
  · intro s hp hr ht hn hm
    have hexec := exec_pllNoLock_last hp hr ht hn
    have hmode : s.pllGivenUp.dev.mode ≠ .bedFault := by rw [s.pllGivenUp_dev]; exact hm
    have hlatch : s.pllGivenUp.latchFatal .pllNoLock = s.pllGivenUp.latched .pllNoLock := State.latchFatal_of_ne _ hmode
    have hafter := s.pllGivenUp_after.trans ((s.pllGivenUp.latched_changes .pllNoLock).mono (by decide))
    rw [if_neg hm, hlatch] at hexec
    refine ⟨_, hexec, s.pllGivenUp_clk.1, s.pllGivenUp_clk.2, ?_, fun hlog => ?_, ChangesOnly.of_journal hafter⟩
    · rw [State.latched, s.pllGivenUp_dev]
    · exact (State.journal_logs hlog _).within (.refl [] s) hafter (by decide) (by decide)
  · intro s hp
    refine ⟨_, occurs_of (by simp [hp]), rfl, rfl, fun o ho => ?_, fun o ho => ?_, changes_clk s _⟩
    · simp [ho]
    · simp [ho]
  · intro s hp hx hr hready
    have hjump : ChangesOnly [.clocks] s { s.useRef .xo with clk := { (s.useRef .xo).clk with phaseFree := true } } :=
      (s.useRef_changes .xo).trans (changes_clk _ _)
    have hexec : exec .refSwitch s = .next (({ s.useRef .xo with
        clk := { (s.useRef .xo).clk with phaseFree := true } } : State).journal 0x23 s.clk.pllRef.code) :=
      occurs_of (by simp [hp, hx, hr, hready])
    have hclk := State.journal_le ({ s.useRef .xo with clk := { (s.useRef .xo).clk with phaseFree := true } } : State)
      0x23 s.clk.pllRef.code .clocks (by decide)
    refine ⟨_, hexec, ?_, ?_, ?_, ?_, ?_, fun hlog => ?_, hjump.then_journal (by decide) _ _⟩
    · rw [hclk]; rfl
    · rw [hclk]
    · rw [hclk]; exact hp
    · rw [hclk]; rfl
    · rw [hclk]; rfl
    · exact (State.journal_logs ((hjump.takesEntry (by decide) (by decide) _).mpr hlog) _).within hjump (.refl [] _)
        (by decide) (by decide)
  · intro s hp hx hf
    exact occurs_of (by simp [hp, hx, hf])
  · intro s hp hx
    exact occurs_of (by simp [hp, hx])
  · intro s b hp hb
    refine ⟨_, occurs_of (by simp [hp, hb]), fun o x ho => ?_, fun o ho => ?_, State.boundary_changes _ _⟩
    · rw [State.boundary_pllOut]
      by_cases hlock : b = .lock
      · subst hlock
        rw [PllOutput.take_lock ho]
        exact ⟨rfl, rfl, fun _ => ⟨rfl, rfl⟩, fun h => absurd rfl h⟩
      · rw [PllOutput.take_of_not_lock ho hlock]
        exact ⟨rfl, rfl, fun h => absurd h hlock, fun _ => ⟨rfl, rfl⟩⟩
    · rw [State.boundary_pllOut, PllOutput.take_of_ne ho]
  · intro s hc hpll hoff
    have hexec : exec .coreClockSwitch s =
        .next (({ s with clk := { s.clk with coreOnPll := s.corePll } } : State).undemand .core) :=
      (occurs_of (by simp [hc, hpll, hoff])).trans (by rw [if_pos hpll])
    exact ⟨_, hexec, hpll, State.undemand_not_mem _ _, (changes_clk s _).trans (State.undemand_changes _ _)⟩
  · exact fun s k => rfl
  · exact fun s => rfl
  · exact fun s => rfl
  · exact fun s => rfl
  · exact fun s p => rfl
  · exact fun s p => rfl
  · intro s p hm hrole hp hr hl
    exact occurs_of (by rw [hm, hp, hr, hl, decide_eq_true hrole]; rfl)
  · intro s hm hr hl ht
    have hstop := State.pllStop_changes { s with dev := { s.dev with relay := false } }
    obtain ⟨d, hclk⟩ := State.pllStop_clk { s with dev := { s.dev with relay := false } }
    have hf := State.fineLost_changes (({ s with dev := { s.dev with relay := false } } : State).pllStop)
    have hdev := (hf .device (by decide)).trans (hstop .device (by decide))
    have hend := (hf .clocks (by decide)).trans hclk
    refine ⟨_, exec_relayPllStop hm hr hl ht, ?_, ?_, ?_, fun o => ?_, ?_, fun hfine => ?_, ?_⟩
    · rw [hdev]
    · rw [hdev]; exact hm
    · rw [hend]
    · rw [hend]; simp [PllOutput.off]
    · rw [hend]
    · refine State.fineLost_tstate _ ?_
      exact (congrArg Fab.tstate (hstop .fabric (by decide))).trans hfine
    · exact (((changes_dev s _).mono (by decide)).trans (hstop.mono (by decide))).trans (hf.mono (by decide))

end Sys2Proof.Machine

namespace Sys2Proof.Machine

/-! The parts that each stage of a raw AON tick can change (§4.1). -/

/-- The tallies are the same where all of their parts are. -/
theorem ChangesOnly.tal {ps : List Part} {s t : State} (h : ChangesOnly ps s t)
    (hps : ∀ q ∈ [Part.pathTallies, .deviceTallies, .journal, .writes, .store, .tallyRest], q ∉ ps) : t.tal = s.tal := by
  have hpath : t.tal.path = s.tal.path := h .pathTallies (hps _ (by simp))
  have hdev : t.tal.dev = s.tal.dev ∧ t.tal.devDirty = s.tal.devDirty ∧ t.tal.devWrittenAt = s.tal.devWrittenAt :=
    h .deviceTallies (hps _ (by simp))
  have hjournal : t.tal.jNext = s.tal.jNext ∧ t.tal.jQueue = s.tal.jQueue ∧ t.tal.jDropped = s.tal.jDropped :=
    h .journal (hps _ (by simp))
  have hwrites : t.tal.writes = s.tal.writes := h .writes (hps _ (by simp))
  have hstore : t.tal.store = s.tal.store := h .store (hps _ (by simp))
  have hrest : s.tal.restSame t.tal := h .tallyRest (hps _ (by simp))
  cases ht : t.tal; cases hs : s.tal
  simp_all [Tal.restSame]

section stages
variable (s : State)

theorem State.countMode_dev (n : Nat) : ∃ k, s.countMode n = { s with dev := { s.dev with modeTicks := k } } := by
  unfold State.countMode; split
  · exact ⟨_, rfl⟩
  · exact ⟨_, rfl⟩

theorem State.tickHold_changes : ChangesOnly [.device, .beads] s s.tickHold := by
  unfold State.tickHold; split
  · exact s.loadHold_changes
  · split
    · exact (changes_dev s _).mono (by decide)
    · exact .refl _ s

theorem State.tickHold_dev : ∃ h, s.tickHold.dev = { s.dev with hold := h } := by
  unfold State.tickHold; split
  · exact ⟨_, s.loadHold_dev⟩
  · split <;> exact ⟨_, rfl⟩

/-- Outside Sand no level condition loads the hold timer, and no bead takes what waits for it. -/
theorem State.tickHold_bead (h : s.dev.mode ≠ .sand) : s.tickHold.bead = s.bead := by
  unfold State.tickHold
  rw [if_neg fun hl => h hl.1]
  split <;> rfl

theorem State.tickPaths_changes : ChangesOnly [.sounding] s s.tickPaths := ChangesOnly.ite (changes_tr s _) (.refl _ s)

theorem State.tickPorts_dev : ∃ b, s.tickPorts = { s with dev := { s.dev with portsBusyAt := b } } := by
  unfold State.tickPorts; dsimp only; split <;> exact ⟨_, rfl⟩

theorem State.tickKiln_changes : ChangesOnly [.kiln] s s.tickKiln := changes_kiln s _
theorem State.tickTx_changes : ChangesOnly [.fabric] s s.tickTx := changes_fab s _

theorem State.tickTx_port (p : FabPort) : s.tickTx.fab.port[p] =
    if (s.fab.port[p]).link = .active then { s.fab.port[p] with txFifo := [] } else s.fab.port[p] := by
  simp [State.tickTx]

theorem State.tickPll_changes : ChangesOnly [.clocks] s s.tickPll := by
  have watch (t : State) : ChangesOnly [.clocks] t t.watchRef := ChangesOnly.ite (changes_clk t _) (.refl _ t)
  unfold State.tickPll; split
  · exact .refl _ s
  · exact (changes_clk s _).trans (watch _)

theorem State.watchRef_time : s.watchRef.clk.tick = s.clk.tick ∧ s.watchRef.clk.sec = s.clk.sec ∧
    s.watchRef.clk.calTick = s.clk.calTick := by
  unfold State.watchRef; split <;> exact ⟨rfl, rfl, rfl⟩

theorem State.tickPll_time : s.tickPll.clk.tick = s.clk.tick ∧ s.tickPll.clk.sec = s.clk.sec ∧
    s.tickPll.clk.calTick = s.clk.calTick := by
  unfold State.tickPll; split
  · exact ⟨rfl, rfl, rfl⟩
  · exact State.watchRef_time _

theorem State.tickGate_changes : ChangesOnly [.clocks] s s.tickGate := changes_clk s _
theorem State.tickGate_time : s.tickGate.clk.tick = s.clk.tick ∧ s.tickGate.clk.sec = s.clk.sec ∧
    s.tickGate.clk.calTick = s.clk.calTick := ⟨rfl, rfl, rfl⟩

theorem State.tickCharge_changes : ChangesOnly [.tallyRest] s s.tickCharge := by
  intro q hq; cases q <;> simp_all [Part.same, Mov.restSame, State.tickCharge]

theorem State.tickSamples_changes : ChangesOnly [.pathTallies] s s.tickSamples :=
  ChangesOnly.ite (changes_pathTallies s _) (.refl _ s)

theorem State.tickSamples_tal (h : s.dev.mode ≠ .bedBattery) : s.tickSamples.tal = s.tal := by
  rw [State.tickSamples, if_neg h]

theorem State.markClockBad_dev : ∃ c, s.markClockBad = { s with dev := { s.dev with clockBadSince := c } } := ⟨_, rfl⟩

theorem State.tickMonitor_changes : ChangesOnly [.monitor] s s.tickMonitor := by
  unfold State.tickMonitor; dsimp only; split
  · exact changes_mon s _
  · exact ChangesOnly.ite (changes_mon s _) (changes_mon s _)

end stages

/-! The follow-up of the kiln and the pool buffers, and the frames that wait for a port. -/

section sync
variable (s : State)

/-- The parts of the kiln and the movers. -/
def kilnParts : List Part := [.kiln, .pool, .movers]

theorem State.updCtx_changes (c : Ctx) (f : KCtx → KCtx) : ChangesOnly kilnParts s (s.updCtx c f) :=
  (changes_kiln s _).mono (by decide)
theorem State.updChan_changes (c : MovCh) (f : MChan → MChan) : ChangesOnly kilnParts s (s.updChan c f) :=
  (changes_mov s _).mono (by decide)
theorem State.updQueue_changes (q : Fin 64) (f : MQueue → MQueue) : ChangesOnly kilnParts s (s.updQueue q f) :=
  (changes_mov s _).mono (by decide)

theorem State.cancelSlot_changes (c : Ctx) : ChangesOnly kilnParts s (s.cancelSlot c) := by
  unfold State.cancelSlot; split
  · exact ((s.updCtx_changes c _).trans (State.updChan_changes _ _ _)).trans ((changes_kiln _ _).mono (by decide))
  · exact .refl _ s

theorem State.dropImage_changes (c : Ctx) : ChangesOnly kilnParts s (s.dropImage c) := by
  unfold State.dropImage; dsimp only; split
  · exact ((s.updQueue_changes _ _).trans (State.updCtx_changes _ _ _)).trans ((changes_kiln _ _).mono (by decide))
  · exact .refl _ s

theorem State.abandonFrame_changes (c : Ctx) : ChangesOnly kilnParts s (s.abandonFrame c) :=
  ((s.cancelSlot_changes c).trans (State.dropImage_changes _ c)).trans (State.updCtx_changes _ c _)

theorem State.dropOutput_changes (c : Ctx) : ChangesOnly kilnParts s (s.dropOutput c) :=
  ((s.abandonFrame_changes c).trans (State.updCtx_changes _ c _)).trans ((changes_kiln _ _).mono (by decide))

theorem State.loadProg_changes (c : MovCh) (l : List (BitVec 128)) : ChangesOnly kilnParts s (s.loadProg c l) :=
  ((changes_mov s _).mono (by decide)).trans (State.updChan_changes _ c _)

theorem State.startCapture_changes (c : Ctx) : ChangesOnly kilnParts s (s.startCapture c) := by
  unfold State.startCapture; split
  · exact (s.loadProg_changes _ _).trans (State.updCtx_changes _ _ _)
  · exact .refl _ s

theorem State.syncCapture_changes (k : CamPort) (fresh stale : Bool) :
    ChangesOnly kilnParts s (s.syncCapture k fresh stale) := by
  unfold State.syncCapture; dsimp only; split
  · exact s.updChan_changes _ _
  · split
    · exact (s.startCapture_changes _).trans (State.updCtx_changes _ _ _)
    · split
      · exact s.updChan_changes _ _
      · exact .refl _ s

theorem State.startMissing_changes : ChangesOnly kilnParts s s.startMissing := by
  have loaded (t : State) (b : Bool) (c : MovCh) (l : List (BitVec 128)) :
      ChangesOnly kilnParts t (if b then t.loadProg c l else t) := ChangesOnly.ite (t.loadProg_changes c l) (.refl _ t)
  unfold State.startMissing
  extract_lets off s1 s2
  have h2 : ChangesOnly kilnParts s s2 := (loaded s _ _ _).trans (loaded s1 _ _ _)
  exact ChangesOnly.ite (h2.trans (s2.loadProg_changes _ _)) h2

theorem State.placeBufs_changes (avoid : List Nat) (l : List (BufKind × Nat)) :
    ChangesOnly kilnParts s (s.placeBufs avoid l) := by
  induction l generalizing s with
  | nil => exact .refl _ s
  | cons e l ih =>
    obtain ⟨k, n⟩ := e
    unfold State.placeBufs; split
    · exact ih s
    · exact ((changes_mov s _).mono (by decide)).trans (ih _)

theorem State.syncBufs_changes : ChangesOnly kilnParts s s.syncBufs := by
  have dropped (t : State) (b : Ctx → Bool) (l : List Ctx) :
      ChangesOnly kilnParts t (l.foldl (fun t (c : Ctx) => if b c then t.dropOutput c else t) t) :=
    ChangesOnly.foldl (fun u c => ChangesOnly.ite (u.dropOutput_changes c) (.refl _ u)) l t
  have captured (t : State) (a b : CamPort → Bool) (l : List CamPort) :
      ChangesOnly kilnParts t (l.foldl (fun t (k : CamPort) => t.syncCapture k (a k) (b k)) t) :=
    ChangesOnly.foldl (fun u k => u.syncCapture_changes k _ _) l t
  unfold State.syncBufs; split
  · exact .refl _ s
  · extract_lets needs stale waits s1 missing s2 moved s3 placed s4 m
    have h1 : ChangesOnly kilnParts s s1 := (State.releaseBufs_changes s _).mono (by decide)
    have h2 : ChangesOnly kilnParts s1 s2 := State.placeBufs_changes s1 _ _
    have h3 : ChangesOnly kilnParts s2 s3 := dropped s2 _ _
    have h4 : ChangesOnly kilnParts s3 s4 := captured s3 _ _ _
    exact ((((h1.trans h2).trans h3).trans h4).trans ((changes_mov s4 _).mono (by decide))).trans
      (State.startMissing_changes _)

theorem State.armKiln_changes : ChangesOnly kilnParts s s.armKiln :=
  ChangesOnly.ite ((changes_kiln s _).mono (by decide)) (.refl _ s)

theorem State.tickSync_changes : ChangesOnly kilnParts s s.tickSync := by
  have cleared : ChangesOnly kilnParts s { s with mov := { s.mov with syncDue := false } } :=
    (changes_mov s _).mono (by decide)
  unfold State.tickSync; split
  · exact ChangesOnly.ite (cleared.trans ((State.armKiln_changes _).trans (State.syncBufs_changes _))) cleared
  · exact .refl _ s

theorem State.pinFlow_keeps (f : Frame) (p r : FabPort) :
    ChangesOnly [.fabric] s (s.pinFlow f p r) ∧ (s.pinFlow f p r).fab.time = s.fab.time := by
  unfold State.pinFlow; split
  · exact ⟨changes_fab s _, rfl⟩
  · exact ⟨.refl _ s, rfl⟩

theorem Fab.Sends.time {a b : Fab} (h : a.Sends b) : b.time = a.time := by rw [h.rest]

theorem State.routeFrame_keeps (f : Frame) (b : Bool) (r : FabPort) :
    ChangesOnly [.fabric] s (s.routeFrame f b r) ∧ (s.routeFrame f b r).fab.time = s.fab.time := by
  unfold State.routeFrame; dsimp only; split
  · exact ⟨changes_fab s _, rfl⟩
  · obtain ⟨hc, ht⟩ := State.pinFlow_keeps (s.queueOn f b [s.flowPort f r]) f (s.flowPort f r) r
    exact ⟨(State.queueOn_changes s _ _ _).trans hc, ht.trans (State.queueOn_sends s _ _ _).time⟩

/-- One frame that waited is sent or waits on. -/
def State.unparkFrame (s : State) (f : Frame) : State :=
  match s.sieve f.hdr.dest with
  | some h => if hp : h.val < 3 then s.routeFrame f true ⟨h.val, hp⟩ else s
  | none => s

theorem State.unparkFrame_keeps (f : Frame) :
    ChangesOnly [.fabric] s (s.unparkFrame f) ∧ (s.unparkFrame f).fab.time = s.fab.time := by
  unfold State.unparkFrame; split
  · split
    · exact s.routeFrame_keeps f true _
    · exact ⟨.refl _ s, rfl⟩
  · exact ⟨.refl _ s, rfl⟩

theorem State.unpark_eq : s.unpark = s.fab.parked.foldl State.unparkFrame { s with fab := { s.fab with parked := [] } } := rfl

theorem State.unpark_keeps : ChangesOnly [.fabric] s s.unpark ∧ s.unpark.fab.time = s.fab.time := by
  rw [State.unpark_eq]
  refine ⟨(changes_fab s _).trans (ChangesOnly.foldl (fun t f => (t.unparkFrame_keeps f).1) _ _), ?_⟩
  exact foldl_keeps (fun t : State => t.fab.time) (fun t f _ => (t.unparkFrame_keeps f).2) _

end sync
end Sys2Proof.Machine

namespace Sys2Proof.Machine

/-! One raw AON tick as a whole: its stages, before a loss of mains is decided. -/

section tick
variable (s : State)

/-- The clock, fabric time and the replica's time move on. -/
def State.tickStart (s : State) : State :=
  { s with clk := s.clk.advance, fab := s.fab.tickTime, twin := { s.twin with shadow := s.twin.shadow.tick } }

/-- The mode times and the hold timer. -/
def State.tickHeld (s : State) : State := (s.tickStart.countMode s.clk.calStep.1).tickHold

/-- The stages up to the frames that wait. -/
def State.tickParts (s : State) : State := (((s.tickHeld.tickPaths).tickPorts).tickSync).tickKiln

/-- Frames that wait for a port go on where they can. -/
def State.tickParked (s : State) : State := if s.fab.parked.isEmpty then s else s.unpark

/-- The clocks and the charge counter. -/
def State.tickClocks (s : State) : State := ((s.tickTx).tickPll).tickGate

/-- The tick before the loss of mains is decided. -/
def State.ticked (s : State) : State :=
  ((((s.tickParts.tickParked.tickClocks).tickCharge).tickSamples).markClockBad).tickMonitor

theorem State.tickOnce_of_released {s : State} (h : s.dev.released = true) : s.tickOnce = s.ticked.tickMains := by
  unfold State.tickOnce
  rw [h]
  rfl

theorem step_idle {s : State} (h : s.pending = []) : step s = .next s.tickOnce := by
  unfold step
  rw [h]

theorem State.tickStart_changes : ChangesOnly [.clocks, .fabric, .twin] s s.tickStart := by
  intro q hq; cases q <;> simp_all [Part.same, Tal.restSame, Mov.restSame, State.tickStart]

/-- Counting the mode and stepping the hold timer reach the device and the beads. -/
theorem State.tickHeld_rest : ChangesOnly [.device, .beads] s.tickStart s.tickHeld := by
  obtain ⟨k, hk⟩ := s.tickStart.countMode_dev s.clk.calStep.1
  have h := State.tickHold_changes (s.tickStart.countMode s.clk.calStep.1)
  rw [State.tickHeld]
  rw [hk] at h ⊢
  exact ((changes_dev _ _).mono (by decide)).trans h

theorem State.tickHeld_dev : ∃ k h, s.tickHeld.dev = { s.dev with modeTicks := k, hold := h } := by
  obtain ⟨k, hk⟩ := s.tickStart.countMode_dev s.clk.calStep.1
  obtain ⟨h, hh⟩ := State.tickHold_dev (s.tickStart.countMode s.clk.calStep.1)
  exact ⟨k, h, by rw [State.tickHeld, hh, hk]; rfl⟩

theorem State.tickHeld_bead (h : s.dev.mode ≠ .sand) : s.tickHeld.bead = s.bead := by
  obtain ⟨k, hk⟩ := s.tickStart.countMode_dev s.clk.calStep.1
  have hm : (s.tickStart.countMode s.clk.calStep.1).dev.mode = s.dev.mode := by rw [hk]; rfl
  have hb : (s.tickStart.countMode s.clk.calStep.1).bead = s.bead := by rw [hk]; rfl
  rw [State.tickHeld, State.tickHold_bead _ (hm ▸ h), hb]

/-- The hold timer where no level condition holds: a step at each multiple of 1,024 (R30). -/
theorem State.tickHeld_hold (hm : s.dev.mode = .sand) (hl : s.levelHolds = false) :
    s.tickHeld.dev.hold = if (s.now + 1) % 1024 = 0 then s.dev.hold - 1 else s.dev.hold := by
  obtain ⟨k, hk⟩ := s.tickStart.countMode_dev s.clk.calStep.1
  have hlevel : (s.tickStart.countMode s.clk.calStep.1).levelHolds = false := by rw [hk]; exact hl
  have hmode : (s.tickStart.countMode s.clk.calStep.1).dev.mode = .sand := by rw [hk]; exact hm
  have hnow : (s.tickStart.countMode s.clk.calStep.1).now = s.now + 1 := by rw [hk]; rfl
  have hhold : (s.tickStart.countMode s.clk.calStep.1).dev.hold = s.dev.hold := by rw [hk]; rfl
  simp only [State.tickHeld, State.tickHold, hlevel, hmode, hnow, hhold, Bool.false_eq_true, and_false, if_false, true_or,
    true_and]
  split
  · rfl
  · exact hhold

/-- The later stages before the frames that wait. -/
theorem State.tickParts_rest : ChangesOnly ([.device, .sounding] ++ kilnParts) s.tickHeld s.tickParts := by
  obtain ⟨b, hb⟩ := s.tickHeld.tickPaths.tickPorts_dev
  have h1 : ChangesOnly [.device] s.tickHeld.tickPaths s.tickHeld.tickPaths.tickPorts := by
    rw [hb]; exact changes_dev _ _
  have h2 := State.tickSync_changes s.tickHeld.tickPaths.tickPorts
  have h3 := State.tickKiln_changes s.tickHeld.tickPaths.tickPorts.tickSync
  exact (((State.tickPaths_changes s.tickHeld).mono (by decide)).trans (h1.mono (by decide))).trans
    ((h2.mono (by decide)).trans (h3.mono (by decide)))

theorem State.tickParts_dev : ∃ b, s.tickParts.dev = { s.tickHeld.dev with portsBusyAt := b } := by
  obtain ⟨b, hb⟩ := s.tickHeld.tickPaths.tickPorts_dev
  have h0 : s.tickHeld.tickPaths.dev = s.tickHeld.dev := State.tickPaths_changes _ .device (by decide)
  have h : s.tickParts.dev = s.tickHeld.tickPaths.tickPorts.dev :=
    (State.tickKiln_changes _ .device (by decide)).trans (State.tickSync_changes _ .device (by decide))
  exact ⟨b, by rw [h, hb, h0]⟩

theorem State.tickParked_keeps : ChangesOnly [.fabric] s s.tickParked ∧ s.tickParked.fab.time = s.fab.time := by
  unfold State.tickParked; split
  · exact ⟨.refl _ s, rfl⟩
  · exact s.unpark_keeps

theorem State.tickParked_of_none (h : s.fab.parked = []) : s.tickParked = s := by
  rw [State.tickParked, h]
  rfl

theorem State.tickClocks_changes : ChangesOnly [.fabric, .clocks] s s.tickClocks :=
  ((s.tickTx_changes.mono (by decide)).trans ((State.tickPll_changes _).mono (by decide))).trans
    ((State.tickGate_changes _).mono (by decide))

theorem State.tickClocks_time : s.tickClocks.clk.tick = s.clk.tick ∧ s.tickClocks.clk.sec = s.clk.sec ∧
    s.tickClocks.clk.calTick = s.clk.calTick := by
  obtain ⟨hg1, hg2, hg3⟩ := s.tickTx.tickPll.tickGate_time
  obtain ⟨hp1, hp2, hp3⟩ := s.tickTx.tickPll_time
  exact ⟨hg1.trans hp1, hg2.trans hp2, hg3.trans hp3⟩

theorem State.tickClocks_fab : s.tickClocks.fab = s.tickTx.fab :=
  ((State.tickPll_changes _).trans (State.tickGate_changes _)) .fabric (by decide)

/-- The state of a tick at which the charge is counted. -/
def State.tickCounted (s : State) : State := s.tickParts.tickParked.tickClocks

theorem State.tickCounted_changes :
    ChangesOnly ([.device, .beads, .sounding, .clocks, .fabric, .twin] ++ kilnParts) s s.tickCounted :=
  (((s.tickStart_changes.mono (by decide)).trans (s.tickHeld_rest.mono (by decide))).trans
    (s.tickParts_rest.mono (by decide))).trans
      (((State.tickParked_keeps _).1.mono (by decide)).trans ((State.tickClocks_changes _).mono (by decide)))

theorem State.tickCounted_tal : s.tickCounted.tal = s.tal := s.tickCounted_changes.tal (by decide)

theorem State.tickCounted_dev : ∃ k b, s.tickCounted.dev =
    { s.dev with modeTicks := k, hold := s.tickHeld.dev.hold, portsBusyAt := b } := by
  obtain ⟨k, h, hh⟩ := s.tickHeld_dev
  obtain ⟨b, hb⟩ := s.tickParts_dev
  have hd : s.tickCounted.dev = s.tickParts.dev :=
    (State.tickClocks_changes _ .device (by decide)).trans ((State.tickParked_keeps _).1 .device (by decide))
  exact ⟨k, b, by rw [hd, hb, hh]⟩

theorem State.tickCounted_time : s.tickCounted.clk.tick = s.clk.tick + 1 ∧ s.tickCounted.clk.sec = s.clk.advance.sec ∧
    s.tickCounted.clk.calTick = s.clk.advance.calTick := by
  have hclk : s.tickParts.tickParked.clk = s.clk.advance :=
    ((State.tickParked_keeps _).1 .clocks (by decide)).trans
      ((s.tickParts_rest .clocks (by decide)).trans (s.tickHeld_rest .clocks (by decide)))
  obtain ⟨h1, h2, h3⟩ := s.tickParts.tickParked.tickClocks_time
  rw [hclk] at h1 h2 h3
  exact ⟨h1, h2, h3⟩

theorem State.tickTx_time : s.tickTx.fab.time = s.fab.time := rfl

theorem State.tickParts_fab : s.tickParts.fab = s.fab.tickTime :=
  (s.tickParts_rest .fabric (by decide)).trans (s.tickHeld_rest .fabric (by decide))

theorem State.tickCounted_fabTime : s.tickCounted.fab.time = s.fab.tickTime.time := by
  rw [State.tickCounted, State.tickClocks_fab, State.tickTx_time, (State.tickParked_keeps _).2, s.tickParts_fab]

theorem Fab.tickTime_port (f : Fab) : f.tickTime.port = f.port ∧ f.tickTime.parked = f.parked := by
  unfold Fab.tickTime; dsimp only; split <;> exact ⟨rfl, rfl⟩

/-- The transmit FIFO of an ACTIVE port empties, where no frame waits for a port. -/
theorem State.tickCounted_txFifo (p : FabPort) (hl : (s.fab.port[p]).link = .active) (hp : s.fab.parked = []) :
    (s.tickCounted.fab.port[p]).txFifo = [] := by
  have hfab := s.tickParts_fab
  obtain ⟨hport, hparked⟩ := s.fab.tickTime_port
  have hnone : s.tickParts.tickParked = s.tickParts := State.tickParked_of_none _ (by rw [hfab, hparked, hp])
  have hlink : (s.tickParts.fab.port[p]).link = .active := by
    rw [hfab]; simpa only [hport] using hl
  have htx := s.tickParts.tickTx_port p
  rw [if_pos hlink] at htx
  have hend : s.tickCounted.fab = s.tickParts.tickTx.fab := by
    rw [State.tickCounted, hnone, State.tickClocks_fab]
  rw [hend, htx]

/-- The last stages: the charge, the path tallies in Bedrock on battery, the device and the monitor. -/
theorem State.ticked_eq : s.ticked = (((s.tickCounted.tickCharge).tickSamples).markClockBad).tickMonitor := rfl

theorem State.ticked_rest : ChangesOnly [.tallyRest, .pathTallies, .device, .monitor] s.tickCounted s.ticked := by
  rw [State.ticked_eq]
  obtain ⟨c, hc⟩ := s.tickCounted.tickCharge.tickSamples.markClockBad_dev
  have h3 : ChangesOnly [.device] s.tickCounted.tickCharge.tickSamples s.tickCounted.tickCharge.tickSamples.markClockBad := by
    rw [hc]; exact changes_dev _ _
  exact (((State.tickCharge_changes _).mono (by decide)).trans ((State.tickSamples_changes _).mono (by decide))).trans
    ((h3.mono (by decide)).trans ((State.tickMonitor_changes _).mono (by decide)))

theorem State.ticked_tal : s.ticked.tal = s.tickCounted.tickCharge.tickSamples.tal := by
  rw [State.ticked_eq]
  obtain ⟨c, hc⟩ := s.tickCounted.tickCharge.tickSamples.markClockBad_dev
  have hm : (s.tickCounted.tickCharge.tickSamples.markClockBad).tickMonitor.tal =
      s.tickCounted.tickCharge.tickSamples.markClockBad.tal := (State.tickMonitor_changes _).tal (by decide)
  rw [hm, hc]

theorem State.ticked_dev : ∃ k b c, s.ticked.dev = { s.dev with
    modeTicks := k, hold := s.tickHeld.dev.hold, portsBusyAt := b, clockBadSince := c } := by
  obtain ⟨k, b, hd⟩ := s.tickCounted_dev
  obtain ⟨c, hc⟩ := s.tickCounted.tickCharge.tickSamples.markClockBad_dev
  have h2 : s.tickCounted.tickCharge.tickSamples.dev = s.tickCounted.dev :=
    (State.tickSamples_changes _ .device (by decide)).trans (State.tickCharge_changes _ .device (by decide))
  have h4 : s.ticked.dev = s.tickCounted.tickCharge.tickSamples.markClockBad.dev :=
    State.tickMonitor_changes _ .device (by decide)
  exact ⟨k, b, c, by rw [h4, hc, h2, hd]⟩

end tick
end Sys2Proof.Machine

namespace Sys2Proof.Machine

/-! Fabric time and the calendar over one tick (R129, R132, R498). -/

section clocks

/-- Fabric time without a slew (R498, R501). -/
theorem Fab.tickTime_running {f : Fab} (h : f.timeRun = true) (hs : f.slewTicks = 0) :
    (f.tickTime.time : Int) = ((f.time : Int) + 2000000000 + rdiv f.rate 32768) % 2 ^ 80 := by
  have hpos : 0 ≤ ((f.time : Int) + 2000000000 + rdiv f.rate 32768) % (2 ^ 80 : Nat) :=
    Int.emod_nonneg _ (by norm_num)
  simp only [Fab.tickTime, h, hs, if_true, Int.add_zero]
  rw [Int.toNat_of_nonneg hpos]
  norm_num

theorem Fab.tickTime_stopped {f : Fab} (h : f.timeRun = false) : f.tickTime = f := by
  simp [Fab.tickTime, h]

/-- Without trim every raw tick is one calendar tick (R129). -/
theorem Clk.calStep_untrimmed {c : Clk} (ht : c.trim = 0) (ha : c.trimAcc = 0) : c.calStep.1 = 1 := by
  simp [Clk.calStep, ht, ha]

/-- After tick 32,767 the seconds carry (R132). -/
theorem Clk.advance_carry {c : Clk} (ht : c.trim = 0) (ha : c.trimAcc = 0) (h : c.calTick.toNat = 32767) :
    c.advance.sec = c.sec + 1 ∧ c.advance.calTick = 0 := by
  simp [Clk.advance, Clk.calStep_untrimmed ht ha, h]

theorem Clk.advance_count {c : Clk} (ht : c.trim = 0) (ha : c.trimAcc = 0) (h : c.calTick.toNat < 32767) :
    c.advance.sec = c.sec ∧ c.advance.calTick = c.calTick + 1 := by
  have hno : ¬ 32768 ≤ c.calTick.toNat + 1 := by omega
  refine ⟨by simp only [Clk.advance, Clk.calStep_untrimmed ht ha, if_neg hno], ?_⟩
  apply BitVec.eq_of_toNat_eq
  simp [Clk.advance, Clk.calStep_untrimmed ht ha]

end clocks

/-! What a tick makes of the tallies and the beads, and the loss of mains at its end (R251, R26). -/

section mains
variable (s : State)

/-- The charge of the tick as the modulator gives it (R251). -/
theorem State.ticked_charge : s.ticked.tal.charge =
    if Config.shunt (s.clk.tick + 1) then s.tal.charge + 1 else s.tal.charge - 1 := by
  have hnow : s.tickCounted.now = s.clk.tick + 1 := s.tickCounted_time.1
  have h : s.tickCounted.tickCharge.tickSamples.tal.charge = s.tickCounted.tickCharge.tal.charge :=
    ((State.tickSamples_changes _ .tallyRest (by decide)) : Tal.restSame _ _).2.2.1
  rw [s.ticked_tal, h, State.tickCharge, hnow, s.tickCounted_tal]

/-- Outside Bedrock on battery the tallies move in the charge only. -/
theorem State.ticked_tal_charge (h : s.dev.mode ≠ .bedBattery) :
    s.ticked.tal = { s.tal with charge := s.ticked.tal.charge } := by
  obtain ⟨k, b, hd⟩ := s.tickCounted_dev
  have hdev : s.tickCounted.tickCharge.dev = s.tickCounted.dev := State.tickCharge_changes _ .device (by decide)
  have hmode : s.tickCounted.tickCharge.dev.mode ≠ .bedBattery := by rw [hdev, hd]; exact h
  rw [s.ticked_tal, State.tickSamples_tal _ hmode, State.tickCharge, s.tickCounted_tal]

theorem State.ticked_bead (h : s.dev.mode ≠ .sand) : s.ticked.bead = s.bead := by
  have hcounted : s.tickCounted.bead = s.tickHeld.bead :=
    (State.tickClocks_changes _ .beads (by decide)).trans
      (((State.tickParked_keeps _).1 .beads (by decide)).trans (s.tickParts_rest .beads (by decide)))
  have h1 : s.ticked.bead = s.tickCounted.bead := s.ticked_rest .beads (by decide)
  rw [h1, hcounted, s.tickHeld_bead h]

theorem State.ticked_pending : s.ticked.pending = s.pending :=
  (s.ticked_rest .pending (by decide)).trans (s.tickCounted_changes .pending (by decide))

theorem State.ticked_now : s.ticked.now = s.clk.tick + 1 :=
  (s.ticked_rest.now (by decide)).trans s.tickCounted_time.1

/-- A step on an empty queue, after the reset release, is one tick. -/
theorem step_ticked {s : State} (hp : s.pending = []) (hr : s.dev.released = true) :
    step s = .next s.ticked.tickMains := by
  rw [step_idle hp, State.tickOnce_of_released hr]

theorem State.ticked_mainsLow : s.ticked.dev.mainsLow = s.dev.mainsLow := by
  obtain ⟨k, b, c, hd⟩ := s.ticked_dev
  rw [hd]

theorem State.tickMains_of_ok {s : State} (h : s.dev.mainsLow = false) : s.tickMains = s := by
  rw [State.tickMains, h]; rfl

theorem State.tickMains_of_low {s : State} (h : s.dev.mainsLow = true) : s.tickMains = s.loseMains := by
  rw [State.tickMains, h]; rfl

end mains

/-- Settles O2: the tick stage by stage, and the loss of mains where a low sample waits for it. -/
theorem idleTick : Obligations.IdleTick := by
  refine ⟨?_, ?_, ?_⟩
  · intro s hp hr
    rw [step_idle hp, State.tickOnce, hr]
    rfl
  · intro s hp hr hlow
    have h := s.ticked.loseMains_gone
    refine ⟨_, (step_ticked hp hr).trans ?_, h.now.trans s.ticked_now, h.pending.trans (s.ticked_pending.trans hp),
      State.loseMains_mode _, h.mainsLow, h.mainsOk⟩
    rw [State.tickMains_of_low (s.ticked_mainsLow.trans hlow)]
  · intro s hp hr hlow
    obtain ⟨k, b, c, hdev⟩ := s.ticked_dev
    have hfab : s.ticked.fab = s.tickCounted.fab := s.ticked_rest .fabric (by decide)
    have hclk : s.ticked.clk = s.tickCounted.clk := s.ticked_rest .clocks (by decide)
    have hstore : s.ticked.tal.store = s.tickCounted.tal.store := s.ticked_rest .store (by decide)
    have hwrites : s.ticked.tal.writes = s.tickCounted.tal.writes := s.ticked_rest .writes (by decide)
    obtain ⟨-, hsec, hcal⟩ := s.tickCounted_time
    have htime : s.ticked.fab.time = s.fab.tickTime.time := by rw [hfab, s.tickCounted_fabTime]
    refine ⟨s.ticked, ?_, s.ticked_now, s.ticked_pending.trans hp, ?_, ?_, ?_, s.ticked_charge, fun hm => ?_,
      fun _ hm => s.ticked_tal_charge hm, fun _ hm => s.ticked_bead hm, fun p hl hpark => ?_, fun hrun hslew => ?_,
      fun hstop => ?_, fun ht ha hn => ?_, fun ht ha hn => ?_⟩
    · rw [step_ticked hp hr, State.tickMains_of_ok (s.ticked_mainsLow.trans hlow)]
    · rw [hdev]
    · rw [hstore, s.tickCounted_tal]
    · rw [hwrites, s.tickCounted_tal]
    · rw [s.ticked_tal_charge hm]
    · rw [hfab]; exact s.tickCounted_txFifo p hl hpark
    · rw [htime]; exact Fab.tickTime_running hrun hslew
    · rw [htime, Fab.tickTime_stopped hstop]
    · rw [hclk, hsec, hcal]; exact Clk.advance_carry ht ha hn
    · rw [hclk, hsec, hcal]; exact Clk.advance_count ht ha hn

/-- What an accepted trigger loads, in Loam and in Sand, whatever the changeover phase (R28). -/
theorem State.takeTrigger_hold {s : State} (h : s.dev.mode = .loam ∨ s.dev.mode = .sand) :
    s.takeTrigger.settle.dev.mode = .sand ∧ s.takeTrigger.settle.dev.hold = s.holdLoad := by
  rcases h with h | h
  · obtain ⟨k, hd⟩ := State.takeTrigger_loam_dev h
    rw [hd]
    exact ⟨rfl, rfl⟩
  · have hset : s.takeTrigger.settle.dev = s.takeTrigger.dev := State.settle_changes _ .device (by decide)
    rw [hset]
    by_cases hc : s.dev.changeover = .drain
    · have hback : s.drainCancelled.restartsBack.dev = s.drainCancelled.dev :=
        State.restartsBack_changes _ .device (by decide)
      rw [State.takeTrigger_drain h hc, hback, State.drainCancelled_dev]
      exact ⟨h, rfl⟩
    · rw [State.takeTrigger_sand_dev h hc]
      exact ⟨h, rfl⟩

/-- Settles O55: the load by the trigger's meaning, the count by the tick's, the bounds by arithmetic. -/
theorem holdTimer : Obligations.HoldTimer := by
  refine ⟨fun s ha hm hf => ?_, fun s hp hr hm hl hlow => ?_, fun now secs end_ he => ?_⟩
  · obtain ⟨hmode, hhold⟩ := State.takeTrigger_hold (s := s.triggersTaken) hm
    exact ⟨_, exec_acceptedEventTrigger ha hf hm, hmode, hhold.trans State.triggersTaken_holdLoad⟩
  · obtain ⟨k, b, c, hdev⟩ := s.ticked_dev
    refine ⟨_, step_ticked hp hr, ?_⟩
    rw [State.tickMains_of_ok (s.ticked_mainsLow.trans hlow), hdev]
    exact s.tickHeld_hold hm hl
  · subst he
    split <;> omega

end Sys2Proof.Machine

namespace Sys2Proof.Machine

/-! Changes of the transit unit with entries of the journal. -/

theorem State.beads_not_mem_journalling (s : State) : Part.beads ∉ s.journalling := by
  unfold State.journalling; split <;> decide

/-- One operation after another, each with its own entries. -/
theorem ChangesOnly.then_journalling {ps : List Part} {s t u : State} (hb : Part.beads ∉ ps)
    (h : ChangesOnly (ps ++ s.journalling) s t) (k : ChangesOnly (ps ++ t.journalling) t u) :
    ChangesOnly (ps ++ s.journalling) s u := by
  have hj : t.journalling = s.journalling := h.journalling (by simp [hb, s.beads_not_mem_journalling])
  rw [hj] at k
  exact h.trans k

theorem ChangesOnly.then_entry {ps : List Part} {s t : State} (h : ChangesOnly (ps ++ s.journalling) s t)
    (hb : Part.beads ∉ ps) (code data : Nat) : ChangesOnly (ps ++ s.journalling) s (t.journal code data) :=
  ChangesOnly.then_journalling hb h ((t.journal_changes code data).mono (List.subset_append_right _ _))

theorem ChangesOnly.widen {ps qs js : List Part} {s t : State} (h : ChangesOnly (ps ++ js) s t) (hq : ps ⊆ qs) :
    ChangesOnly (qs ++ js) s t :=
  h.mono (List.append_subset.mpr ⟨List.subset_append_of_subset_left _ hq, List.subset_append_right _ _⟩)

theorem ChangesOnly.with_journal {ps : List Part} {s t : State} (h : ChangesOnly ps s t) :
    ChangesOnly (ps ++ s.journalling) s t := h.mono (List.subset_append_left _ _)

section transit
variable (s : State)

theorem State.updPath_path (p : PathNo) (f : PathSt → PathSt) (q : PathNo) :
    (s.updPath p f).tr.path[q] = if q = p then f s.tr.path[p] else s.tr.path[q] := by
  split
  · subst q; exact s.updPath_self p f
  · exact s.updPath_other p f q ‹_›

/-- An entry leaves the transit unit. -/
theorem State.journal_tr (code data : Nat) : (s.journal code data).tr = s.tr :=
  State.journal_le s code data .sounding (by decide)

/-- A change of the transit unit, with an entry where a condition holds. -/
theorem State.journal_if_spec {t : State} (h : ChangesOnly [.sounding] s t) (c : Prop) [Decidable c] (code data : Nat) :
    (if c then t.journal code data else t).tr = t.tr ∧
      ChangesOnly ([.sounding] ++ s.journalling) s (if c then t.journal code data else t) := by
  split
  · exact ⟨t.journal_tr _ _, h.then_journal (by decide) _ _⟩
  · exact ⟨rfl, h.with_journal⟩

/-- The count of pairs without a VALID one, and MUTE (R225). -/
def PathSt.counted (n : Nat) (mute : Bool) (q : PathSt) : PathSt := { q with noValid := n, mute := mute }

theorem State.muteStep_spec (p : PathNo) (b : Bool) :
    (∃ n m, (s.muteStep p b).tr = (s.updPath p (PathSt.counted n m)).tr) ∧
      ChangesOnly ([.sounding] ++ s.journalling) s (s.muteStep p b) := by
  unfold State.muteStep
  extract_lets q s1 n s2
  split
  · obtain ⟨htr, hc⟩ := s.journal_if_spec (s.updPath_changes p (PathSt.counted 0 false)) (q.mute = true) 0x2D
      (healthData p (chanA p) false 4)
    exact ⟨⟨0, false, htr⟩, hc⟩
  · have hupd : ChangesOnly [.sounding] s s2 := s.updPath_changes p _
    obtain ⟨htr, hc⟩ := s.journal_if_spec hupd (n = 64 ∧ ¬ q.mute = true) 0x2D (healthData p (chanA p) true 4)
    exact ⟨⟨n, q.mute || decide (n = 64), htr⟩, hc⟩

/-- What handing a record changes in the transit unit. -/
structure Handed (s t : State) (p : PathNo) (r : PairRecord) : Prop where
  handed : t.tr.handed = s.tr.handed ++ [r]
  busy : t.tr.busy = s.tr.busy
  lowVdrv : t.tr.lowVdrv = s.tr.lowVdrv
  path : ∃ c n m, t.tr.path[p] = { s.tr.path[p] with lastPair := some r, calRun := c, noValid := n, mute := m }
  changes : ChangesOnly ([.sounding] ++ s.journalling) s t

/-- The state with a record in the tally engine's queue (R202). -/
def State.recordQueued (s : State) (r : PairRecord) : State := { s with tr := { s.tr with handed := s.tr.handed ++ [r] } }

theorem State.recordQueued_changes (r : PairRecord) : ChangesOnly [.sounding] s (s.recordQueued r) := changes_tr s _

/-- A record is handed where the path notes it, whatever its calibration run makes of it. -/
theorem State.muteStep_handed {p : PathNo} {r : PairRecord} {f : PathSt → PathSt}
    (hf : ∀ q, ∃ c, f q = { q with lastPair := some r, calRun := c }) (b : Bool) :
    Handed s (((s.recordQueued r).updPath p f).muteStep p b) p r := by
  obtain ⟨⟨n, m, htr⟩, hc⟩ := ((s.recordQueued r).updPath p f).muteStep_spec p b
  obtain ⟨c, hpath⟩ := hf s.tr.path[p]
  have hself : ((s.recordQueued r).updPath p f).tr.path[p] = f s.tr.path[p] := State.updPath_self _ p f
  refine ⟨?_, ?_, ?_, ⟨c, n, m, ?_⟩, ?_⟩
  · rw [htr]; rfl
  · rw [htr]; rfl
  · rw [htr]; rfl
  · rw [htr, State.updPath_self, hself, hpath]
    rfl
  · exact ChangesOnly.then_journalling (by decide)
      ((s.recordQueued_changes r).trans (State.updPath_changes _ p f)).with_journal hc

theorem State.handPair_spec (p : PathNo) (r : PairRecord) : Handed s (s.handPair p r) p r :=
  s.muteStep_handed (fun _ => ⟨_, rfl⟩) _

/-- What skipping a pair changes: its record is handed, and its programme time no longer waits (R183, R216, R226). -/
structure Skipped (s t : State) (p : PathNo) (r : PairRecord) : Prop where
  handed : t.tr.handed = s.tr.handed ++ [r]
  busy : t.tr.busy = s.tr.busy
  lowVdrv : t.tr.lowVdrv = s.tr.lowVdrv
  waiting : (t.tr.path[p]).waiting = none
  due : (t.tr.path[p]).due = (s.tr.path[p]).due
  changes : ChangesOnly ([.sounding] ++ s.journalling) s t

/-- A pair is skipped where its path stops waiting and its record is handed. -/
theorem State.handPair_skipped {p : PathNo} {f : PathSt → PathSt} (hw : ∀ q, (f q).waiting = none)
    (hd : ∀ q, (f q).due = q.due) (r : PairRecord) : Skipped s ((s.updPath p f).handPair p r) p r := by
  obtain ⟨hhanded, hbusy, hlow, ⟨c, n, m, hpath⟩, hc⟩ := (s.updPath p f).handPair_spec p r
  rw [State.updPath_self] at hpath
  refine ⟨hhanded, hbusy, hlow, ?_, ?_, ChangesOnly.then_journalling (by decide) (s.updPath_changes p f).with_journal hc⟩
  · rw [hpath]; exact hw _
  · rw [hpath]; exact hd _

theorem State.skipPair_spec (p : PathNo) (prog : Nat) (cause : SkipCause) :
    Skipped s (s.skipPair p prog cause) p (s.emptyRecord p prog .skipped .skip .skip (some cause)) := by
  unfold State.skipPair
  refine s.handPair_skipped ?_ ?_ _
  · exact fun _ => rfl
  · exact fun _ => rfl

/-- The check of VDRV before a drive (R183). -/
theorem State.vdrvCheck_spec (mv : Nat) :
    (s.vdrvCheck mv).tr = { s.tr with lowVdrv := decide (mv < 2900), vdrvMv := mv } ∧
      ChangesOnly ([.sounding] ++ s.journalling) s (s.vdrvCheck mv) := by
  have h1 : ChangesOnly [.sounding] s { s with tr := { s.tr with lowVdrv := decide (mv < 2900), vdrvMv := mv } } :=
    changes_tr s _
  unfold State.vdrvCheck
  dsimp only
  split
  · exact ⟨rfl, h1.with_journal⟩
  · exact ⟨State.journal_tr _ _ _, h1.then_journal (by decide) _ _⟩

/-- The latest outcome of a channel, with its run and its failure (R224). -/
def State.channelPut (s : State) (c : Chan) (o : RingOutcome) (run : Nat) (f : Option RingOutcome) : State :=
  { s with tr := { s.tr with chan := s.tr.chan.set c { s.tr.chan[c] with last := o, run := run, failed := f } } }

theorem State.channelPut_changes (c : Chan) (o : RingOutcome) (run : Nat) (f : Option RingOutcome) :
    ChangesOnly [.sounding] s (s.channelPut c o run f) := changes_tr s _

/-- The health check keeps the outcome, whatever failure it makes of it (R224). -/
theorem State.healthCheck_spec (c : Chan) (o : RingOutcome) :
    (∃ run f, (s.healthCheck c o).tr = (s.channelPut c o run f).tr) ∧
      ChangesOnly ([.sounding, .wiring, .twin] ++ s.journalling) s (s.healthCheck c o) := by
  unfold State.healthCheck
  extract_lets h run p tr put s1 s2
  have hput (f : Option RingOutcome) : ChangesOnly ([.sounding, .wiring, .twin] ++ s.journalling) s (put f) :=
    ((s.channelPut_changes c o run f).mono (qs := [.sounding, .wiring, .twin]) (by decide)).with_journal
  split
  · exact ⟨⟨run, h.failed, rfl⟩, hput _⟩
  · have h1 := hput (if o = .pass then none else some o)
    have h2 : s2.tr = s1.tr ∧ ChangesOnly ([.sounding, .wiring, .twin] ++ s.journalling) s s2 := by
      unfold s2; split
      · exact ⟨s1.journal_tr _ _, h1.then_entry (by decide) _ _⟩
      · exact ⟨rfl, h1⟩
    have h3 : (if o = .pass then s2 else s2.journal 0x2D (healthData p c true o.code)).tr = s1.tr ∧
        ChangesOnly ([.sounding, .wiring, .twin] ++ s.journalling) s
          (if o = .pass then s2 else s2.journal 0x2D (healthData p c true o.code)) := by
      split
      · exact h2
      · exact ⟨(s2.journal_tr _ _).trans h2.1, h2.2.then_entry (by decide) _ _⟩
    have hset := State.settle_changes (if o = .pass then s2 else s2.journal 0x2D (healthData p c true o.code))
    exact ⟨⟨run, _, (hset .sounding (by decide)).trans h3.1⟩, h3.2.more hset (by decide)⟩

end transit

/-! The widths of a pair record's fields (R202). -/

theorem fieldU_lt (w x : Nat) : fieldU w x < 2 ^ w := by
  unfold fieldU; split
  · assumption
  · exact BitVec.isLt _

theorem fieldS_bounds {w : Nat} (x : Int) : -(2 ^ (w - 1) : Int) ≤ fieldS w x ∧ fieldS w x < 2 ^ (w - 1) := by
  unfold fieldS; split
  · assumption
  · exact ⟨BitVec.le_toInt _, BitVec.toInt_lt⟩

/-- The fields of a record are within their widths: rounded into them, or zero. -/
theorem State.pairRecord_widths (s : State) (p : PathNo) (t0 : Nat) (up down : ShotMeasure) :
    let r := s.pairRecord p t0 up down
    r.tAb < 2 ^ 40 ∧ r.tBa < 2 ^ 40 ∧ -(2 ^ 31) ≤ r.v ∧ r.v < 2 ^ 31 ∧ r.c < 2 ^ 32 ∧ -(2 ^ 15) ≤ r.tAir ∧ r.tAir < 2 ^ 15 := by
  unfold State.pairRecord
  dsimp only
  split
  · exact ⟨fieldU_lt 40 _, fieldU_lt 40 _, (fieldS_bounds (w := 32) _).1, (fieldS_bounds (w := 32) _).2, fieldU_lt 32 _,
      (fieldS_bounds (w := 16) _).1, (fieldS_bounds (w := 16) _).2⟩
  · simp [State.emptyRecord]

end Sys2Proof.Machine

namespace Sys2Proof.Machine

/-! A pair from its programme time to its drive (R174, R183, R213, R214). -/

section fire
variable (s : State)

/-- The state with the pair of a path due taken to wait. -/
def State.dueTaken (s : State) (p : PathNo) : State := s.updPath p fun q => q.takeDue s.now

/-- A path whose pair is driven (R214). -/
def PathSt.fired (prog now : Nat) (q : PathSt) : PathSt :=
  { q with waiting := none, firing := some prog, firedAt := now, tripUp := false, tripDown := false, ovrUp := false
           ovrDown := false }

/-- The group pair of a path given to it, or freed. -/
def State.withBusy (s : State) (p : PathNo) (b : Option PathNo) : State :=
  { s with tr := { s.tr with busy := s.tr.busy.set (groupPair p) b } }

theorem State.withBusy_changes (p : PathNo) (b : Option PathNo) : ChangesOnly [.sounding] s (s.withBusy p b) := changes_tr s _
theorem State.withBusy_busy (p : PathNo) (b : Option PathNo) : (s.withBusy p b).tr.busy[groupPair p] = b := by
  simp [State.withBusy]

/-- The state in which a pair is driven. -/
def State.driven (s : State) (p : PathNo) (prog now : Nat) : State := (s.updPath p (PathSt.fired prog now)).withBusy p (some p)

/-- What becomes of a pair whose turn it is. -/
def State.paired (s : State) (p : PathNo) (mv prog : Nat) : State :=
  if s.shorted p then (s.dueTaken p).skipPair p prog .short
  else if mv < 2900 then ((s.dueTaken p).vdrvCheck mv).skipPair p prog .lowdrv
  else ((s.dueTaken p).vdrvCheck mv).driven p prog s.now

/-- The turn of a path's pair (R213, R214). -/
structure PairTurn (s : State) (p : PathNo) (prog : Nat) : Prop where
  waiting : ((s.tr.path[p]).takeDue s.now).waiting = some prog
  mayFire : s.mayFire = true
  configured : s.configured p = true
  sounds : s.sounds p = true
  free : s.groupPairFree (groupPair p) = true
  noRing : s.ringInPair (groupPair p) = false
  first : s.firstInLine p prog = true
  inTime : (s.tr.path[p]).inTime s.now = true

theorem exec_shotPairFire {s : State} {p : PathNo} {prog : Nat} (h : PairTurn s p prog) (mv : Nat) :
    exec (.shotPairFire p mv) s = .next (s.paired p mv prog) := by
  show execShotPairFire p mv s = _
  unfold execShotPairFire
  rw [h.waiting]
  have hg : (s.mayFire && s.configured p && s.sounds p && s.groupPairFree (groupPair p) && !s.ringInPair (groupPair p) &&
      s.firstInLine p prog && (s.tr.path[p]).inTime s.now) = true := by
    rw [h.mayFire, h.configured, h.sounds, h.free, h.noRing, h.first, h.inTime]; rfl
  simp only [hg, occurs_true]
  rfl

theorem State.dueTaken_changes (p : PathNo) : ChangesOnly [.sounding] s (s.dueTaken p) := s.updPath_changes p _

/-- A pair driven: the group pair is busy, the other paths are as they were. -/
theorem State.driven_path (p : PathNo) (prog now : Nat) (q : PathNo) : (s.driven p prog now).tr.path[q] =
    if q = p then (s.tr.path[p]).fired prog now else s.tr.path[q] := s.updPath_path p _ q

theorem State.driven_changes (p : PathNo) (prog now : Nat) : ChangesOnly [.sounding] s (s.driven p prog now) :=
  (s.updPath_changes p _).trans (State.withBusy_changes _ _ _)

/-- The VDRV check of a pair whose turn it is. -/
theorem State.checked_spec (p : PathNo) (mv : Nat) :
    ((s.dueTaken p).vdrvCheck mv).tr = { (s.dueTaken p).tr with lowVdrv := decide (mv < 2900), vdrvMv := mv } ∧
      ChangesOnly ([.sounding] ++ s.journalling) s ((s.dueTaken p).vdrvCheck mv) := by
  obtain ⟨htr, hc⟩ := (s.dueTaken p).vdrvCheck_spec mv
  exact ⟨htr, ChangesOnly.then_journalling (by decide) (s.dueTaken_changes p).with_journal hc⟩

theorem exec_shotPairFire_none {p : PathNo} {mv : Nat} (h : s.sounds p = false ∨ (s.tr.path[p]).inTime s.now = false) :
    exec (.shotPairFire p mv) s = .next s := by
  show execShotPairFire p mv s = _
  unfold execShotPairFire
  split
  · rfl
  · refine occurs_of_not ?_
    rcases h with h | h
    · rw [h]; simp
    · rw [h]; exact Bool.and_false _

end fire

/-! The marks of a shot, and the end of a pair (R184, R203, R214). -/

section finish
variable (s : State)

/-- A driver that trips marks its shot (R184). -/
def State.tripped (s : State) (ch : Chan) : State :=
  s.updPath (chanPath ch) fun q => if ch = chanA (chanPath ch) then { q with tripUp := true } else { q with tripDown := true }

theorem exec_driverCurrentLimitTrip {s : State} {ch : Chan} {t0 : Nat} (h : (s.tr.path[chanPath ch]).firing = some t0) :
    exec (.driverCurrentLimitTrip ch) s = .next ((s.tripped ch).healthCheck ch .short) := by
  have hg : ((s.tr.path[chanPath ch]).firing).isSome = true := by rw [h]; rfl
  exact occurs_of hg

theorem State.tripped_mark (ch : Chan) :
    (if ch = chanA (chanPath ch) then ((s.tripped ch).tr.path[chanPath ch]).tripUp
      else ((s.tripped ch).tr.path[chanPath ch]).tripDown) = true := by
  unfold State.tripped
  rw [State.updPath_self]
  split <;> rfl

/-- The entry of a group pair, by its number or by that of one of its groups. -/
theorem busy_of_pair {v : Vector (Option PathNo) 2} {i : Fin 2} {g : GroupNo} (h : i = ⟨g.val / 2, by omega⟩) :
    v[i] = v[g.val / 2]'(by omega) := by
  subst h; rfl

/-- The marks of an overload on its group and its ring shots (R203). -/
def State.overloadSeen (s : State) (g : GroupNo) (n : Nat) : State :=
  { s with tr := { s.tr with
    ovrAt := s.tr.ovrAt.set g (some (s.listens g, s.now * tickUnits + n + tdc 2000))
    chan := Vector.ofFn fun c =>
      let h := s.tr.chan[c]
      if chanGroup c = g ∧ h.ringBusy then { h with ringOvr := true } else h } }

/-- An overload marks the shot of its group (R203). -/
def PathSt.overloaded (g : GroupNo) (q : PathSt) : PathSt :=
  if g.val % 2 = 1 then { q with ovrUp := true } else { q with ovrDown := true }

theorem exec_overload_busy {s : State} {g : GroupNo} {p : PathNo} (n : Nat)
    (h : s.tr.busy[g.val / 2]'(by omega) = some p) :
    exec (.overload g n) s = .next ((s.overloadSeen g n).updPath p (PathSt.overloaded g)) := by
  show execOverload g n s = _
  unfold execOverload
  simp only [h]
  rfl

theorem exec_overload_free {s : State} {g : GroupNo} (n : Nat) (h : s.tr.busy[g.val / 2]'(by omega) = none) :
    exec (.overload g n) s = .next (s.overloadSeen g n) := by
  show execOverload g n s = _
  unfold execOverload
  simp only [h]
  rfl

theorem State.overloadSeen_ring (g : GroupNo) (n : Nat) (c : Chan) : ((s.overloadSeen g n).tr.chan[c]).ringOvr =
    ((s.tr.chan[c]).ringOvr || (decide (chanGroup c = g) && (s.tr.chan[c]).ringBusy)) := by
  by_cases hg : chanGroup c = g
  · cases hb : (s.tr.chan[c]).ringBusy <;> simp_all [State.overloadSeen]
  · simp [State.overloadSeen, hg]

theorem State.overloadSeen_changes (g : GroupNo) (n : Nat) : ChangesOnly [.sounding] s (s.overloadSeen g n) := changes_tr s _

/-- The state with the running pair of a path over and its group pair free. -/
def State.pairEnded (s : State) (p : PathNo) (q : PathSt) : State := (s.updPath p fun _ => q).withBusy p none

theorem State.pairEnded_path (p : PathNo) (q : PathSt) : (s.pairEnded p q).tr.path[p] = q := s.updPath_self p fun _ => q
theorem State.pairEnded_changes (p : PathNo) (q : PathSt) : ChangesOnly [.sounding] s (s.pairEnded p q) :=
  (s.updPath_changes p _).trans (State.withBusy_changes _ _ _)

/-- A complete pair: its record handed, with an entry where a slip begins (R201, R202). -/
theorem exec_pairComplete {s : State} {p : PathNo} {up down : ShotMeasure} {t0 : Nat} (hu : up.wellFormed = true)
    (hd : down.wellFormed = true) (hf : (s.tr.path[p]).firing = some t0) (hover : s.pairOver p up down = true) :
    ∃ anchor : Bool, exec (.pairComplete p up down) s = .next (State.settle (
      if anchor then ((s.pairEnded p (s.pathAfter p (s.pairRecord p t0 up down) up down)).handPair p
        (s.pairRecord p t0 up down)).journal 0x29 p.val
      else (s.pairEnded p (s.pathAfter p (s.pairRecord p t0 up down) up down)).handPair p (s.pairRecord p t0 up down))) := by
  show ∃ anchor : Bool, execPairComplete p up down s = _
  unfold execPairComplete
  rw [hu, hd, hf, hover]
  exact ⟨_, rfl⟩

theorem exec_pairComplete_runs {s : State} {p : PathNo} {up down : ShotMeasure} {t0 : Nat} (hu : up.wellFormed = true)
    (hd : down.wellFormed = true) (hf : (s.tr.path[p]).firing = some t0) (hover : s.pairOver p up down = false) :
    exec (.pairComplete p up down) s = .next s := by
  show execPairComplete p up down s = _
  unfold execPairComplete
  rw [hu, hd, hf, hover]
  rfl

/-- What the end of a pair leaves, its record handed. -/
theorem State.pairSettled_spec (p : PathNo) (q : PathSt) (r : PairRecord) (anchor : Bool) (t : State)
    (ht : t = State.settle (if anchor then ((s.pairEnded p q).handPair p r).journal 0x29 p.val
      else (s.pairEnded p q).handPair p r)) :
    (∃ c n m, t.tr.path[p] = { q with lastPair := some r, calRun := c, noValid := n, mute := m }) ∧
      t.tr.busy[groupPair p] = none ∧ t.tr.handed = s.tr.handed ++ [r] ∧
      ChangesOnly ([.sounding, .wiring, .twin] ++ s.journalling) s t := by
  have hend := s.pairEnded_changes p q
  have hhand := (s.pairEnded p q).handPair_spec p r
  have hended : ChangesOnly ([.sounding] ++ s.journalling) s ((s.pairEnded p q).handPair p r) :=
    ChangesOnly.then_journalling (by decide) hend.with_journal hhand.changes
  generalize (s.pairEnded p q).handPair p r = u at *
  have hwide : ChangesOnly ([.sounding, .wiring, .twin] ++ s.journalling) s u := hended.widen (by decide)
  have hentry : (if anchor then u.journal 0x29 p.val else u).tr = u.tr ∧
      ChangesOnly ([.sounding, .wiring, .twin] ++ s.journalling) s (if anchor then u.journal 0x29 p.val else u) := by
    split
    · exact ⟨u.journal_tr _ _, hwide.then_entry (by decide) _ _⟩
    · exact ⟨rfl, hwide⟩
  generalize (if anchor then u.journal 0x29 p.val else u) = w at *
  subst ht
  have htr : w.settle.tr = u.tr := (w.settle_changes .sounding (by decide)).trans hentry.1
  obtain ⟨c, n, m, hpath⟩ := hhand.path
  rw [State.pairEnded_path] at hpath
  rw [htr]
  exact ⟨⟨c, n, m, hpath⟩, by rw [hhand.busy]; exact State.withBusy_busy _ p none, hhand.handed,
    hentry.2.more w.settle_changes (by decide)⟩

/-- A pair whose turn did not come before the next programme time (R216). -/
theorem exec_pairLate {s : State} {p : PathNo} {t0 t1 : Nat} (hw : (s.tr.path[p]).waiting = some t0)
    (hd : (s.tr.path[p]).due = some t1) (hn : t1 ≤ s.now) (hdr : s.drives = true) : exec (.pairLate p) s =
      .next (((s.skipPair p t0 .late).updPath p fun q => q.takeDue s.now).settle) := by
  show execPairLate p s = _
  unfold execPairLate
  rw [hw, hd]
  exact occurs_of (by simp [hn, hdr])

/-- With nothing waiting, what is due is taken. -/
theorem PathSt.takeDue_waiting {q : PathSt} {now t : Nat} (hw : q.waiting = none) (hd : q.due = some t) (hn : t ≤ now) :
    (q.takeDue now).waiting = some t := by
  simp [PathSt.takeDue, hw, hd, hn]

end finish

/-- Settles O23: each meaning by the path, the group pair and the record that it makes. -/
theorem shotPairs : Obligations.ShotPairs := by
  refine ⟨?_, ?_, ?_, ?_, ?_, ?_, ?_, ?_, ?_, ?_⟩
  · intro s p mv t0 hw hm hc hs hfree hring hfirst ht hshort hmv
    obtain ⟨htr, hchk⟩ := s.checked_spec p mv
    have hexec := exec_shotPairFire ⟨hw, hm, hc, hs, hfree, hring, hfirst, ht⟩ mv
    have hlow : ¬ mv < 2900 := by omega
    rw [State.paired, hshort, if_neg Bool.false_ne_true, if_neg hlow] at hexec
    have hother (q : PathNo) (hq : q ≠ p) : ((s.dueTaken p).vdrvCheck mv).tr.path[q] = s.tr.path[q] := by
      have hpath : ((s.dueTaken p).vdrvCheck mv).tr.path = (s.dueTaken p).tr.path := by rw [htr]
      rw [hpath]; exact s.updPath_other p _ q hq
    have hlowVdrv : ((s.dueTaken p).vdrvCheck mv).tr.lowVdrv = false := by rw [htr]; exact decide_eq_false hlow
    have hhanded : ((s.dueTaken p).vdrvCheck mv).tr.handed = s.tr.handed := by rw [htr]; rfl
    generalize (s.dueTaken p).vdrvCheck mv = u at *
    refine ⟨_, hexec, ?_, ?_, ?_, State.withBusy_busy _ p (some p), hlowVdrv, hhanded, fun q hq => ?_,
      hchk.more (u.driven_changes p t0 s.now) (by decide)⟩
    · rw [State.driven_path, if_pos rfl]; rfl
    · rw [State.driven_path, if_pos rfl]; rfl
    · rw [State.driven_path, if_pos rfl]; rfl
    · rw [State.driven_path, if_neg hq, hother q hq]
  · intro s p mv t0 hw hm hc hs hfree hring hfirst ht hshort hmv
    obtain ⟨htr, hchk⟩ := s.checked_spec p mv
    have hskip := ((s.dueTaken p).vdrvCheck mv).skipPair_spec p t0 .lowdrv
    have hexec := exec_shotPairFire ⟨hw, hm, hc, hs, hfree, hring, hfirst, ht⟩ mv
    rw [State.paired, hshort, if_neg Bool.false_ne_true, if_pos hmv] at hexec
    have hhanded : ((s.dueTaken p).vdrvCheck mv).tr.handed = s.tr.handed := by rw [htr]; rfl
    refine ⟨_, hexec, ?_, ?_, ⟨_, hhanded ▸ hskip.handed, rfl, rfl, rfl, rfl, rfl, rfl, rfl⟩,
      ChangesOnly.then_journalling (ps := [.sounding]) (by decide) hchk hskip.changes⟩
    · rw [hskip.lowVdrv, htr]; exact decide_eq_true hmv
    · rw [hskip.busy, htr]; rfl
  · intro s p mv t0 hw hm hc hs hfree hring hfirst ht hshort
    have hskip := (s.dueTaken p).skipPair_spec p t0 .short
    have hexec := exec_shotPairFire ⟨hw, hm, hc, hs, hfree, hring, hfirst, ht⟩ mv
    rw [State.paired, if_pos hshort] at hexec
    exact ⟨_, hexec, hskip.busy, hskip.lowVdrv, ⟨_, hskip.handed, rfl, rfl, rfl, rfl⟩,
      ChangesOnly.then_journalling (ps := [.sounding]) (by decide) (s.dueTaken_changes p).with_journal hskip.changes⟩
  · exact fun s p mv h => exec_shotPairFire_none s h
  · intro s ch t0 hf
    obtain ⟨⟨run, f, htr⟩, hc⟩ := (s.tripped ch).healthCheck_spec ch .short
    have hmark := s.tripped_mark ch
    refine ⟨_, exec_driverCurrentLimitTrip hf, ?_, ?_,
      ChangesOnly.then_journalling (by decide) ((s.updPath_changes _ _).mono (by decide)).with_journal hc⟩
    · rw [htr]; exact hmark
    · rw [htr]; simp [State.channelPut]
  · intro s g n
    have hseen := s.overloadSeen_changes g n
    have hovr : (s.overloadSeen g n).tr.ovrAt[g] = some (s.listens g, s.now * tickUnits + n + tdc 2000) := by
      simp [State.overloadSeen]
    cases hb : s.tr.busy[g.val / 2]'(by omega) with
    | none =>
      refine ⟨_, exec_overload_free n hb, hovr, s.overloadSeen_ring g n, fun p hp hg => ?_, hseen⟩
      exact absurd (hb.symm.trans ((busy_of_pair hg).symm.trans hp)) (by simp)
    | some q =>
      refine ⟨_, exec_overload_busy n hb, hovr, s.overloadSeen_ring g n, fun p hp hg => ?_,
        hseen.trans (State.updPath_changes _ _ _)⟩
      have hpq : q = p := Option.some.inj (hb.symm.trans ((busy_of_pair hg).symm.trans hp))
      subst hpq
      rw [State.updPath_self]
      unfold PathSt.overloaded
      split <;> rfl
  · intro s p up down t0 hu hd hf hover
    exact exec_pairComplete_runs hu hd hf hover
  · exact fun s p up down t0 => s.pairRecord_widths p t0 up down
  · intro s p up down t0 hu hd hf hover
    obtain ⟨anchor, hexec⟩ := exec_pairComplete hu hd hf hover
    have hspec := State.pairSettled_spec s p (s.pathAfter p (s.pairRecord p t0 up down) up down) (s.pairRecord p t0 up down)
      anchor _ rfl
    obtain ⟨⟨c, n, m, hpath⟩, hbusy, hhanded, hc⟩ := hspec
    refine ⟨_, hexec, ?_, ?_, ?_, hbusy, hhanded, ?_, fun _ => hc⟩
    · rw [hpath]; rfl
    · rw [hpath]; rfl
    · rw [hpath]; rfl
    · rw [hpath]
  · intro s p t0 t1 hw hd hn hdr
    have hskip := s.skipPair_spec p t0 .late
    have hexec := exec_pairLate hw hd hn hdr
    have hwide : ChangesOnly ([.sounding, .wiring, .twin] ++ s.journalling) s (s.skipPair p t0 .late) :=
      hskip.changes.widen (by decide)
    generalize s.skipPair p t0 .late = u at *
    have htaken := u.updPath_changes p fun q => q.takeDue s.now
    have hset := State.settle_changes (u.updPath p fun q => q.takeDue s.now)
    have htr : (u.updPath p fun q => q.takeDue s.now).settle.tr = (u.updPath p fun q => q.takeDue s.now).tr :=
      hset .sounding (by decide)
    refine ⟨_, hexec, ?_, ⟨_, (congrArg Transit.handed htr).trans hskip.handed, rfl, rfl, rfl, rfl⟩,
      (hwide.more htaken (by decide)).more hset (by decide)⟩
    rw [htr, State.updPath_self]
    exact PathSt.takeDue_waiting hskip.waiting (hskip.due.trans hd) hn

end Sys2Proof.Machine

namespace Sys2Proof.Machine

/-! What an entry of the journal does to a Speica port, to the twin and to the device tallies. -/

/-- Between two states of a port only frames were queued and sent. -/
def FPort.Queued (a b : FPort) : Prop :=
  b = { a with
    credits := b.credits, txq := b.txq, stallAt := b.stallAt, wire := b.wire, txCount := b.txCount
    frameAt := b.frameAt, emberSent := b.emberSent, toneAt := b.toneAt }

namespace FPort.Queued
variable {a b c : FPort}

theorem refl (a : FPort) : a.Queued a := rfl
theorem trans (h : a.Queued b) (k : b.Queued c) : a.Queued c := by
  unfold FPort.Queued at *
  rw [k, h]
theorem trust (h : a.Queued b) : b.trust = a.trust := by rw [h]
theorem pairing (h : a.Queued b) : b.pairing = a.pairing := by rw [h]

end FPort.Queued

theorem FPort.emit_queued (q : FPort) (now : Nat) (f : Frame) : q.Queued (q.emit now f) := by
  unfold FPort.emit; dsimp only; split
  · split <;> rfl
  · rfl

theorem FPort.drainList_queued (cls : Fin 2) (now : Nat) (l : List TxFrame) (q : FPort) :
    q.Queued (FPort.drainList cls now l q).1 := by
  induction l generalizing q with
  | nil => exact .refl q
  | cons t l ih =>
    unfold FPort.drainList; dsimp only; split
    · have hcredits : q.Queued { q with credits := q.credits.set cls (q.credits[cls] - q.frameCredits t.frame) } := rfl
      exact (hcredits.trans (FPort.emit_queued _ now t.frame)).trans (ih _)
    · exact .refl q

theorem FPort.markStall_queued (q : FPort) (cls : Fin 2) (now : Nat) (left : Bool) :
    q.Queued (q.markStall cls now left) := by
  unfold FPort.markStall
  extract_lets q1
  have h : q.Queued q1 := by unfold q1; split <;> rfl
  have hmark (v : Vector (Option Nat) 2) : q1.Queued { q1 with stallAt := v } := rfl
  split
  · exact h.trans (hmark _)
  · split
    · exact h.trans (hmark _)
    · split
      · exact h
      · exact h.trans (hmark _)

theorem FPort.drain_queued (q : FPort) (now : Nat) (carried : Bool) : q.Queued (q.drain now carried) := by
  have hlist (cls : Fin 2) (l : List TxFrame) (r : FPort) (h : q.Queued r) (v : Vector (List TxFrame) 2) :
      q.Queued { (FPort.drainList cls now l r).1 with txq := v } :=
    (h.trans (FPort.drainList_queued cls now l r)).trans rfl
  unfold FPort.drain; split
  · refine FPort.Queued.trans ?_ (FPort.markStall_queued _ 1 now _)
    refine FPort.Queued.trans ?_ (FPort.markStall_queued _ 0 now _)
    split
    · exact hlist 1 _ _ (hlist 0 _ q (.refl q) _) _
    · exact hlist 0 _ q (.refl q) _
  · exact .refl q

theorem FPort.queueFrame_queued (q : FPort) (now : Nat) (f : Frame) (forwarded carried : Bool) :
    q.Queued (q.queueFrame now f forwarded carried) := by
  unfold FPort.queueFrame; split
  · extract_lets cls t l
    have hput (v : Vector (List TxFrame) 2) (a : Option Nat) : q.Queued { q with txq := v, toneAt := a } := rfl
    exact (hput _ _).trans (FPort.drain_queued _ now carried)
  · exact .refl q

section entry
variable (s : State)

theorem State.updPort_port (p : FabPort) (f : FPort → FPort) (j : FabPort) :
    (s.updPort p f).fab.port[j] = if j = p then f s.fab.port[p] else s.fab.port[j] := by
  split
  · subst j; exact s.updPort_self p f
  · exact s.updPort_other p f j ‹_›

theorem State.queueOn_port (f : Frame) (b : Bool) (l : List FabPort) (j : FabPort) :
    (s.fab.port[j]).Queued ((s.queueOn f b l).fab.port[j]) := by
  induction l generalizing s with
  | nil => exact .refl _
  | cons p l ih =>
    refine FPort.Queued.trans ?_ (ih _)
    split
    · rw [State.updPort_port]
      split
      · subst j; exact FPort.queueFrame_queued ..
      · exact .refl _
    · exact .refl _

theorem State.nextSeq_port (a b : Nat) : (s.nextSeq a b).2.fab.port = s.fab.port := by
  unfold State.nextSeq; dsimp only; split <;> rfl

theorem State.originate_port (a b : Nat) (d c : BitVec 12) (l : List Byte) (ps : List FabPort) (j : FabPort) :
    (s.fab.port[j]).Queued ((s.originate a b d c l ps).fab.port[j]) := by
  rw [← s.nextSeq_port a b]
  exact State.queueOn_port ..

theorem State.sendMirror_port (k : Nat) (l : List Byte) (j : FabPort) :
    (s.fab.port[j]).Queued ((s.sendMirror k l).fab.port[j]) := by
  unfold State.sendMirror; split
  · exact .refl _
  · dsimp only
    unfold State.mirrorOut; split
    · split
      · exact State.originate_port ..
      · exact .refl _
    · exact .refl _

/-- What a numbered mirror message makes of the twin. -/
theorem State.sendMirror_twin (k : Nat) (l : List Byte) :
    ∃ n u a, (s.sendMirror k l).twin = { s.twin with txSeq := n, unacked := u, ackDue := a } := by
  unfold State.sendMirror; split
  · exact ⟨_, _, _, rfl⟩
  · have htwin := State.mirrorOut_changes s k (s.twin.txSeq + 1) l .twin (by decide)
    exact ⟨_, _, _, by dsimp only; rw [htwin]⟩

/-- An entry as it stands in the journal and in what a standby keeps, before its frame on the mirror. -/
structure Entered (s t : State) : Prop where
  fab : t.fab = s.fab
  twin : ∃ l, t.twin = { s.twin with own := l }
  dev : ∀ (i : Nat) (h : i < 17), i ≠ 15 → t.tal.dev[i] = s.tal.dev[i]

/-- An entry is queued or dropped, and then may be sent on the mirror (R275, R276, R562). -/
theorem State.journal_entered (code data : Nat) : ∃ t, Entered s t ∧
    (s.journal code data = t ∨ ∃ k l, s.journal code data = t.sendMirror k l) := by
  have hsame : Entered s s := ⟨rfl, ⟨_, rfl⟩, fun _ _ _ => rfl⟩
  unfold State.journal State.journalEntry; split
  · exact ⟨s, hsame, .inl rfl⟩
  · split
    · exact ⟨s, hsame, .inl rfl⟩
    · split
      · refine ⟨_, ?_, .inl rfl⟩
        exact ⟨rfl, ⟨_, rfl⟩, fun i h hi => Vector.getElem_set_ne (by decide) h (Ne.symm hi)⟩
      · dsimp only; split
        · refine ⟨_, ?_, .inl rfl⟩
          exact ⟨rfl, ⟨_, rfl⟩, fun _ _ _ => rfl⟩
        · refine ⟨_, ?_, .inr ⟨_, _, rfl⟩⟩
          refine ⟨?_, ?_, fun i h hi => ?_⟩
          · split <;> rfl
          · split
            · exact ⟨_, rfl⟩
            · exact ⟨_, rfl⟩
          · split <;> rfl

theorem State.journal_port (code data : Nat) (j : FabPort) :
    (s.fab.port[j]).Queued ((s.journal code data).fab.port[j]) := by
  obtain ⟨t, ht, h | ⟨k, l, h⟩⟩ := s.journal_entered code data
  · rw [h, ht.fab]; exact .refl _
  · rw [h, ← ht.fab]; exact t.sendMirror_port k l j

/-- Who the partner is, and the phase of the mirror, do not depend on an entry. -/
theorem State.journal_handoverBar (code data : Nat) : (s.journal code data).handoverBar = s.handoverBar := by
  obtain ⟨t, ht, h⟩ := s.journal_entered code data
  obtain ⟨own, htwin⟩ := ht.twin
  have hbar : t.handoverBar = s.handoverBar := by simp only [State.handoverBar, htwin]
  rcases h with h | ⟨k, l, h⟩
  · rw [h, hbar]
  · obtain ⟨n, u, a, hsent⟩ := t.sendMirror_twin k l
    rw [h, ← hbar]
    simp only [State.handoverBar, hsent]

/-- Of the device tallies an entry can count only the dropped entries. -/
theorem State.journal_dev (code data : Nat) (i : Nat) (h : i < 17) (hi : i ≠ 15) :
    (s.journal code data).tal.dev[i] = s.tal.dev[i] := by
  obtain ⟨t, ht, hj | ⟨k, l, hj⟩⟩ := s.journal_entered code data
  · rw [hj]; exact ht.dev i h hi
  · have hsent := (t.sendMirror_changes k l .deviceTallies (by decide)).1
    simp only [hj, hsent]
    exact ht.dev i h hi

end entry
end Sys2Proof.Machine

namespace Sys2Proof.Machine

/-! Loops whose steps journal, and the clamps with their entries (R212). -/

/-- A loop whose steps each have their own entries. -/
theorem ChangesOnly.foldl_journalling {α : Type} {ps : List Part} {f : State → α → State} (hb : Part.beads ∉ ps)
    (h : ∀ t a, ChangesOnly (ps ++ t.journalling) t (f t a)) (l : List α) (s : State) :
    ChangesOnly (ps ++ s.journalling) s (l.foldl f s) := by
  induction l generalizing s with
  | nil => exact .refl _ s
  | cons a l ih => exact ChangesOnly.then_journalling hb (h s a) (ih _)

section clamps
variable (s : State)

/-- The clamps of a configuration in Loam, Sand and Bedrock on battery (R212). -/
def State.clampsOf (conf : State) : Vector (Vector Nat 3) 2 :=
  Vector.ofFn fun g =>
    Vector.ofFn fun (m : Fin 3) => conf.clampK (if m = 0 then .loam else if m = 1 then .sand else .bedBattery) g

/-- The state with the clamps of a configuration (R212). -/
def State.clamped (s conf : State) : State := { s with bead := { s.bead with clamp := conf.clampsOf } }

/-- RATE CLAMP for the group pairs that are clamped (R212). -/
def State.clampsLogged (s conf : State) (m : Mode) (code : Nat) : State :=
  (List.finRange 2).foldl (fun t (g : Fin 2) =>
    if 0 < conf.clampK m g then t.journal 0x2A (g.val * 4096 + code * 256 + conf.clampK m g) else t) s

theorem State.clampsLogged_book (conf : State) (m : Mode) (code : Nat) : Bookkeeping s (s.clampsLogged conf m code) :=
  Bookkeeping.foldl (fun t g => by
    split
    · exact t.journal_book _ _
    · exact .refl t) _ s

theorem State.clampsLogged_changes (conf : State) (m : Mode) (code : Nat) :
    ChangesOnly s.journalling s (s.clampsLogged conf m code) :=
  ChangesOnly.foldl_journalling (ps := []) List.not_mem_nil (fun t g => by
    split
    · exact t.journal_changes _ _
    · exact .refl _ t) _ s

theorem State.clampRates_changes (conf : State) : ChangesOnly ([.beads] ++ s.journalling) s (s.clampRates conf) := by
  have hclamp : ChangesOnly [.beads] s (s.clamped conf) := changes_bead s _
  have hlog : ChangesOnly s.journalling (s.clamped conf) (s.clampRates conf) :=
    (s.clamped conf).clampsLogged_changes conf s.rateMode s.dev.mode.code
  exact hclamp.join hlog

theorem State.clampRates_book (conf : State) : Bookkeeping s (s.clampRates conf) := by
  have hclamp : Bookkeeping s (s.clamped conf) :=
    ⟨⟨_, rfl⟩, ⟨_, rfl⟩, ⟨_, rfl⟩, ⟨_, rfl⟩, .refl _, (changes_bead s _).mono (by decide)⟩
  exact hclamp.trans (State.clampsLogged_book ..)

theorem State.clampRates_tr (conf : State) : (s.clampRates conf).tr = s.tr :=
  s.clampRates_changes conf .sounding (by unfold State.journalling; split <;> decide)

theorem State.applyRates_journalling : ChangesOnly ([.beads, .sounding] ++ s.journalling) s s.applyRates :=
  ((s.clampRates_changes s).widen (by decide)).more (State.setPeriods_changes _) (by decide)

/-- The rates computed again leave a calibration as it is. -/
theorem State.applyRates_calRun (p : PathNo) : (s.applyRates.tr.path[p]).calRun = (s.tr.path[p]).calRun := by
  have hperiod (q : PathSt) (n m : Nat) (b : Bool) : (q.withPeriod p n m b).calRun = q.calRun := by
    unfold PathSt.withPeriod; split
    · rfl
    · split
      · rfl
      · split <;> rfl
  simp only [State.applyRates, State.setPeriods, State.clampRates_tr, Fin.getElem_fin, Vector.getElem_ofFn, hperiod]

theorem State.applyRates_cal : s.applyRates.tr.calOn = s.tr.calOn ∧ s.applyRates.tr.calByMonitor = s.tr.calByMonitor := by
  obtain ⟨v, h⟩ := s.applyRates_book.tr
  rw [h]
  exact ⟨rfl, rfl⟩

end clamps
end Sys2Proof.Machine

namespace Sys2Proof.Machine

/-! A closed sequence taken up as a gesture (§3.2; R93, R94, R96). -/

section gestures
variable (s : State)

theorem State.closedAs_of {l : List Nat} {g : Gesture} (hl : s.loc.closed = some l) (hg : classifyPresses l = g) :
    s.closedAs g = some l.length := by
  simp [State.closedAs, hl, hg]

theorem classifyPresses_long {a : Nat} (h1 : 5 * 32768 ≤ a) (h2 : a ≤ 8 * 32768) : classifyPresses [a] = .long := by
  have hshort : ¬ (32768 ≤ 10 * a ∧ 10 * a ≤ 15 * 32768) := by omega
  simp only [classifyPresses, if_neg hshort, if_pos (And.intro h1 h2)]

theorem classifyPresses_clean {a : Nat} (h1 : 10 * 32768 ≤ a) (h2 : a < 15 * 32768) : classifyPresses [a] = .clean := by
  have hshort : ¬ (32768 ≤ 10 * a ∧ 10 * a ≤ 15 * 32768) := by omega
  have hlong : ¬ (5 * 32768 ≤ a ∧ a ≤ 8 * 32768) := by omega
  simp only [classifyPresses, if_neg hshort, if_neg hlong, if_pos (And.intro h1 h2)]

/-- A gesture with its preconditions met has its effect on the state without the closed sequence. -/
theorem State.gesture_taken {g : Gesture} {n : Nat} (hbusy : s.busyGesture = false) (hpre : s.dropClosed.failedPrecondition g = 0)
    (effect : State → State) : s.gesture g n effect = effect s.dropClosed := by
  have hbusy' : s.dropClosed.busyGesture = false := hbusy
  simp [State.gesture, hbusy', hpre]

theorem State.dropClosed_changes : ChangesOnly [.wiring] s s.dropClosed := changes_loc s _

/-- GESTURE for a gesture accepted, from the closed sequence on (R96). -/
def State.gestureLogged (s : State) (g : Gesture) (n : Nat) : State := s.dropClosed.gestureEntry g 0 0 n

/-- The data of GESTURE for a gesture accepted (Table 6.8). -/
def State.gestureData (s : State) (g : Gesture) (n : Nat) : Nat :=
  g.code * 8192 + bit s.keyFitted * 4096 + sealCode s.loc.sealState * 1024 + 0 * 128 + 0 * 16 + min 15 n

theorem State.gestureLogged_eq (g : Gesture) (n : Nat) :
    s.gestureLogged g n = (s.dropClosed.journal 0x10 (s.gestureData g n)).addTally 20 1 := rfl

/-- The code of the gesture stands above the other fields, and the result 0 below it. -/
theorem State.gestureData_fields (g : Gesture) (n : Nat) :
    s.gestureData g n / 8192 = g.code ∧ s.gestureData g n / 128 % 8 = 0 := by
  have hkey : bit s.keyFitted ≤ 1 := by cases s.keyFitted <;> decide
  have hseal : sealCode s.loc.sealState ≤ 3 := by unfold sealCode; split <;> omega
  unfold State.gestureData
  omega

theorem State.gestureLogged_changes (g : Gesture) (n : Nat) :
    ChangesOnly ([.wiring] ++ s.journalling) s (s.gestureLogged g n) := by
  have hentry := s.dropClosed_changes.then_journal (by decide) 0x10 (s.gestureData g n)
  have htally : ([Part.deviceTallies] : List Part) ⊆ [.wiring] ++ s.journalling := by
    unfold State.journalling; split <;> decide
  exact hentry.trans ((State.addTally_changes _ 20 1).mono htally)

theorem State.gestureLogged_le (g : Gesture) (n : Nat) :
    ChangesOnly [.wiring, .journal, .deviceTallies, .fabric, .twin] s (s.gestureLogged g n) :=
  (s.gestureLogged_changes g n).mono (by unfold State.journalling; split <;> decide)

theorem State.gestureLogged_logs (h : s.takesEntry 0x10) (g : Gesture) (n : Nat) :
    LogsEntry s (s.gestureLogged g n) 0x10 (s.gestureData g n) := by
  have htakes := (s.dropClosed_changes.takesEntry (by decide) (by decide) 0x10).mpr h
  exact (State.journal_logs htakes _).within s.dropClosed_changes (State.addTally_changes _ 20 1) (by decide) (by decide)

/-- GEST is counted. -/
theorem State.gestureLogged_counted (g : Gesture) (n : Nat) :
    (s.gestureLogged g n).tal.dev[12] = s.tal.dev[12] + 1 := by
  have hentry := s.dropClosed.journal_dev 0x10 (s.gestureData g n) 12 (by decide) (by decide)
  have hdrop : s.dropClosed.tal.dev[12] = s.tal.dev[12] := rfl
  rw [State.gestureLogged_eq, ← hdrop, ← hentry]
  exact Vector.getElem_set_self _

theorem State.gestureLogged_loc (g : Gesture) (n : Nat) : (s.gestureLogged g n).loc = s.dropClosed.loc := by
  have htally := State.addTally_changes (s.dropClosed.journal 0x10 (s.gestureData g n)) 20 1
  exact (htally .wiring (by decide)).trans (State.journal_le s.dropClosed _ _ .wiring (by decide))

theorem State.gestureLogged_fab (g : Gesture) (n : Nat) :
    (s.gestureLogged g n).fab = (s.dropClosed.journal 0x10 (s.gestureData g n)).fab :=
  State.addTally_changes _ 20 1 .fabric (by decide)

theorem State.gestureLogged_now (g : Gesture) (n : Nat) : (s.gestureLogged g n).now = s.now :=
  (s.gestureLogged_le g n).now (by decide)

end gestures

/-! What the gestures do beside their entries: a re-strap, pairing windows, a calibration, a hand-over, a clean. -/

section effects
variable (s : State)

/-- The state with the read of a re-strap due, and its demand on the XO. -/
def State.restrapDue (s : State) : State :=
  ({ s with bead := { s.bead with req := some .restrap } } : State).demand .beadRead

theorem State.restrapDue_changes : ChangesOnly [.beads, .clocks] s s.restrapDue :=
  ((changes_bead s _).mono (by decide)).trans ((State.demand_changes _ _).mono (by decide))

theorem State.restrapDue_req : s.restrapDue.bead.req = some .restrap :=
  congrArg Bead.req (State.demand_changes { s with bead := { s.bead with req := some .restrap } } .beadRead .beads (by decide))

/-- With nothing read, compiled or held, a re-strap falls due (R66). -/
theorem State.requestRestrap_due (hp : s.bead.phase = .idle) (hr : s.bead.req = none) (hd : s.bead.deferred = none)
    (hh : s.bead.heldRestrap = false) : s.requestRestrap = s.restrapDue := by
  simp [State.requestRestrap, State.restrapDue, hp, hr, hd, hh]

theorem exec_setShort {a : Nat} (hl : s.loc.closed = some [a]) (h1 : 32768 ≤ 10 * a) (h2 : 10 * a ≤ 15 * 32768)
    (hc : s.mon.confirm = none) (hb : s.inBedrock = false) :
    exec .setShort s = .next (((s.gestureLogged .short 1).ackGreen (.ack 1)).requestRestrap) := by
  have hshort : classifyPresses [a] = .short := by simp only [classifyPresses, if_pos (And.intro h1 h2)]
  have hpre : s.dropClosed.failedPrecondition .short = 0 := by
    have hb' : s.dropClosed.inBedrock = false := hb
    simp [State.failedPrecondition, hb']
  show execSetShort s = _
  simp only [execSetShort, s.closedAs_of hl hshort, hc, hpre]
  rfl

/-- A window's end and the ports that it opens, which a pairing begun leaves. -/
def Fab.windows (f : Fab) : Option Nat × Vector Bool 3 := (f.windowTill, f.windowPorts)

theorem Fab.Sends.windows {a b : Fab} (h : a.Sends b) : b.windows = a.windows := by rw [h.rest]; rfl

theorem State.beginPairing_windows (p : FabPort) : (s.beginPairing p).fab.windows = s.fab.windows := by
  unfold State.beginPairing; split
  · exact (State.journal_sends _ _ _).windows
  · rfl

theorem State.beginPairing_changes (p : FabPort) :
    ChangesOnly [.deviceTallies, .journal, .fabric, .twin, .draws] s (s.beginPairing p) := by
  unfold State.beginPairing; split
  · exact ((s.updPort_changes p _).mono (by decide)).trans ((State.journal_le _ _ _).mono (by decide))
  · have hdraws := (s.drawBytes_changes 32).trans (State.drawBytes_changes _ 16)
    exact (hdraws.mono (by decide)).trans ((State.updPort_changes _ p _).mono (by decide))

/-- The window set, before the pairings begin (R511). -/
def State.windowSet (s : State) (ports : List FabPort) : State :=
  { s with fab := { s.fab with
    windowTill := some (s.now + 60 * tps)
    windowPorts := Vector.ofFn fun p => s.fab.windowPorts[p] || ports.contains p
    windowPaired := if s.fab.windowTill.isSome then s.fab.windowPaired else 0 } }

/-- The pairings of the ports that have none begun (R512). -/
def State.pairingsBegun (s : State) (ports : List FabPort) : State :=
  ports.foldl (fun t (p : FabPort) => if (t.fab.port[p]).pairing.isSome then t else t.beginPairing p) s

theorem State.openWindow_eq (ports : List FabPort) : s.openWindow ports =
    ((s.windowSet ports).pairingsBegun ports).journal 0x50 (bitsNat (allPorts.map fun p => ports.contains p) + 8) := rfl

theorem State.openWindow_windows (ports : List FabPort) :
    (s.openWindow ports).fab.windows = (s.windowSet ports).fab.windows := by
  rw [State.openWindow_eq, (State.journal_sends _ _ _).windows]
  refine foldl_keeps (fun t : State => t.fab.windows) (fun t p _ => ?_) _
  split
  · rfl
  · exact t.beginPairing_windows p

theorem State.openWindow_till (ports : List FabPort) :
    (s.openWindow ports).fab.windowTill = some (s.now + 60 * 32768) := congrArg Prod.fst (s.openWindow_windows ports)

theorem State.openWindow_ports {ports : List FabPort} {p : FabPort} (hp : p ∈ ports) :
    (s.openWindow ports).fab.windowPorts[p] = true := by
  have hports : (s.openWindow ports).fab.windowPorts = (s.windowSet ports).fab.windowPorts :=
    congrArg Prod.snd (s.openWindow_windows ports)
  rw [hports]
  simp [State.windowSet, hp]

theorem State.openWindow_changes (ports : List FabPort) :
    ChangesOnly [.deviceTallies, .journal, .fabric, .twin, .draws] s (s.openWindow ports) := by
  have hset : ChangesOnly [.fabric] s (s.windowSet ports) := changes_fab s _
  have hbegun := ChangesOnly.foldl (fun t (p : FabPort) => ChangesOnly.ite (c := (t.fab.port[p]).pairing.isSome = true)
    (.refl _ t) (t.beginPairing_changes p)) ports (s.windowSet ports)
  exact ((hset.mono (by decide)).trans hbegun).trans ((State.journal_le _ _ _).mono (by decide))

/-- The ports of a double tap are those from before its entry. -/
theorem State.gestureLogged_tapPorts (g : Gesture) (n : Nat) : (s.gestureLogged g n).tapPorts = s.tapPorts := by
  refine List.filter_congr fun p _ => ?_
  have hrole : (s.gestureLogged g n).portRole p = s.portRole p := (s.gestureLogged_le g n).portRole (by decide) p
  have htrust : ((s.gestureLogged g n).fab.port[p]).trust = (s.fab.port[p]).trust := by
    rw [State.gestureLogged_fab]
    exact (s.dropClosed.journal_port _ _ p).trust
  rw [hrole, htrust]

theorem exec_doubleTap {a b : Nat} (hl : s.loc.closed = some [a, b]) (ha : isTap a = true) (hb : isTap b = true)
    (hbusy : s.busyGesture = false) (hbed : s.inBedrock = false) (hports : s.tapPorts ≠ []) :
    exec .doubleTap s =
      .next (((s.gestureLogged .double 2).openWindow s.tapPorts).ackGreen (.ack 2) (some .pairing)) := by
  have hdouble : classifyPresses [a, b] = .double := by simp [classifyPresses, ha, hb]
  have hpre : s.dropClosed.failedPrecondition .double = 0 := by
    have hbed' : s.dropClosed.inBedrock = false := hbed
    simp [State.failedPrecondition, hbed']
  have hports' : (s.gestureLogged .double 2).tapPorts = s.tapPorts := s.gestureLogged_tapPorts _ _
  have hnonempty : ¬ (s.tapPorts.isEmpty = true ∧ (s.gestureLogged .double 2).fab.windowTill.isNone = true) := by
    simp [List.isEmpty_iff, hports]
  show execDoubleTap s = _
  simp only [execDoubleTap, s.closedAs_of hl hdouble, s.gesture_taken hbusy hpre]
  show Host.Outcome.next (if (s.gestureLogged .double 2).tapPorts.isEmpty = true ∧
      (s.gestureLogged .double 2).fab.windowTill.isNone = true then (s.gestureLogged .double 2).ackAmber .refuse
    else ((s.gestureLogged .double 2).openWindow (s.gestureLogged .double 2).tapPorts).ackGreen (.ack 2) (some .pairing)) = _
  simp only [hports', if_neg hnonempty]

/-- The paths with a calibration begun on each that is configured, before the rates (R218). -/
def State.calSet (s : State) (byMonitor : Bool) : State :=
  { s with tr := { s.tr with
    calOn := true, calByMonitor := byMonitor
    calPassed := Vector.replicate 8 false, calRefused := Vector.replicate 8 false
    path := Vector.ofFn fun p => { s.tr.path[p] with calRun := if s.configured p then some {} else none } } }

theorem State.beginCal_eq (b : Bool) : s.beginCal b = (s.calSet b).applyRates := rfl

theorem State.beginCal_changes (b : Bool) : ChangesOnly ([.beads, .sounding] ++ s.journalling) s (s.beginCal b) := by
  have hset : ChangesOnly [.sounding] s (s.calSet b) := changes_tr s _
  have hrates := (s.calSet b).applyRates_journalling
  rw [hset.journalling (by decide)] at hrates
  exact (hset.mono (by simp)).trans hrates

theorem State.beginCal_calRun (b : Bool) (p : PathNo) :
    (((s.beginCal b).tr.path[p]).calRun).isSome = s.configured p := by
  rw [State.beginCal_eq, State.applyRates_calRun]
  simp only [State.calSet, Fin.getElem_fin, Vector.getElem_ofFn]
  cases s.configured p <;> rfl

theorem State.beginCal_cal (b : Bool) : (s.beginCal b).tr.calOn = true ∧ (s.beginCal b).tr.calByMonitor = b :=
  (s.calSet b).applyRates_cal

theorem exec_setLong {a : Nat} (hl : s.loc.closed = some [a]) (h1 : 5 * 32768 ≤ a) (h2 : a ≤ 8 * 32768)
    (hbusy : s.busyGesture = false) (hkey : s.keyFitted = true) (hbed : s.inBedrock = false)
    (hlease : s.leaseMissing = false) : exec .setLong s =
      .next (((s.gestureLogged .long 1).ackGreen (.ack 3) (some .running)).beginCal false) := by
  have hpre : s.dropClosed.failedPrecondition .long = 0 := by
    have hkey' : s.dropClosed.keyFitted = true := hkey
    have hbed' : s.dropClosed.inBedrock = false := hbed
    have hlease' : s.dropClosed.leaseMissing = false := hlease
    simp [State.failedPrecondition, hkey', hbed', hlease']
  show execSetLong s = _
  simp only [execSetLong, s.closedAs_of hl (classifyPresses_long h1 h2), s.gesture_taken hbusy hpre]
  rfl

theorem State.gestureLogged_handoverBar (g : Gesture) (n : Nat) : (s.gestureLogged g n).handoverBar = s.handoverBar := by
  have htwin : (s.gestureLogged g n).twin = (s.dropClosed.journal 0x10 (s.gestureData g n)).twin :=
    State.addTally_changes _ 20 1 .twin (by decide)
  calc (s.gestureLogged g n).handoverBar
      = (s.dropClosed.journal 0x10 (s.gestureData g n)).handoverBar := by simp only [State.handoverBar, htwin]
    _ = s.dropClosed.handoverBar := State.journal_handoverBar _ _ _

theorem exec_tripleTap {a b c : Nat} (hl : s.loc.closed = some [a, b, c]) (ha : isTap a = true) (hb : isTap b = true)
    (hc : isTap c = true) (hbusy : s.busyGesture = false) (hkey : s.keyFitted = true) (hbed : s.inBedrock = false)
    (hrole : s.trole ≠ .none) (hlease : s.leaseMissing = false) (hbar : s.handoverBar = none) :
    exec .tripleTap s = .next (((s.gestureLogged .triple 3).beginHandover false).ackGreen (.ack 4)) := by
  have htriple : classifyPresses [a, b, c] = .triple := by simp [classifyPresses, ha, hb, hc]
  have hpre : s.dropClosed.failedPrecondition .triple = 0 := by
    have hkey' : s.dropClosed.keyFitted = true := hkey
    have hbed' : s.dropClosed.inBedrock = false := hbed
    have hrole' : s.dropClosed.trole ≠ .none := hrole
    have hlease' : s.dropClosed.leaseMissing = false := hlease
    simp [State.failedPrecondition, hkey', hbed', hrole', hlease']
  have hbar' : s.dropClosed.handoverBar = none := hbar
  show execTripleTap s = _
  simp only [execTripleTap, s.closedAs_of hl htriple, s.gesture_taken hbusy hpre, hbar']
  rfl

theorem State.beginHandover_begun (hbar : s.handoverBar = none) (auto : Bool) :
    s.beginHandover auto = { s with twin := { s.twin with handReq := some auto } } := by
  simp only [State.beginHandover, hbar]

/-- A pairing abandoned on a port is gone, and the other ports keep theirs. -/
theorem State.pairFail_pairing (p : FabPort) (cause : Nat) (j : FabPort) :
    ((s.pairFail p cause).fab.port[j]).pairing = if j = p then none else (s.fab.port[j]).pairing := by
  unfold State.pairFail
  split
  · rw [(State.journal_port _ _ _ j).pairing, State.updPort_port]
    split <;> rfl
  · split
    · subst j; exact Option.not_isSome_iff_eq_none.mp ‹_›
    · rfl

theorem State.pairFailAll_pairing (cause : Nat) (j : FabPort) :
    ((s.pairFailAll cause).fab.port[j]).pairing = none :=
  foldl_finRange (fun (t : State) (j : FabPort) => (t.fab.port[j]).pairing) (fun _ _ => none) (fun _ => True)
    (fun _ _ _ => trivial) (fun t p j _ => t.pairFail_pairing p cause j) s trivial j

/-- A clean marked as in progress, with the queued writes that it drops (R265, R652). -/
def State.cleanMarked (s : State) : State :=
  { s with tal := { s.tal with
    cleaning := true, writes := s.tal.writes.filter fun w => !w.id.cleaned && decide (w.id ≠ .record .device) } }

/-- A clean with its device record written. -/
def State.cleanWritten (s : State) : State :=
  s.cleanMarked.setStore (commitRecord s.cleanMarked.tal.store .device s.cleanMarked.tal.deviceContent)

theorem State.cleanWritten_changes : ChangesOnly [.writes, .store, .tallyRest] s s.cleanWritten := by
  have hmark : ChangesOnly [.writes, .tallyRest] s s.cleanMarked := by
    intro q hq; cases q <;> simp_all [Part.same, State.cleanMarked, Mov.restSame]
  exact (hmark.mono (by decide)).trans ((State.setStore_changes _ _).mono (by decide))

theorem State.beginClean_changes :
    ChangesOnly [.deviceTallies, .journal, .writes, .store, .tallyRest, .fabric, .twin] s s.beginClean :=
  (s.cleanWritten_changes.mono (by decide)).trans ((State.pairFailAll_changes _ 7).mono (by decide))

theorem State.beginClean_cleaning : s.beginClean.tal.cleaning = true := by
  obtain ⟨-, -, -, -, -, -, -, -, hcleaning, -⟩ : s.cleanWritten.tal.restSame s.beginClean.tal :=
    s.cleanWritten.pairFailAll_changes 7 .tallyRest (by decide)
  exact hcleaning

theorem State.beginClean_writes : ∀ w ∈ s.beginClean.tal.writes, w.id.cleaned = false := by
  have hwrites : s.beginClean.tal.writes = s.cleanWritten.tal.writes :=
    s.cleanWritten.pairFailAll_changes 7 .writes (by decide)
  intro w hw
  rw [hwrites] at hw
  have hkept := (List.mem_filter.mp hw).2
  simp only [Bool.and_eq_true, Bool.not_eq_true'] at hkept
  exact hkept.1

theorem exec_clean {a : Nat} (hl : s.loc.closed = some [a]) (h1 : 10 * 32768 ≤ a) (h2 : a < 15 * 32768)
    (hbusy : s.busyGesture = false) (hkey : s.keyFitted = true) (hseal : s.loc.sealState = some .opened)
    (hbed : s.inBedrock = false) : exec .clean s =
      .next (((s.gestureLogged .clean 1).ackGreen (.ack 5) (some .cleaned)).beginClean) := by
  have hpre : s.dropClosed.failedPrecondition .clean = 0 := by
    have hkey' : s.dropClosed.keyFitted = true := hkey
    have hseal' : s.dropClosed.loc.sealState = some .opened := hseal
    have hbed' : s.dropClosed.inBedrock = false := hbed
    simp [State.failedPrecondition, hkey', hseal', hbed']
  show execClean s = _
  simp only [execClean, s.closedAs_of hl (classifyPresses_clean h1 h2), s.gesture_taken hbusy hpre]
  rfl

end effects
end Sys2Proof.Machine

namespace Sys2Proof.Machine

/-- Settles O15: each gesture by its entry, its acknowledgement and what it begins. -/
theorem gesturesTaken : Obligations.GesturesTaken := by
  refine ⟨?_, ?_, ?_, ?_, ?_⟩
  · intro s a hl h1 h2 hc hb hphase hreq hdef hheld
    have hexec := exec_setShort s hl h1 h2 hc hb
    have hlogged := s.gestureLogged_changes .short 1
    have hbead : (s.gestureLogged .short 1).bead = s.bead := s.gestureLogged_le .short 1 .beads (by decide)
    have hloc := s.gestureLogged_loc .short 1
    have hcount := s.gestureLogged_counted .short 1
    have hlogs (h : s.takesEntry 0x10) := s.gestureLogged_logs h .short 1
    generalize s.gestureLogged .short 1 = u at *
    have hshown : (u.ackGreen (.ack 1)).bead = s.bead := hbead
    rw [(u.ackGreen (.ack 1)).requestRestrap_due (by rw [hshown, hphase]) (by rw [hshown, hreq]) (by rw [hshown, hdef])
      (by rw [hshown, hheld])] at hexec
    have hdue := (u.ackGreen (.ack 1)).restrapDue_changes
    have hafter : ChangesOnly [.wiring, .beads, .clocks] u (u.ackGreen (.ack 1)).restrapDue :=
      ((u.ackGreen_changes _ _).mono (by decide)).trans (hdue.mono (by decide))
    have hloc' : _ = (u.ackGreen (.ack 1)).loc := hdue .wiring (by decide)
    have hdev := (hafter .deviceTallies (by decide)).1
    refine ⟨_, hexec, ?_, State.restrapDue_req _, ?_, ?_, fun h => ⟨_, (hlogs h).within (.refl [] s) hafter (by decide)
      (by decide), s.gestureData_fields .short 1⟩, (hlogged.widen (by decide)).more hafter (by decide)⟩
    · rw [hloc']; exact congrArg Local.closed hloc
    · rw [hloc']; rfl
    · rw [hdev]; exact hcount
  · intro s a b hl ha hb hbusy hbed hports
    have hlogged := s.gestureLogged_le .double 2
    have hloc := s.gestureLogged_loc .double 2
    have hexec := exec_doubleTap s hl ha hb hbusy hbed hports
    have htill := (s.gestureLogged .double 2).openWindow_till s.tapPorts
    have hopened := (s.gestureLogged .double 2).openWindow_changes s.tapPorts
    have hwins (p : FabPort) (hp : p ∈ s.tapPorts) := (s.gestureLogged .double 2).openWindow_ports hp
    have hloc' : _ = (s.gestureLogged .double 2).loc := hopened .wiring (by decide)
    rw [s.gestureLogged_now .double 2] at htill
    generalize (s.gestureLogged .double 2).openWindow s.tapPorts = v at *
    refine ⟨_, hexec, congrArg Local.closed (hloc'.trans hloc), htill, hwins, rfl, rfl, ?_⟩
    exact ((hlogged.mono (by decide)).trans (hopened.mono (by decide))).trans ((v.ackGreen_changes _ _).mono (by decide))
  · intro s a hl h1 h2 hbusy hkey hbed hlease
    have hlogged := s.gestureLogged_changes .long 1
    have hshown := hlogged.more (State.ackGreen_changes _ (.ack 3) (some .running)) (by decide)
    have hcal := State.beginCal_changes ((s.gestureLogged .long 1).ackGreen (.ack 3) (some .running)) false
    have hloc : _ = ((s.gestureLogged .long 1).ackGreen (.ack 3) (some .running)).loc :=
      hcal .wiring (by unfold State.journalling; split <;> decide)
    have hbead : ((s.gestureLogged .long 1).ackGreen (.ack 3) (some .running)).bead = s.bead :=
      s.gestureLogged_le .long 1 .beads (by decide)
    have hjournal : ((s.gestureLogged .long 1).ackGreen (.ack 3) (some .running)).journalling = s.journalling :=
      ((s.gestureLogged_le .long 1).trans ((State.ackGreen_changes _ _ _).mono (by decide))).journalling (by decide)
    rw [hjournal] at hcal
    refine ⟨_, exec_setLong s hl h1 h2 hbusy hkey hbed hlease, ?_, (State.beginCal_cal _ _).1, (State.beginCal_cal _ _).2,
      fun p => ?_, ?_, ?_, (hshown.widen (by decide)).trans (hcal.widen (by decide))⟩
    · rw [hloc]; exact congrArg Local.closed (s.gestureLogged_loc .long 1)
    · rw [State.beginCal_calRun]
      simp only [State.configured, State.aperture, State.eff, hbead]
    · rw [hloc]; rfl
    · rw [hloc]; rfl
  · intro s a b c hl ha hb hc hbusy hkey hbed hrole hlease hbar
    have hbegun := State.beginHandover_begun _ ((s.gestureLogged_handoverBar .triple 3).trans hbar) false
    have hexec := exec_tripleTap s hl ha hb hc hbusy hkey hbed hrole hlease hbar
    rw [hbegun] at hexec
    refine ⟨_, hexec, congrArg Local.closed (s.gestureLogged_loc .triple 3), rfl, rfl, ?_⟩
    exact (((s.gestureLogged_le .triple 3).mono (by decide)).trans ((changes_twin _ _).mono (by decide))).trans
      ((State.ackGreen_changes _ _ _).mono (by decide))
  · intro s a hl h1 h2 hbusy hkey hseal hbed
    have hclean := State.beginClean_changes ((s.gestureLogged .clean 1).ackGreen (.ack 5) (some .cleaned))
    have hloc : _ = ((s.gestureLogged .clean 1).ackGreen (.ack 5) (some .cleaned)).loc := hclean .wiring (by decide)
    refine ⟨_, exec_clean s hl h1 h2 hbusy hkey hseal hbed, ?_, State.beginClean_cleaning _, ?_, ?_,
      State.beginClean_writes _, fun p => ?_, ?_⟩
    · rw [hloc]; exact congrArg Local.closed (s.gestureLogged_loc .clean 1)
    · rw [hloc]; rfl
    · rw [hloc]; rfl
    · rw [Option.isNone_iff_eq_none]; exact State.pairFailAll_pairing _ 7 p
    · exact (((s.gestureLogged_le .clean 1).mono (by decide)).trans
        ((State.ackGreen_changes _ _ _).mono (by decide))).trans (hclean.mono (by decide))

end Sys2Proof.Machine

namespace Sys2Proof.Machine

/-! What a bead part that takes its value can change (R62 to R64, R114, R236, R321, R449). -/

/-- A loop changes what its body can change on the elements of its list. -/
theorem ChangesOnly.foldl_mem {α : Type} {ps : List Part} {f : State → α → State} {l : List α}
    (h : ∀ s, ∀ a ∈ l, ChangesOnly ps s (f s a)) (s : State) : ChangesOnly ps s (l.foldl f s) := by
  induction l generalizing s with
  | nil => exact .refl ps s
  | cons a l ih => exact (h s a List.mem_cons_self).trans (ih (fun s a ha => h s a (List.mem_cons_of_mem _ ha)) _)

/-- The parts that the beads of sounding and field wiring govern. -/
def fieldParts : List Part :=
  [.wiring, .sounding, .pathTallies, .journal, .deviceTallies, .fabric, .twin]

/-- The parts that the beads of video and the fabric govern. -/
def videoParts : List Part :=
  [.clocks, .cameras, .movers, .pool, .journal, .deviceTallies, .fabric, .twin]

section parts
variable (s : State)

theorem State.updTal_changes (p : PathNo) (f : PathTally → PathTally) : ChangesOnly [.pathTallies] s (s.updTal p f) :=
  changes_pathTallies s _

theorem State.endHealth_changes (p : PathNo) :
    ChangesOnly [.sounding, .journal, .deviceTallies, .fabric, .twin] s (s.endHealth p) := by
  have one (t : State) (c : Chan) : ChangesOnly [.sounding, .journal, .deviceTallies, .fabric, .twin] t
      (match (t.tr.chan[c]).failed with
        | some o =>
          ({ t with tr := { t.tr with chan := t.tr.chan.set c { t.tr.chan[c] with failed := none, run := 0 } } } : State).journal
            0x2D (healthData p c false o.code)
        | none => t) := by
    split
    · exact ((changes_tr t _).mono (by decide)).trans ((State.journal_le _ _ _).mono (by decide))
    · exact .refl _ t
  unfold State.endHealth
  extract_lets one' s1
  have h1 : ChangesOnly [.sounding, .journal, .deviceTallies, .fabric, .twin] s s1 :=
    (one s (chanA p)).trans (one _ (chanB p))
  split
  · exact (h1.trans ((s1.updPath_changes p _).mono (by decide))).trans ((State.journal_le _ _ _).mono (by decide))
  · exact h1

theorem State.pathChanged_changes (old : State) (p : PathNo) (fresh : Bool) :
    ChangesOnly fieldParts s (s.pathChanged old p fresh) := by
  unfold State.pathChanged
  extract_lets was isNow hit s1 s2 voided s3
  have h1 : ChangesOnly fieldParts s s1 := (s.updPath_changes p _).mono (by decide)
  have h2 : ChangesOnly fieldParts s s2 := ChangesOnly.ite (h1.trans ((s1.endHealth_changes p).mono (by decide))) h1
  have h3 : ChangesOnly fieldParts s s3 := ChangesOnly.ite (h2.trans ((s2.updTal_changes p _).mono (by decide))) h2
  exact ChangesOnly.ite (h3.trans ((s3.updPath_changes p _).mono (by decide))) h3

theorem State.camStart_changes (k : CamPort) : ChangesOnly videoParts s (s.camStart k) := by
  unfold State.camStart
  extract_lets down
  refine ChangesOnly.ite ?_ (.refl _ s)
  exact (((s.mclkOff_changes k).mono (by decide)).trans ((State.updCam_changes _ k _).mono (by decide))).trans
    ((State.setCam_changes _ k _).mono (by decide))

theorem State.leaveNow_replay_changes (k : CamPort) : ChangesOnly videoParts s (s.leaveNow k .replay) := by
  unfold State.leaveNow
  extract_lets m s1
  have h1 : ChangesOnly videoParts s s1 := ChangesOnly.ite ((changes_mov s _).mono (by decide)) (.refl _ s)
  exact h1.trans (s1.camStart_changes k)

/-- A part of sounding or field wiring changes those, and a part of video or the fabric, which the tally engine does not put
into force itself, changes those. -/
theorem State.partTakes_cases (old : State) (b : BeadNo) (i : Fin 8) :
    ChangesOnly fieldParts s (s.partTakes old b i) ∨
      (engineBead b = false ∧ ChangesOnly videoParts s (s.partTakes old b i)) := by
  have notEngine {m : Nat} (hb : b.val = m) (h3 : m ≠ 3) (h4 : m < 4 ∨ 7 < m) (h32 : m < 32) : engineBead b = false := by
    simp only [engineBead, Bool.or_eq_false_iff, Bool.and_eq_false_iff, decide_eq_false_iff_not]
    omega
  unfold State.partTakes
  split
  · exact .inl (s.setPeriods_changes.mono (by decide))
  · exact .inl ((changes_loc s _).mono (by decide))
  · refine .inl ?_
    split
    · exact ChangesOnly.ite ((s.portDown_changes _ _).mono (by decide)) (.refl _ s)
    · exact .refl _ s
  · exact .inr ⟨notEngine ‹_› (by omega) (by omega) (by omega), (s.armOut_changes _ _ _).mono (by decide)⟩
  · exact .inr ⟨notEngine ‹_› (by omega) (by omega) (by omega), (s.armOut_changes _ _ _).mono (by decide)⟩
  · exact .inl ((s.pathChanged_changes old i false).trans ((State.setPeriods_changes _).mono (by decide)))
  · exact .inl (s.pathChanged_changes old i true)
  · exact .inl (s.setPeriods_changes.mono (by decide))
  · refine .inl ?_
    split
    · exact (changes_loc s _).mono (by decide)
    · exact .refl _ s
  · refine .inl ?_
    split
    · exact (changes_loc s _).mono (by decide)
    · exact .refl _ s
  · exact .inl ((s.updTal_changes i _).mono (by decide))
  · split
    · exact .inr ⟨notEngine rfl (by omega) (by omega) (by omega), s.leaveNow_replay_changes _⟩
    · exact .inl (.refl _ s)

theorem State.partTakes_engine (old : State) {b : BeadNo} (hb : engineBead b = true) (i : Fin 8) :
    ChangesOnly fieldParts s (s.partTakes old b i) := by
  rcases s.partTakes_cases old b i with h | ⟨hb', -⟩
  · exact h
  · exact absurd (hb.symm.trans hb') Bool.noConfusion

theorem State.partTakes_changes (old : State) (b : BeadNo) (i : Fin 8) :
    ChangesOnly (fieldParts ++ videoParts) s (s.partTakes old b i) := by
  rcases s.partTakes_cases old b i with h | ⟨-, h⟩
  · exact h.mono (List.subset_append_left _ _)
  · exact h.mono (List.subset_append_right _ _)

end parts
end Sys2Proof.Machine

namespace Sys2Proof.Machine

/-! A bead read from its findings to its end (§2.2, §2.3; R51 to R57, R66, R67, R582, R653). -/

section reads
variable (s : State)

/-- What a read finds, which no later step of it touches. -/
def Bead.found (b : Bead) : Bool × Bool × Vector Reading 40 × Vector Bool 40 := (b.everRead, b.brefRead, b.latest, b.fault)

/-- The findings of a read with these readings (R56, R57). -/
def foundBy (bref : Bool) (r : Vector Reading 40) : Bool × Bool × Vector Reading 40 × Vector Bool 40 :=
  (true, bref, r, Vector.ofFn fun b => beadFaulty b r[b])

/-- The parts that a read can change beside the mode of the device. -/
def readParts : List Part := .beads :: fieldParts

theorem State.findings_spec (r : Vector Reading 40) :
    (s.findings r).bead.found = foundBy s.bead.brefRead r ∧
      ChangesOnly [.beads, .journal, .deviceTallies, .fabric, .twin] s (s.findings r) := by
  have entries (l : List BeadNo) (c : BeadNo → Bool) (code : Nat) (data : BeadNo → Nat) (t : State) :
      ChangesOnly [.journal, .deviceTallies, .fabric, .twin] t
        (l.foldl (fun u (b : BeadNo) => if c b then u.journal code (data b) else u) t) :=
    ChangesOnly.foldl (fun u b => ChangesOnly.ite (u.journal_le code (data b)) (.refl _ u)) l t
  unfold State.findings
  extract_lets first isNew s1 pend s2 d
  have h1 : ChangesOnly [.journal, .deviceTallies, .fabric, .twin] s s1 := entries _ _ _ _ s
  have h2 : ChangesOnly [.journal, .deviceTallies, .fabric, .twin] s s2 := h1.trans (entries _ _ _ _ s1)
  have hbead : d = s.bead := h2 .beads (by decide)
  refine ⟨?_, (h2.mono (by decide)).trans ((changes_bead _ _).mono (by decide))⟩
  simp only [Bead.found, foundBy, hbead]

theorem setEffs_found (l : List BeadNo) (v : BeadNo → Fin 16) :
    (l.foldl (fun t (b : BeadNo) => t.setEff b (v b)) s).bead.found = s.bead.found :=
  foldl_keeps (f := fun t (b : BeadNo) => t.setEff b (v b)) (fun t : State => t.bead.found) (fun _ _ _ => rfl) s

theorem Bookkeeping.found {s t : State} (h : Bookkeeping s t) : t.bead.found = s.bead.found := by
  obtain ⟨_, hb⟩ := h.bead
  rw [hb]
  rfl

/-- The parts that what changed in force makes follow, at a read held until the device ran (R583). -/
def State.engineTakes (s old : State) (r : Vector Reading 40) : State :=
  (allBeads.filter engineBead).foldl (fun t (b : BeadNo) =>
    (List.finRange 8).foldl (fun u (i : Fin 8) =>
      if i.val < beadParts b ∧ (old.bead.eff[b])[i] ≠ valueUsed b r[b] then u.partTakes old b i else u) t) s

theorem State.engineTakes_changes (old : State) (r : Vector Reading 40) :
    ChangesOnly fieldParts s (s.engineTakes old r) :=
  ChangesOnly.foldl_mem (fun t _ hb => ChangesOnly.foldl (fun u i =>
    ChangesOnly.ite (u.partTakes_engine old (List.mem_filter.mp hb).2 i) (.refl _ u)) _ t) s

theorem State.loadWork_changes (p : PathNo) : ChangesOnly [.pathTallies] s (s.loadWork p) := by
  unfold State.loadWork
  extract_lets t
  split <;> exact changes_pathTallies s _

/-- The engine's beads in effect (R582). -/
def State.engineEff (s : State) (r : Vector Reading 40) : State :=
  (allBeads.filter engineBead).foldl (fun t (b : BeadNo) => t.setEff b (valueUsed b r[b])) s

/-- The state with other readings in force. -/
def State.withInForce (s : State) (r : Vector Reading 40) : State := { s with bead := { s.bead with inForce := r } }

theorem State.withInForce_found (r : Vector Reading 40) : (s.withInForce r).bead.found = s.bead.found := rfl

/-- The engine's beads and the kept readings in force (R582). -/
def State.engineForced (s : State) (r : Vector Reading 40) : State :=
  (s.engineEff r).withInForce
    (Vector.ofFn fun b => if engineBead b || powerUpOnly b then r[b] else (s.engineEff r).bead.inForce[b])

theorem State.engineEff_changes (r : Vector Reading 40) : ChangesOnly [.beads] s (s.engineEff r) :=
  ChangesOnly.foldl (fun t _ => changes_bead t _) _ s

theorem State.engineForced_changes (r : Vector Reading 40) : ChangesOnly [.beads] s (s.engineForced r) :=
  (s.engineEff_changes r).trans (changes_bead _ _)

theorem State.engineForced_found (r : Vector Reading 40) : (s.engineForced r).bead.found = s.bead.found := by
  have heff : (s.engineEff r).bead.found = s.bead.found :=
    setEffs_found s (allBeads.filter engineBead) fun b => valueUsed b r[b]
  exact (State.withInForce_found _ _).trans heff

/-- Supervision and sounding begun (R584). -/
def State.soundingSet (s : State) : State :=
  { s with
    loc := { s.loc with supOn := true, supNext := s.now + 1 }
    tr := { s.tr with
      sounding := true
      path := Vector.ofFn fun p => (s.tr.path[p]).search (s.eff 33 ⟨p.val, p.isLt⟩) } }

/-- Sounding and supervision begun, with the working areas of a scanned store (R238, R584). -/
def State.soundingBegun (s : State) : State :=
  if s.soundingSet.tal.scanned then allPaths.foldl State.loadWork s.soundingSet else s.soundingSet

theorem State.soundingBegun_changes : ChangesOnly fieldParts s s.soundingBegun := by
  have hloc : ChangesOnly [.wiring] s { s with loc := s.soundingSet.loc } := changes_loc s _
  have htr : ChangesOnly [.sounding] { s with loc := s.soundingSet.loc } s.soundingSet := changes_tr _ _
  have hset : ChangesOnly fieldParts s s.soundingSet := (hloc.mono (by decide)).trans (htr.mono (by decide))
  have hwork := ChangesOnly.foldl (fun t p => t.loadWork_changes p) allPaths s.soundingSet
  exact ChangesOnly.ite (hset.trans (hwork.mono (by decide))) hset

theorem State.powerUpRead_eq (r : Vector Reading 40) : s.powerUpRead r =
    if s.tr.sounding then ((s.engineForced r).engineTakes s r).applyRates
    else ((s.engineForced r).soundingBegun).applyRates := rfl

theorem State.powerUpRead_spec (r : Vector Reading 40) :
    (s.powerUpRead r).bead.found = s.bead.found ∧ ChangesOnly readParts s (s.powerUpRead r) := by
  have hfound := s.engineForced_found r
  have hforced := s.engineForced_changes r
  have rated (t : State) (h : ChangesOnly fieldParts (s.engineForced r) t) :
      t.applyRates.bead.found = s.bead.found ∧ ChangesOnly readParts s t.applyRates := by
    have hbead : t.bead = (s.engineForced r).bead := h .beads (by decide)
    refine ⟨t.applyRates_book.found.trans ((congrArg Bead.found hbead).trans hfound), ?_⟩
    exact ((hforced.mono (by decide)).trans (h.mono (by decide))).trans (t.applyRates_changes.mono (by decide))
  rw [State.powerUpRead_eq]
  split
  · exact rated _ (State.engineTakes_changes _ s r)
  · exact rated _ (State.soundingBegun_changes _)

/-- The read itself ended: its resistances, and what it does to READ (R49, R653). -/
def State.readShown (s : State) (bref : PinMeasure) (beads : Vector PinMeasure 40) : State :=
  ({ s with bead := { s.bead with phase := .idle, ohms := readOhms (s.pin bref) (beads.map s.pin) } } : State).brefRead
    (s.pin bref)

/-- The read marked as done for a start-up, which a re-strap does not do (R581). -/
def State.readMarked (s : State) (kind : ReadKind) : State :=
  if kind = .restrap then s else { s with dev := { s.dev with readDone := true } }

/-- The bead-read step of a start-up ended, where the read began in it (R581). -/
def State.readStep (s : State) (kind : ReadKind) (t : State) : State :=
  if (s.dev.start.isSome && kind != .restrap) && !s.dev.readDone then (t.readMarked kind).startStep 2 else t.readMarked kind

/-- A read that leaves nothing to compile is over, and a held re-strap begins (R69). -/
def State.readStopped (s : State) : State := (s.undemand .beadRead).startHeld

theorem State.readMarked_changes (kind : ReadKind) : ChangesOnly [.device] s (s.readMarked kind) :=
  ChangesOnly.ite (.refl _ s) (changes_dev s _)

theorem State.readStep_entered (kind : ReadKind) (t : State) :
    ChangesOnly [.journal, .deviceTallies, .fabric, .twin] (t.readMarked kind) (s.readStep kind t) :=
  ChangesOnly.ite (State.journal_le _ _ _) (.refl _ _)

theorem State.readStep_changes (kind : ReadKind) (t : State) :
    ChangesOnly [.device, .journal, .deviceTallies, .fabric, .twin] t (s.readStep kind t) :=
  ((t.readMarked_changes kind).mono (by decide)).trans ((s.readStep_entered kind t).mono (by decide))

theorem State.readStep_done {kind : ReadKind} (h : kind ≠ .restrap) (t : State) :
    (s.readStep kind t).dev.readDone = true := by
  have hdev : (s.readStep kind t).dev = (t.readMarked kind).dev := s.readStep_entered kind t .device (by decide)
  rw [hdev, State.readMarked, if_neg h]

/-- Between two states a read or compile was only begun or ended. -/
structure ReadEnded (s t : State) : Prop where
  bead : ∃ p h q, t.bead = { s.bead with phase := p, heldRestrap := h, req := q }
  rest : ChangesOnly [.beads, .clocks, .wiring, .twin] s t

theorem ReadEnded.found {s t : State} (h : ReadEnded s t) : t.bead.found = s.bead.found := by
  obtain ⟨_, _, _, hb⟩ := h.bead
  rw [hb]
  rfl

theorem ReadEnded.settle {s t : State} (h : ReadEnded s t) : ReadEnded s t.settle := by
  obtain ⟨p, a, q, hb⟩ := h.bead
  exact ⟨⟨p, a, q, (t.settle_changes .beads (by decide)).trans hb⟩, h.rest.trans (t.settle_changes.mono (by decide))⟩

theorem State.beginCompile_ended (k : Option ReadKind) : ReadEnded s (s.beginCompile k) :=
  ⟨⟨_, _, _, rfl⟩, (changes_bead s _).mono (by decide)⟩

theorem State.startHeld_spec : (∃ q, s.startHeld.bead = { s.bead with heldRestrap := false, req := q }) ∧
    ChangesOnly [.beads, .clocks] s s.startHeld := by
  unfold State.startHeld
  split
  · have hdemand := State.demand_changes { s with bead := { s.bead with heldRestrap := false, req := some .restrap } }
      .beadRead
    exact ⟨⟨some .restrap, hdemand .beads (by decide)⟩,
      ((changes_bead s _).mono (by decide)).trans (hdemand.mono (by decide))⟩
  · have hheld : s.bead.heldRestrap = false := Bool.eq_false_iff.mpr ‹_›
    exact ⟨⟨s.bead.req, by rw [← hheld]⟩, .refl _ s⟩

theorem State.readStopped_ended : ReadEnded s s.readStopped := by
  obtain ⟨⟨q, hb⟩, hc⟩ := (s.undemand .beadRead).startHeld_spec
  exact ⟨⟨_, _, q, hb⟩, ((s.undemand_changes _).mono (by decide)).trans (hc.mono (by decide))⟩

theorem State.brefRead_ok {b : PinMeasure} {r : Nat} (h : brefDelta b = .ok r) :
    s.brefRead b = { s with bead := { s.bead with brefRead := false } } := by
  simp only [State.brefRead, h]

/-- A failed BREF sets READ, with an entry where the cause is new. -/
theorem State.brefRead_error {b : PinMeasure} {c : BitVec 2} (h : brefDelta b = .error c) :
    (s.brefRead b).bead = { s.bead with brefRead := true, brefReadCause := c } ∧
      ChangesOnly [.beads, .journal, .deviceTallies, .fabric, .twin] s (s.brefRead b) := by
  have hset := changes_bead s { s.bead with brefRead := true, brefReadCause := c }
  have hentry := State.journal_le { s with bead := { s.bead with brefRead := true, brefReadCause := c } } 0x09 c.toNat
  simp only [State.brefRead, h]
  split
  · exact ⟨rfl, hset.mono (by decide)⟩
  · exact ⟨hentry .beads (by decide), (hset.mono (by decide)).trans (hentry.mono (by decide))⟩

end reads
end Sys2Proof.Machine

namespace Sys2Proof.Machine

/-! The start of a bead read, and a read that is held (§2.2; R58, R137, R654). -/

section held
variable (s : State)

/-- What is asked of the reader: the read requested, the one that is held with its next retry, and the phase. -/
def Bead.asked (b : Bead) : Option ReadKind × Option ReadKind × Nat × ReadPhase := (b.req, b.deferred, b.nextRetry, b.phase)

theorem Bookkeeping.asked {s t : State} (h : Bookkeeping s t) : t.bead.asked = s.bead.asked := by
  obtain ⟨_, hb⟩ := h.bead
  rw [hb]
  rfl

/-- A read held, with its entry (R654). -/
def State.readHeld (s : State) (k : ReadKind) : State :=
  ({ s with bead := { s.bead with req := none, deferred := some k, nextRetry := s.now + 10 * tps } } : State).journal 0xA1
    (bit s.clk.xoFail)

theorem State.readHeld_spec (k : ReadKind) :
    (s.readHeld k).bead.asked = (none, some k, s.now + 10 * 32768, s.bead.phase) ∧
      (s.readHeld k).dev.core = s.dev.core ∧
      ChangesOnly [.beads, .journal, .deviceTallies, .fabric, .twin] s (s.readHeld k) := by
  have hset := changes_bead s { s.bead with req := none, deferred := some k, nextRetry := s.now + 10 * tps }
  have hentry := State.journal_le { s with bead := { s.bead with
    req := none, deferred := some k, nextRetry := s.now + 10 * tps } } 0xA1 (bit s.clk.xoFail)
  exact ⟨congrArg Bead.asked (hentry .beads (by decide)), congrArg Dev.core (hentry .device (by decide)),
    (hset.mono (by decide)).trans (hentry.mono (by decide))⟩

/-- The bead-read step of a start-up ended by a held read (R583). -/
def State.stepHeld (s : State) (starts : Bool) : State :=
  let t : State := { s with dev := { s.dev with readDone := true } }
  if starts then t.startStep 2 else t

theorem State.stepHeld_spec (starts : Bool) : (s.stepHeld starts).dev.core = s.dev.core ∧
    ChangesOnly [.device, .journal, .deviceTallies, .fabric, .twin] s (s.stepHeld starts) := by
  have hdev := changes_dev s { s.dev with readDone := true }
  unfold State.stepHeld
  extract_lets d t
  have hcore : t.dev.core = s.dev.core := rfl
  have hentry : ChangesOnly _ t (t.startStep 2) := t.journal_le _ _
  split
  · exact ⟨(congrArg Dev.core (hentry .device (by decide))).trans hcore,
      (hdev.mono (by decide)).trans (hentry.mono (by decide))⟩
  · exact ⟨hcore, hdev.mono (by decide)⟩

/-- Supervision and sounding begun without a power-up read (R583). -/
def State.soundingHeld (s : State) : State :=
  { s with loc := { s.loc with supOn := true, supNext := s.now + 1 }, tr := { s.tr with sounding := true } }

theorem State.soundingHeld_changes : ChangesOnly [.wiring, .sounding] s s.soundingHeld := by
  have hloc : ChangesOnly [.wiring] s { s with loc := s.soundingHeld.loc } := changes_loc s _
  have htr : ChangesOnly [.sounding] { s with loc := s.soundingHeld.loc } s.soundingHeld := changes_tr _ _
  exact (hloc.mono (by decide)).trans (htr.mono (by decide))

/-- What a held read that is no re-strap lets go on (R583, R654). -/
def State.goneOn (s : State) (k : ReadKind) (starts : Bool) : State :=
  if k = .powerUp then (s.stepHeld starts).soundingHeld.applyRates else s.stepHeld starts

theorem State.goneOn_spec (k : ReadKind) (starts : Bool) : (s.goneOn k starts).bead.asked = s.bead.asked ∧
    (s.goneOn k starts).dev.core = s.dev.core ∧ ChangesOnly (.device :: readParts) s (s.goneOn k starts) := by
  obtain ⟨hcore, hstep⟩ := s.stepHeld_spec starts
  have hbead : (s.stepHeld starts).bead = s.bead := hstep .beads (by decide)
  unfold State.goneOn
  split
  · have hsounding := (s.stepHeld starts).soundingHeld_changes
    have hrates := (s.stepHeld starts).soundingHeld.applyRates_changes
    exact ⟨(State.applyRates_book _).asked.trans (congrArg Bead.asked hbead),
      (congrArg Dev.core (hrates .device (by decide))).trans hcore,
      ((hstep.mono (by decide)).trans (hsounding.mono (by decide))).trans (hrates.mono (by decide))⟩
  · exact ⟨congrArg Bead.asked hbead, hcore, hstep.mono (by decide)⟩

/-- What a held read leaves before a compile of the readings in force (R654). -/
def State.readWaiting (s : State) (k : ReadKind) : State :=
  if k = .restrap then s.readHeld k else (s.readHeld k).goneOn k s.dev.start.isSome

theorem State.readWaiting_spec (k : ReadKind) :
    (s.readWaiting k).bead.asked = (none, some k, s.now + 10 * 32768, s.bead.phase) ∧
      (s.readWaiting k).dev.core = s.dev.core ∧ ChangesOnly (.device :: readParts) s (s.readWaiting k) := by
  obtain ⟨hasked, hcore, hheld⟩ := s.readHeld_spec k
  obtain ⟨hasked', hcore', hgone⟩ := (s.readHeld k).goneOn_spec k s.dev.start.isSome
  unfold State.readWaiting
  split
  · exact ⟨hasked, hcore, hheld.mono (by decide)⟩
  · exact ⟨hasked'.trans hasked, hcore'.trans hcore, (hheld.mono (by decide)).trans hgone⟩

theorem State.deferRead_eq (k : ReadKind) : s.deferRead k =
    if k ≠ .restrap ∧ (s.readWaiting k).dev.core = .running then (s.readWaiting k).beginCompile none
    else s.readWaiting k := by
  cases k <;> simp [State.deferRead, State.readWaiting, State.goneOn, State.stepHeld] <;> rfl

/-- A held read waits for its retry; where the house core runs, the readings in force may be compiled meanwhile. -/
theorem State.deferRead_spec (k : ReadKind) : (∃ p, (s.deferRead k).bead.asked = (none, some k, s.now + 10 * 32768, p) ∧
      (s.dev.core ≠ .running → p = s.bead.phase)) ∧ ChangesOnly (.device :: readParts) s (s.deferRead k) := by
  obtain ⟨hasked, hcore, hc⟩ := s.readWaiting_spec k
  rw [s.deferRead_eq k]
  split
  · have hrun : s.dev.core = .running := by rw [← hcore]; exact And.right ‹_›
    refine ⟨⟨.compiling none (s.readWaiting k).now, ?_, fun h => absurd hrun h⟩,
      hc.trans ((changes_bead _ _).mono (by decide))⟩
    simp only [Bead.asked, Prod.mk.injEq] at hasked
    obtain ⟨hreq, hdef, hnext, -⟩ := hasked
    simp only [Bead.asked, State.beginCompile, hreq, hdef, hnext]
  · exact ⟨⟨_, hasked, fun _ => rfl⟩, hc⟩

theorem exec_beadRead {k : ReadKind} (hreq : s.bead.req = some k) (hphase : s.bead.phase = .idle)
    (hready : s.tdcDown = true ∨ s.readMayRun = true) : exec .beadRead s = .next (if s.tdcDown then s.deferRead k
      else { s with bead := { s.bead with req := none, phase := .reading k } }) := by
  show execBeadRead s = _
  simp only [execBeadRead, hreq]
  exact occurs_of (by simpa [hphase] using hready)

theorem exec_beadReadDeferredRetry {k : ReadKind} (hdef : s.bead.deferred = some k) (hdue : s.bead.nextRetry ≤ s.now)
    (hphase : s.bead.phase = .idle) (hreq : s.bead.req = none) : exec .beadReadDeferredRetry s =
      .next (if s.clk.xoReady && s.clk.tdcCalibrated && !s.tdcDown then
        { s with bead := { s.bead with
          deferred := none, req := if s.readMayRun then none else some k
          phase := if s.readMayRun then .reading k else .idle } }
      else { s with bead := { s.bead with nextRetry := s.bead.nextRetry + 10 * tps } }) := by
  show execBeadReadDeferredRetry s = _
  simp only [execBeadReadDeferredRetry, hdef]
  exact occurs_of (by simp [hdue, hphase, hreq])

end held

/-! The end of a bead read in its three forms: the first, one with a failed BREF, any other. -/

section ends
variable {s : State} {kind : ReadKind} {bref : PinMeasure} {beads : Vector PinMeasure 40}

/-- The readings that a read gives, from the corrected measurements (R138). -/
def State.readingsOf (s : State) (bref : PinMeasure) (beads : Vector PinMeasure 40) : Vector Reading 40 :=
  readReadings (s.pin bref) (beads.map s.pin)

/-- The findings of a read that is not the first, with RE-STRAP (R67). -/
def State.readLogged (s : State) (bref : PinMeasure) (beads : Vector PinMeasure 40) : State :=
  ((s.readShown bref beads).findings (s.readingsOf bref beads)).journal 0x0A
    (changedRods s.bead.inForce (s.readingsOf bref beads))

/-- The first read since reset (R582). -/
def State.readFirst (s : State) (kind : ReadKind) (bref : PinMeasure) (beads : Vector PinMeasure 40) : State :=
  let s2 := s.readStep kind
    (((s.readShown bref beads).findings (s.readingsOf bref beads)).powerUpRead (s.readingsOf bref beads))
  (if decide (s.dev.core = .running) then s2.beginCompile (some kind) else s2.readStopped).settle

/-- A later read with a failed BREF (R653). -/
def State.readFailed (s : State) (kind : ReadKind) (bref : PinMeasure) (beads : Vector PinMeasure 40) : State :=
  let s2 := s.readStep kind { s.readShown bref beads with
    bead := { (s.readShown bref beads).bead with result := .refused } }
  (if decide (s.dev.core = .running) && kind != .restrap then s2.beginCompile none else s2.readStopped).settle

/-- There is something to compile after a read (R67). -/
def State.compiles (s : State) (kind : ReadKind) (r : Vector Reading 40) : Bool :=
  decide (s.dev.core = .running) && (kind != .restrap ||
    (allBeads.any fun b => !powerUpOnly b && decide (r[b] ≠ s.bead.inForce[b])) ||
    (s.bead.fallback || allCams.any fun k => s.bead.dropped[k]) || !s.bead.compiled)

/-- A later read with an accepted BREF (R67). -/
def State.readTaken (s : State) (kind : ReadKind) (bref : PinMeasure) (beads : Vector PinMeasure 40) : State :=
  let s2 := s.readStep kind (s.readLogged bref beads)
  (if s.compiles kind (s.readingsOf bref beads) then s2.beginCompile (some kind)
    else ({ s2 with bead := { s2.bead with result := .applied } } : State).readStopped).settle

theorem exec_beadReadEnd (h : s.bead.phase = .reading kind) : exec (.beadReadEnd bref beads) s =
    .next (if !s.bead.everRead then s.readFirst kind bref beads
      else if (s.readShown bref beads).bead.brefRead then s.readFailed kind bref beads
      else s.readTaken kind bref beads) := by
  show execBeadReadEnd bref beads s = _
  unfold execBeadReadEnd
  rw [h]
  rfl

theorem ReadEnded.ite {c : Prop} [Decidable c] {s t u : State} (h : ReadEnded s t) (k : ReadEnded s u) :
    ReadEnded s (if c then t else u) := by split <;> assumption

/-- A read's result is no part of its findings. -/
theorem ReadEnded.of_result {s t : State} {x : StrapResult}
    (h : ReadEnded { s with bead := { s.bead with result := x } } t) :
    t.bead.found = s.bead.found ∧ ChangesOnly [.beads, .clocks, .wiring, .twin] s t :=
  ⟨h.found, ((changes_bead s _).mono (by decide)).trans h.rest⟩

theorem State.readStep_found (t : State) : (s.readStep kind t).bead.found = t.bead.found :=
  congrArg Bead.found (s.readStep_changes kind t .beads (by decide))

/-- What every completed read with an accepted BREF leaves: its findings, the step of a start-up, and what it cannot touch. -/
structure ReadSpec (s : State) (kind : ReadKind) (r : Vector Reading 40) (t : State) : Prop where
  found : t.bead.found = foundBy false r
  readDone : kind ≠ .restrap → t.dev.readDone = true
  rest : ChangesOnly (.device :: .clocks :: readParts) s t

/-- From the findings on, the step of a start-up and the end of a read add nothing to them. -/
theorem ReadSpec.of_ended {r : Vector Reading 40} {t u : State} (hfound : t.bead.found = foundBy false r)
    (hrest : ChangesOnly readParts s t) (hend : u.bead.found = (s.readStep kind t).bead.found)
    (hc : ChangesOnly [.beads, .clocks, .wiring, .twin] (s.readStep kind t) u) : ReadSpec s kind r u where
  found := hend.trans ((s.readStep_found t).trans hfound)
  readDone h := (congrArg Dev.readDone (hc .device (by decide))).trans (s.readStep_done h t)
  rest := ((hrest.mono (by decide)).trans ((s.readStep_changes kind t).mono (by decide))).trans (hc.mono (by decide))

theorem State.readShown_ok {r : Nat} (h : brefDelta (s.pin bref) = .ok r) :
    (s.readShown bref beads).bead.brefRead = false ∧ ChangesOnly [.beads] s (s.readShown bref beads) := by
  rw [State.readShown, State.brefRead_ok _ h]
  exact ⟨rfl, (changes_bead s _).trans (changes_bead _ _)⟩

theorem State.findings_ok {r : Nat} (h : brefDelta (s.pin bref) = .ok r) (v : Vector Reading 40) :
    ((s.readShown bref beads).findings v).bead.found = foundBy false v ∧
      ChangesOnly readParts s ((s.readShown bref beads).findings v) := by
  obtain ⟨hbref, hshown⟩ := State.readShown_ok (beads := beads) h
  obtain ⟨hfound, hfindings⟩ := (s.readShown bref beads).findings_spec v
  rw [hbref] at hfound
  exact ⟨hfound, (hshown.mono (by decide)).trans (hfindings.mono (by decide))⟩

theorem State.readFirst_spec {r : Nat} (h : brefDelta (s.pin bref) = .ok r) :
    ReadSpec s kind (s.readingsOf bref beads) (s.readFirst kind bref beads) := by
  obtain ⟨hfound, hfindings⟩ := State.findings_ok (beads := beads) h (s.readingsOf bref beads)
  obtain ⟨hpower, hpowerUp⟩ :=
    ((s.readShown bref beads).findings (s.readingsOf bref beads)).powerUpRead_spec (s.readingsOf bref beads)
  unfold State.readFirst
  extract_lets s2
  have hended := ((s2.beginCompile_ended (some kind)).ite (c := decide (s.dev.core = .running) = true)
    s2.readStopped_ended).settle
  exact .of_ended (hpower.trans hfound) (hfindings.trans hpowerUp) hended.found hended.rest

theorem State.readTaken_spec {r : Nat} (h : brefDelta (s.pin bref) = .ok r) :
    ReadSpec s kind (s.readingsOf bref beads) (s.readTaken kind bref beads) := by
  obtain ⟨hfound, hfindings⟩ := State.findings_ok (beads := beads) h (s.readingsOf bref beads)
  have hentry := State.journal_le ((s.readShown bref beads).findings (s.readingsOf bref beads)) 0x0A
    (changedRods s.bead.inForce (s.readingsOf bref beads))
  have hlogged : (s.readLogged bref beads).bead.found = foundBy false (s.readingsOf bref beads) :=
    (congrArg Bead.found (hentry .beads (by decide))).trans hfound
  have hrest : ChangesOnly readParts s (s.readLogged bref beads) := hfindings.trans (hentry.mono (by decide))
  unfold State.readTaken
  extract_lets s2
  split
  · have hended := (s2.beginCompile_ended (some kind)).settle
    exact .of_ended hlogged hrest hended.found hended.rest
  · obtain ⟨hend, hc⟩ := (State.readStopped_ended { s2 with bead := { s2.bead with result := .applied } }).settle.of_result
    exact .of_ended hlogged hrest hend hc

/-- What a failed BREF keeps, with the result of the read. -/
def Bead.keptByFailure (b : Bead) :
    Bool × Vector Reading 40 × Vector Reading 40 × Vector (Vector (Fin 16) 8) 40 × StrapResult :=
  (b.brefRead, b.latest, b.inForce, b.eff, b.result)

theorem ReadEnded.keptByFailure {s t : State} (h : ReadEnded s t) : t.bead.keptByFailure = s.bead.keptByFailure := by
  obtain ⟨_, _, _, hb⟩ := h.bead
  rw [hb]
  rfl

theorem State.readShown_error {c : BitVec 2} (h : brefDelta (s.pin bref) = .error c) :
    (s.readShown bref beads).bead = { s.bead with
      phase := .idle, ohms := readOhms (s.pin bref) (beads.map s.pin), brefRead := true, brefReadCause := c } ∧
    (s.readShown bref beads).pending = s.pending := by
  obtain ⟨hb, hc⟩ := State.brefRead_error
    { s with bead := { s.bead with phase := .idle, ohms := readOhms (s.pin bref) (beads.map s.pin) } } h
  exact ⟨hb, hc .pending (by decide)⟩

theorem State.readFailed_spec {c : BitVec 2} (h : brefDelta (s.pin bref) = .error c) :
    (s.readFailed kind bref beads).bead.keptByFailure = (true, s.bead.latest, s.bead.inForce, s.bead.eff, .refused) ∧
      (s.readFailed kind bref beads).pending = s.pending := by
  obtain ⟨hb, hp⟩ := State.readShown_error (beads := beads) h
  unfold State.readFailed
  extract_lets x d s2
  have hstep : s2.bead = { d with result := .refused } := s.readStep_changes kind _ .beads (by decide)
  have hpending : s2.pending = (s.readShown bref beads).pending := s.readStep_changes kind _ .pending (by decide)
  have hended := ((s2.beginCompile_ended none).ite (c := (decide (s.dev.core = .running) && kind != .restrap) = true)
    s2.readStopped_ended).settle
  refine ⟨hended.keptByFailure.trans ?_, (hended.rest .pending (by decide)).trans (hpending.trans hp)⟩
  rw [hstep]
  simp only [d, hb, Bead.keptByFailure]

end ends

/-- Settles O12: the start of a read, its end by the findings that it keeps, and a held read. -/
theorem beadReads : Obligations.BeadReads := by
  refine ⟨?_, ?_, ?_, ?_, ?_, ?_, ?_⟩
  · intro s k hreq hphase hxo hcal hfail hfault hfree
    have hdown : s.tdcDown = false := by simp [State.tdcDown, hfail, hfault]
    have hrun : s.readMayRun = true := by simp [State.readMayRun, hxo, hcal, hdown, hfree]
    have hexec := exec_beadRead s hreq hphase (.inr hrun)
    rwa [hdown] at hexec
  · intro s k hreq hphase hbad
    have hdown : s.tdcDown = true := by simpa [State.tdcDown] using hbad
    have hexec := exec_beadRead s hreq hphase (.inl hdown)
    rw [hdown] at hexec
    obtain ⟨⟨p, hasked, hp⟩, hc⟩ := s.deferRead_spec k
    simp only [Bead.asked, Prod.mk.injEq] at hasked
    obtain ⟨hreq', hdef, hnext, hphase'⟩ := hasked
    exact ⟨_, hexec, hreq', hdef, hnext, fun h => hphase'.trans ((hp h).trans hphase), hc .pending (by decide),
      hc .kiln (by decide), hc .cameras (by decide)⟩
  · intro s k bref beads r hphase hbref
    have hexec := exec_beadReadEnd (bref := bref) (beads := beads) hphase
    have hshown : (s.readShown bref beads).bead.brefRead = false := (State.readShown_ok hbref).1
    rw [hshown] at hexec
    have hspec : ∃ t, exec (.beadReadEnd bref beads) s = .next t ∧ ReadSpec s k (s.readingsOf bref beads) t := by
      refine ⟨_, hexec, ?_⟩
      split
      · exact State.readFirst_spec hbref
      · exact State.readTaken_spec hbref
    obtain ⟨t, ht, hfound, hdone, hc⟩ := hspec
    simp only [Bead.found, foundBy, Prod.mk.injEq] at hfound
    obtain ⟨hever, hread, hlatest, hfault⟩ := hfound
    have hreadings : s.readingsOf bref beads = Vector.ofFn fun b : BeadNo => beadReading (s.pin beads[b]) r := by
      simp only [State.readingsOf, readReadings, hbref, Fin.getElem_fin, Vector.getElem_map]
    rw [hreadings] at hlatest hfault
    refine ⟨t, ht, hever, hread, hlatest, fun b => ?_, hdone, hc .kiln (by decide), hc .cameras (by decide),
      hc .pending (by decide)⟩
    rw [hfault]
    simp only [Fin.getElem_fin, Vector.getElem_ofFn]
  · intro s k bref beads c hphase hever hbref
    have hexec := exec_beadReadEnd (bref := bref) (beads := beads) hphase
    have hshown : (s.readShown bref beads).bead.brefRead = true := by rw [(State.readShown_error hbref).1]
    rw [hever, hshown] at hexec
    obtain ⟨hkept, hp⟩ := State.readFailed_spec (kind := k) (beads := beads) hbref
    simp only [Bead.keptByFailure, Prod.mk.injEq] at hkept
    obtain ⟨hread, hlatest, hforce, heff, hresult⟩ := hkept
    exact ⟨_, hexec, hread, hlatest, hforce, heff, hresult, hp⟩
  · intro s k hdef hdue hphase hreq hrun
    have hexec := exec_beadReadDeferredRetry s hdef hdue hphase hreq
    have hgood : (s.clk.xoReady && s.clk.tdcCalibrated && !s.tdcDown) = true := by
      simp only [State.readMayRun, Bool.and_eq_true] at hrun
      simp [hrun]
    simpa [hgood, hrun, hreq] using hexec
  · intro s k hdef hdue hphase hreq hxo hcal hdown hfree
    have hexec := exec_beadReadDeferredRetry s hdef hdue hphase hreq
    have hrun : s.readMayRun = false := by simp [State.readMayRun, hfree]
    rw [hxo, hcal, hdown, hrun] at hexec
    simpa [hphase] using hexec
  · intro s k hdef hdue hphase hreq hbad
    have hexec := exec_beadReadDeferredRetry s hdef hdue hphase hreq
    have hgood : ¬ (s.clk.xoReady && s.clk.tdcCalibrated && !s.tdcDown) = true := by
      rcases hbad with h | h | h <;> simp [h]
    rwa [if_neg hgood] at hexec

end Sys2Proof.Machine

namespace Sys2Proof.Machine

/-! What the strap compiler leaves through its outcome (§2.4; R76 to R81). -/

/-- The progress of a compile: its phase and duration, and a re-strap that it holds. -/
def Bead.progress (b : Bead) : ReadPhase × Nat × Bool := (b.phase, b.compileMs, b.heldRestrap)

/-- Between two states a compile puts what it wants into effect, and leaves its own progress, the mode, the time and the
queue. -/
structure CompileStep (s t : State) : Prop where
  progress : t.bead.progress = s.bead.progress
  mode : t.dev.mode = s.dev.mode
  tick : t.clk.tick = s.clk.tick
  pending : t.pending = s.pending

namespace CompileStep
variable {s t u : State}

theorem refl (s : State) : CompileStep s s := ⟨rfl, rfl, rfl, rfl⟩

theorem trans (h : CompileStep s t) (k : CompileStep t u) : CompileStep s u :=
  ⟨k.progress.trans h.progress, k.mode.trans h.mode, k.tick.trans h.tick, k.pending.trans h.pending⟩

theorem ite {c : Prop} [Decidable c] (h : CompileStep s t) (k : CompileStep s u) : CompileStep s (if c then t else u) := by
  split <;> assumption

theorem foldl {α : Type} {f : State → α → State} (h : ∀ s a, CompileStep s (f s a)) (l : List α) (s : State) :
    CompileStep s (l.foldl f s) := by
  induction l generalizing s with
  | nil => exact .refl s
  | cons a l ih => exact (h s a).trans (ih (f s a))

theorem of_book (h : Bookkeeping s t) : CompileStep s t := by
  obtain ⟨_, hb⟩ := h.bead
  exact ⟨by rw [hb]; rfl, h.mode, h.now, h.pending⟩

theorem of_changes {ps : List Part} (h : ChangesOnly ps s t)
    (hps : Part.beads ∉ ps ∧ Part.device ∉ ps ∧ Part.pending ∉ ps) (ht : t.now = s.now) : CompileStep s t := by
  obtain ⟨hb, hd, hp⟩ := hps
  exact ⟨congrArg Bead.progress (h .beads hb), congrArg Dev.mode (h .device hd), ht, h .pending hp⟩

/-- An operation on the fabric, the twin and the journal. -/
theorem of_net (h : ChangesOnly [.journal, .deviceTallies, .fabric, .twin] s t) : CompileStep s t :=
  of_changes h (by decide) (h.now (by decide))

end CompileStep

section compile
variable (s : State)

theorem State.camStart_step (k : CamPort) : CompileStep s (s.camStart k) := by
  refine .of_changes (s.camStart_changes k) (by decide) ?_
  unfold State.camStart
  extract_lets down
  split
  · exact ((State.setCam_changes _ k _).now (by decide)).trans (s.mclkOff_now k)
  · rfl

theorem State.linkEntries_changes (t : State) :
    ChangesOnly [.journal, .deviceTallies, .fabric, .twin] s (s.linkEntries t) :=
  ChangesOnly.foldl (fun u z => by
    split
    · exact ChangesOnly.ite (.refl _ u) (u.journal_le _ _)
    · exact .refl _ u) _ s

theorem State.compileEntries_changes (t : State) :
    ChangesOnly [.journal, .deviceTallies, .fabric, .twin] s (s.compileEntries t) := by
  unfold State.compileEntries
  extract_lets s1 s2
  have h1 : ChangesOnly [.journal, .deviceTallies, .fabric, .twin] s s1 := s.linkEntries_changes t
  have h2 : ChangesOnly [.journal, .deviceTallies, .fabric, .twin] s s2 := ChangesOnly.ite (h1.trans (s1.journal_le _ _)) h1
  exact ChangesOnly.ite h2 (h2.trans (s2.journal_le _ _))

theorem State.rerole_changes (old : State) :
    ChangesOnly [.journal, .deviceTallies, .fabric, .twin] s (s.rerole old) :=
  ChangesOnly.foldl (fun t p => ChangesOnly.ite (.refl _ t) (t.portDown_changes p _)) _ s

theorem State.setEffPart_step (b : BeadNo) (i : Fin 8) (v : Fin 16) : CompileStep s (s.setEffPart b i v) :=
  ⟨rfl, rfl, rfl, rfl⟩

theorem State.placeChanges_step (r : Vector Reading 40) : CompileStep s (s.placeChanges r) := by
  unfold State.placeChanges
  extract_lets s1 waits
  have h1 : CompileStep s s1 :=
    CompileStep.foldl (fun t b => CompileStep.foldl (fun u i =>
      CompileStep.ite (u.setEffPart_step b i _) (.refl u)) _ t) _ s
  exact h1.trans ⟨rfl, rfl, rfl, rfl⟩

theorem State.applyCompile_step (r : Vector Reading 40) (rate : Nat) (keep : Bool) :
    CompileStep s (s.applyCompile r rate keep) := by
  unfold State.applyCompile
  extract_lets rt t cams ls now s1 d e s2 back s3
  have h1 : CompileStep s s1 := s.placeChanges_step r
  have h2 : CompileStep s1 s2 := ⟨rfl, rfl, rfl, rfl⟩
  have hback : CompileStep s2 back := CompileStep.foldl (fun u k => CompileStep.ite (u.camStart_step k) (.refl u)) _ s2
  have h3 : CompileStep back s3 := CompileStep.ite (.of_net (back.lsChange_changes.mono (by decide))) (.refl back)
  have h4 : CompileStep s3 (s3.rerole s) := .of_net (s3.rerole_changes s)
  have h5 := CompileStep.of_net ((s3.rerole s).compileEntries_changes t)
  exact (((((h1.trans h2).trans hback).trans h3).trans h4).trans h5).trans
    (.of_net ((State.stateChanged_changes _).mono (by decide)))

/-- A compile that keeps the drops and the rate in force (R82). -/
def State.keepsDrops (s : State) (kind : Option ReadKind) : Bool := kind.isNone && s.bead.compiled

/-- The configuration of a read that is to be checked: its readings, with every port taken up again (R76, R82). -/
def State.wanted (s : State) (kind : Option ReadKind) : State :=
  { s.withReadings (s.candidate kind) with
    bead := { (s.withReadings (s.candidate kind)).bead with dropped := Vector.replicate 12 false } }

/-- The configuration that a compile checks. -/
def State.checked (s : State) (kind : Option ReadKind) : State :=
  if s.keepsDrops kind then s.withReadings (s.candidate kind) else s.wanted kind

/-- The rate that a compile begins with (R78). -/
def State.rateWanted (s : State) (kind : Option ReadKind) : Nat :=
  if s.keepsDrops kind then s.rateIdx else (s.checked kind).eff 15

/-- A compile whose configuration fits at a rate (R77, R78). -/
def State.compileFits (s : State) (kind : Option ReadKind) (i : Nat) : State :=
  let s1 := s.applyCompile (s.candidate kind) i (s.keepsDrops kind)
  let s2 := if i = s.rateWanted kind then s1 else s1.journalFallback (s.rateWanted kind) i
  { s2 with bead := { s2.bead with result := if i = s.rateWanted kind then .applied else .fallback, failedBudget := 0 } }

/-- The state after the first compile of a start that fits at no rate (R80), or after any other. -/
def State.compileUnfit (s : State) (kind : Option ReadKind) : State :=
  let s1 := s.journal 0x0D (s.checked kind).failedAtLowest
  if !s.bead.compiled && decide (kind ≠ some .mainsReturn) && decide (s.dev.start ≠ some .mainsReturn) then
    s1.applyCompile (Vector.ofFn fun b => if defaultedBead b then .o else (s.candidate kind)[b]) 6 false
  else
    let u := s1.linkEntries s
    if kind = some .restrap then u.ackAmber .refuse else u

/-- A compile whose configuration fits at no rate (R79). -/
def State.compileRefused (s : State) (kind : Option ReadKind) : State :=
  { s.compileUnfit kind with bead := { (s.compileUnfit kind).bead with
    result := .refused, failedBudget := (s.checked kind).failedAtLowest } }

theorem State.compileResult_fits {kind : Option ReadKind} {i : Nat}
    (h : (s.checked kind).fitRate (s.rateWanted kind) = some i) : s.compileResult kind = s.compileFits kind i := by
  unfold State.compileResult
  extract_lets r t0 keep d t want
  have ht : t.fitRate want = some i := h
  rw [ht]
  rfl

theorem State.compileResult_unfit {kind : Option ReadKind} (h : (s.checked kind).fitRate (s.rateWanted kind) = none) :
    s.compileResult kind = s.compileRefused kind := by
  unfold State.compileResult
  extract_lets r t0 keep d t want
  have ht : t.fitRate want = none := h
  rw [ht]
  rfl

theorem State.compileFits_step (kind : Option ReadKind) (i : Nat) : CompileStep s (s.compileFits kind i) := by
  unfold State.compileFits
  extract_lets s1 s2
  have h1 : CompileStep s s1 := s.applyCompile_step _ _ _
  have h2 : CompileStep s s2 := CompileStep.ite h1 (h1.trans (.of_net (s1.journal_le _ _)))
  exact h2.trans ⟨rfl, rfl, rfl, rfl⟩

theorem State.compileUnfit_step (kind : Option ReadKind) : CompileStep s (s.compileUnfit kind) := by
  unfold State.compileUnfit
  extract_lets s1 u
  have h1 : CompileStep s s1 := .of_net (s.journal_le _ _)
  have hlink : CompileStep s u := h1.trans (.of_net (s1.linkEntries_changes s))
  exact CompileStep.ite (h1.trans (s1.applyCompile_step _ _ _)) (CompileStep.ite (hlink.trans ⟨rfl, rfl, rfl, rfl⟩) hlink)

/-- Every compile has an outcome. -/
theorem State.compileResult_spec (kind : Option ReadKind) :
    CompileStep s (s.compileResult kind) ∧ (s.compileResult kind).bead.result ≠ .none := by
  cases h : (s.checked kind).fitRate (s.rateWanted kind) with
  | none =>
    rw [s.compileResult_unfit h]
    exact ⟨(s.compileUnfit_step kind).trans ⟨rfl, rfl, rfl, rfl⟩, StrapResult.noConfusion⟩
  | some i =>
    rw [s.compileResult_fits h]
    refine ⟨s.compileFits_step kind i, ?_⟩
    dsimp only [State.compileFits]
    split <;> exact StrapResult.noConfusion

/-- A re-strap that fits at no rate is refused: an amber acknowledgement, the budget that failed, and nothing else at the
beads (R79). -/
theorem State.compileResult_refused (hc : s.bead.compiled = true)
    (hfit : (s.wanted (some .restrap)).fitRate ((s.wanted (some .restrap)).eff 15) = none) :
    (∃ n, (s.compileResult (some .restrap)).bead = { s.bead with result := .refused, failedBudget := n }) ∧
      (s.compileResult (some .restrap)).loc.ackA = some .refuse := by
  have hnone : (s.checked (some .restrap)).fitRate (s.rateWanted (some .restrap)) = none := hfit
  have hunfit : s.compileUnfit (some .restrap) =
      ((s.journal 0x0D (s.checked (some .restrap)).failedAtLowest).linkEntries s).ackAmber .refuse := by
    simp [State.compileUnfit, hc]
  have hbead : (s.compileUnfit (some .restrap)).bead = s.bead := by
    rw [hunfit]
    exact ((s.journal_le _ _).trans (State.linkEntries_changes _ s)) .beads (by decide)
  rw [s.compileResult_unfit hnone]
  refine ⟨⟨_, by rw [State.compileRefused, hbead]⟩, ?_⟩
  rw [State.compileRefused, hunfit]
  rfl

end compile

/-! From the outcome of a compile to its end (R68, R69, R402, R448, R473). -/

section compileEnd
variable (s : State)

theorem State.startPort_changes (p : FabPort) :
    ChangesOnly [.journal, .deviceTallies, .fabric, .twin] s (s.startPort p) := by
  unfold State.startPort
  extract_lets role
  refine ChangesOnly.ite (.refl _ s) ?_
  exact (s.setLink_changes p .down).trans ((State.updPort_changes _ p _).mono (by decide))

theorem State.claimBeads_changes : ChangesOnly [.fabric, .twin] s s.claimBeads := by
  unfold State.claimBeads
  extract_lets a0 a d s1
  have h1 : ChangesOnly [.fabric, .twin] s s1 := (changes_twin s _).mono (by decide)
  exact ChangesOnly.ite (h1.trans ((changes_fab s1 _).mono (by decide))) (h1.trans ((changes_fab s1 _).mono (by decide)))

theorem State.fabricStart_changes (first : Bool) :
    ChangesOnly [.journal, .deviceTallies, .fabric, .twin] s (s.fabricStart first) := by
  unfold State.fabricStart
  extract_lets s1 s2 s3 d t
  have h1 : ChangesOnly [.journal, .deviceTallies, .fabric, .twin] s s1 :=
    ChangesOnly.ite (ChangesOnly.foldl (fun t p => ChangesOnly.ite (t.journal_le _ _) (.refl _ t)) _ s) (.refl _ s)
  have h2 : ChangesOnly [.journal, .deviceTallies, .fabric, .twin] s s2 := ChangesOnly.ite (h1.trans (s1.journal_le _ _)) h1
  have h3 : ChangesOnly [.journal, .deviceTallies, .fabric, .twin] s s3 :=
    (h2.trans (s2.claimBeads_changes.mono (by decide))).trans
      (ChangesOnly.foldl (fun t p => t.startPort_changes p) _ _)
  have ht : ChangesOnly [.journal, .deviceTallies, .fabric, .twin] s t := h3.trans ((changes_fab s3 _).mono (by decide))
  exact ChangesOnly.ite (h3.trans (s3.lsChange_changes.mono (by decide))) (ChangesOnly.ite ht (ht.trans (t.journal_le _ _)))

theorem State.allocStart_changes : ChangesOnly kilnParts s s.allocStart := by
  unfold State.allocStart
  extract_lets m s1
  have h1 : ChangesOnly kilnParts s s1 := (changes_mov s _).mono (by decide)
  exact (h1.trans (s1.placeBufs_changes _ _)).trans ((changes_mov _ _).mono (by decide))

/-- What follows the outcome in the parts beside the beads: the step of a start-up, its buffers and ports, the changes
armed. -/
def State.compileFollowed (s : State) (starts : Prop) [Decidable starts] (first : Bool) : State :=
  let s4 := if starts then s.startStep 3 else s
  let s5 := if s4.mov.bufs.any fun b => b.kind = .core then s4 else (s4.allocStart).fabricStart first
  (s5.armKiln).syncBufs

theorem State.compileFollowed_changes (starts : Prop) [Decidable starts] (first : Bool) :
    ChangesOnly ([.journal, .deviceTallies, .fabric, .twin] ++ kilnParts) s (s.compileFollowed starts first) := by
  unfold State.compileFollowed
  extract_lets s4 s5
  have h4 : ChangesOnly ([.journal, .deviceTallies, .fabric, .twin] ++ kilnParts) s s4 :=
    ChangesOnly.ite ((s.journal_le _ _).mono (by decide)) (.refl _ s)
  have h5 : ChangesOnly ([.journal, .deviceTallies, .fabric, .twin] ++ kilnParts) s s5 :=
    ChangesOnly.ite h4 ((h4.trans (s4.allocStart_changes.mono (by decide))).trans
      ((State.fabricStart_changes _ first).mono (by decide)))
  exact (h5.trans (s5.armKiln_changes.mono (by decide))).trans ((State.syncBufs_changes _).mono (by decide))

theorem State.onset_ackA (c : Cond) : (s.onset c).loc.ackA = s.loc.ackA := by
  have hloc := State.stateChanged_changes { s with loc := { s.loc with alm := Vector.ofFn fun o => s.outputOnset c o } }
    .wiring (by decide)
  rw [State.onset, hloc]

/-- The outputs brought up to date show nothing new on the amber LED. -/
theorem State.settle_ackA : s.settle.loc.ackA = s.loc.ackA := by
  unfold State.settle
  extract_lets f s1 l s2 alm
  have h1 : s1.loc.ackA = s.loc.ackA := by
    unfold s1; split
    · exact s.onset_ackA .flt
    · rfl
  have h2 : s2.loc.ackA = s.loc.ackA := h1
  split
  · exact h2
  · exact (congrArg Local.ackA (State.stateChanged_changes { s2 with loc := { s2.loc with alm := alm } } .wiring
      (by decide))).trans h2

theorem State.startHeld_tick : s.startHeld.clk.tick = s.clk.tick := by
  unfold State.startHeld
  split
  · exact (State.demand_book _ _).now
  · rfl

/-- A compile over, and its outcome to be found (R68). -/
def State.compileOver (s : State) (at_ : Nat) : State :=
  ({ s with bead := { s.bead with phase := .idle, compileMs := (s.now - at_) * 1000 / 32768 } } : State).undemand .beadRead

/-- The outcome found, with its rates, and the compile marked as done (R68, R212). -/
def State.compileDecided (s : State) (kind : Option ReadKind) : State :=
  { (s.compileResult kind).compileRates with
    dev := { (s.compileResult kind).compileRates.dev with compileDone := true } }

/-- The end of a compile as a whole. -/
def State.compileEnded (s : State) (kind : Option ReadKind) (at_ : Nat) : State :=
  ((((s.compileOver at_).compileDecided kind).compileFollowed (s.dev.start.isSome ∧ ¬ s.dev.compileDone)
    (!s.bead.compiled)).startHeld).settle

theorem exec_strapCompileEnd {kind : Option ReadKind} {at_ : Nat} (h : s.bead.phase = .compiling kind at_)
    (hrun : s.dev.core = .running) : exec .strapCompileEnd s = .next (s.compileEnded kind at_) := by
  show execStrapCompileEnd s = _
  unfold execStrapCompileEnd State.compileEnded State.compileFollowed State.compileDecided State.compileOver
  rw [h]
  exact occurs_of (decide_eq_true hrun)

/-- What follows the outcome adds nothing to it but the start of a re-strap that was held (R69). -/
theorem State.compileEnded_spec (kind : Option ReadKind) (at_ : Nat) {t u : State} (ht : t = s.compileEnded kind at_)
    (hu : u = (s.compileOver at_).compileDecided kind) :
    (∃ q, t.bead = { u.bead with heldRestrap := false, req := q }) ∧ t.dev = u.dev ∧ t.now = u.now ∧
      t.pending = u.pending ∧ t.loc.ackA = u.loc.ackA := by
  unfold State.compileEnded at ht
  rw [← hu] at ht
  have hfollowed := u.compileFollowed_changes (s.dev.start.isSome ∧ ¬ s.dev.compileDone) (!s.bead.compiled)
  have htick := hfollowed.now (by decide)
  generalize u.compileFollowed (s.dev.start.isSome ∧ ¬ s.dev.compileDone) (!s.bead.compiled) = v at *
  obtain ⟨⟨q, hb⟩, hheld⟩ := v.startHeld_spec
  have hbead : v.bead = u.bead := hfollowed .beads (by decide)
  have hloc : v.startHeld.loc = u.loc := (hheld .wiring (by decide)).trans (hfollowed .wiring (by decide))
  have hsettle := v.startHeld.settle_changes
  subst ht
  refine ⟨⟨q, ?_⟩, ?_, ?_, ?_, ?_⟩
  · rw [← hbead, ← hb]; exact hsettle .beads (by decide)
  · exact (hsettle .device (by decide)).trans ((hheld .device (by decide)).trans (hfollowed .device (by decide)))
  · exact (hsettle.now (by decide)).trans (v.startHeld_tick.trans htick)
  · exact (hsettle .pending (by decide)).trans ((hheld .pending (by decide)).trans (hfollowed .pending (by decide)))
  · rw [State.settle_ackA, hloc]

/-- The rates of the configuration in force touch neither the outcome nor what shows it. -/
theorem State.compileRates_spec : (∃ c, s.compileRates.bead = { s.bead with clamp := c }) ∧ s.compileRates.loc = s.loc ∧
    CompileStep s s.compileRates :=
  ⟨(s.clampRates_book _).bead,
    s.clampRates_changes _ .wiring (by unfold State.journalling; split <;> decide),
    .of_book (s.clampRates_book _)⟩

theorem State.compileDecided_spec (kind : Option ReadKind) : CompileStep s (s.compileDecided kind) ∧
    (∃ c, (s.compileDecided kind).bead = { (s.compileResult kind).bead with clamp := c }) ∧
    (s.compileDecided kind).loc = (s.compileResult kind).loc ∧ (s.compileDecided kind).dev.compileDone = true := by
  obtain ⟨hb, hl, hstep⟩ := (s.compileResult kind).compileRates_spec
  unfold State.compileDecided
  generalize (s.compileResult kind).compileRates = u at *
  exact ⟨((s.compileResult_spec kind).1.trans hstep).trans ⟨rfl, rfl, rfl, rfl⟩, hb, hl, rfl⟩

end compileEnd

/-! A change taken at its boundary (R62, R64, R65, R70). -/

section boundary
variable (s : State)

/-- The state in which a part has the value that waited for it, and with bead 15 the rate (R62, R78). -/
def State.valueTaken (s : State) (w : Waiting) : State :=
  let s1 : State := { s with bead := { s.bead with
    waiting := s.bead.waiting.filter fun x => !(decide (x.bead = w.bead) && decide (x.part = w.part)) } }
  let s2 := s1.setEffPart w.bead w.part w.value
  if w.bead.val = 15 then
    { s2 with bead := { s2.bead with rate := s2.bead.rateNext.getD s2.bead.rate, rateNext := none } } else s2

/-- The value taken is the one change at the beads in effect, and nothing waits for the part any more. -/
theorem State.valueTaken_spec (w : Waiting) :
    (s.valueTaken w).bead.waiting =
        s.bead.waiting.filter (fun x => !(decide (x.bead = w.bead) && decide (x.part = w.part))) ∧
      (s.valueTaken w).bead.eff = s.bead.eff.set w.bead ((s.bead.eff[w.bead]).set w.part w.value) ∧
      ChangesOnly [.beads] s (s.valueTaken w) := by
  unfold State.valueTaken
  extract_lets d s1 s2 e
  have h2 : ChangesOnly [.beads] s s2 := changes_bead s _
  split
  · exact ⟨rfl, rfl, h2.trans (changes_bead s2 _)⟩
  · exact ⟨rfl, rfl, h2⟩

theorem State.takeBead_waiting {w : Waiting} (h : s.waitingFor w.bead w.part = some w) :
    s.takeBead w.bead w.part = (s.valueTaken w).partTakes s w.bead w.part := by
  unfold State.waitingFor at h
  simp only [State.takeBead, h]
  rfl

theorem State.afterBeads_changes : ChangesOnly ([.wiring, .twin] ++ kilnParts) s s.afterBeads :=
  (((s.settle_changes.mono (by decide)).trans ((State.armKiln_changes _).mono (by decide))).trans
    ((State.syncBufs_changes _).mono (by decide))).trans ((State.stateChanged_changes _).mono (by decide))

theorem exec_beadChangeAtBoundary {w : Waiting} (h : s.bead.waiting = [w]) (hb : s.partBoundary w.bead w.part = true) :
    exec (.beadChangeAtBoundary w.bead w.part) s =
      .next ((s.valueTaken w).partTakes s w.bead w.part).afterBeads := by
  have hwaits : s.beadWaits w.bead w.part = true := by simp [State.beadWaits, h]
  have hfound : s.waitingFor w.bead w.part = some w := by simp [State.waitingFor, h]
  rw [← s.takeBead_waiting hfound]
  exact occurs_of (by rw [hwaits, hb]; rfl)

/-- What a part does with its value, and what follows, leaves the beads, the store and the queue. -/
theorem State.takenAfter_changes (old : State) (b : BeadNo) (i : Fin 8) :
    ChangesOnly ((fieldParts ++ videoParts) ++ ([.wiring, .twin] ++ kilnParts)) s ((s.partTakes old b i).afterBeads) :=
  (s.partTakes_changes old b i).join (State.afterBeads_changes _)

end boundary

/-- The outcome leaves what ending the compile put into the beads. -/
theorem State.compileDecided_progress (s : State) (kind : Option ReadKind) (at_ : Nat) :
    ((s.compileOver at_).compileDecided kind).bead.progress =
      (.idle, (s.now - at_) * 1000 / 32768, s.bead.heldRestrap) :=
  ((s.compileOver at_).compileDecided_spec kind).1.progress

/-- Settles O13: the end of a compile by its outcome and what follows it, a change by the part that takes it. -/
theorem compiledChanges : Obligations.CompiledChanges := by
  refine ⟨?_, ?_⟩
  · intro s kind at_ hphase hrun
    have hprogress := s.compileDecided_progress kind at_
    obtain ⟨hstep, ⟨c, hb⟩, hloc, hdone⟩ := (s.compileOver at_).compileDecided_spec kind
    have hresult := ((s.compileOver at_).compileResult_spec kind).2
    have hexec := exec_strapCompileEnd s hphase hrun
    obtain ⟨⟨q, hbead⟩, hdev, hnow, hpending, hack⟩ := s.compileEnded_spec kind at_ rfl rfl
    have hmode : _ = s.dev.mode := hstep.mode
    have htick : _ = s.clk.tick := hstep.tick
    have hpend : _ = s.pending := hstep.pending
    generalize s.compileEnded kind at_ = t at *
    generalize (s.compileOver at_).compileDecided kind = u at *
    simp only [Bead.progress, Prod.mk.injEq] at hprogress
    obtain ⟨hidle, hms, -⟩ := hprogress
    refine ⟨t, hexec, ?_, ?_, ?_, ?_, ?_, fun hc hk hfit => ?_, ?_, hnow.trans htick, hpending.trans hpend⟩
    · rw [hbead]; exact hidle
    · rw [hdev]; exact hdone
    · rw [hbead]; exact hms
    · rw [hbead]
    · rw [hbead, hb]; exact hresult
    · subst hk
      obtain ⟨⟨n, hrefused⟩, hamber⟩ := (s.compileOver at_).compileResult_refused hc hfit
      rw [hbead, hb, hrefused, hack, hloc]
      exact ⟨rfl, rfl, rfl, hamber⟩
    · rw [hdev]; exact hmode
  · intro s b part w hw hb hp hbound
    subst hb hp
    obtain ⟨hwaiting, heff, hc⟩ := s.valueTaken_spec w
    have hafter := (s.valueTaken w).takenAfter_changes s w.bead w.part
    have hexec := exec_beadChangeAtBoundary s hw hbound
    generalize ((s.valueTaken w).partTakes s w.bead w.part).afterBeads = t at *
    have hbead : t.bead = (s.valueTaken w).bead := hafter .beads (by decide)
    refine ⟨t, hexec, ?_, ?_, fun c hne => ?_, fun i hne => ?_, (hafter .pending (by decide)).trans (hc .pending (by decide)),
      (hafter .store (by decide)).trans (hc .store (by decide))⟩
    · rw [hbead, heff]; simp
    · rw [hbead, hwaiting, hw]; simp
    · have hne' : w.bead.val ≠ c.val := fun e => hne (Fin.ext e.symm)
      rw [hbead, heff]; simp [hne']
    · have hne' : w.part.val ≠ i.val := fun e => hne (Fin.ext e.symm)
      rw [hbead, heff]; simp [hne']

end Sys2Proof.Machine

namespace Sys2Proof.Machine

/-! Filtered inputs (§3.1; R89, R90). -/

/-- A filter k samples further into a run at a level. -/
def Filter.towards (f : Filter) (x : Bool) (k : Nat) : Filter :=
  { f with cand := if k = 0 then f.cand else x, run := f.run + k }

/-- A filter that has taken a level at the samples counted on a tick. -/
def Filter.takenAt (x : Bool) (now : Nat) : Filter := { level := some x, cand := x, run := 0, at_ := now }

theorem Filter.on_takenAt (x : Bool) (now : Nat) : (Filter.takenAt x now).on = x := by cases x <;> rfl

theorem Filter.on_eq {f : Filter} {x : Bool} {now : Nat} (h : f = .takenAt x now) : f.on = x := h ▸ Filter.on_takenAt x now

section filters
variable {f : Filter} {n k now : Nat} {x : Bool}

theorem Filter.on_of_level (h : f.level = some x) : f.on = x := by simp [Filter.on, h]

theorem Filter.sample_own (h : f.level = some x) : f.sample n x = { f with run := 0 } := by simp [Filter.sample, h]

/-- The run of a filter that counts towards a level, or has not begun. -/
theorem Filter.run_next (hc : 0 < f.run → f.cand = x) : (if f.cand = x ∧ 0 < f.run then f.run + 1 else 1) = f.run + 1 := by
  rcases f.run.eq_zero_or_pos with h | h
  · simp [h]
  · simp [h, hc h]

theorem Filter.sample_counts (hl : f.level ≠ some x) (hc : 0 < f.run → f.cand = x) (hn : f.run + 1 < n) :
    f.sample n x = { f with cand := x, run := f.run + 1 } := by
  simp only [Filter.sample, if_neg hl, Filter.run_next hc, if_neg (show ¬ n ≤ f.run + 1 by omega)]

theorem Filter.sample_takes (hl : f.level ≠ some x) (hc : 0 < f.run → f.cand = x) (hn : n ≤ f.run + 1) :
    f.sample n x = { f with level := some x, cand := x, run := 0 } := by
  simp only [Filter.sample, if_neg hl, Filter.run_next hc, if_pos hn]

/-- Samples at another level, too few to take it, only make the run longer. -/
theorem Filter.feed_towards (hl : f.level ≠ some x) (hc : 0 < f.run → f.cand = x) (hk : f.run + k < n) (l : List Bool) :
    f.feed n (List.replicate k x ++ l) = (((f.towards x k).feed n l).1, ((f.towards x k).feed n l).2 + k) := by
  induction k generalizing f with
  | zero => rfl
  | succ k ih =>
    have hstep := ih (f := { f with cand := x, run := f.run + 1 }) hl (fun _ => rfl) (by dsimp only; omega)
    have hnext : ({ f with cand := x, run := f.run + 1 } : Filter).towards x k = f.towards x (k + 1) := by
      simp [Filter.towards, Nat.add_assoc, Nat.add_comm 1 k]
    rw [hnext] at hstep
    rw [List.replicate_succ, List.cons_append, Filter.feed, Filter.sample_counts hl hc (by omega), if_pos rfl, hstep]
    rfl

/-- A filter takes a level at the last of its number of samples, and no sooner. -/
theorem Filter.feed_takes (hn : 0 < n) (hl : f.level ≠ some x) (hr : f.run = 0) :
    f.feed n (List.replicate n x) = ({ f with level := some x, cand := x, run := 0 }, n) := by
  obtain ⟨m, rfl⟩ : ∃ m, n = m + 1 := ⟨n - 1, by omega⟩
  have hlast : (f.towards x m).sample (m + 1) x = { f with level := some x, cand := x, run := 0 } := by
    refine Filter.sample_takes (f := f.towards x m) hl (fun h => ?_) (by simp only [Filter.towards]; omega)
    simp only [Filter.towards, hr] at h ⊢
    rw [if_neg (by omega)]
  have hne : ¬ some x = (f.towards x m).level := fun h => hl h.symm
  rw [List.replicate_succ', Filter.feed_towards hl (fun h => absurd hr (by omega)) (by omega), Filter.feed, hlast, if_neg hne,
    Nat.add_comm]

theorem Filter.feed_short_level (hk : k < n) (hr : f.run = 0) : (f.feed n (List.replicate k x)).1.level = f.level := by
  by_cases hl : f.level = some x
  · clear hk hr
    induction k generalizing f with
    | zero => rfl
    | succ k ih =>
      rw [List.replicate_succ, Filter.feed, Filter.sample_own hl, if_pos rfl]
      exact ih (f := { f with run := 0 }) hl
  · have hshort := Filter.feed_towards hl (fun h => absurd hr (by omega)) (show f.run + k < n by omega) []
    rw [List.append_nil] at hshort
    rw [hshort]
    rfl

/-- A sample at a filter's own level ends the run towards the other. -/
theorem Filter.feed_broken {y : Bool} (hl : f.level = some x) (hy : y ≠ x) (hr : f.run = 0) (hk : k < n) :
    f.feed n (List.replicate k y ++ [x]) = ({ (f.feed n (List.replicate k y)).1 with run := 0 }, k + 1) := by
  have hly : f.level ≠ some y := by rw [hl]; simpa using hy.symm
  have hrun (l : List Bool) := Filter.feed_towards hly (fun h => absurd hr (by omega)) (show f.run + k < n by omega) l
  have hown : (f.towards y k).feed n [x] = ({ f.towards y k with run := 0 }, 1) := by
    rw [Filter.feed, Filter.sample_own (f := f.towards y k) hl, if_pos rfl]
    rfl
  have hshort := hrun []
  rw [List.append_nil] at hshort
  rw [hrun [x], hshort, hown, Nat.add_comm k 1]
  rfl

/-- No sample is counted but on the tick after each 32nd. -/
theorem Filter.count_off (h : now % 32 ≠ 1) (l : List Bool) : f.count n now l = none := by
  simp [Filter.count, h]

/-- The samples of the other level, all of them counted on one tick, are taken. -/
theorem Filter.count_takes (hn : 0 < n) (hl : f.level ≠ some x) (hr : f.run = 0) (hnow : now % 32 = 1)
    (hdue : n ≤ samplesBetween f.at_ now) : f.count n now (List.replicate n x) = some (.takenAt x now) := by
  have hsame : (if n < samplesBetween f.at_ now then { f with run := 0 } else f) = f := by
    rw [← hr]; exact ite_self f
  simp only [Filter.count, List.length_replicate, if_pos (And.intro hnow hdue), hsame, Filter.feed_takes hn hl hr]
  rfl

end filters

/-- Settles O56: a filter counts the samples towards another level one by one, and a sample at its own level ends the run. -/
theorem filterLevels : Obligations.FilterLevels := by
  refine ⟨fun f n x hn hl hr => ?_, fun f n k x _ hk hr => Filter.feed_short_level hk hr,
    fun f n x y k hl hy hr hk => Filter.feed_broken hl hy hr hk⟩
  rw [Filter.feed_takes hn hl hr]
  exact ⟨rfl, rfl⟩

end Sys2Proof.Machine

namespace Sys2Proof.Machine

/-! The wiring beside the alarm outputs (§3.7): entries leave it, and settling and silencing change the outputs only. -/

/-- Between two states of the wiring only the alarm outputs and what they remember changed. -/
def Local.OutputsOnly (a b : Local) : Prop :=
  b = { a with alm := b.alm, silencedH24 := b.silencedH24, silencedTmp := b.silencedTmp, fltWas := b.fltWas }

theorem Local.OutputsOnly.trans {a b c : Local} (h : a.OutputsOnly b) (k : b.OutputsOnly c) : a.OutputsOnly c := by
  rw [Local.OutputsOnly] at *
  rw [h] at k
  exact k

section outputs
variable (s : State)

theorem State.journal_loc (code data : Nat) : (s.journal code data).loc = s.loc :=
  s.journal_le code data .wiring (by decide)

theorem State.stateChanged_loc : s.stateChanged.loc = s.loc := s.stateChanged_changes .wiring (by decide)

theorem State.onset_loc (c : Cond) : (s.onset c).loc = { s.loc with alm := Vector.ofFn fun o => s.outputOnset c o } :=
  State.stateChanged_loc _

theorem State.onset_outputs (c : Cond) : s.loc.OutputsOnly (s.onset c).loc := by
  rw [s.onset_loc c]; rfl

theorem State.settle_outputs : s.loc.OutputsOnly s.settle.loc := by
  unfold State.settle
  extract_lets f s1 l s2 alm
  have h1 : s.loc.OutputsOnly s1.loc := by
    unfold s1; split
    · exact s.onset_outputs .flt
    · rfl
  have h2 : s.loc.OutputsOnly s2.loc := h1.trans rfl
  split
  · exact h2
  · rw [State.stateChanged_loc]; exact h2.trans rfl

/-- A change of the wiring with its entry, and the outputs brought up to date. -/
theorem State.journal_settle_spec {u : State} (h : ChangesOnly [.wiring] s u) (code data : Nat) :
    u.loc.OutputsOnly ((u.journal code data).settle).loc ∧
      (s.takesEntry code → LogsEntry s ((u.journal code data).settle) code data) ∧
      ChangesOnly ([.wiring, .twin] ++ s.journalling) s ((u.journal code data).settle) := by
  have hsettle := (u.journal code data).settle_changes
  refine ⟨?_, fun htakes => ?_, ?_⟩
  · have houtputs := (u.journal code data).settle_outputs
    rwa [State.journal_loc] at houtputs
  · have hlogs := State.journal_logs ((h.takesEntry (by decide) (by decide) code).mpr htakes) data
    exact hlogs.within h hsettle (by decide) (by decide)
  · exact ((h.then_journal (by decide) code data).widen (by decide)).more hsettle (by decide)

/-- Whatever the twin role, a change of the wiring with its entries reaches no more than these parts. -/
theorem ChangesOnly.wiring_entry {s t : State} (h : ChangesOnly ([.wiring] ++ s.journalling) s t) :
    ChangesOnly [.wiring, .journal, .deviceTallies, .fabric, .twin] s t :=
  h.mono (by unfold State.journalling; split <;> decide)

end outputs
end Sys2Proof.Machine

namespace Sys2Proof.Machine

/-! A closed sequence refused (§3.2; R94, R96, R98). -/

section refusals
variable (s : State)

/-- The data of GESTURE for a gesture refused (Table 6.8). -/
def State.refusalData (s : State) (g : Gesture) (result failed n : Nat) : Nat :=
  g.code * 8192 + bit s.keyFitted * 4096 + sealCode s.loc.sealState * 1024 + result * 128 + failed * 16 + min 15 n

/-- A closed sequence used up and refused. -/
def State.refused (s : State) (g : Gesture) (result failed n : Nat) : State := s.dropClosed.refuseGesture g result failed n

/-- No field of the data reaches into another. -/
theorem State.refusalData_fields (g : Gesture) {result failed : Nat} (n : Nat) (hr : result < 8) (hf : failed < 8) :
    s.refusalData g result failed n / 8192 = g.code ∧ s.refusalData g result failed n / 128 % 8 = result ∧
      s.refusalData g result failed n / 16 % 8 = failed := by
  have hkey : bit s.keyFitted ≤ 1 := by cases s.keyFitted <;> decide
  have hseal : sealCode s.loc.sealState ≤ 3 := by unfold sealCode; split <;> omega
  unfold State.refusalData
  omega

/-- What a refused gesture does. -/
structure GestureRefused (s t : State) (data : Nat) : Prop where
  closed : t.loc.closed = none
  shown : t.loc.ackA = some .refuse
  counted : t.tal.dev[13] = s.tal.dev[13] + 1
  logs : s.takesEntry 0x10 → LogsEntry s t 0x10 data
  changes : ChangesOnly ([.wiring] ++ s.journalling) s t

/-- Whatever the gesture and the reason: a result that is no acceptance counts GREF. -/
theorem State.refused_spec (g : Gesture) {result : Nat} (failed n : Nat) (h : ¬ (result = 0 ∨ result = 4)) :
    GestureRefused s (s.refused g result failed n) (s.refusalData g result failed n) := by
  have hshown : s.refused g result failed n =
      ((s.dropClosed.journal 0x10 (s.refusalData g result failed n)).addTally 21 1).ackAmber .refuse := by
    simp only [State.refused, State.refuseGesture, State.gestureEntry, if_neg h]
    rfl
  rw [hshown]
  have hdev := s.dropClosed.journal_dev 0x10 (s.refusalData g result failed n) 13 (by decide) (by decide)
  have hlogs (hs : s.dropClosed.takesEntry 0x10) := State.journal_logs hs (s.refusalData g result failed n)
  have hentry := s.dropClosed_changes.then_journal (by decide) 0x10 (s.refusalData g result failed n)
  have hloc := s.dropClosed.journal_loc 0x10 (s.refusalData g result failed n)
  generalize s.dropClosed.journal 0x10 (s.refusalData g result failed n) = t at *
  have htally : (t.addTally 21 1).loc = t.loc := t.addTally_changes 21 1 .wiring (by decide)
  have hafter : ChangesOnly [.wiring, .deviceTallies] t ((t.addTally 21 1).ackAmber .refuse) :=
    ((t.addTally_changes 21 1).mono (by decide)).trans ((State.ackAmber_changes _ _).mono (by decide))
  refine ⟨congrArg Local.closed (htally.trans hloc), rfl, ?_, fun hs => ?_, hentry.trans (hafter.mono ?_)⟩
  · have hcount : ((t.addTally 21 1).ackAmber .refuse).tal.dev[13] = t.tal.dev[13] + 1 := Vector.getElem_set_self _
    rw [hcount, hdev]
    rfl
  · exact (hlogs ((s.dropClosed_changes.takesEntry (by decide) (by decide) 0x10).mpr hs)).within s.dropClosed_changes hafter
      (by decide) (by decide)
  · unfold State.journalling; split <;> decide

theorem State.gesture_busy {g : Gesture} (n : Nat) (hbusy : s.busyGesture = true) (effect : State → State) :
    s.gesture g n effect = s.refused g 2 0 n := by
  have hbusy' : s.dropClosed.busyGesture = true := hbusy
  simp only [State.gesture, hbusy', if_true, State.refused]

theorem State.gesture_failed {g : Gesture} {k : Nat} (n : Nat) (hbusy : s.busyGesture = false)
    (hpre : s.dropClosed.failedPrecondition g = k) (hk : k ≠ 0) (effect : State → State) :
    s.gesture g n effect = s.refused g 1 k n := by
  have hbusy' : s.dropClosed.busyGesture = false := hbusy
  have hbusy'' : ¬ s.dropClosed.busyGesture = true := by simp [hbusy']
  simp only [State.gesture, hpre, if_neg hbusy'', if_pos hk, State.refused]

end refusals

/-- Settles O16: each gesture by its failed precondition or BUSY, and what a refused gesture does. -/
theorem gesturesRefused : Obligations.GesturesRefused := by
  refine ⟨?_, ?_, ?_, ?_⟩
  · intro s a hl h1 h2 hbusy hkey
    have hpre : s.dropClosed.failedPrecondition .long = 1 := by
      have hkey' : s.dropClosed.keyFitted = false := hkey
      simp [State.failedPrecondition, hkey']
    have hexec : exec .setLong s = .next (s.refused .long 1 1 1) := by
      show execSetLong s = _
      simp only [execSetLong, s.closedAs_of hl (classifyPresses_long h1 h2), s.gesture_failed _ hbusy hpre one_ne_zero]
      rfl
    obtain ⟨hclosed, hshown, hcount, -, hc⟩ := s.refused_spec .long 1 1 (result := 1) (by decide)
    exact ⟨_, hexec, hclosed, hshown, hc.wiring_entry .sounding (by decide), hcount, hc⟩
  · intro s a hl h1 h2 hbusy hkey hseal
    have hpre : s.dropClosed.failedPrecondition .clean = 3 := by
      have hkey' : s.dropClosed.keyFitted = true := hkey
      have hseal' : s.dropClosed.loc.sealState ≠ some .opened := hseal
      simp [State.failedPrecondition, hkey', hseal']
    have hexec : exec .clean s = .next (s.refused .clean 1 3 1) := by
      show execClean s = _
      simp only [execClean, s.closedAs_of hl (classifyPresses_clean h1 h2), s.gesture_failed _ hbusy hpre three_ne_zero]
      rfl
    obtain ⟨hclosed, hshown, -, -, hc⟩ := s.refused_spec .clean 3 1 (result := 1) (by decide)
    obtain ⟨-, -, -, -, -, -, -, -, hcleaning, -⟩ : s.tal.restSame (s.refused .clean 1 3 1).tal :=
      hc.wiring_entry .tallyRest (by decide)
    exact ⟨_, hexec, hclosed, hshown, hcleaning, hc.wiring_entry .store (by decide), hc⟩
  · intro s a b hl ha hb hbusy
    have hdouble : classifyPresses [a, b] = .double := by simp [classifyPresses, ha, hb]
    have hexec : exec .doubleTap s = .next (s.refused .double 2 0 2) := by
      show execDoubleTap s = _
      simp only [execDoubleTap, s.closedAs_of hl hdouble, s.gesture_busy _ hbusy]
      rfl
    obtain ⟨hclosed, hshown, -, hlogs, hc⟩ := s.refused_spec .double 0 2 (result := 2) (by decide)
    obtain ⟨hcode, hresult, -⟩ := s.refusalData_fields .double (result := 2) (failed := 0) 2 (by decide) (by decide)
    exact ⟨_, hexec, hclosed, hshown, fun h => ⟨_, hlogs h, hcode, hresult⟩, hc⟩
  · intro s a b c hl ha hb hc hbusy hkey hbed hrole
    have htriple : classifyPresses [a, b, c] = .triple := by simp [classifyPresses, ha, hb, hc]
    have hpre : s.dropClosed.failedPrecondition .triple = 4 := by
      have hkey' : s.dropClosed.keyFitted = true := hkey
      have hbed' : s.dropClosed.inBedrock = false := hbed
      have hrole' : s.dropClosed.trole = .none := hrole
      simp [State.failedPrecondition, hkey', hbed', hrole']
    have hexec : exec .tripleTap s = .next (s.refused .triple 1 4 3) := by
      show execTripleTap s = _
      simp only [execTripleTap, s.closedAs_of hl htriple, s.gesture_failed _ hbusy hpre four_ne_zero]
      rfl
    obtain ⟨hclosed, hshown, -, hlogs, hch⟩ := s.refused_spec .triple 4 3 (result := 1) (by decide)
    have htwin : Part.twin ∉ [.wiring] ++ s.journalling := by simp [State.journalling, hrole]
    exact ⟨_, hexec, hclosed, hshown, hch .twin htwin,
      fun h => ⟨_, hlogs h, s.refusalData_fields .triple 3 (by decide) (by decide)⟩, hch⟩

end Sys2Proof.Machine

namespace Sys2Proof.Machine

/-! The SET input: its presses, releases and sequences, SET STUCK and acknowledgements (§3.1, §3.2; R89 to R98). -/

section setInput
variable (s : State)

/-- The filter of SETn with a level taken now. -/
def State.setTaken (s : State) (x : Bool) : State := { s with loc := { s.loc with setF := .takenAt x s.now } }

/-- SET STUCK begun, before its entry (R95). -/
def State.setStuckOn (s : State) : State :=
  { s with loc := { s.loc with
    stuck := true, stuckReleased := none, seqOpen := false, presses := [], pressAt := none, closed := none } }

/-- SET STUCK ended, before its entry (R95). -/
def State.setStuckOff (s : State) : State := { s with loc := { s.loc with stuck := false, stuckReleased := none } }

theorem exec_setPress (hl : s.loc.setF.level = some false) (hr : s.loc.setF.run = 0) (hnow : s.now % 32 = 1)
    (hdue : 20 ≤ samplesBetween s.loc.setF.at_ s.now) :
    exec (.setPress (List.replicate 20 true)) s = .next (s.setTaken true).setPressed := by
  have hcount := Filter.count_takes (x := true) (by decide) (by simp [hl]) hr hnow hdue
  have hon : s.loc.setF.on = false := Filter.on_of_level hl
  show execSetPress _ s = _
  simp only [execSetPress, State.setSamples, hcount, Filter.on_takenAt, hon]
  rfl

theorem exec_setRelease (hl : s.loc.setF.level = some true) (hr : s.loc.setF.run = 0) (hnow : s.now % 32 = 1)
    (hdue : 20 ≤ samplesBetween s.loc.setF.at_ s.now) :
    exec (.setRelease (List.replicate 20 false)) s = .next (s.setTaken false).setReleased := by
  have hcount := Filter.count_takes (x := false) (by decide) (by simp [hl]) hr hnow hdue
  have hon : s.loc.setF.on = true := Filter.on_of_level hl
  show execSetRelease _ s = _
  simp only [execSetRelease, State.setSamples, hcount, Filter.on_takenAt, hon]
  rfl

/-- A press with no sequence open begins one (R92). -/
theorem State.setPressed_opens (hs : s.loc.stuck = false) (ho : s.loc.seqOpen = false) :
    s.setPressed = { s with loc := { s.loc with
      setAssertedAt := s.now, ledaWindow := decide (s.dev.mode = .bedBattery), stuckReleased := none
      seqOpen := true, presses := [], pressAt := some s.now, pressBegan := s.now } } := by
  simp [State.setPressed, hs, ho]

/-- A release ends the press, and a press of 5 s or more closes its sequence (R92). -/
theorem State.setReleased_spec {t0 : Nat} (hs : s.loc.stuck = false) (hp : s.loc.pressAt = some t0) :
    s.setReleased.loc.setF = s.loc.setF ∧ s.setReleased.loc.pressAt = none ∧ s.setReleased.loc.lastRelease = s.now ∧
      (if 5 * 32768 ≤ s.now - t0
        then s.setReleased.loc.seqOpen = false ∧ s.setReleased.loc.closed = some (s.loc.presses ++ [s.now - t0])
        else s.setReleased.loc.presses = s.loc.presses ++ [s.now - t0] ∧ s.setReleased.loc.closed = s.loc.closed) ∧
      ChangesOnly [.wiring] s s.setReleased := by
  have hstuck : ¬ s.loc.stuck = true := by simp [hs]
  simp only [State.setReleased, if_neg hstuck, hp]
  split
  · exact ⟨rfl, rfl, rfl, ⟨rfl, rfl⟩, changes_loc s _⟩
  · exact ⟨rfl, rfl, rfl, ⟨rfl, rfl⟩, changes_loc s _⟩

theorem exec_setStuck {t0 : Nat} (hs : s.loc.stuck = false) (hl : s.loc.setF.level = some true)
    (hp : s.loc.pressAt = some t0) (ht : t0 + 15 * 32768 ≤ s.now) :
    exec .setStuck s = .next ((s.setStuckOn.journal 0x12 1).settle) :=
  occurs_of (by simp [hs, Filter.on_of_level hl, hp, tps, ht])

theorem exec_setStuckEnd {t0 : Nat} (hs : s.loc.stuck = true) (hl : s.loc.setF.level = some false)
    (hp : s.loc.stuckReleased = some t0) (ht : t0 + 32768 ≤ s.now) :
    exec .setStuckEnd s = .next ((s.setStuckOff.journal 0x12 0).settle) :=
  occurs_of (by simp [hs, Filter.on_of_level hl, hp, tps, ht])

/-- Outside a calibration, a clean or a hand-over the refusal has its GESTURE DETAIL (R93). -/
theorem exec_unrecognisedGesture {l : List Nat} (hl : s.loc.closed = some l) (hg : classifyPresses l = .none)
    (hbusy : s.busyGesture = false) : exec .unrecognisedGesture s = .next ((s.refused .none 3 0 l.length).journal 0x11
      (detailUnits (l.getD 0 0) + detailUnits (l.getD 1 0) * 32 + detailUnits (l.getD 2 0) * 1024)) := by
  have hbusy' : s.dropClosed.busyGesture = false := hbusy
  show execUnrecognisedGesture s = _
  simp only [execUnrecognisedGesture, hl, hg, ne_eq, not_true_eq_false, if_false, hbusy', Bool.false_eq_true, State.refused]

theorem exec_unrecognisedGesture_busy {l : List Nat} (hl : s.loc.closed = some l) (hg : classifyPresses l = .none)
    (hbusy : s.busyGesture = true) : exec .unrecognisedGesture s = .next (s.refused .none 2 0 l.length) := by
  have hbusy' : s.dropClosed.busyGesture = true := hbusy
  show execUnrecognisedGesture s = _
  simp only [execUnrecognisedGesture, hl, hg, ne_eq, not_true_eq_false, if_false, if_pos hbusy', State.refused]

theorem exec_acknowledgementEnd_amber (h : s.amberOver = true) :
    exec .acknowledgementEnd s = .next { s with loc := { s.loc with ackA := none } } := if_pos h

/-- With nothing shown on LEDA the step is LEDG's. -/
theorem exec_acknowledgementEnd_green (h : s.loc.ackA = none) :
    exec .acknowledgementEnd s = occurs s.greenOver s s.nextGreen := by
  have hamber : ¬ s.amberOver = true := by simp [State.amberOver, h]
  exact if_neg hamber

/-- RUNNING and PAIRING have no length, and are not over while what they show lasts (R97). -/
theorem State.greenOver_lasting (h : (s.loc.ackG = some .running ∧ s.tr.calOn = true) ∨
    (s.loc.ackG = some .pairing ∧ s.fab.windowTill.isSome = true)) : s.greenOver = false := by
  rcases h with ⟨hg, hcal⟩ | ⟨hg, hwin⟩
  · simp [State.greenOver, hg, Ack.ticks, State.ackHolds, hcal]
  · simp [State.greenOver, hg, Ack.ticks, State.ackHolds, hwin]

end setInput

/-- Settles O14: the input by its filter, a sequence by what opens and closes it, SET STUCK by its entry, an unrecognised
gesture as a refusal, and an acknowledgement by its length. -/
theorem setSwitch : Obligations.SetSwitch := by
  refine ⟨?_, ?_, ?_, ?_, ?_, ?_, ?_, ?_, ?_, ?_, ?_⟩
  · intro s l hnow
    have hnone : s.setSamples l = none := Filter.count_off hnow l
    constructor
    · show execSetPress l s = _
      simp only [execSetPress, hnone]
    · show execSetRelease l s = _
      simp only [execSetRelease, hnone]
  · intro s hl hr hs ho hnow hdue
    rw [exec_setPress s hl hr hnow hdue, (s.setTaken true).setPressed_opens hs ho]
    rfl
  · intro s t0 hl hr hs hp hnow hdue
    obtain ⟨hset, hpress, hlast, hlength, hc⟩ := (s.setTaken false).setReleased_spec hs hp
    have htaken : ChangesOnly [.wiring] s (s.setTaken false) := changes_loc s _
    exact ⟨_, exec_setRelease s hl hr hnow hdue, congrArg Filter.level hset, hpress, hlast, hlength, htaken.trans hc⟩
  · intro s ho hp ht
    exact occurs_of (by simp [ho, hp, ht])
  · intro s t0 hs hl hp ht
    have hon : ChangesOnly [.wiring] s s.setStuckOn := changes_loc s _
    obtain ⟨hloc, hlogs, hc⟩ := s.journal_settle_spec hon 0x12 1
    exact ⟨_, exec_setStuck s hs hl hp ht, congrArg Local.stuck hloc, congrArg Local.seqOpen hloc, congrArg Local.closed hloc,
      congrArg Local.presses hloc, hlogs, hc⟩
  · intro s t0 hs hl hp ht
    have hoff : ChangesOnly [.wiring] s s.setStuckOff := changes_loc s _
    obtain ⟨hloc, hlogs, hc⟩ := s.journal_settle_spec hoff 0x12 0
    exact ⟨_, exec_setStuckEnd s hs hl hp ht, congrArg Local.stuck hloc, hlogs, hc⟩
  · intro s l hl hg hbusy
    obtain ⟨hclosed, hshown, hcount, -, hc⟩ := s.refused_spec .none 0 l.length (result := 3) (by decide)
    have hexec := exec_unrecognisedGesture s hl hg hbusy
    generalize detailUnits (l.getD 0 0) + detailUnits (l.getD 1 0) * 32 + detailUnits (l.getD 2 0) * 1024 = d at hexec
    generalize s.refused .none 3 0 l.length = t at *
    exact ⟨_, hexec, (congrArg Local.closed (t.journal_loc 0x11 d)).trans hclosed,
      (congrArg Local.ackA (t.journal_loc 0x11 d)).trans hshown,
      (t.journal_dev 0x11 d 13 (by decide) (by decide)).trans hcount, hc.then_entry (by decide) 0x11 d⟩
  · intro s l hl hg hbusy
    obtain ⟨hclosed, hshown, -, hlogs, hc⟩ := s.refused_spec .none 0 l.length (result := 2) (by decide)
    obtain ⟨hcode, hresult, -⟩ := s.refusalData_fields .none (result := 2) (failed := 0) l.length (by decide) (by decide)
    exact ⟨_, exec_unrecognisedGesture_busy s hl hg hbusy, hclosed, hshown, fun h => ⟨_, hlogs h, hcode, hresult⟩, hc⟩
  · intro s a n ha hn ht
    exact exec_acknowledgementEnd_amber s (by simp [State.amberOver, ha, hn, ht])
  · intro s a n ha hg hn ht hnext
    have hover : s.greenOver = true := by simp [State.greenOver, hg, hn, ht]
    have hafter : s.nextGreen = { s with loc := { s.loc with ackG := none, ackGNext := none } } := by
      simp [State.nextGreen, hnext]
    rw [exec_acknowledgementEnd_green s ha, occurs_of hover, hafter]
  · intro s ha hlasting
    rw [exec_acknowledgementEnd_green s ha, occurs_of_not (s.greenOver_lasting hlasting)]

end Sys2Proof.Machine

namespace Sys2Proof.Machine

/-! Sand triggers that the device raises itself, and the onset of a seal tamper (R19, R23, R27, R110, R111, R438). -/

section raising
variable (s : State)

/-- A trigger journalled, originated and recorded, before the AON logic takes it (R19, R27, R438). -/
def State.raised (s : State) (code data : Nat) : State :=
  ((s.journal code data).event (s.journalEntry code data).1).offerRecord
    { kind := 1, src := s.fab.addr, content := (s.journalEntry code data).1.bytes }

theorem State.raised_changes (code data : Nat) : ChangesOnly [.fabric, .head] (s.journal code data) (s.raised code data) :=
  ((State.event_changes _ _).mono (by decide)).trans ((State.offerRecord_changes _ _).mono (by decide))

theorem State.raise_none (code data : Nat) : s.raise none code data = s.raised code data := rfl

theorem State.raise_some (k : TriggerKind) (code data : Nat) : s.raise (some k) code data =
    if s.accepts k && !s.inBedrock then
      { s.raised code data with dev := { (s.raised code data).dev with accepted := (s.raised code data).dev.accepted ++ [k] } }
    else s.raised code data := by rfl

theorem State.raise_some_changes (k : TriggerKind) (code data : Nat) :
    ChangesOnly [.device] (s.raised code data) (s.raise (some k) code data) := by
  rw [State.raise_some]
  exact ChangesOnly.ite (changes_dev _ _) (.refl _ _)

theorem State.raise_loc (k : Option TriggerKind) (code data : Nat) : (s.raise k code data).loc = s.loc :=
  s.raise_changes k code data .wiring (by decide)

/-- Outside Bedrock a trigger that bead 4 accepts is posted for the AON logic (R23, R27). -/
theorem State.raise_accepted {k : TriggerKind} (ha : s.accepts k = true) (hb : s.inBedrock = false) (code data : Nat) :
    (s.raise (some k) code data).dev.accepted = s.dev.accepted ++ [k] := by
  have hraised : (s.raised code data).dev = (s.journal code data).dev := s.raised_changes code data .device (by decide)
  have hentry : (s.journal code data).dev = s.dev := s.journal_le code data .device (by decide)
  rw [State.raise_some, if_pos (by simp [ha, hb]), ← hentry, ← hraised]

/-- SEAL with a tamper begun, raised, from the state with the tamper on (R110, R111). -/
def State.sealRaised (s : State) : State :=
  let u : State := { s with loc := { s.loc with sealTamper := true } }
  u.raise (some .tamper) 0x13 (sealCode u.loc.sealState + 4 * bit u.keyFitted + 8)

theorem State.sealTamperOnset_eq :
    s.sealTamperOnset = (((s.sealRaised.onset .tmp).ackAmber .tamper).settle).stateChanged := rfl

theorem State.sealRaised_loc : s.sealRaised.loc = { s.loc with sealTamper := true } := State.raise_loc _ _ _ _

theorem State.sealRaised_changes :
    ChangesOnly [.wiring, .device, .journal, .deviceTallies, .fabric, .twin, .head] s s.sealRaised :=
  ((changes_loc s _).mono (by decide)).trans ((State.raise_changes _ _ _ _).mono (by decide))

/-- After SEAL only the outputs, the amber LED and the mark for the partner follow. -/
theorem State.sealTamperOnset_after : ChangesOnly [.wiring, .twin] s.sealRaised s.sealTamperOnset := by
  rw [State.sealTamperOnset_eq]
  have hshown := (s.sealRaised.onset_changes .tmp).trans ((State.ackAmber_changes _ .tamper).mono (by decide))
  exact (hshown.trans (State.settle_changes _)).trans ((State.stateChanged_changes _).mono (by decide))

theorem State.sealTamperOnset_changes :
    ChangesOnly [.wiring, .device, .journal, .deviceTallies, .fabric, .twin, .head] s s.sealTamperOnset :=
  s.sealRaised_changes.trans (s.sealTamperOnset_after.mono (by decide))

theorem State.sealTamperOnset_loc : ∃ n,
    ({ s.loc with sealTamper := true, ackA := some .tamper, ackAAt := n } : Local).OutputsOnly s.sealTamperOnset.loc := by
  refine ⟨(s.sealRaised.onset .tmp).now, ?_⟩
  have houtputs := ((s.sealRaised.onset .tmp).ackAmber .tamper).settle_outputs
  have honset : (s.sealRaised.onset .tmp).loc =
      { s.loc with sealTamper := true, alm := (s.sealRaised.onset .tmp).loc.alm } := by
    rw [State.onset_loc, s.sealRaised_loc]
  rw [State.sealTamperOnset_eq, State.stateChanged_loc]
  refine Local.OutputsOnly.trans ?_ houtputs
  rw [Local.OutputsOnly, State.ackAmber, honset]

theorem State.sealTamperOnset_accepted (ha : s.accepts .tamper = true) (hb : s.inBedrock = false) :
    s.sealTamperOnset.dev.accepted = s.dev.accepted ++ [.tamper] := by
  have hdev : s.sealTamperOnset.dev = s.sealRaised.dev := s.sealTamperOnset_after .device (by decide)
  rw [hdev]
  exact State.raise_accepted { s with loc := { s.loc with sealTamper := true } } ha hb _ _

end raising

/-! Silence at the latched outputs (§3.7; R120, R125). -/

section silence
variable (s : State)

/-- No latched output of Table 3.9 has FLT. -/
theorem alarmMap_latched_flt {idx : Nat} {o : AlmOut} {c : Option Nat} (h : (alarmMap idx o).2 = .latched c) :
    (alarmMap idx o).1.contains .flt = false := by
  revert h
  unfold alarmMap
  extract_lets m15 m3
  split <;> simp

theorem State.outputOnset_flt {o : AlmOut} {c : Option Nat} (h : (alarmMap (s.eff 7) o).2 = .latched c) :
    s.outputOnset .flt o = s.loc.alm[o] := by
  unfold State.outputOnset
  simp only [alarmMap_latched_flt h, Bool.false_and, Bool.false_eq_true, if_false]

/-- A latched output that is inactive does not become active by following. -/
theorem State.outputFollow_latched {o : AlmOut} {c : Option Nat} (h : (alarmMap (s.eff 7) o).2 = .latched c)
    (ha : (s.loc.alm[o]).active = false) : (s.outputFollow o).active = false := by
  unfold State.outputFollow
  simp only [h]
  split
  · rfl
  · exact ha

theorem State.settle_latched {o : AlmOut} {c : Option Nat} (h : (alarmMap (s.eff 7) o).2 = .latched c)
    (ha : (s.loc.alm[o]).active = false) : (s.settle.loc.alm[o]).active = false := by
  unfold State.settle
  extract_lets f s1 l s2 alm
  have h1 : s1.loc.alm[o] = s.loc.alm[o] ∧ s1.bead = s.bead := by
    unfold s1; split
    · refine ⟨?_, s.onset_changes .flt .beads (by decide)⟩
      simp [State.onset_loc, s.outputOnset_flt h]
    · exact ⟨rfl, rfl⟩
  have h2 : (s2.loc.alm[o]).active = false := (congrArg AlmSt.active h1.1).trans ha
  have hmap : (alarmMap (s2.eff 7) o).2 = .latched c := by
    have hbead : s2.bead = s.bead := h1.2
    rw [State.eff, hbead]; exact h
  split
  · exact h2
  · have hloc := State.stateChanged_loc { s2 with loc := { s2.loc with alm := alm } }
    have hfollow : alm[o] = s2.outputFollow o := by simp [alm]
    exact (congrArg (fun m : Local => (m.alm[o]).active) hloc).trans
      ((congrArg AlmSt.active hfollow).trans (s2.outputFollow_latched hmap h2))

/-- A silence before its entry: the latched outputs inactive and the conditions present marked (R125). -/
def State.silenced (s : State) : State :=
  { s with loc := { s.loc with
    alm := Vector.ofFn fun o =>
      match (alarmMap (s.eff 7) o).2 with
      | .latched _ => if (s.loc.alm[o]).active && (s.loc.alm[o]).onset = some s.now then s.loc.alm[o]
          else { s.loc.alm[o] with active := false, onset := none, cutAt := none }
      | _ => s.loc.alm[o]
    silencedH24 := s.h24 && !s.onsetNow .h24, silencedTmp := s.tmp && !s.onsetNow .tmp } }

theorem State.silenceNow_eq (n : Nat) : s.silenceNow n = (s.silenced.journal 0x16 n).stateChanged := rfl

theorem State.silenceNow_loc (n : Nat) : (s.silenceNow n).loc = s.silenced.loc := by
  rw [State.silenceNow_eq, State.stateChanged_loc, State.journal_loc]

/-- But for an onset of this tick, a silence puts a latched output out. -/
theorem State.silenced_latched {o : AlmOut} {c : Option Nat} (h : (alarmMap (s.eff 7) o).2 = .latched c)
    (ho : (s.loc.alm[o]).onset ≠ some s.now) : (s.silenced.loc.alm[o]).active = false := by
  have hout : s.silenced.loc.alm[o] = { s.loc.alm[o] with active := false, onset := none, cutAt := none } := by
    simp only [State.silenced, Fin.getElem_fin, Vector.getElem_ofFn, h]
    exact if_neg (by simpa using fun _ => ho)
  rw [hout]

/-- A silence with its entry, and the outputs brought up to date. -/
theorem State.silence_settle_spec (n : Nat) : s.loc.OutputsOnly (s.silenceNow n).settle.loc ∧
    (∀ o : AlmOut, (∃ c, (alarmMap (s.eff 7) o).2 = .latched c) → (s.loc.alm[o]).onset ≠ some s.now →
      (((s.silenceNow n).settle.loc.alm)[o]).active = false) ∧
    ChangesOnly ([.wiring, .twin] ++ s.journalling) s (s.silenceNow n).settle := by
  have hsilenced : ChangesOnly [.wiring] s s.silenced := changes_loc s _
  have hbook : (s.silenceNow n).bead = s.bead := s.silenceNow_changes n .beads (by decide)
  refine ⟨?_, fun o ⟨c, hmap⟩ ho => ?_, ?_⟩
  · have houtputs := (s.silenceNow n).settle_outputs
    rw [State.silenceNow_loc] at houtputs
    exact Local.OutputsOnly.trans (b := s.silenced.loc) rfl houtputs
  · refine State.settle_latched (s.silenceNow n) (c := c) ?_ ?_
    · rw [State.eff, hbook]; exact hmap
    · rw [State.silenceNow_loc]; exact s.silenced_latched hmap ho
  · have hentry := (hsilenced.then_journal (by decide) 0x16 n).widen (qs := [.wiring, .twin]) (by decide)
    exact (hentry.more (State.stateChanged_changes _) (by decide)).more (State.settle_changes _) (by decide)

end silence
end Sys2Proof.Machine

namespace Sys2Proof.Machine

/-! KEYn, ARMn, WAKEn and SILENCEn at their filtered edges (§3.1, §3.5, §3.6). -/

section levels
variable (s : State)

/-- The filter of KEYn with a level taken now. -/
def State.keyTaken (s : State) (x : Bool) : State := { s with loc := { s.loc with keyF := .takenAt x s.now } }
/-- The filter of ARMn with a level taken now. -/
def State.armTaken (s : State) (x : Bool) : State := { s with loc := { s.loc with armF := .takenAt x s.now } }
/-- The filter of WAKEn with a level taken now. -/
def State.wakeTaken (s : State) (x : Bool) : State := { s with loc := { s.loc with wakeF := .takenAt x s.now } }
/-- The filter of SILENCEn with a level taken now. -/
def State.silTaken (s : State) (x : Bool) : State := { s with loc := { s.loc with silF := .takenAt x s.now } }

theorem State.keyTaken_changes (x : Bool) : ChangesOnly [.wiring] s (s.keyTaken x) := changes_loc s _
theorem State.armTaken_changes (x : Bool) : ChangesOnly [.wiring] s (s.armTaken x) := changes_loc s _
theorem State.wakeTaken_changes (x : Bool) : ChangesOnly [.wiring] s (s.wakeTaken x) := changes_loc s _
theorem State.silTaken_changes (x : Bool) : ChangesOnly [.wiring] s (s.silTaken x) := changes_loc s _

theorem exec_keyChange_fitted (hl : s.loc.keyF.level = some false) (hr : s.loc.keyF.run = 0) (hnow : s.now % 32 = 1)
    (hdue : 102 ≤ samplesBetween s.loc.keyF.at_ s.now) :
    exec (.keyChange (List.replicate 102 true)) s = .next (s.keyTaken true) := by
  have hcount := Filter.count_takes (x := true) (by decide) (by simp [hl]) hr hnow hdue
  have hon : s.loc.keyF.on = false := Filter.on_of_level hl
  show execKeyChange _ s = _
  simp only [execKeyChange, hcount, hon, Bool.false_and]
  rfl

theorem exec_keyChange_removed (hl : s.loc.keyF.level = some true) (hr : s.loc.keyF.run = 0) (hnow : s.now % 32 = 1)
    (hdue : 102 ≤ samplesBetween s.loc.keyF.at_ s.now) (hseal : s.loc.sealState = some .opened)
    (ht : s.loc.sealTamper = false) :
    exec (.keyChange (List.replicate 102 false)) s = .next (s.keyTaken false).sealTamperOnset := by
  have hcount := Filter.count_takes (x := false) (by decide) (by simp [hl]) hr hnow hdue
  have hbegins : (s.loc.keyF.on && !(Filter.takenAt false s.now).on && decide (s.loc.sealState = some .opened) &&
      !s.loc.sealTamper) = true := by
    rw [Filter.on_of_level hl, Filter.on_takenAt, hseal, ht]; rfl
  show execKeyChange _ s = _
  simp only [execKeyChange, hcount, if_pos hbegins]
  rfl

theorem exec_armed_on (hl : s.loc.armF.level = some false) (hr : s.loc.armF.run = 0) (hnow : s.now % 32 = 1)
    (hdue : 32 ≤ samplesBetween s.loc.armF.at_ s.now) :
    exec (.armed (List.replicate 32 true)) s = .next ((s.armTaken true).journal 0x15 1) := by
  have hcount := Filter.count_takes (x := true) (by decide) (by simp [hl]) hr hnow hdue
  have hon : s.loc.armF.on = false := Filter.on_of_level hl
  have hnew : ¬ (Filter.takenAt true s.now).level = s.loc.armF.level := by simp [Filter.takenAt, hl]
  show execArmed _ s = _
  simp only [execArmed, hcount, if_neg hnew, Filter.on_takenAt, hon, bit, Bool.false_eq_true, if_true, if_false]
  rfl

theorem exec_armed_off (hl : s.loc.armF.level = some true) (hr : s.loc.armF.run = 0) (hnow : s.now % 32 = 1)
    (hdue : 32 ≤ samplesBetween s.loc.armF.at_ s.now) :
    exec (.armed (List.replicate 32 false)) s =
      .next ((((s.armTaken false).journal 0x15 0).silenceNow 1).settle) := by
  have hcount := Filter.count_takes (x := false) (by decide) (by simp [hl]) hr hnow hdue
  have hon : s.loc.armF.on = true := Filter.on_of_level hl
  have hnew : ¬ (Filter.takenAt false s.now).level = s.loc.armF.level := by simp [Filter.takenAt, hl]
  show execArmed _ s = _
  simp only [execArmed, hcount, if_neg hnew, Filter.on_takenAt, hon, bit, Bool.false_eq_true, if_true, if_false]
  rfl

theorem exec_wake (hl : s.loc.wakeF.level = some false) (hr : s.loc.wakeF.run = 0) (hnow : s.now % 32 = 1)
    (hdue : 32 ≤ samplesBetween s.loc.wakeF.at_ s.now) :
    exec (.wake (List.replicate 32 true)) s = .next ((s.wakeTaken true).raised 0x18 1) := by
  have hcount := Filter.count_takes (x := true) (by decide) (by simp [hl]) hr hnow hdue
  have hon : s.loc.wakeF.on = false := Filter.on_of_level hl
  show execWake _ s = _
  simp only [execWake, hcount, Filter.on_takenAt, hon, State.raise_none, Bool.not_false, Bool.and_self, if_true]
  rfl

theorem exec_wakenDeasserted (hl : s.loc.wakeF.level = some true) (hr : s.loc.wakeF.run = 0) (hnow : s.now % 32 = 1)
    (hdue : 32 ≤ samplesBetween s.loc.wakeF.at_ s.now) (hm : s.dev.mode = .sand) :
    exec (.wakenDeasserted (List.replicate 32 false)) s = .next ((s.wakeTaken false).journal 0x18 0).loadHold := by
  have hcount := Filter.count_takes (x := false) (by decide) (by simp [hl]) hr hnow hdue
  have hon : s.loc.wakeF.on = true := Filter.on_of_level hl
  show execWakenDeasserted _ s = _
  simp only [execWakenDeasserted, hcount, Filter.on_takenAt, hon, hm, Bool.not_false, Bool.and_self, if_true]
  rfl

theorem exec_silence (hl : s.loc.silF.level = some false) (hr : s.loc.silF.run = 0) (hnow : s.now % 32 = 1)
    (hdue : 102 ≤ samplesBetween s.loc.silF.at_ s.now) :
    exec (.silence (List.replicate 102 true)) s = .next (((s.silTaken true).silenceNow 0).settle) := by
  have hcount := Filter.count_takes (x := true) (by decide) (by simp [hl]) hr hnow hdue
  have hon : s.loc.silF.on = false := Filter.on_of_level hl
  show execSilence _ s = _
  simp only [execSilence, hcount, Filter.on_takenAt, hon, Bool.not_false, Bool.and_self, if_true]
  rfl

theorem exec_silencenDeasserted (hl : s.loc.silF.level = some true) (hr : s.loc.silF.run = 0) (hnow : s.now % 32 = 1)
    (hdue : 102 ≤ samplesBetween s.loc.silF.at_ s.now) :
    exec (.silencenDeasserted (List.replicate 102 false)) s = .next (s.silTaken false) := by
  have hcount := Filter.count_takes (x := false) (by decide) (by simp [hl]) hr hnow hdue
  show execSilencenDeasserted _ s = _
  simp only [execSilencenDeasserted, hcount, Filter.on_takenAt]
  rfl

end levels

/-- Settles O17: each input takes its level by its filter; then its entry, and what the edge sets going. -/
theorem levelInputs : Obligations.LevelInputs := by
  refine ⟨?_, ?_, ?_, ?_, ?_, ?_, ?_, ?_⟩
  · intro s hl hr hnow hdue
    exact ⟨_, exec_keyChange_fitted s hl hr hnow hdue, Filter.on_takenAt _ _, s.keyTaken_changes true⟩
  · intro s hl hr hnow hdue hseal ht
    obtain ⟨n, hloc⟩ := (s.keyTaken false).sealTamperOnset_loc
    refine ⟨_, exec_keyChange_removed s hl hr hnow hdue hseal ht, Filter.on_eq (congrArg Local.keyF hloc),
      congrArg Local.sealTamper hloc, congrArg Local.ackA hloc,
      fun ha hb => (s.keyTaken false).sealTamperOnset_accepted ha hb, ?_⟩
    exact ((s.keyTaken_changes false).mono (by decide)).trans ((State.sealTamperOnset_changes _).mono (by decide))
  · intro s hl hr hnow hdue
    have htaken := s.armTaken_changes true
    refine ⟨_, exec_armed_on s hl hr hnow hdue, Filter.on_eq (congrArg Local.armF (State.journal_loc _ 0x15 1)), fun h => ?_,
      htaken.then_journal (by decide) 0x15 1⟩
    exact (State.journal_logs ((htaken.takesEntry (by decide) (by decide) 0x15).mpr h) 1).within htaken (.refl [] _)
      (by decide) (by decide)
  · intro s hl hr hnow hdue
    have hexec := exec_armed_off s hl hr hnow hdue
    have hentry := (s.armTaken_changes false).then_journal (by decide) 0x15 0
    have hloc := (s.armTaken false).journal_loc 0x15 0
    generalize (s.armTaken false).journal 0x15 0 = u at *
    have hbead : u.bead = s.bead := hentry.wiring_entry .beads (by decide)
    have halm : u.loc.alm = s.loc.alm := by rw [hloc]; rfl
    obtain ⟨houtputs, hlatched, hc⟩ := u.silence_settle_spec 1
    refine ⟨_, hexec, Filter.on_eq ((congrArg Local.armF houtputs).trans (congrArg Local.armF hloc)), fun o hmap ho => ?_,
      ChangesOnly.then_journalling (by decide) (hentry.widen (by decide)) hc⟩
    refine hlatched o ?_ ?_
    · rw [State.eff, hbead]; exact hmap
    · rw [halm, hentry.wiring_entry.now (by decide)]; exact ho
  · intro s hl hr hnow hdue
    have htaken := s.wakeTaken_changes true
    have hafter := (s.wakeTaken true).raised_changes 0x18 1
    have hloc : ((s.wakeTaken true).raised 0x18 1).loc = (s.wakeTaken true).loc :=
      (hafter .wiring (by decide)).trans (State.journal_loc _ _ _)
    refine ⟨_, exec_wake s hl hr hnow hdue, Filter.on_eq (congrArg Local.wakeF hloc), fun h => ?_, ?_⟩
    · exact (State.journal_logs ((htaken.takesEntry (by decide) (by decide) 0x18).mpr h) 1).within htaken hafter
        (by decide) (by decide)
    · exact ((htaken.mono (by decide)).trans ((State.journal_le _ 0x18 1).mono (by decide))).trans (hafter.mono (by decide))
  · intro s hl hr hnow hdue hm
    have htaken := s.wakeTaken_changes false
    have hentry := (htaken.then_journal (by decide) 0x18 0).widen (qs := [.device, .beads, .wiring]) (by decide)
    have hload := ((s.wakeTaken false).journal 0x18 0).loadHold_changes
    have hbead : ((s.wakeTaken false).journal 0x18 0).bead = s.bead := (s.wakeTaken false).journal_le 0x18 0 .beads (by decide)
    have hclock : ((s.wakeTaken false).journal 0x18 0).now = s.now := ((s.wakeTaken false).journal_le 0x18 0).now (by decide)
    have hloc : (((s.wakeTaken false).journal 0x18 0).loadHold).loc = (s.wakeTaken false).loc :=
      (hload .wiring (by decide)).trans (State.journal_loc _ _ _)
    refine ⟨_, exec_wakenDeasserted s hl hr hnow hdue hm, Filter.on_eq (congrArg Local.wakeF hloc), ?_, fun h => ?_,
      hentry.more hload (by decide)⟩
    · rw [State.loadHold_dev]
      exact s.holdLoad_of_bead hbead hclock
    · exact (State.journal_logs ((htaken.takesEntry (by decide) (by decide) 0x18).mpr h) 0).within htaken hload
        (by decide) (by decide)
  · intro s hl hr hnow hdue
    obtain ⟨houtputs, hlatched, hc⟩ := (s.silTaken true).silence_settle_spec 0
    refine ⟨_, exec_silence s hl hr hnow hdue, congrArg (fun l => l.silF.level) houtputs, hlatched, ?_⟩
    have hj : (s.silTaken true).journalling = s.journalling := (s.silTaken_changes true).journalling (by decide)
    rw [hj] at hc
    exact ((s.silTaken_changes true).mono (by simp)).trans hc
  · intro s hl hr hnow hdue
    exact exec_silencenDeasserted s hl hr hnow hdue

end Sys2Proof.Machine

namespace Sys2Proof.Machine

/-! What follows from a new state of the field wiring: entries, triggers, tallies and alarm outputs (§3.3, §3.4, §3.7). -/

/-- The parts that a supervision shot's readings can change beside the beads. -/
def shotParts : List Part :=
  [.device, .wiring, .pathTallies, .deviceTallies, .journal, .tallyRest, .fabric, .twin, .head]

theorem Local.OutputsOnly.supRun {a b : Local} (h : a.OutputsOnly b) : b.supRun = a.supRun := (congrArg Local.supRun h :)
theorem Local.OutputsOnly.dref {a b : Local} (h : a.OutputsOnly b) : b.dref = a.dref := (congrArg Local.dref h :)

/-- Between two states only alarms were raised: of the wiring the outputs changed, and the lease is held as before. -/
structure Alarmed (s t : State) : Prop where
  outputs : s.loc.OutputsOnly t.loc
  holding : t.twin.holding = s.twin.holding
  changes : ChangesOnly shotParts s t

namespace Alarmed
variable {s t u : State}

theorem refl (s : State) : Alarmed s s := ⟨rfl, rfl, .refl _ s⟩

theorem trans (h : Alarmed s t) (k : Alarmed t u) : Alarmed s u :=
  ⟨h.outputs.trans k.outputs, k.holding.trans h.holding, h.changes.trans k.changes⟩

theorem foldl {α : Type} {f : State → α → State} (h : ∀ s a, Alarmed s (f s a)) (l : List α) (s : State) :
    Alarmed s (l.foldl f s) := by
  induction l generalizing s with
  | nil => exact .refl s
  | cons a l ih => exact (h s a).trans (ih (f s a))

/-- An operation that leaves the wiring and the twin. -/
theorem of_changes {ps : List Part} (h : ChangesOnly ps s t) (hw : Part.wiring ∉ ps) (ht : Part.twin ∉ ps)
    (hps : ps ⊆ shotParts) : Alarmed s t := by
  have hloc : t.loc = s.loc := h .wiring hw
  have htwin : t.twin = s.twin := h .twin ht
  exact ⟨by rw [hloc]; rfl, congrArg Twin.holding htwin, h.mono hps⟩

end Alarmed

section alarms
variable (s : State)

/-- An entry does not move the lease. -/
theorem State.journal_holding (code data : Nat) : (s.journal code data).twin.holding = s.twin.holding := by
  obtain ⟨t, ht, h⟩ := s.journal_entered code data
  obtain ⟨own, htwin⟩ := ht.twin
  rcases h with h | ⟨k, l, h⟩
  · rw [h, htwin]
  · obtain ⟨n, u, a, hsent⟩ := t.sendMirror_twin k l
    rw [h, hsent, htwin]

theorem State.journal_alarmed (code data : Nat) : Alarmed s (s.journal code data) :=
  ⟨by rw [State.journal_loc]; rfl, s.journal_holding code data, (s.journal_le code data).mono (by decide)⟩

theorem State.raise_alarmed (k : TriggerKind) (code data : Nat) : Alarmed s (s.raise (some k) code data) :=
  ((s.journal_alarmed code data).trans (.of_changes (s.raised_changes code data) (by decide) (by decide) (by decide))).trans
    (.of_changes (s.raise_some_changes k code data) (by decide) (by decide) (by decide))

theorem State.stateChanged_alarmed : Alarmed s s.stateChanged := by
  refine ⟨by rw [State.stateChanged_loc]; rfl, ?_, s.stateChanged_changes.mono (by decide)⟩
  unfold State.stateChanged
  split <;> rfl

theorem State.onset_alarmed (c : Cond) : Alarmed s (s.onset c) := by
  have hset : Alarmed s { s with loc := { s.loc with alm := Vector.ofFn fun o => s.outputOnset c o } } :=
    ⟨rfl, rfl, (changes_loc s _).mono (by decide)⟩
  exact hset.trans (State.stateChanged_alarmed _)

/-- The tally of tailgating events is counted outside a clean (R248). -/
def State.tailCounted (s : State) (p : PathNo) : State :=
  if s.tal.cleaning then s else { s with tal := { s.tal with
    path := s.tal.path.set p { s.tal.path[p] with
      count := (s.tal.path[p]).count.set 3 ((s.tal.path[p]).count[3] + 1), dirty := true } } }

theorem State.tailCounted_changes (p : PathNo) : ChangesOnly [.pathTallies] s (s.tailCounted p) :=
  ChangesOnly.ite (.refl _ s) (changes_pathTallies s _)

/-- TAILGATE raised. -/
def State.tailRaised (s : State) (p : PathNo) (z : ZoneNo) : State :=
  (s.tailCounted p).raise (some .passagePolicy) 0x33 (p.val * 4096 + z.val * 256 + 128 * bit s.armedNow)

theorem State.tailgate_eq (p : PathNo) (z : ZoneNo) :
    s.tailgate p z = if s.armedNow then (s.tailRaised p z).onset .int else s.tailRaised p z := by rfl

theorem State.tailgate_alarmed (p : PathNo) (z : ZoneNo) : Alarmed s (s.tailgate p z) := by
  have hraised : Alarmed s (s.tailRaised p z) :=
    (Alarmed.of_changes (s.tailCounted_changes p) (by decide) (by decide) (by decide)).trans (State.raise_alarmed _ _ _ _)
  rw [State.tailgate_eq]
  split
  · exact hraised.trans (State.onset_alarmed _ _)
  · exact hraised

end alarms
end Sys2Proof.Machine

namespace Sys2Proof.Machine

/-! One zone and its readings (R113 to R115). -/

/-- What the wiring keeps of a zone: its state, the state that is counted, the count, and the onsets. -/
def Local.ofZone (l : Local) (z : ZoneNo) : Option Zone × Option Zone × Nat × BitVec 32 :=
  (l.zone[z], l.zoneCand[z], l.zoneRun[z], l.onsets[z])

theorem Local.OutputsOnly.ofZone {a b : Local} (h : a.OutputsOnly b) (z : ZoneNo) : b.ofZone z = a.ofZone z :=
  (congrArg (fun l : Local => l.ofZone z) h :)

/-- A reading at what is kept of a zone: the third of three equal ones gives its state, which counts as an onset but for
NORMAL (R114). -/
def zoneNext (x : Zone) (v : Option Zone × Option Zone × Nat × BitVec 32) : Option Zone × Option Zone × Nat × BitVec 32 :=
  if v.1 = some x then (v.1, some x, 0, v.2.2.2)
  else
    let run := if v.2.1 = some x then v.2.2.1 + 1 else 1
    if 3 ≤ run then (some x, some x, 0, if x = .normal then v.2.2.2 else v.2.2.2 + 1) else (v.1, some x, run, v.2.2.2)

/-- The wiring with a zone's new state and its onset. -/
def Local.zoneTaken (l : Local) (z : ZoneNo) (x : Zone) : Local :=
  { l with
    zone := l.zone.set z (some x)
    onsets := if x = .normal then l.onsets else l.onsets.set z (l.onsets[z] + 1) }

section zones
variable (s : State)

theorem State.looseAfter_changes (z : ZoneNo) (x : Zone) : ChangesOnly [.pathTallies] s (s.looseAfter z x) := by
  unfold State.looseAfter; split
  · exact ChangesOnly.ite (changes_pathTallies s _) (.refl _ s)
  · exact .refl _ s

/-- A zone's new state with its openings, before its entry. -/
def State.zonePut (s : State) (z : ZoneNo) (x : Zone) : State :=
  { s.looseAfter z x with
    loc := { (s.looseAfter z x).loc with
      zone := s.loc.zone.set z (some x)
      onsets := if x = .normal then s.loc.onsets else s.loc.onsets.set z (s.loc.onsets[z] + 1) }
    tal := { (s.looseAfter z x).tal with openings := s.openingsAfter z x } }

theorem State.zonePut_loc (z : ZoneNo) (x : Zone) : (s.zonePut z x).loc = s.loc.zoneTaken z x := by
  have hloc : (s.looseAfter z x).loc = s.loc := s.looseAfter_changes z x .wiring (by decide)
  simp only [State.zonePut, hloc, Local.zoneTaken]

theorem State.zonePut_changes (z : ZoneNo) (x : Zone) : ChangesOnly shotParts s (s.zonePut z x) := by
  have htal : ChangesOnly [.tallyRest] (s.looseAfter z x)
      { s.looseAfter z x with tal := { (s.looseAfter z x).tal with openings := s.openingsAfter z x } } := by
    intro q hq; cases q <;> simp_all [Part.same, Mov.restSame]
  have hloc : ChangesOnly [.wiring] _ (s.zonePut z x) := changes_loc
    { s.looseAfter z x with tal := { (s.looseAfter z x).tal with openings := s.openingsAfter z x } } _
  exact (((s.looseAfter_changes z x).mono (by decide)).trans (htal.mono (by decide))).trans (hloc.mono (by decide))

theorem State.zonePut_holding (z : ZoneNo) (x : Zone) : (s.zonePut z x).twin.holding = s.twin.holding :=
  congrArg Twin.holding (s.looseAfter_changes z x .twin (by decide))

/-- After a zone has its new state, only alarms follow. -/
theorem State.zoneAccept_alarmed (z : ZoneNo) (x : Zone) : Alarmed (s.zonePut z x) (s.zoneAccept z x) := by
  unfold State.zoneAccept
  extract_lets data u l w s1 s2 s3
  have h1 : s1 = s.zonePut z x := rfl
  have h2 : Alarmed s1 s2 := by
    unfold s2; split
    · exact s1.journal_alarmed _ _
    · exact s1.raise_alarmed _ _ _
  have h3 : Alarmed s2 s3 := by
    unfold s3; split
    · exact s2.tailgate_alarmed _ _
    · exact .refl s2
  rw [← h1]
  exact ((h2.trans h3).trans (Alarmed.foldl State.onset_alarmed _ s3)).trans (State.stateChanged_alarmed _)

/-- Between two states readings of a shot were taken: what the shot is and the reference difference stay. -/
structure ShotReading (s t : State) : Prop where
  run : t.loc.supRun = s.loc.supRun
  ref : t.loc.dref = s.loc.dref
  changes : ChangesOnly shotParts s t

theorem ShotReading.trans {s t u : State} (h : ShotReading s t) (k : ShotReading t u) : ShotReading s u :=
  ⟨k.run.trans h.run, k.ref.trans h.ref, h.changes.trans k.changes⟩

/-- A reading of a zone does not move the lease, on which the next zone's rests. -/
structure ZoneReading (s t : State) : Prop extends ShotReading s t where
  holding : t.twin.holding = s.twin.holding

theorem ZoneReading.refl (s : State) : ZoneReading s s := ⟨⟨rfl, rfl, .refl _ s⟩, rfl⟩

theorem ZoneReading.trans {s t u : State} (h : ZoneReading s t) (k : ZoneReading t u) : ZoneReading s u :=
  ⟨h.toShotReading.trans k.toShotReading, k.holding.trans h.holding⟩

/-- The wiring with the reading counted, before a state is accepted. -/
def Local.zoneCounted (l : Local) (z : ZoneNo) (x : Zone) (run : Nat) : Local :=
  { l with zoneCand := l.zoneCand.set z (some x), zoneRun := l.zoneRun.set z run }

theorem State.zoneCounted_changes (z : ZoneNo) (x : Zone) (run : Nat) :
    ChangesOnly shotParts s { s with loc := s.loc.zoneCounted z x run } := (changes_loc s _).mono (by decide)

/-- The run of equal readings with a further one. -/
def Local.zoneRunWith (l : Local) (z : ZoneNo) (x : Zone) : Nat := if l.zoneCand[z] = some x then l.zoneRun[z] + 1 else 1

/-- The three outcomes of a reading: the state that the zone has, a new one counted, or a new one accepted (R114). -/
theorem State.zoneRead_cases (z : ZoneNo) (x : Zone) :
    (s.loc.zone[z] = some x ∧ s.zoneRead z x = { s with loc := s.loc.zoneCounted z x 0 }) ∨
    (s.loc.zone[z] ≠ some x ∧ s.loc.zoneRunWith z x < 3 ∧
      s.zoneRead z x = { s with loc := s.loc.zoneCounted z x (s.loc.zoneRunWith z x) }) ∨
    (s.loc.zone[z] ≠ some x ∧ 3 ≤ s.loc.zoneRunWith z x ∧
      s.zoneRead z x = ({ s with loc := s.loc.zoneCounted z x 0 } : State).zoneAccept z x) := by
  by_cases hsame : s.loc.zone[z] = some x
  · exact .inl ⟨hsame, by rw [State.zoneRead, if_pos hsame]; rfl⟩
  · by_cases hrun : 3 ≤ s.loc.zoneRunWith z x
    · refine .inr (.inr ⟨hsame, hrun, ?_⟩)
      have hrun' : 3 ≤ if s.loc.zoneCand[z] = some x then s.loc.zoneRun[z] + 1 else 1 := hrun
      simp only [State.zoneRead, if_neg hsame, if_pos hrun', Local.zoneCounted]
    · refine .inr (.inl ⟨hsame, by omega, ?_⟩)
      have hrun' : ¬ 3 ≤ if s.loc.zoneCand[z] = some x then s.loc.zoneRun[z] + 1 else 1 := hrun
      simp only [State.zoneRead, if_neg hsame, if_neg hrun', Local.zoneCounted, Local.zoneRunWith]

theorem State.zoneRead_reading (z : ZoneNo) (x : Zone) : ZoneReading s (s.zoneRead z x) := by
  have counted (n : Nat) : ZoneReading s { s with loc := s.loc.zoneCounted z x n } :=
    ⟨⟨rfl, rfl, s.zoneCounted_changes z x n⟩, rfl⟩
  rcases s.zoneRead_cases z x with ⟨-, h⟩ | ⟨-, -, h⟩ | ⟨-, -, h⟩
  · rw [h]; exact counted 0
  · rw [h]; exact counted _
  · rw [h]
    obtain ⟨⟨-, -, hc⟩, -⟩ := counted 0
    generalize hu : ({ s with loc := s.loc.zoneCounted z x 0 } : State) = u at *
    have hloc : u.loc = s.loc.zoneCounted z x 0 := by rw [← hu]
    have htwin : u.twin = s.twin := by rw [← hu]
    obtain ⟨houtputs, hholding, hafter⟩ := u.zoneAccept_alarmed z x
    refine ⟨⟨?_, ?_, (hc.trans (u.zonePut_changes z x)).trans hafter⟩, ?_⟩
    · rw [houtputs.supRun, u.zonePut_loc, hloc]; rfl
    · rw [houtputs.dref, u.zonePut_loc, hloc]; rfl
    · rw [hholding, u.zonePut_holding, htwin]

theorem Local.zoneCounted_ofZone (l : Local) (z : ZoneNo) (x : Zone) (n : Nat) (j : ZoneNo) :
    (l.zoneCounted z x n).ofZone j = if j = z then (l.zone[z], some x, n, l.onsets[z]) else l.ofZone j := by
  by_cases hj : j = z
  · subst hj; simp [Local.ofZone, Local.zoneCounted]
  · have hv : z.val ≠ j.val := fun e => hj (Fin.ext e.symm)
    simp [Local.ofZone, Local.zoneCounted, hj, hv]

theorem Local.zoneTaken_ofZone (l : Local) (z : ZoneNo) (x : Zone) (j : ZoneNo) :
    (l.zoneTaken z x).ofZone j =
      if j = z then (some x, l.zoneCand[z], l.zoneRun[z], if x = .normal then l.onsets[z] else l.onsets[z] + 1)
      else l.ofZone j := by
  by_cases hj : j = z
  · subst hj
    by_cases hx : x = .normal <;> simp [Local.ofZone, Local.zoneTaken, hx]
  · have hv : z.val ≠ j.val := fun e => hj (Fin.ext e.symm)
    by_cases hx : x = .normal <;> simp [Local.ofZone, Local.zoneTaken, hj, hv, hx]

theorem zoneNext_accepts {l : Local} {z : ZoneNo} {x : Zone} (hnew : l.zone[z] ≠ some x) (hrun : 3 ≤ l.zoneRunWith z x) :
    zoneNext x (l.ofZone z) = (some x, some x, 0, if x = .normal then l.onsets[z] else l.onsets[z] + 1) :=
  (if_neg hnew).trans (if_pos hrun)

/-- A reading of a zone is counted there, and at no other zone. -/
theorem State.zoneRead_ofZone (z : ZoneNo) (x : Zone) (j : ZoneNo) :
    (s.zoneRead z x).loc.ofZone j = if j = z then zoneNext x (s.loc.ofZone z) else s.loc.ofZone j := by
  rcases s.zoneRead_cases z x with ⟨hsame, h⟩ | ⟨hnew, hrun, h⟩ | ⟨hnew, hrun, h⟩
  · have hnext : zoneNext x (s.loc.ofZone z) = (s.loc.zone[z], some x, 0, s.loc.onsets[z]) := if_pos hsame
    rw [h, hnext]
    exact Local.zoneCounted_ofZone ..
  · have hnext : zoneNext x (s.loc.ofZone z) = (s.loc.zone[z], some x, s.loc.zoneRunWith z x, s.loc.onsets[z]) :=
      (if_neg hnew).trans (if_neg (Nat.not_le.mpr hrun))
    rw [h, hnext]
    exact Local.zoneCounted_ofZone ..
  · have htaken := (State.zoneAccept_alarmed { s with loc := s.loc.zoneCounted z x 0 } z x).outputs.ofZone j
    rw [h, zoneNext_accepts hnew hrun, htaken, State.zonePut_loc, Local.zoneTaken_ofZone]
    split
    · simp [Local.zoneCounted]
    · rw [Local.zoneCounted_ofZone, if_neg ‹_›]

end zones
end Sys2Proof.Machine

namespace Sys2Proof.Machine

/-! The end of a supervision shot (R103, R104, R107 to R115, R127). -/

section shots
variable (s : State)

/-- One zone of a shot: a zone in use is read, at a unit that drives the field wiring (R547). -/
def State.zoneShot (s : State) (m : ZoneNo → SupReading) (z : ZoneNo) : State :=
  if s.drives && (s.zoneKind z).isSome then s.zoneRead z (zoneClassify (s.eff 36 (zonePart z)) (m z)) else s

/-- The zones of a shot. -/
def State.zonesShot (s : State) (m : ZoneNo → SupReading) : State := allZones.foldl (fun t z => t.zoneShot m z) s

theorem State.zoneShot_reading (m : ZoneNo → SupReading) (z : ZoneNo) : ZoneReading s (s.zoneShot m z) := by
  unfold State.zoneShot; split
  · exact s.zoneRead_reading z _
  · exact .refl s

theorem State.zonesShot_reading (m : ZoneNo → SupReading) : ZoneReading s (s.zonesShot m) := by
  unfold State.zonesShot
  induction allZones generalizing s with
  | nil => exact .refl s
  | cons z l ih => exact (s.zoneShot_reading m z).trans (ih _)

/-- Whether a zone is read, and its class, rest on the beads and the lease. -/
theorem State.zoneShot_congr {t : State} (hb : t.bead = s.bead) (hh : t.twin.holding = s.twin.holding) (z : ZoneNo) :
    (t.drives && (t.zoneKind z).isSome) = (s.drives && (s.zoneKind z).isSome) ∧
      t.eff 36 (zonePart z) = s.eff 36 (zonePart z) := by
  have hrole : t.trole = s.trole := by simp only [State.trole, State.eff, hb]
  have hkind : t.zoneKind z = s.zoneKind z := by simp only [State.zoneKind, State.eff, hb]
  refine ⟨?_, by simp only [State.eff, hb]⟩
  rw [State.drives, State.drives, hrole, hh, hkind]

/-- The zones of a shot do not depend on each other. -/
theorem State.zonesShot_ofZone (m : ZoneNo → SupReading) (z : ZoneNo) : (s.zonesShot m).loc.ofZone z =
    if s.drives && (s.zoneKind z).isSome then zoneNext (zoneClassify (s.eff 36 (zonePart z)) (m z)) (s.loc.ofZone z)
    else s.loc.ofZone z := by
  refine foldl_finRange (fun t (z : ZoneNo) => t.loc.ofZone z)
    (fun z v => if s.drives && (s.zoneKind z).isSome then zoneNext (zoneClassify (s.eff 36 (zonePart z)) (m z)) v else v)
    (fun t => t.bead = s.bead ∧ t.twin.holding = s.twin.holding) (fun t z ⟨hb, hh⟩ => ?_) (fun t z j ⟨hb, hh⟩ => ?_) s
    ⟨rfl, rfl⟩ z
  · have hread := t.zoneShot_reading m z
    have hbead : (t.zoneShot m z).bead = t.bead := hread.changes .beads (by decide)
    exact ⟨hbead.trans hb, hread.holding.trans hh⟩
  · obtain ⟨hused, hclass⟩ := s.zoneShot_congr hb hh z
    simp only [State.zoneShot, hused, hclass]
    split
    · exact t.zoneRead_ofZone z _ j
    · split
      · subst j; rfl
      · rfl

theorem Alarmed.shotReading {s t : State} (h : Alarmed s t) : ShotReading s t :=
  ⟨h.outputs.supRun, h.outputs.dref, h.changes⟩

/-- A change of the wiring beside the shot and the reference difference. -/
theorem ShotReading.of_loc {l : Local} (hr : l.supRun = s.loc.supRun) (hd : l.dref = s.loc.dref) :
    ShotReading s { s with loc := l } := ⟨hr, hd, (changes_loc s l).mono (by decide)⟩

theorem State.sealTamperOnset_reading : ShotReading s s.sealTamperOnset := by
  obtain ⟨n, hloc⟩ := s.sealTamperOnset_loc
  exact ⟨hloc.supRun, hloc.dref, s.sealTamperOnset_changes.mono (by decide)⟩

theorem State.ackGreen_reading (a : Ack) (n : Option Ack) : ShotReading s (s.ackGreen a n) := .of_loc s rfl rfl

theorem State.sealAccept_reading (x : Seal) : ShotReading s (s.sealAccept x) := by
  unfold State.sealAccept
  extract_lets l s1 cond tamper l1 s2 s3
  have h1 : ShotReading s s1 := .of_loc s rfl rfl
  split
  · exact h1.trans s1.sealTamperOnset_reading
  · have h2 : ShotReading s1 s2 := .of_loc s1 rfl rfl
    have h3 : ShotReading s s3 := (h1.trans h2).trans (s2.journal_alarmed _ _).shotReading
    refine ShotReading.trans ?_ (State.stateChanged_alarmed _).shotReading
    split
    · exact h3.trans (s3.ackGreen_reading _ _)
    · exact h3

theorem State.sealRead_reading (x : Seal) : ShotReading s (s.sealRead x) := by
  unfold State.sealRead; split
  · exact .of_loc s rfl rfl
  · extract_lets run l s1
    have h1 : ShotReading s s1 := .of_loc s rfl rfl
    split
    · exact h1.trans (s1.sealAccept_reading x)
    · exact h1

/-- A good reference is taken, and REFRESH ends (R104). -/
theorem State.refreshRef_ok {b : PinMeasure} {d : Nat} (h : brefDelta b = .ok d) : s.refreshRef b =
    { s with loc := { s.loc with dref := some d }, bead := { s.bead with brefRefresh := false } } := by
  simp only [State.refreshRef, h]

/-- A failing one sets REFRESH and keeps the wiring (R104). -/
theorem State.refreshRef_error {b : PinMeasure} {c : BitVec 2} (h : brefDelta b = .error c) :
    ChangesOnly [.beads, .journal, .deviceTallies, .fabric, .twin] s (s.refreshRef b) := by
  have hset : ChangesOnly [.beads, .journal, .deviceTallies, .fabric, .twin] s
      { s with bead := { s.bead with brefRefresh := true, brefRefreshCause := c } } := (changes_bead s _).mono (by decide)
  simp only [State.refreshRef, h]
  split
  · exact hset
  · exact hset.trans ((State.journal_le _ _ _).mono (by decide))

theorem State.refreshRef_spec (b : PinMeasure) : (s.refreshRef b).loc.supRun = s.loc.supRun ∧
    ChangesOnly [.wiring, .beads, .journal, .deviceTallies, .fabric, .twin] s (s.refreshRef b) := by
  cases h : brefDelta b with
  | ok d =>
    rw [s.refreshRef_ok h]
    have hloc := changes_loc s { s.loc with dref := some d }
    exact ⟨rfl, (hloc.mono (by decide)).trans ((changes_bead _ _).mono (by decide))⟩
  | error c =>
    have hc := s.refreshRef_error h
    exact ⟨congrArg Local.supRun (hc .wiring (by decide)), hc.mono (by decide)⟩

variable (r : SupShot) (bref : PinMeasure) (zs : Vector PinMeasure 4) (sm : SealMeasure)

/-- The shot in progress is over. -/
def State.shotOver (s : State) : State := { s with loc := { s.loc with supRun := none } }

/-- The shot over, with a new reference difference where it took one (R104). -/
def State.shotRef (s : State) (r : SupShot) (bref : PinMeasure) : State :=
  if r.withRef then s.shotOver.refreshRef (s.pin bref) else s.shotOver

/-- The zones of the shot, read by the reference difference in use. -/
def State.shotZones (s : State) (r : SupShot) (bref : PinMeasure) (zs : Vector PinMeasure 4) : State :=
  (s.shotRef r bref).zonesShot fun z => zoneMeasure (s.pin zs[z]) (s.shotRef r bref).refNow

/-- All readings of the shot taken. -/
def State.shotRead (s : State) (r : SupShot) (bref : PinMeasure) (zs : Vector PinMeasure 4) (sm : SealMeasure) : State :=
  if r.withSeal then (s.shotZones r bref zs).sealRead (sealClassify (s.sealPins sm) (s.shotRef r bref).refNow)
  else s.shotZones r bref zs

/-- A first shot has been evaluated (R127). -/
def State.shotMarked (s : State) : State := { s with dev := { s.dev with supDone := true } }

theorem State.shotMarked_loc : s.shotMarked.loc = s.loc := rfl

theorem exec_supervisionShotComplete (h : s.loc.supRun = some r) :
    exec (.supervisionShotComplete bref zs sm) s = .next ((s.shotRead r bref zs sm).shotMarked).settle := by
  show execSupervisionShotComplete bref zs sm s = _
  simp only [execSupervisionShotComplete, h]
  rfl

theorem State.shotOver_changes : ChangesOnly [.wiring] s s.shotOver := changes_loc s _

theorem State.shotRef_spec : (s.shotRef r bref).loc.supRun = none ∧
    ChangesOnly [.wiring, .beads, .journal, .deviceTallies, .fabric, .twin] s (s.shotRef r bref) := by
  have hover := s.shotOver_changes.mono (qs := [.wiring, .beads, .journal, .deviceTallies, .fabric, .twin]) (by decide)
  unfold State.shotRef
  split
  · obtain ⟨hrun, hc⟩ := s.shotOver.refreshRef_spec (s.pin bref)
    exact ⟨hrun, hover.trans hc⟩
  · exact ⟨rfl, hover⟩

theorem State.shotRead_reading : ShotReading (s.shotRef r bref) (s.shotRead r bref zs sm) := by
  have hzones : ShotReading (s.shotRef r bref) (s.shotZones r bref zs) := (State.zonesShot_reading _ _).toShotReading
  unfold State.shotRead
  split
  · exact hzones.trans (State.sealRead_reading _ _)
  · exact hzones

/-- What follows the readings: the mark, and the outputs brought up to date. -/
theorem State.shotSettled_reading : ShotReading s s.shotMarked.settle := by
  have hmark : ShotReading s s.shotMarked := ⟨rfl, rfl, (changes_dev s _).mono (by decide)⟩
  have houtputs := s.shotMarked.settle_outputs
  exact hmark.trans ⟨houtputs.supRun, houtputs.dref, (State.settle_changes _).mono (by decide)⟩

end shots

/-! The ends and limits of an output's activation (R123, R124, R613). -/

section activation
variable (s : State) (o : AlmOut)

theorem State.setAlm_alm (f : AlmSt → AlmSt) : (s.setAlm o f).stateChanged.loc.alm = s.loc.alm.set o (f s.loc.alm[o]) :=
  congrArg Local.alm (State.stateChanged_loc _)

theorem State.setAlm_stateChanged_changes (f : AlmSt → AlmSt) :
    ChangesOnly [.wiring, .twin] s (s.setAlm o f).stateChanged :=
  ((changes_loc s _).mono (by decide)).trans ((State.stateChanged_changes _).mono (by decide))

theorem State.onsetPast_of {t0 span : Nat} (h : (s.loc.alm[o]).onset = some t0) (ht : t0 + span ≤ s.now) :
    s.onsetPast o span = true := by
  simp only [State.onsetPast, h, decide_eq_true ht]

theorem exec_followOutputTimeout {t0 : Nat} (hm : (alarmMap (s.eff 7) o).2 = .follow) (ha : (s.loc.alm[o]).active = true)
    (ho : (s.loc.alm[o]).onset = some t0) (ht : t0 + 32768 ≤ s.now) (hp : s.followPresent o = false) :
    exec (.followOutputTimeout o) s = .next (s.setAlm o fun a => { a with active := false }).stateChanged :=
  occurs_of (by rw [hm, ha, hp, s.onsetPast_of o ho (span := tps) ht]; rfl)

theorem exec_latchCutOff {cut t0 : Nat} (hm : (alarmMap (s.eff 7) o).2 = .latched (some cut))
    (ha : (s.loc.alm[o]).active = true) (hc : (s.loc.alm[o]).cutAt = none) (ho : (s.loc.alm[o]).onset = some t0)
    (ht : t0 + cut ≤ s.now) :
    exec (.latchCutOff o) s = .next (s.setAlm o fun a => { a with active := false }).stateChanged := by
  refine occurs_of ?_
  simp only [ha, hm, hc, s.onsetPast_of o ho ht, Bool.and_self]

end activation

/-- Settles O18: a shot by its guard and its readings, a zone by its own readings alone, and an output by its activation. -/
theorem supervisionAndOutputs : Obligations.SupervisionAndOutputs := by
  refine ⟨?_, ?_, ?_, ?_, ?_, ?_⟩
  · intro s hon hrun hnext hready hfail hfault hhand hbusy hring
    have hdown : s.tdcDown = false := by simp [State.tdcDown, hfail, hfault]
    have hholds : s.handHolds = false := by simp [State.handHolds, hhand]
    refine (occurs_of ?_).trans ?_
    · rw [hon, hrun, hready, hdown, hholds, hbusy, hring, decide_eq_true hnext]; rfl
    · simp only [decide_eq_true_eq, tps]
  · intro s r bref zs sm hrun
    obtain ⟨hover, href⟩ := s.shotRef_spec r bref
    have hread := (s.shotRead_reading r bref zs sm).trans (State.shotSettled_reading _)
    have hexec := exec_supervisionShotComplete s r bref zs sm hrun
    have hdone : ((s.shotRead r bref zs sm).shotMarked).settle.dev.supDone = true :=
      congrArg Dev.supDone ((s.shotRead r bref zs sm).shotMarked.settle_changes .device (by decide))
    generalize ((s.shotRead r bref zs sm).shotMarked).settle = t at *
    have hbead : t.bead = (s.shotRef r bref).bead := hread.changes .beads (by decide)
    have hall : ChangesOnly (.beads :: shotParts) s t := (href.mono (by decide)).trans (hread.changes.mono (by decide))
    refine ⟨t, hexec, hread.run.trans hover, hdone, fun hw d hd => ?_, fun hw => ?_, hall .clocks (by decide),
      hall .cameras (by decide), hall .kiln (by decide), hall.mov (by decide) (by decide), hall .sounding (by decide),
      hall .monitor (by decide), hall .store (by decide), hall .writes (by decide), hall .pending (by decide)⟩
    · have htaken : s.shotRef r bref = _ := (if_pos hw).trans (s.shotOver.refreshRef_ok hd)
      rw [hread.ref, hbead, htaken]
      exact ⟨rfl, rfl⟩
    · have hkept : s.shotRef r bref = s.shotOver := if_neg (by simp [hw])
      rw [hread.ref, hkept]
      rfl
  · intro s r bref zs sm z x hrun hw hseal hdrives hkind hx hnew hcand hcount
    have hkept : s.shotRef r bref = s.shotOver := if_neg (by simp [hw])
    have hzones : s.shotRead r bref zs sm = s.shotZones r bref zs := if_neg (by simp [hseal])
    have hused : (s.shotOver.drives && (s.shotOver.zoneKind z).isSome) = true := by
      have hdrives' : s.shotOver.drives = true := hdrives
      have hkind' : (s.shotOver.zoneKind z).isSome = true := hkind
      rw [hdrives', hkind']; rfl
    have hclass : zoneClassify (s.shotOver.eff 36 (zonePart z)) (zoneMeasure (s.pin zs[z]) s.shotOver.refNow) = x := hx
    have hview : (s.shotZones r bref zs).loc.ofZone z = zoneNext x (s.loc.ofZone z) := by
      rw [State.shotZones, State.zonesShot_ofZone, hkept, if_pos hused, hclass]
      rfl
    have hthird : 3 ≤ s.loc.zoneRunWith z x := by rw [Local.zoneRunWith, if_pos hcand, hcount]
    have hfinal := (s.shotZones r bref zs).shotMarked.settle_outputs.ofZone z
    rw [State.shotMarked_loc, hview, zoneNext_accepts hnew hthird] at hfinal
    simp only [Local.ofZone, Prod.mk.injEq] at hfinal
    obtain ⟨hzone, -, -, honsets⟩ := hfinal
    have hexec := exec_supervisionShotComplete s r bref zs sm hrun
    rw [hzones] at hexec
    exact ⟨_, hexec, hzone, honsets⟩
  · intro s o t0 hm ha ho ht hp
    exact ⟨_, exec_followOutputTimeout s o hm ha ho ht hp, s.setAlm_alm o _, s.setAlm_stateChanged_changes o _⟩
  · intro s o cut t0 hm ha hc ho ht
    exact ⟨_, exec_latchCutOff s o hm ha hc ho ht, s.setAlm_alm o _, s.setAlm_stateChanged_changes o _⟩
  · intro s o ha hr
    refine (occurs_of ?_).trans rfl
    simp only [ha, hr, Bool.and_self]

end Sys2Proof.Machine

namespace Sys2Proof.Machine

/-! A guarded outcome, and an entry among other changes. -/

theorem occurs_either (g : Bool) (s t : State) : occurs g s t = .next t ∨ occurs g s t = .next s := by
  cases g
  · exact .inr rfl
  · exact .inl rfl

section entries
variable {rs : List Part} {s u t : State}

/-- Parts changed before an entry and after it: the entry is the only one, and it adds its own parts. -/
theorem ChangesOnly.entry {code data : Nat} (h : ChangesOnly rs s u) (k : ChangesOnly rs (u.journal code data) t)
    (hj : Part.journal ∉ rs) (hb : Part.beads ∉ rs) :
    (s.takesEntry code → LogsEntry s t code data) ∧ ChangesOnly (rs ++ s.journalling) s t :=
  ⟨fun htakes => (State.journal_logs ((h.takesEntry hj hb code).mpr htakes) data).within h k hj hj,
    (h.then_journal hb code data).trans (k.mono (List.subset_append_left _ _))⟩

/-- Parts changed, and then an entry where a condition holds. -/
theorem ChangesOnly.entry_if (h : ChangesOnly rs s u) (c : Prop) [Decidable c] (code data : Nat) (hj : Part.journal ∉ rs)
    (hb : Part.beads ∉ rs) :
    (c → s.takesEntry code → LogsEntry s (if c then u.journal code data else u) code data) ∧
      ChangesOnly (rs ++ s.journalling) s (if c then u.journal code data else u) := by
  split
  · obtain ⟨hlogs, hc⟩ := h.entry (.refl rs (u.journal code data)) hj hb
    exact ⟨fun _ => hlogs, hc⟩
  · exact ⟨fun hc => absurd hc ‹_›, h.with_journal⟩

/-- An entry leaves the clocks. -/
theorem State.journal_clk (s : State) (code data : Nat) : (s.journal code data).clk = s.clk :=
  s.journal_le code data .clocks (by decide)

end entries
end Sys2Proof.Machine

namespace Sys2Proof.Machine

/-! The sources of the AON clock (§4.1; R128 to R131). -/

section aonSource
variable (s : State)

/-- The AON domain run from the crystal, and a qualification ended with it (R130). -/
def State.onCrystal (s : State) : State :=
  { s.endQual with clk := { s.endQual.clk.withSource .crystal with x32Fail := false } }

/-- The AON domain run from the RC oscillator at a new failure of the crystal (R130). -/
def State.onRc (s : State) : State :=
  { s.endQual with clk := { s.endQual.clk.withSource .rc with
      x32Fail := true, winBad := false, x32Next := s.now + 64 * 32768 } }

theorem State.onCrystal_changes : ChangesOnly [.clocks] s s.onCrystal := changes_clk s _
theorem State.onRc_changes : ChangesOnly [.clocks] s s.onRc := changes_clk s _

variable {s}

theorem exec_crystalQualified {n t0 : Nat} (hsrc : s.clk.source = .rc) (hq : s.clk.qualBy = some t0) (ht : s.now ≤ t0)
    (hx : s.clk.xoReady = true) (hn : 4096 ≤ n) : exec (.crystalQualified n) s =
      .next (if s.clk.x32Fail = true then s.onCrystal.journal 0x20 0 else s.onCrystal) :=
  occurs_of (by simp [hsrc, hq, ht, hx, hn])

theorem exec_x32Fail_noEdge (hsrc : s.clk.source = .crystal) (hf : s.clk.x32Fail = false) :
    exec (.x32Fail .noEdge) s = .next (s.onRc.journal 0x20 1) := by
  have hbad : s.x32Bad .noEdge = true := decide_eq_true hsrc
  refine (occurs_of hbad).trans ?_
  simp only [hf, Bool.false_eq_true, if_false]
  rfl

end aonSource

/-! The stamp regressor's queue (§5.8; R139, R209). -/

section regressor
variable (s : State)

theorem State.regRequest_changes (j : RegJob) : ChangesOnly [.sounding] s (s.regRequest j) := by
  unfold State.regRequest; split
  · exact changes_tr s _
  · split
    · exact changes_tr s _
    · exact .refl _ s

theorem State.regRequest_free {j : RegJob} (h : s.tr.regJob = none) :
    s.regRequest j = { s with tr := { s.tr with regJob := some j, regAt := s.now } } := by
  simp only [State.regRequest, h]

theorem State.regRoom_eq : s.regRoom = (decide (s.tr.regJob = none) || decide (s.tr.regQueue.length < 4)) := by
  unfold State.regRoom
  cases s.tr.regJob <;> rfl

theorem State.askRefin_changes : ChangesOnly [.sounding] s s.askRefin :=
  ChangesOnly.ite (s.regRequest_changes .refin) (.refl _ s)

theorem State.regNext_changes : ChangesOnly [.sounding] s s.regNext := changes_tr s _

end regressor

/-! The trim windows (§4.1; R132, R133). -/

section trim
variable (s : State)

/-- A trim window begun (R133). -/
def State.windowOpened (s : State) : State :=
  { s with clk := { s.clk with
      win := some { second := decide (s.clk.source = .crystal) && decide (s.clk.winNo % 16 = 0), job := s.regRoom }
      winNo := s.clk.winNo + 1, winNext := s.clk.winNext + 8388608 } }

theorem State.windowOpened_changes : ChangesOnly [.clocks] s s.windowOpened := changes_clk s _

theorem exec_trimWindowStart {s : State} (hr : s.dev.released = true) (hw : s.clk.win = none) (hn : s.clk.winNext ≤ s.now) :
    exec .trimWindowStart s = .next ((s.windowOpened.demand .trim).regRequest .trim) :=
  occurs_of (by simp [hr, hw, hn])

/-- A trim window on the crystal with one gate and a good period trims it (R132). -/
theorem Clk.afterWindow_crystal {c : Clk} {x : Nat} (hsrc : c.source = .crystal) (hx : periodGood x = true) (b : Bool)
    (y : Option Nat) : c.afterWindow { second := false, job := b } (some x) y =
      { c with xTrim := trimOf x, trim := trimOf x, win := none } := by
  simp [Clk.afterWindow, Clk.withSource, hsrc, hx]

/-- A trim window on the RC oscillator trims it, whatever its period (R132). -/
theorem Clk.afterWindow_rc {c : Clk} {x : Nat} (hsrc : c.source = .rc) (b : Bool) (y : Option Nat) :
    c.afterWindow { second := false, job := b } (some x) y =
      { c with rcTrim := trimOf x, rcTrimmed := true, trim := trimOf x, win := none } := by
  simp [Clk.afterWindow, Clk.withSource, hsrc]

/-- A window without a result trims nothing. -/
theorem Clk.afterWindow_none (c : Clk) (w : TrimWindow) :
    ∃ k, c.afterWindow w none none = { c with trim := k, win := none } := by
  obtain ⟨second, job⟩ := w
  cases second <;> exact ⟨_, rfl⟩

/-- What a window makes of the measurement of one of its gates (R136, R138, R209). -/
def State.windowGot (s : State) (w : TrimWindow) (x : Option Nat) : Option Nat :=
  if w.job && s.clk.xoReady then x.map s.corrected else none

/-- A window ended: the trims, and the XO no longer demanded for it (R133, R135). -/
def State.windowClosed (s : State) (w : TrimWindow) (x y : Option Nat) : State :=
  ({ s with clk := s.clk.afterWindow w (s.windowGot w x) (s.windowGot w y) } : State).undemand .trim

/-- With a window its job ends, if it still runs (R209). -/
def State.windowEnded (s : State) (w : TrimWindow) (x y : Option Nat) : State :=
  if s.tr.regJob = some .trim then (s.windowClosed w x y).regNext.askRefin else s.windowClosed w x y

theorem State.windowEnded_changes (w : TrimWindow) (x y : Option Nat) :
    ChangesOnly [.clocks, .sounding] s (s.windowEnded w x y) := by
  have hclosed : ChangesOnly [.clocks] s (s.windowClosed w x y) := changes_clk s _
  refine ChangesOnly.ite ?_ (hclosed.mono (by decide))
  exact (hclosed.join (State.regNext_changes _)).trans ((State.askRefin_changes _).mono (by decide))

theorem State.windowEnded_clk (w : TrimWindow) (x y : Option Nat) :
    (s.windowEnded w x y).clk = (s.windowClosed w x y).clk := by
  unfold State.windowEnded
  split
  · exact (State.askRefin_changes _ .clocks (by decide)).trans (State.regNext_changes _ .clocks (by decide))
  · rfl

theorem State.windowEnded_tr {w : TrimWindow} {x y : Option Nat} (h : s.tr.regJob ≠ some .trim) :
    (s.windowEnded w x y).tr = s.tr := by
  rw [State.windowEnded, if_neg h]; rfl

variable {s}

/-- The clocks after a window with a result, beside the demands. -/
theorem State.windowEnded_got {c : Clk} {x : Nat} {y : Option Nat} (hx : s.clk.xoReady = true)
    (h : s.clk.afterWindow { second := false, job := true } (some (s.corrected x)) (y.map s.corrected) = c) :
    ∃ d, (s.windowEnded { second := false, job := true } (some x) y).clk = { c with demands := d } ∧ XoDemand.trim ∉ d := by
  have hclk := s.windowEnded_clk { second := false, job := true } (some x) y
  simp only [State.windowClosed, State.windowGot, hx, Bool.and_self, if_true, Option.map_some, h] at hclk
  exact ⟨_, hclk, by simp⟩

theorem exec_trimWindowEnd {w : TrimWindow} (hw : s.clk.win = some w) (x y : Option Nat) :
    exec (.trimWindowEnd x y) s = occurs (decide (s.clk.winNext - 8388608 + (if w.second then 4096 else 2048) ≤ s.now) &&
      !s.tr.regQueue.contains RegJob.trim && (s.clk.xoReady || s.clk.xoFail)) s (s.windowEnded w x y) := by
  show execTrimWindowEnd x y s = _
  simp only [execTrimWindowEnd, hw]
  rfl

theorem exec_trimWindowEnd_due {b : Bool} (hw : s.clk.win = some { second := false, job := b })
    (ht : s.clk.winNext - 8388608 + 2048 ≤ s.now) (hq : s.tr.regQueue.contains RegJob.trim = false)
    (hx : s.clk.xoReady = true) (x y : Option Nat) :
    exec (.trimWindowEnd x y) s = .next (s.windowEnded { second := false, job := b } x y) := by
  refine (exec_trimWindowEnd hw x y).trans (occurs_of ?_)
  rw [hq, hx]
  simpa using ht

end trim

/-- Settles O19: a source by the state on it, a window's start by what it requests and its end by the trim that it takes. -/
theorem aonClock : Obligations.AonClock := by
  refine ⟨?_, ?_, ?_, ?_, ?_, ?_, ?_, ?_⟩
  · intro s n t0 hsrc hq ht
    have hlate : ¬ s.now ≤ t0 := by omega
    exact occurs_of_not (by simp [hq, hlate])
  · intro s n t0 hsrc hq ht hx hn
    obtain ⟨hlogs, hc⟩ := s.onCrystal_changes.entry_if (s.clk.x32Fail = true) 0x20 0 (by decide) (by decide)
    have hclk : (if s.clk.x32Fail = true then s.onCrystal.journal 0x20 0 else s.onCrystal).clk = s.onCrystal.clk := by
      rw [apply_ite State.clk, State.journal_clk, ite_self]
    exact ⟨_, exec_crystalQualified hsrc hq ht hx hn, by rw [hclk]; rfl, by rw [hclk]; rfl, by rw [hclk]; rfl,
      by rw [hclk]; rfl, hlogs, hc⟩
  · intro s hsrc hf
    obtain ⟨hlogs, hc⟩ := s.onRc_changes.entry (.refl _ (s.onRc.journal 0x20 1)) (by decide) (by decide)
    have hclk := s.onRc.journal_clk 0x20 1
    exact ⟨_, exec_x32Fail_noEdge hsrc hf, by rw [hclk]; rfl, by rw [hclk]; rfl, by rw [hclk]; rfl, by rw [hclk]; rfl,
      hlogs, hc⟩
  · intro s hf hq hn
    have hset := changes_clk s { s.clk with qualBy := some (s.now + 2 * tps), x32Next := s.clk.x32Next + 64 * tps }
    obtain ⟨d, hclk⟩ := (State.demand_book { s with clk := { s.clk with
      qualBy := some (s.now + 2 * tps), x32Next := s.clk.x32Next + 64 * tps } } .qualify).clk
    exact ⟨_, occurs_of (by simp [hf, hq, hn]), by rw [hclk]; rfl, by rw [hclk]; rfl, State.demand_mem _ _,
      hset.trans (State.demand_changes _ _)⟩
  · intro s hr hw hn
    obtain ⟨d, hclk⟩ := (s.windowOpened.demand_book .trim).clk
    have hreq := (s.windowOpened.demand .trim).regRequest_changes .trim
    have hend := hreq .clocks (by decide)
    have htr : (s.windowOpened.demand .trim).tr = s.tr := State.demand_changes _ _ .sounding (by decide)
    refine ⟨_, exec_trimWindowStart hr hw hn, ?_, ?_, ?_, ?_, fun hfree => ?_,
      (s.windowOpened_changes.trans (State.demand_changes _ _)).join hreq⟩
    · rw [hend, hclk, ← s.regRoom_eq]; rfl
    · rw [hend, hclk]; rfl
    · rw [hend, hclk]; rfl
    · rw [hend]; exact State.demand_mem _ _
    · rw [State.regRequest_free _ (htr ▸ hfree)]
  · intro s x hw ht hq hx hsrc hgood
    obtain ⟨d, hclk, hd⟩ := State.windowEnded_got (y := none) hx (s.clk.afterWindow_crystal hsrc hgood true _)
    exact ⟨_, exec_trimWindowEnd_due hw ht hq hx _ _, by rw [hclk], by rw [hclk], by rw [hclk], by rw [hclk]; exact hd,
      fun hjob => s.windowEnded_tr hjob, s.windowEnded_changes _ _ _⟩
  · intro s x hw ht hq hx hsrc
    obtain ⟨d, hclk, -⟩ := State.windowEnded_got (x := x) (y := none) hx (Clk.afterWindow_rc hsrc true _)
    exact ⟨_, exec_trimWindowEnd_due hw ht hq hx _ _, by rw [hclk], by rw [hclk], by rw [hclk], by rw [hclk],
      fun hjob => s.windowEnded_tr hjob, s.windowEnded_changes _ _ _⟩
  · intro s w x y hw hjob
    have hnone (z : Option Nat) : s.windowGot w z = none := by simp [State.windowGot, hjob]
    obtain ⟨k, hafter⟩ := s.clk.afterWindow_none w
    have hclk := s.windowEnded_clk w x y
    simp only [State.windowClosed, hnone, hafter] at hclk
    rcases occurs_either _ s (s.windowEnded w x y) with h | h
    · exact ⟨_, (exec_trimWindowEnd hw x y).trans h, by rw [hclk]; rfl, by rw [hclk]; rfl, by rw [hclk]; rfl⟩
    · exact ⟨s, (exec_trimWindowEnd hw x y).trans h, rfl, rfl, rfl⟩

end Sys2Proof.Machine

namespace Sys2Proof.Machine

/-! The XO (§4.2; R135 to R137, R196, R596, R654). -/

section xo
variable (s : State)

/-- What every change of the XO's state ends with: the count towards CLOCK FAULT, and the outputs (R596). -/
def State.clockSettled (s : State) : State := s.markClockBad.settle

theorem State.clockSettled_changes : ChangesOnly [.device, .wiring, .twin] s s.clockSettled :=
  ((changes_dev s _).mono (by decide)).trans ((State.settle_changes _).mono (by decide))

theorem State.clockSettled_clk : s.clockSettled.clk = s.clk := s.clockSettled_changes .clocks (by decide)

/-- The XO ready with its interpolator scale in bounds or not; REFIN gates begin again (R136, R148, R196). -/
def State.xoCalibrated (s : State) (bad : Bool) : State :=
  { s with clk := { s.clk with
      xoReady := true, tdcCalibrated := !bad, tdcFault := bad
      refinGates := if s.clk.refinPresent then s.clk.refinGates else 0
      pllFrozen := s.clk.pllFrozen && decide (s.clk.pllRef ≠ .xo) } }

/-- A PLL that sought lock on the XO begins a new attempt with it (R655). -/
def State.xoReadied (s : State) (bad : Bool) : State :=
  if s.clk.pll = .seeking ∧ s.clk.pllRef = .xo then (s.xoCalibrated bad).seekLock else s.xoCalibrated bad

theorem State.xoReadied_changes (bad : Bool) : ChangesOnly [.clocks] s (s.xoReadied bad) := by
  have hset : ChangesOnly [.clocks] s (s.xoCalibrated bad) := changes_clk s _
  exact ChangesOnly.ite (hset.trans (State.seekLock_changes _)) hset

theorem State.xoReadied_clk (bad : Bool) : (s.xoReadied bad).clk.xoReady = true ∧
    (s.xoReadied bad).clk.tdcFault = bad ∧ (s.xoReadied bad).clk.tdcCalibrated = !bad := by
  unfold State.xoReadied
  split <;> exact ⟨rfl, rfl, rfl⟩

/-- The XO failed: it is stopped until its restart (R137, R596). -/
def State.xoFailed (s : State) : State :=
  { s with clk := { s.clk with xoFail := true, xoRun := false, xoReady := false, xoRestartAt := s.now + 32768 } }

/-- The XO oscillates again at its restart (R596). -/
def State.xoRestarted (s : State) : State :=
  { s with clk := { s.clk with xoFail := false, xoRun := true, xoReady := false } }

theorem State.xoFailed_changes : ChangesOnly [.clocks] s s.xoFailed := changes_clk s _
theorem State.xoRestarted_changes : ChangesOnly [.clocks] s s.xoRestarted := changes_clk s _

/-- A change of the clocks with its entry and what every such change ends with. -/
theorem State.clockEntry_spec {s u : State} (h : ChangesOnly [.clocks] s u) (code data : Nat) :
    (u.journal code data).clockSettled.clk = u.clk ∧
      (s.takesEntry code → LogsEntry s (u.journal code data).clockSettled code data) ∧
      ChangesOnly ([.device, .wiring, .clocks, .twin] ++ s.journalling) s (u.journal code data).clockSettled :=
  ⟨(State.clockSettled_clk _).trans (u.journal_clk code data),
    ChangesOnly.entry (rs := [.device, .wiring, .clocks, .twin]) (h.mono (by decide))
      ((State.clockSettled_changes _).mono (by decide)) (by decide) (by decide)⟩

/-- A held read leaves the reader as it was, or a compile of the readings in force (R654). -/
theorem State.deferRead_phase (k : ReadKind) : (s.deferRead k).bead.phase = s.bead.phase ∨
    ∃ n, (s.deferRead k).bead.phase = .compiling none n := by
  obtain ⟨hasked, -, -⟩ := s.readWaiting_spec k
  rw [s.deferRead_eq k]
  split
  · exact .inr ⟨_, rfl⟩
  · simp only [Bead.asked, Prod.mk.injEq] at hasked
    obtain ⟨-, -, -, hphase⟩ := hasked
    exact .inl hphase

/-- A read in progress is held and ends (R137, R654). -/
theorem State.stopRead_reading {k : ReadKind} (h : s.bead.phase = .reading k) :
    s.stopRead.bead.deferred = some k ∧ s.stopRead.bead.nextRetry = s.now + 10 * 32768 ∧
      (∀ j, s.stopRead.bead.phase ≠ .reading j) ∧ ChangesOnly (.device :: readParts) s s.stopRead := by
  have hstop : s.stopRead = ({ s with bead := { s.bead with phase := .idle } } : State).deferRead k := by
    simp only [State.stopRead, h]
  obtain ⟨⟨p, hasked, -⟩, hc⟩ := State.deferRead_spec { s with bead := { s.bead with phase := .idle } } k
  have hphase := State.deferRead_phase { s with bead := { s.bead with phase := .idle } } k
  simp only [Bead.asked, Prod.mk.injEq] at hasked
  obtain ⟨-, hdef, hnext, -⟩ := hasked
  rw [hstop]
  refine ⟨hdef, hnext, fun j => ?_, ((changes_bead s _).mono (by decide)).trans hc⟩
  rcases hphase with hp | ⟨n, hp⟩
  · rw [hp]; simp
  · rw [hp]; simp

theorem State.stopRead_other (h : ∀ k, s.bead.phase ≠ .reading k) : s.stopRead = s := by
  unfold State.stopRead
  split
  · exact absurd ‹_› (h _)
  · rfl

theorem State.stopRead_clk : s.stopRead.clk = s.clk := by
  by_cases h : ∃ k, s.bead.phase = .reading k
  · obtain ⟨k, hk⟩ := h
    obtain ⟨-, -, -, hc⟩ := s.stopRead_reading hk
    exact hc .clocks (by decide)
  · rw [s.stopRead_other (not_exists.mp h)]

variable {s}

theorem exec_xoReady {k : Nat} (hrun : s.clk.xoRun = true) (hready : s.clk.xoReady = false) (hf : s.clk.xoFail = false) :
    exec (.xoReady k) s = .next (State.clockSettled (
      if (decide (k < 700) || decide (1300 < k)) = s.clk.tdcFault then s.xoReadied (decide (k < 700) || decide (1300 < k))
      else (s.xoReadied (decide (k < 700) || decide (1300 < k))).journal 0xA5
        (bit (decide (k < 700) || decide (1300 < k))))) :=
  occurs_of (by simp [hrun, hready, hf])

theorem exec_xoFail {n : Nat} (hrun : s.clk.xoRun = true) (hf : s.clk.xoFail = false) (hn : 1000000 ≤ n) :
    exec (.xoFail n) s = .next (s.xoFailed.journal 0x21 1).stopRead.clockSettled :=
  occurs_of (by simp [hrun, hf, hn])

theorem exec_xoRestart (hf : s.clk.xoFail = true) (ht : s.clk.xoRestartAt ≤ s.now) :
    exec (.xoRestart true) s = .next (s.xoRestarted.journal 0x21 0).clockSettled :=
  occurs_of (by simp [hf, ht])

end xo

/-- Settles O20: each change of the XO with its entry, and a failure also by the read that it holds. -/
theorem crystalOscillator : Obligations.CrystalOscillator := by
  refine ⟨?_, ?_, ?_, ?_, ?_, ?_, ?_⟩
  · intro s hr hneed hrun hf
    exact occurs_of (by simp [hr, hneed, hrun, hf])
  · intro s k hrun hready hf
    have hexec := exec_xoReady (k := k) hrun hready hf
    generalize (decide (k < 700) || decide (1300 < k)) = bad at hexec ⊢
    have hset := s.xoReadied_changes bad
    obtain ⟨hxo, hfault, hcal⟩ := s.xoReadied_clk bad
    by_cases hsame : bad = s.clk.tdcFault
    · rw [if_pos hsame] at hexec
      have hclk := (s.xoReadied bad).clockSettled_clk
      have hkept : (s.xoReadied bad).clockSettled.clk.tdcFault = s.clk.tdcFault := by rw [hclk, hfault, hsame]
      refine ⟨_, hexec, by rw [hclk, hxo], by rw [hclk, hfault], by rw [hclk, hfault, hcal],
        fun hnew => absurd hkept hnew, ?_⟩
      exact ((hset.mono (by decide)).trans ((State.clockSettled_changes _).mono (by decide))).with_journal
    · rw [if_neg hsame] at hexec
      obtain ⟨hclk, hlogs, hc⟩ := State.clockEntry_spec hset 0xA5 (bit bad)
      refine ⟨_, hexec, by rw [hclk, hxo], by rw [hclk, hfault], by rw [hclk, hfault, hcal], fun _ => ?_, hc⟩
      rw [hclk, hfault]
      exact hlogs
  · intro s hrun hneed
    exact occurs_of (by simp [hrun, hneed])
  · intro s n hn
    have hshort : ¬ 1000000 ≤ n := by omega
    exact occurs_of_not (by simp [hshort])
  · intro s n hrun hf hn
    have hbead : (s.xoFailed.journal 0x21 1).bead = s.bead := State.journal_le _ _ _ .beads (by decide)
    have hclk : (s.xoFailed.journal 0x21 1).stopRead.clockSettled.clk = s.xoFailed.clk := by
      rw [State.clockSettled_clk, State.stopRead_clk, State.journal_clk]
    refine ⟨_, exec_xoFail hrun hf hn, by rw [hclk]; rfl, by rw [hclk]; rfl, by rw [hclk]; rfl, by rw [hclk]; rfl,
      fun k hk => ?_, fun hk => ?_⟩
    · obtain ⟨hdef, hnext, hphase, -⟩ := State.stopRead_reading (s.xoFailed.journal 0x21 1) (hbead ▸ hk)
      have hnow : (s.xoFailed.journal 0x21 1).now = s.xoFailed.now := congrArg Clk.tick (s.xoFailed.journal_clk 0x21 1)
      have hsettled := (s.xoFailed.journal 0x21 1).stopRead.clockSettled_changes .beads (by decide)
      exact ⟨(congrArg Bead.deferred hsettled).trans hdef, (congrArg Bead.nextRetry hsettled).trans (hnext.trans (congrArg (· + 10 * 32768) hnow)),
        fun j hj => hphase j ((congrArg Bead.phase hsettled).symm.trans hj)⟩
    · rw [State.stopRead_other _ (hbead ▸ hk)]
      exact (State.clockEntry_spec s.xoFailed_changes 0x21 1).2
  · intro s hf ht
    obtain ⟨hclk, hlogs, hc⟩ := State.clockEntry_spec s.xoRestarted_changes 0x21 0
    exact ⟨_, exec_xoRestart hf ht, by rw [hclk]; rfl, by rw [hclk]; rfl, by rw [hclk]; rfl, hlogs, hc⟩
  · intro s hf ht
    exact occurs_of (by simp [hf, ht])

end Sys2Proof.Machine

namespace Sys2Proof.Machine

/-! The writes that a request leaves waiting (R258, R652). -/

section writes
variable (s : State)

theorem ChangesOnly.cleaning {ps : List Part} {s t : State} (h : ChangesOnly ps s t) (hr : Part.tallyRest ∉ ps) :
    t.tal.cleaning = s.tal.cleaning := by
  obtain ⟨-, -, -, -, -, -, -, -, hcleaning, -⟩ : s.tal.restSame t.tal := h .tallyRest hr
  exact hcleaning

/-- A write waits for a record or area. -/
def State.writeWaits (s : State) (id : WriteId) : Bool := s.tal.writes.any fun w => decide (w.id = id)

/-- A request leaves its own write waiting, unless a clean runs that erases what it writes; it takes no other away. -/
theorem State.queueWrite_writeWaits (j : WriteId) (l : List Byte) (id : WriteId) :
    (s.queueWrite j l).writeWaits id = (s.writeWaits id || (decide (j = id) && !(s.tal.cleaning && j.cleaned))) := by
  unfold State.queueWrite
  split
  next hclean => rw [hclean, Bool.not_true, Bool.and_false, Bool.or_false]
  · dsimp only
    split
    next hfree hany =>
      have hkeep (w : WriteReq) : (if w.id = j then ({ id := j, content := l } : WriteReq) else w).id = w.id := by
        split
        · exact (‹w.id = j›).symm
        · rfl
      have hmap : s.writeWaits id = (s.tal.writes.map fun w => if w.id = j then { id := j, content := l } else w).any
          fun w => decide (w.id = id) := by
        simp only [State.writeWaits, List.any_map, Function.comp_def, hkeep]
      by_cases hj : j = id
      · subst hj
        have hwaits : s.writeWaits j = true := hany
        rw [hwaits, Bool.true_or]
        exact hmap.symm.trans hwaits
      · rw [decide_eq_false hj, Bool.false_and, Bool.or_false, hmap]
        rfl
    next hfree hnone =>
      simp only [State.writeWaits, List.any_append, List.any_cons, List.any_nil, Bool.or_false, hfree, Bool.not_false,
        Bool.and_true]

theorem State.writeWaits_iff (id : WriteId) : s.writeWaits id = true ↔ ∃ w ∈ s.tal.writes, w.id = id := by
  simp [State.writeWaits]

/-- Outside a clean a record that is requested waits. -/
theorem State.requestWrite_waits (h : s.tal.cleaning = false) (r : RecId) (l : List Byte) :
    ∃ w ∈ (s.requestWrite r l).tal.writes, w.id = .record r := by
  rw [← State.writeWaits_iff, State.requestWrite, State.queueWrite_writeWaits, h]
  simp

end writes

/-! Ageing samples and daily points (§4.3; R139 to R146). -/

section ageing
variable (s : State)

theorem State.gateUsed_changes (src : AgeSource) : ChangesOnly [.clocks] s (s.gateUsed src) := by
  cases src <;> exact changes_clk s _

/-- A sample taken at the end of its gate (R140). -/
def State.sampled (s : State) (src : AgeSource) (x : Int) : State :=
  { s.gateUsed src with clk := { (s.gateUsed src).clk with age := s.clk.age.accept x s.day } }

theorem State.sampled_changes (src : AgeSource) (x : Int) : ChangesOnly [.clocks] s (s.sampled src x) :=
  (s.gateUsed_changes src).trans (changes_clk _ _)

variable {s}

theorem exec_ageingSample_taken {src : AgeSource} {x : Int} {d : Nat} (hx : s.clk.xoReady = true)
    (hp : s.pointDue = false) (hg : s.gateEnded src = true) (hd : d < 256) (hsize : x.natAbs ≤ 30000)
    (hnear : (16 * x - s.prediction).natAbs ≤ 32000) :
    exec (.ageingSample src x true d) s = .next (s.sampled src x) := by
  have hpred : (s.gateUsed src).prediction = s.prediction := by cases src <;> rfl
  have hday : (s.gateUsed src).day = s.day := by cases src <;> rfl
  refine (occurs_of (by rw [hx, hp, hg]; rfl)).trans ?_
  simp only [hd, hsize, hpred, hnear, hday, decide_true, Bool.not_true, Bool.or_self, Bool.false_eq_true, if_false,
    Bool.or_true, if_true]
  rfl

theorem exec_ageingSample_far {src : AgeSource} {x : Int} (d : Nat) (hx : s.clk.xoReady = true)
    (hp : s.pointDue = false) (hg : s.gateEnded src = true) (hsize : 30000 < x.natAbs) :
    exec (.ageingSample src x true d) s = .next (s.gateUsed src) := by
  refine (occurs_of (by rw [hx, hp, hg]; rfl)).trans ?_
  simp only [Nat.not_le.mpr hsize, decide_false, Bool.not_false, Bool.or_true, if_true]

/-- The point of the day that ended is the last of the model's points, of which at most 64 are kept (R142, R143). -/
theorem Ageing.addPoint_points (a : Ageing) (epoch : Nat) :
    (a.addPoint epoch).2.points.getLast? = some (a.day, rdiv (16 * a.daySum) a.dayCount) ∧
      (a.addPoint epoch).2.points.length ≤ 64 := by
  obtain ⟨l, hl⟩ : ∃ l, (a.addPoint epoch).2.points = (l ++ [(a.day, rdiv (16 * a.daySum) a.dayCount)]).drop
      ((l ++ [(a.day, rdiv (16 * a.daySum) a.dayCount)]).length - 64) := ⟨_, rfl⟩
  rw [hl]
  constructor
  · rw [List.getLast?_drop, if_neg (by simp), List.getLast?_concat]
  · simp only [List.length_drop]
    omega

variable (s)

/-- The model with the daily point (R142). -/
def State.pointTaken (s : State) : State :=
  { s with clk := { s.clk with age := (s.clk.age.addPoint s.tal.powerUps.toNat).2 } }

/-- RATE DISCARDED, where the fit was, and the end of TIME BASE UNVERIFIED (R143, R144). -/
def State.pointLogged (s : State) : State :=
  let u := if (s.clk.age.addPoint s.tal.powerUps.toNat).1 then s.pointTaken.journal 0x25 0 else s.pointTaken
  if s.clk.age.unverified then u.journal 0x26 0 else u

theorem State.pointLogged_spec : s.pointLogged.clk = s.pointTaken.clk ∧
    ChangesOnly ([.clocks] ++ s.journalling) s s.pointLogged := by
  have hset : ChangesOnly ([.clocks] ++ s.journalling) s s.pointTaken := (changes_clk s _).with_journal
  unfold State.pointLogged
  extract_lets u
  have hu : u.clk = s.pointTaken.clk ∧ ChangesOnly ([.clocks] ++ s.journalling) s u := by
    unfold u; split
    · exact ⟨State.journal_clk _ _ _, hset.then_entry (by decide) _ _⟩
    · exact ⟨rfl, hset⟩
  split
  · exact ⟨(u.journal_clk _ _).trans hu.1, hu.2.then_entry (by decide) _ _⟩
  · exact hu

theorem exec_dailyPoint {s : State} (h : s.pointDue = true) : exec .dailyPoint s =
    .next (s.pointLogged.requestWrite .ageing (s.clk.age.addPoint s.tal.powerUps.toNat).2.content) := occurs_of h

end ageing

/-! REFIN (§4.4; R147 to R149, R496). -/

section refin
variable (s : State)

/-- REFIN present from its fourth good gate on (R147). -/
def State.refinBegun (s : State) : State :=
  { s with clk := { s.clk with refinGates := 4, refinPresent := true, refinSince := s.now, fabGate := none } }

theorem exec_refinGateEnd_fourth {s : State} {n : Nat} (hx : s.clk.xoReady = true) (hm : s.dev.mainsOk = true)
    (hlo : 9990 ≤ n) (hhi : n ≤ 10010) (hg : s.clk.refinGates = 3) (hp : s.clk.refinPresent = false) :
    exec (.refinGateEnd n) s = .next ((s.refinBegun.journal 0x22 1).demand .refin).askRefin := by
  refine (occurs_of (by rw [hx, hm]; rfl)).trans ?_
  simp only [hlo, hhi, hg, hp, and_self, if_true, Nat.reduceAdd, min_self, Bool.false_eq_true, not_false_eq_true]
  rfl

theorem State.askRefin_free (hp : s.clk.refinPresent = true) (hh : s.regHas .refin = false) (hj : s.tr.regJob = none) :
    s.askRefin.tr.regJob = some .refin := by
  have hasks : (s.clk.refinPresent && !s.regHas .refin) = true := by rw [hp, hh]; rfl
  rw [State.askRefin, if_pos hasks, State.regRequest_free _ hj]

/-- The clocks and the regressor's queue without REFIN (R148). -/
def State.refinDropped (s : State) : State :=
  { s with
    clk := { s.clk with refinGates := 0, refinPresent := false, refinAdvertised := false, refinDone := false }
    tr := { s.tr with regQueue := s.tr.regQueue.filter fun j => j != .refin } }

theorem State.refinDropped_changes : ChangesOnly [.clocks, .sounding] s s.refinDropped := by
  have hclk : ChangesOnly [.clocks] s { s with clk := s.refinDropped.clk } := changes_clk s _
  exact hclk.join (changes_tr _ s.refinDropped.tr)

theorem State.watchRef_changes : ChangesOnly [.clocks] s s.watchRef := ChangesOnly.ite (changes_clk s _) (.refl _ s)

theorem State.watchRef_clk : ∃ a b, s.watchRef.clk = { s.clk with pllRefLost := a, pllFrozen := b } := by
  unfold State.watchRef
  split <;> exact ⟨_, _, rfl⟩

/-- The state without REFIN before its entry (R148, R155). -/
def State.refinOff (s : State) : State := s.refinDropped.calNoRefin.watchRef

theorem State.refinOff_changes : ChangesOnly [.clocks, .sounding] s s.refinOff :=
  (s.refinDropped_changes.trans ((State.calNoRefin_changes _).mono (by decide))).trans
    ((State.watchRef_changes _).mono (by decide))

theorem State.refinOff_tr : s.refinOff.tr = s.refinDropped.calNoRefin.tr := State.watchRef_changes _ .sounding (by decide)

theorem State.refinLost_quiet {s : State} (h : s.clk.refinAdvertised = false) :
    s.refinLost = (s.refinOff.journal 0x22 0).undemand .refin := by
  have hquiet : ¬ s.clk.refinAdvertised = true := by simp [h]
  exact if_neg hquiet

/-- A collection that goes on after the end of REFIN has not had it (Table 5.13). -/
theorem State.calNoRefin_calRun {p : PathNo} {c : CalRun} (h : (s.calNoRefin.tr.path[p]).calRun = some c)
    (hc : c.refin = true) : c.settle < 8 := by
  simp only [State.calNoRefin, Fin.getElem_fin, Vector.getElem_ofFn, Option.map_eq_some_iff] at h
  obtain ⟨d, -, rfl⟩ := h
  simp only [Bool.and_eq_true, decide_eq_true_eq] at hc
  exact hc.2

/-- REFIN counts for the priority (R496). -/
def State.refinTold (s : State) : State := { s with clk := { s.clk with refinAdvertised := true } }

theorem State.refinTold_changes : ChangesOnly [.clocks] s s.refinTold := changes_clk s _

theorem exec_refinAdvertised {s : State} (hp : s.clk.refinPresent = true) (ha : s.clk.refinAdvertised = false)
    (ht : s.clk.refinSince + 10 * 32768 ≤ s.now) : exec .refinAdvertised s = .next s.refinTold.lsChange := by
  have ht' : s.clk.refinSince + 10 * tps ≤ s.now := by simpa [tps] using ht
  exact occurs_of (by simp [hp, ha, ht'])

theorem State.lsChange_due : s.lsChange.fab.lsDue.isSome = true := by
  unfold State.lsChange
  split
  · rw [‹s.fab.lsDue = _›]; rfl
  · rfl

end refin

/-- Settles O21: a sample by the bounds that it is within, a day's point by the model with it, REFIN by its presence. -/
theorem ageingAndRefin : Obligations.AgeingAndRefin := by
  refine ⟨?_, ?_, ?_, ?_, ?_, ?_, ?_, ?_, ?_⟩
  · intro s src x v d hg
    exact occurs_of_not (by rw [hg, Bool.and_false])
  · intro s x d hx hp hg hd hsize hnear
    exact ⟨_, exec_ageingSample_taken hx hp hg hd hsize hnear, rfl, rfl, rfl, s.sampled_changes .fabric x⟩
  · intro s x d hx hp hr hdone hd hsize hnear
    have hg : s.gateEnded .refin = true := by simp [State.gateEnded, hr, hdone]
    exact ⟨_, exec_ageingSample_taken hx hp hg hd hsize hnear, rfl, rfl, rfl, rfl, rfl, s.sampled_changes .refin x⟩
  · intro s x d hx hp hr hdone hsize
    have hg : s.gateEnded .refin = true := by simp [State.gateEnded, hr, hdone]
    exact exec_ageingSample_far d hx hp hg hsize
  · intro s hp hclean
    obtain ⟨hclk, hc⟩ := s.pointLogged_spec
    have hreq := s.pointLogged.requestWrite_changes .ageing (s.clk.age.addPoint s.tal.powerUps.toNat).2.content
    have hend := (hreq .clocks (by decide)).trans hclk
    obtain ⟨hlast, hlen⟩ := s.clk.age.addPoint_points s.tal.powerUps.toNat
    have hrest : Part.tallyRest ∉ [Part.clocks] ++ s.journalling := by unfold State.journalling; split <;> decide
    refine ⟨_, exec_dailyPoint hp, by rw [hend]; rfl, by rw [hend]; rfl, by rw [hend]; rfl, by rw [hend]; rfl,
      by rw [hend]; exact hlast, by rw [hend]; exact hlen, ?_, (hc.widen (by decide)).more hreq (by decide)⟩
    exact State.requestWrite_waits _ ((hc.cleaning hrest).trans hclean) _ _
  · intro s hu hk hpts hd
    have hset := changes_clk s { s.clk with age := { s.clk.age with unverified := true } }
    obtain ⟨hlogs, hc⟩ := hset.entry (code := 0x26) (data := 1) (.refl _ _) (by decide) (by decide)
    refine ⟨_, occurs_of ?_, ?_, hlogs, hc⟩
    · simp [hu, hk, hpts, hd]
    · rw [State.journal_clk]
  · intro s n hx hm hlo hhi hg hp
    have hset : ChangesOnly [.clocks, .sounding] s s.refinBegun := (changes_clk s _).mono (by decide)
    have hasked := (s.refinBegun.journal 0x22 1).demand_changes .refin
    have hask := ((s.refinBegun.journal 0x22 1).demand .refin).askRefin_changes
    obtain ⟨hlogs, hc⟩ := hset.entry (hasked.join hask) (by decide) (by decide)
    obtain ⟨d, hdem⟩ := ((s.refinBegun.journal 0x22 1).demand_book .refin).clk
    rw [State.journal_clk] at hdem
    have hclk := hask .clocks (by decide)
    have htr : ((s.refinBegun.journal 0x22 1).demand .refin).tr = s.tr :=
      (hasked .sounding (by decide)).trans (State.journal_tr _ _ _)
    refine ⟨_, exec_refinGateEnd_fourth hx hm hlo hhi hg hp, ?_, ?_, ?_, ?_, fun hh hj => ?_, hlogs, hc⟩
    · rw [hclk, hdem]; rfl
    · rw [hclk, hdem]; rfl
    · rw [hclk, hdem]; rfl
    · rw [hclk]; exact State.demand_mem _ _
    · refine State.askRefin_free _ (by rw [hdem]; rfl) ?_ (htr ▸ hj)
      rw [State.regHas, htr]
      exact hh
  · intro s hp ha
    have hset := s.refinOff_changes
    obtain ⟨hlogs, hc⟩ := hset.entry (((s.refinOff.journal 0x22 0).undemand_changes .refin).mono (by decide))
      (by decide) (by decide)
    obtain ⟨a, b, hwatch⟩ := s.refinDropped.calNoRefin.watchRef_clk
    have hclk : (s.refinOff.journal 0x22 0).clk = _ := (State.journal_clk _ _ _).trans hwatch
    have htr : ((s.refinOff.journal 0x22 0).undemand .refin).tr = s.refinDropped.calNoRefin.tr :=
      (State.journal_tr _ _ _).trans s.refinOff_tr
    have hexec : exec .refinEdgeTimeout s = .next ((s.refinOff.journal 0x22 0).undemand .refin) :=
      (occurs_of hp).trans (congrArg _ (State.refinLost_quiet ha))
    refine ⟨_, hexec, ?_, ?_, State.undemand_not_mem _ _, fun p c hrun hrefin => ?_, hlogs, hc⟩
    · simp only [State.undemand, hclk]; rfl
    · simp only [State.undemand, hclk]; rfl
    · rw [htr] at hrun
      exact State.calNoRefin_calRun _ hrun hrefin
  · intro s hp ha ht
    have hls := s.refinTold.lsChange_changes
    have hclk : s.refinTold.lsChange.clk = s.refinTold.clk := hls .clocks (by decide)
    have hbead : s.refinTold.lsChange.bead = s.bead := hls .beads (by decide)
    have hadv : s.refinTold.lsChange.clk.refinAdvertised = true := by rw [hclk]; rfl
    have heff : s.refinTold.lsChange.eff 11 = s.eff 11 := by simp only [State.eff, hbead]
    refine ⟨_, exec_refinAdvertised hp ha ht, hadv, ?_, State.lsChange_due _, s.refinTold_changes.join hls⟩
    simp only [State.timePrio, hadv, heff, ha, bit, if_true, Bool.false_eq_true, if_false]
    omega

end Sys2Proof.Machine

namespace Sys2Proof.Machine

/-! A gate of the stamp regressor (§5.8; R138, R139, R207 to R209). -/

section gates
variable (s : State)

theorem State.regRequest_waits {j k : RegJob} (h : s.tr.regJob = some k) (hroom : s.tr.regQueue.length < 4) :
    s.regRequest j = { s with tr := { s.tr with regQueue := s.tr.regQueue ++ [j] } } := by
  simp only [State.regRequest, h, if_pos hroom]

theorem State.regRequest_full {j k : RegJob} (h : s.tr.regJob = some k) (hfull : 4 ≤ s.tr.regQueue.length) :
    s.regRequest j = s := by
  simp only [State.regRequest, h, if_neg (Nat.not_lt.mpr hfull)]

theorem State.regRequest_result (j : RegJob) : (s.regRequest j).tr.regResult = s.tr.regResult := by
  unfold State.regRequest; split
  · rfl
  · split <;> rfl

theorem State.askRefin_result : s.askRefin.tr.regResult = s.tr.regResult := by
  unfold State.askRefin; split
  · exact s.regRequest_result _
  · rfl

theorem State.askRefin_absent (h : s.clk.refinPresent = false) : s.askRefin = s := by
  rw [State.askRefin, h]; rfl

/-- The result of a gate for its job, and what the job leaves to its user (R138, R208, R209). -/
def State.gateGiven (s : State) (j : RegJob) (r : Option (BitVec 64)) : State :=
  ({ s with tr := { s.tr with regResult := r } } : State).regGive j r

/-- The regressor after a gate: its next job begins (R209). -/
def State.gateOver (s : State) (j : RegJob) (r : Option (BitVec 64)) : State := (s.gateGiven j r).regNext.askRefin

theorem State.regGive_changes (j : RegJob) (r : Option (BitVec 64)) : ChangesOnly [.clocks, .cameras] s (s.regGive j r) := by
  cases j with
  | trim => exact (changes_clk s _).mono (by decide)
  | refin => exact ChangesOnly.ite ((changes_clk s _).mono (by decide)) (.refl _ s)
  | frameRate k => exact (s.updCam_changes k _).mono (by decide)

theorem State.regGive_refinPresent (j : RegJob) (r : Option (BitVec 64)) :
    (s.regGive j r).clk.refinPresent = s.clk.refinPresent := by
  cases j with
  | trim => rfl
  | refin => unfold State.regGive; dsimp only; split <;> rfl
  | frameRate k => rfl

theorem State.gateGiven_tr (j : RegJob) (r : Option (BitVec 64)) :
    (s.gateGiven j r).tr = { s.tr with regResult := r } := State.regGive_changes _ j r .sounding (by decide)

theorem State.gateOver_changes (j : RegJob) (r : Option (BitVec 64)) :
    ChangesOnly [.sounding, .clocks, .cameras] s (s.gateOver j r) := by
  have hset := changes_tr s { s.tr with regResult := r }
  have hgiven : ChangesOnly [.sounding, .clocks, .cameras] s (s.gateGiven j r) :=
    hset.join (State.regGive_changes _ j r)
  exact (hgiven.trans ((State.regNext_changes _).mono (by decide))).trans ((State.askRefin_changes _).mono (by decide))

theorem State.gateOver_result (j : RegJob) (r : Option (BitVec 64)) : (s.gateOver j r).tr.regResult = r := by
  rw [State.gateOver, State.askRefin_result]
  exact congrArg Transit.regResult (s.gateGiven_tr j r)

/-- Without REFIN the next job is the one that waits longest. -/
theorem State.gateOver_next (j : RegJob) (r : Option (BitVec 64)) (h : s.clk.refinPresent = false) :
    (s.gateOver j r).tr.regJob = s.tr.regQueue.head? ∧ (s.gateOver j r).tr.regQueue = s.tr.regQueue.drop 1 := by
  have habsent : (s.gateGiven j r).regNext.clk.refinPresent = false := (State.regGive_refinPresent _ j r).trans h
  have htr := s.gateGiven_tr j r
  rw [State.gateOver, State.askRefin_absent _ habsent]
  simp only [State.regNext, htr, and_self]

theorem State.gateOver_user (j : RegJob) (r : Option (BitVec 64)) : (s.gateOver j r).clk = (s.gateGiven j r).clk ∧
    (s.gateOver j r).cam = (s.gateGiven j r).cam :=
  ⟨State.askRefin_changes _ .clocks (by decide), State.askRefin_changes _ .cameras (by decide)⟩

variable {s}

theorem exec_stampRegressorGateEnd {j : RegJob} (h : s.tr.regJob = some j) (sums : Option EdgeSums) :
    exec (.stampRegressorGateEnd sums) s = occurs (sums.isNone || decide (s.tr.regAt + regGate j ≤ s.now)) s
      (s.gateOver j ((sums.bind fun e => edgePeriod e (regPrescale j)).map fun p =>
        BitVec.ofNat 64 (s.corrected p.toNat))) := by
  show execStampRegressorGateEnd sums s = _
  unfold execStampRegressorGateEnd
  rw [h]
  rfl

end gates

/-! Still-air calibration (§5.10; R218 to R221). -/

section calibration
variable (s : State)

/-- What a calibration leaves of a path: its run, whether it was refused or passed, and whether its record waits. -/
def State.calView (s : State) (p : PathNo) : Option CalRun × Bool × Bool × Bool :=
  ((s.tr.path[p]).calRun, s.tr.calRefused[p], s.tr.calPassed[p], s.writeWaits (.record (.calibration p)))

/-- A run's result in that view: a path without one stays as it was (R219, R221). -/
def State.calViewNext (s : State) (p : PathNo) (v : Option CalRun × Bool × Bool × Bool) :
    Option CalRun × Bool × Bool × Bool :=
  match v.1 with
  | none => v
  | some c => match s.calRefusal p c with
    | some _ => (none, true, v.2.2.1, v.2.2.2)
    | none => (none, v.2.1, true, v.2.2.2 || !s.tal.cleaning)

theorem State.calViewNext_run (p : PathNo) (v : Option CalRun × Bool × Bool × Bool) : (s.calViewNext p v).1 = none := by
  unfold State.calViewNext
  split
  · assumption
  · split <;> rfl

theorem State.calView_congr {t : State} (ht : t.tr = s.tr) (hw : t.tal.writes = s.tal.writes) (p : PathNo) :
    t.calView p = s.calView p := by simp only [State.calView, State.writeWaits, ht, hw]

/-- Whether a run passes depends on the channels only. -/
theorem State.calRefusal_congr {t : State} (h : t.tr.chan = s.tr.chan) (p : PathNo) (c : CalRun) :
    t.calRefusal p c = s.calRefusal p c := by
  have hfailed (ch : Chan) : t.chanFailed ch = s.chanFailed ch := by simp only [State.chanFailed, h]
  unfold State.calRefusal
  rw [hfailed, hfailed]

/-- A path's run over, passed or refused. -/
def State.calEndedAt (s : State) (p : PathNo) (pass : Bool) : State :=
  { s.updPath p fun q => { q with calRun := none } with
    tr := { (s.updPath p fun q => { q with calRun := none }).tr with
      calRefused := bif pass then s.tr.calRefused else s.tr.calRefused.set p true
      calPassed := bif pass then s.tr.calPassed.set p true else s.tr.calPassed } }

/-- The parts that the result of a path can change. -/
def calParts : List Part := [.sounding, .journal, .deviceTallies, .writes, .fabric, .twin, .monitor]

theorem State.calLine_changes (p : PathNo) (l : String) : ChangesOnly [.monitor] s (s.calLine p l) :=
  ChangesOnly.ite (s.say_changes _) (.refl _ s)

/-- What becomes of a path: no run, refused with its entry and its line, or passed with its record too (R219, R221). -/
theorem State.calPath_cases (d : Int) (p : PathNo) :
    ((s.tr.path[p]).calRun = none ∧ s.calPath d p = s) ∨
      ∃ c code data line, (s.tr.path[p]).calRun = some c ∧
        (((s.calRefusal p c).isSome = true ∧
            s.calPath d p = ((s.calEndedAt p false).journal code data).calLine p line) ∨
          (s.calRefusal p c = none ∧ ∃ l, s.calPath d p =
            (((s.calEndedAt p true).journal code data).requestWrite (.calibration p) l).calLine p line)) := by
  unfold State.calPath
  split
  · exact .inl ⟨‹_›, rfl⟩
  · dsimp only
    split
    next c hc _ why hr => exact .inr ⟨c, _, _, _, hc, .inl ⟨by rw [hr]; rfl, rfl⟩⟩
    next c hc _ hr => exact .inr ⟨c, _, _, _, hc, .inr ⟨hr, _, rfl⟩⟩

theorem State.calEndedAt_changes (p : PathNo) (b : Bool) : ChangesOnly [.sounding] s (s.calEndedAt p b) :=
  (s.updPath_changes p _).trans (changes_tr _ _)

theorem State.calPath_changes (d : Int) (p : PathNo) : ChangesOnly calParts s (s.calPath d p) := by
  have logged (b : Bool) (code data : Nat) : ChangesOnly calParts s ((s.calEndedAt p b).journal code data) :=
    ((s.calEndedAt_changes p b).mono (by decide)).trans ((State.journal_le _ _ _).mono (by decide))
  obtain ⟨-, h⟩ | ⟨c, code, data, line, -, ⟨-, h⟩ | ⟨-, l, h⟩⟩ := s.calPath_cases d p
  · rw [h]; exact .refl _ s
  · rw [h]; exact (logged false code data).trans ((State.calLine_changes _ _ _).mono (by decide))
  · rw [h]
    exact ((logged true code data).trans ((State.requestWrite_changes _ _ _).mono (by decide))).trans
      ((State.calLine_changes _ _ _).mono (by decide))

theorem State.calPath_chan (d : Int) (p : PathNo) : (s.calPath d p).tr.chan = s.tr.chan := by
  have line (t : State) (l : String) : (t.calLine p l).tr = t.tr := t.calLine_changes p l .sounding (by decide)
  obtain ⟨-, h⟩ | ⟨c, code, data, l, -, ⟨-, h⟩ | ⟨-, r, h⟩⟩ := s.calPath_cases d p
  · rw [h]
  · rw [h, line, State.journal_tr]; rfl
  · have hreq := ((s.calEndedAt p true).journal code data).requestWrite_changes (.calibration p) r .sounding (by decide)
    have htr := hreq.trans ((s.calEndedAt p true).journal_tr code data)
    have hchan := congrArg Transit.chan htr
    rw [h, line]
    exact hchan

/-- A path's result leaves the other paths' runs, results and records. -/
theorem State.calEndedAt_view (p : PathNo) (b : Bool) (j : PathNo) : (s.calEndedAt p b).calView j =
    if j = p then (none, (bif b then (s.calView p).2.1 else true), (bif b then true else (s.calView p).2.2.1),
      (s.calView p).2.2.2) else s.calView j := by
  have hpath := s.updPath_path p (fun q => { q with calRun := none }) j
  by_cases hj : j = p
  · subst hj
    rw [if_pos rfl] at hpath ⊢
    cases b <;> simp only [State.calView, State.calEndedAt, hpath, Fin.getElem_fin, Vector.getElem_set_self, cond_true,
      cond_false] <;> rfl
  · have hv : p.val ≠ j.val := fun e => hj (Fin.ext e.symm)
    rw [if_neg hj] at hpath ⊢
    cases b <;> simp only [State.calView, State.calEndedAt, hpath, Fin.getElem_fin, Vector.getElem_set_ne _ _ hv,
      cond_true, cond_false] <;> rfl

/-- The record of a path that passes is requested, unless a clean runs (R221, R652). -/
theorem State.requestWrite_view (p : PathNo) (l : List Byte) (j : PathNo) : (s.requestWrite (.calibration p) l).calView j =
    ((s.calView j).1, (s.calView j).2.1, (s.calView j).2.2.1,
      (s.calView j).2.2.2 || (decide (j = p) && !s.tal.cleaning)) := by
  have htr : (s.requestWrite (.calibration p) l).tr = s.tr := s.requestWrite_changes _ _ .sounding (by decide)
  have hid : decide (WriteId.record (.calibration p) = .record (.calibration j)) = decide (j = p) := by
    simp [eq_comm]
  have hcleaned : (WriteId.record (.calibration p)).cleaned = true := rfl
  simp only [State.calView, htr]
  have hwaits := s.queueWrite_writeWaits (.record (.calibration p)) l (.record (.calibration j))
  rw [hid, hcleaned, Bool.and_true] at hwaits
  exact congrArg (fun w => (_, _, _, w)) hwaits

theorem State.calPath_view (d : Int) (p j : PathNo) : (s.calPath d p).calView j =
    if j = p then s.calViewNext p (s.calView p) else s.calView j := by
  have line (t : State) (l : String) : (t.calLine p l).calView j = t.calView j :=
    t.calView_congr (State.calLine_changes _ _ _ .sounding (by decide)) (State.calLine_changes _ _ _ .writes (by decide)) j
  have logged (b : Bool) (code data : Nat) : ((s.calEndedAt p b).journal code data).calView j =
      (s.calEndedAt p b).calView j :=
    State.calView_congr _ (State.journal_tr _ _ _) (State.journal_le _ _ _ .writes (by decide)) j
  obtain ⟨hrun, h⟩ | ⟨c, code, data, l, hrun, ⟨hr, h⟩ | ⟨hr, r, h⟩⟩ := s.calPath_cases d p
  · have hview : s.calViewNext p (s.calView p) = s.calView p := by
      simp only [State.calViewNext, State.calView, hrun]
    rw [h, hview]
    split
    · subst j; rfl
    · rfl
  · obtain ⟨why, hwhy⟩ := Option.isSome_iff_exists.mp hr
    have hview : s.calViewNext p (s.calView p) = (none, true, (s.calView p).2.2.1, (s.calView p).2.2.2) := by
      simp only [State.calViewNext, State.calView, hrun, hwhy]
    rw [h, line, logged, State.calEndedAt_view, hview]
    rfl
  · have hview : s.calViewNext p (s.calView p) =
        (none, (s.calView p).2.1, true, (s.calView p).2.2.2 || !s.tal.cleaning) := by
      simp only [State.calViewNext, State.calView, hrun, hr]
    have hclean : ((s.calEndedAt p true).journal code data).tal.cleaning = s.tal.cleaning :=
      (State.journal_le (s.calEndedAt p true) code data).cleaning (by decide)
    rw [h, line, State.requestWrite_view, logged, State.calEndedAt_view, hclean, hview]
    split
    · subst j; simp
    · simp [*]

/-- The state with the results of every path (R219, R221). -/
def State.calPaths (s : State) (d : Int) : State := allPaths.foldl (fun t (p : PathNo) => t.calPath d p) s

/-- The calibration over. -/
def State.calOver (s : State) : State := { s with tr := { s.tr with calOn := false } }

/-- The acknowledgement of a calibration: ACK-3, or the LEDA code of one refused (R97). -/
def State.calTold (s : State) : State :=
  if allPaths.any fun p => s.tr.calRefused[p] then
    ({ s with loc := { s.loc with ackG := none, ackGNext := none } } : State).ackAmber .calRefused
  else s.ackGreen (.ack 3)

/-- A monitor that waited for a calibration goes on (R647). -/
def State.calAnswered (s : State) (waits : Bool) : State :=
  if waits then ({ s with mon := { s.mon with calWait := false } } : State).endCmd "ok" else s

/-- The results of every path, in whatever order they come (R219, R221). -/
theorem State.calPaths_view (d : Int) (p : PathNo) :
    (s.calPaths d).calView p = s.calViewNext p (s.calView p) := by
  refine foldl_finRange State.calView s.calViewNext
    (fun t => t.tr.chan = s.tr.chan ∧ t.tal.cleaning = s.tal.cleaning) (fun t k ht => ?_) (fun t k j ht => ?_) s ⟨rfl, rfl⟩ p
  · exact ⟨(t.calPath_chan d k).trans ht.1, ((t.calPath_changes d k).cleaning (by decide)).trans ht.2⟩
  · have hnext (v : Option CalRun × Bool × Bool × Bool) : t.calViewNext k v = s.calViewNext k v := by
      simp only [State.calViewNext, ht.2, State.calRefusal_congr s ht.1]
    rw [← hnext]
    exact t.calPath_view d k j

theorem State.calPaths_changes (d : Int) : ChangesOnly calParts s (s.calPaths d) :=
  ChangesOnly.foldl (fun t (p : PathNo) => t.calPath_changes d p) _ s

theorem State.calOver_changes : ChangesOnly [.sounding] s s.calOver := changes_tr s _

theorem State.calOver_view (p : PathNo) : s.calOver.calView p = s.calView p := rfl

theorem State.calTold_changes : ChangesOnly [.wiring] s s.calTold :=
  ChangesOnly.ite ((changes_loc s _).trans (State.ackAmber_changes _ _)) (s.ackGreen_changes _ _)

theorem State.calAnswered_changes (b : Bool) : ChangesOnly [.monitor] s (s.calAnswered b) :=
  ChangesOnly.ite ((changes_mon s _).trans (State.endCmd_changes _ _)) (.refl _ s)

/-- What follows the results: their acknowledgement, the monitor's, and the rates without the calibration. -/
def State.calFollowed (s : State) (waits : Bool) : State := (s.calTold.calAnswered waits).applyRates

theorem State.calFollowed_changes (b : Bool) : ChangesOnly
    [.beads, .sounding, .wiring, .monitor, .journal, .deviceTallies, .fabric, .twin] s (s.calFollowed b) :=
  ((s.calTold_changes.mono (by decide)).trans ((State.calAnswered_changes _ b).mono (by decide))).trans
    ((State.applyRates_changes _).mono (by decide))

theorem State.calFollowed_tr (b : Bool) : (s.calTold.calAnswered b).tr = s.tr :=
  (State.calAnswered_changes _ b .sounding (by decide)).trans (s.calTold_changes .sounding (by decide))

theorem State.calFollowed_calOn (b : Bool) : (s.calFollowed b).tr.calOn = s.tr.calOn :=
  (State.applyRates_cal _).1.trans (congrArg Transit.calOn (s.calFollowed_tr b))

theorem State.calFollowed_view (b : Bool) (p : PathNo) : (s.calFollowed b).calView p = s.calView p := by
  obtain ⟨v, htr⟩ := (s.calTold.calAnswered b).applyRates_book.tr
  have hrun := (s.calTold.calAnswered b).applyRates_calRun p
  have hw : (s.calFollowed b).tal.writes = s.tal.writes := s.calFollowed_changes b .writes (by decide)
  have hrates : (s.calFollowed b).tr = _ := htr
  rw [s.calFollowed_tr b] at hrun hrates
  have hrun' : ((s.calFollowed b).tr.path[p]).calRun = (s.tr.path[p]).calRun := hrun
  simp only [State.calView, State.writeWaits, hw, hrun']
  rw [hrates]

variable {s}

theorem exec_calibrationEnd (h : s.calDone = true) (d : Int) :
    exec (.calibrationEnd d) s = .next ((s.calPaths d).calOver.calFollowed s.mon.calWait) := by
  show execCalibrationEnd d s = _
  rw [execCalibrationEnd, h, occurs_true]
  extract_lets s1
  rw [show s.calPaths d = s1 from rfl]
  clear_value s1
  rfl

end calibration
end Sys2Proof.Machine

namespace Sys2Proof.Machine

/-! Ring checks (§5.12; R183, R199, R223 to R226). -/

section rings
variable (s : State)

/-- The turn of a channel's ring shot: it waits behind every pair (R223). -/
structure RingTurn (s : State) (ch : Chan) : Prop where
  mayFire : s.mayFire = true
  sounds : s.sounds (chanPath ch) = true
  due : s.ringDue ch = true
  noRing : ∀ c : Chan, (s.tr.chan[c]).ringBusy = false
  free : s.groupFree (chanGroup ch) = true
  noPair : s.pairWaits (groupPair (chanPath ch)) = false

/-- What becomes of a ring shot whose turn it is (R183, R226). -/
def State.ringTaken (s : State) (ch : Chan) (mv : Nat) : State :=
  if s.ringDrives ch = false then s.skipRing ch .short
  else if mv < 2900 then (s.vdrvCheck mv).skipRing ch .lowdrv
  else (s.vdrvCheck mv).updSound ch fun h => { h with
    ringBusy := true, ringOvr := false, ringAt := some s.now, testAt := some s.now, cause := none }

theorem exec_ringShotDue {s : State} {ch : Chan} (h : RingTurn s ch) (mv : Nat) :
    exec (.ringShotDue ch mv) s = .next (s.ringTaken ch mv) := by
  have hall : ((List.finRange 16).all fun (c : Chan) => chanGroup c != chanGroup ch || !(s.tr.chan[c]).ringBusy) = true :=
    List.all_eq_true.mpr fun c _ => by rw [h.noRing c]; exact Bool.or_true _
  refine (occurs_of ?_).trans ?_
  · rw [h.mayFire, h.sounds, h.due, h.noRing ch, h.free, h.noPair, hall]; rfl
  · unfold State.ringTaken
    cases s.ringDrives ch
    · rfl
    · rfl

theorem State.updSound_changes (ch : Chan) (f : ChanHealth → ChanHealth) : ChangesOnly [.sounding] s (s.updSound ch f) :=
  changes_tr s _

theorem State.updSound_self (ch : Chan) (f : ChanHealth → ChanHealth) : (s.updSound ch f).tr.chan[ch] = f s.tr.chan[ch] := by
  simp [State.updSound]

/-- A third equal outcome is a failure, with its entry (R224, R225). -/
theorem State.healthCheck_third {ch : Chan} {o : RingOutcome} (hl : (s.tr.chan[ch]).last = o)
    (hr : (s.tr.chan[ch]).run = 2) (hf : (s.tr.chan[ch]).failed = none) (ho : o ≠ .pass) : s.healthCheck ch o =
      ((s.channelPut ch o 3 (some o)).journal 0x2D (healthData (chanPath ch) ch true o.code)).settle := by
  unfold State.healthCheck
  simp only [hl, hr, hf, ho, if_true, if_false, Nat.reduceAdd, min_self, lt_irrefl, reduceCtorEq, and_true, or_self]
  rfl

theorem State.healthCheck_third_tr {ch : Chan} {o : RingOutcome} (hl : (s.tr.chan[ch]).last = o)
    (hr : (s.tr.chan[ch]).run = 2) (hf : (s.tr.chan[ch]).failed = none) (ho : o ≠ .pass) :
    (s.healthCheck ch o).tr = (s.channelPut ch o 3 (some o)).tr := by
  rw [s.healthCheck_third hl hr hf ho]
  exact (State.settle_changes _ .sounding (by decide)).trans (State.journal_tr _ _ _)

theorem State.channelPut_self (ch : Chan) (o : RingOutcome) (run : Nat) (f : Option RingOutcome) :
    (s.channelPut ch o run f).tr.chan[ch] = { s.tr.chan[ch] with last := o, run := run, failed := f } := by
  simp [State.channelPut]

/-- A channel after its ring shot, before the check (R198, R208, R223). -/
def State.ringHeard (s : State) (ch : Chan) (x : RingMeasure) : State :=
  s.updSound ch fun h => { h with
    ringBusy := false, ringOvr := false, fit := eightFit (if x.trip then [] else x.stops)
    cause := if x.trip then some .short else none
    stops := stopRecords (s.ringStatus ch x) (s.stopNegative (chanGroup ch)) (peakUnits x.peakMv) 0
      ((if x.trip then [] else x.stops).headD 0) (if x.trip then [] else x.stops) }

theorem exec_ringShotResult {s : State} {ch : Chan} {m : RingMeasure} (hm : m.wellFormed = true)
    (hb : (s.tr.chan[ch]).ringBusy = true) (ho : (s.tr.chan[ch]).ringOvr = false)
    (hs : s.ringStatus ch (s.ringSeen ch m) ≠ .shadow) : exec (.ringShotResult ch m) s =
      .next ((s.ringHeard ch (s.ringSeen ch m)).healthCheck ch
        (ringOutcome (s.ringSeen ch m) (s.eff 33 ⟨(chanPath ch).val, by omega⟩))) := by
  show execRingShotResult ch m s = _
  unfold execRingShotResult
  rw [hm, hb, occurs_true]
  dsimp only [whenFormed]
  rw [if_pos rfl, ho, if_neg Bool.false_ne_true, if_neg hs]
  rfl

end rings

/-- Settles O24: a gate by its job and its result, a calibration path by path, a ring shot by its turn and its outcome. -/
theorem regressorCalibrationRings : Obligations.RegressorCalibrationRings := by
  refine ⟨?_, ?_, ?_, ?_, ?_, ?_, ?_, ?_, ?_, ?_, ?_⟩
  · exact fun s j hj => congrArg _ (s.regRequest_free hj)
  · exact fun s j k hj hroom => congrArg _ (s.regRequest_waits hj hroom)
  · exact fun s j k hj hfull => congrArg _ (s.regRequest_full hj hfull)
  · intro s j e hj hearly
    rw [exec_stampRegressorGateEnd hj]
    exact occurs_of_not (by simpa using hearly)
  · intro s j hj hp
    have hexec := (exec_stampRegressorGateEnd hj none).trans (occurs_of rfl)
    obtain ⟨hjob, hqueue⟩ := s.gateOver_next j none hp
    exact ⟨_, hexec, s.gateOver_result j none, hjob, hqueue, s.gateOver_changes j none⟩
  · intro s j e x hj hend hx
    have hexec := (exec_stampRegressorGateEnd hj (some e)).trans (occurs_of (by simpa using hend))
    simp only [Option.bind_some, hx, Option.map_some] at hexec
    generalize BitVec.ofNat 64 (s.corrected x.toNat) = r at hexec ⊢
    obtain ⟨hclk, hcam⟩ := s.gateOver_user j (some r)
    refine ⟨_, hexec, s.gateOver_result j (some r), fun hrefin hp => ?_, fun k hk => ?_, s.gateOver_next j (some r),
      s.gateOver_changes j (some r)⟩
    · subst hrefin
      have hgive : s.gateGiven .refin (some r) = _ := if_pos hp
      rw [hclk, hgive]
    · subst hk
      rw [hcam, s.gateOver_result]
      exact congrArg CamSt.measured (State.updCam_self _ k _)
  · intro s d hon hdone
    have hall : s.calDone = true := by
      rw [State.calDone, hon, Bool.true_and]
      refine List.all_eq_true.mpr fun p _ => ?_
      cases hrun : (s.tr.path[p]).calRun with
      | none => rfl
      | some c => simpa [CalRun.done, or_assoc] using hdone p c hrun
    have hc := ((s.calPaths_changes d).join (State.calOver_changes _)).join
      ((s.calPaths d).calOver.calFollowed_changes s.mon.calWait)
    have hview (p : PathNo) : ((s.calPaths d).calOver.calFollowed s.mon.calWait).calView p =
        s.calViewNext p (s.calView p) := by
      rw [State.calFollowed_view, State.calOver_view, State.calPaths_view]
    have hoff := (s.calPaths d).calOver.calFollowed_calOn s.mon.calWait
    have hexec := exec_calibrationEnd hall d
    generalize (s.calPaths d).calOver.calFollowed s.mon.calWait = t at *
    refine ⟨t, hexec, hoff, fun p => ?_, fun p c hrun hr hclean => ?_, fun p c why hrun hr => ?_,
      hc .cameras (by decide), hc .kiln (by decide), hc.mov (by decide) (by decide), hc .store (by decide),
      hc .pending (by decide)⟩
    · have hrun : (t.tr.path[p]).calRun = none := (congrArg Prod.fst (hview p)).trans (s.calViewNext_run p _)
      rw [hrun]; rfl
    · have h := hview p
      simp only [State.calViewNext, State.calView, hrun, hr, hclean, Bool.not_false, Bool.or_true, Prod.mk.injEq] at h
      obtain ⟨-, -, hpassed, hwaits⟩ := h
      exact ⟨hpassed, (t.writeWaits_iff _).mp hwaits⟩
    · have h := hview p
      simp only [State.calViewNext, State.calView, hrun, hr, Prod.mk.injEq] at h
      obtain ⟨-, hrefused, -⟩ := h
      exact hrefused
  · intro s ch mv hm hs hd hn hf hp hdrives hmv
    have hexec := exec_ringShotDue ⟨hm, hs, hd, hn, hf, hp⟩ mv
    obtain ⟨htr, hc⟩ := s.vdrvCheck_spec mv
    rw [State.ringTaken, hdrives, if_neg (by decide), if_neg (by omega)] at hexec
    refine ⟨_, hexec, ?_, ?_, ?_, hc.more (State.updSound_changes _ ch _) (by decide)⟩
    · simp only [State.updSound, htr]
    · simp only [State.updSound, htr]
      exact decide_eq_false (by omega)
    · simp only [State.updSound, htr]
  · intro s ch mv hm hs hd hn hf hp hdrives hmv
    have hexec := exec_ringShotDue ⟨hm, hs, hd, hn, hf, hp⟩ mv
    obtain ⟨htr, hc⟩ := s.vdrvCheck_spec mv
    rw [State.ringTaken, hdrives, if_neg (by decide), if_pos hmv] at hexec
    refine ⟨_, hexec, ?_, ?_, ?_, hc.more (State.updSound_changes _ ch _) (by decide)⟩
    · rw [State.skipRing, State.updSound_self, htr]; exact hn ch
    · rw [State.skipRing, State.updSound_self]
    · simp only [State.skipRing, State.updSound, htr]
      exact decide_eq_true hmv
  · intro s ch mv hm hs hd hn hf hp hdrives
    rw [exec_ringShotDue ⟨hm, hs, hd, hn, hf, hp⟩ mv, State.ringTaken, if_pos hdrives]
  · intro s ch m hm hb ho hs hl hr hf hpass
    have hexec := exec_ringShotResult hm hb ho hs
    generalize ringOutcome (s.ringSeen ch m) (s.eff 33 ⟨(chanPath ch).val, by omega⟩) = o at *
    have hself : (s.ringHeard ch (s.ringSeen ch m)).tr.chan[ch] = _ := s.updSound_self ch _
    have hset : ChangesOnly [.sounding] s (s.ringHeard ch (s.ringSeen ch m)) := s.updSound_changes ch _
    generalize s.ringHeard ch (s.ringSeen ch m) = u at *
    obtain ⟨-, hc⟩ := u.healthCheck_spec ch o
    have htr := u.healthCheck_third_tr (by rw [hself]; exact hl) (by rw [hself]; exact hr) (by rw [hself]; exact hf) hpass
    have hch : (u.healthCheck ch o).tr.chan[ch] = { u.tr.chan[ch] with last := o, run := 3, failed := some o } := by
      rw [htr]
      exact u.channelPut_self ch o 3 (some o)
    refine ⟨_, hexec, ?_, ?_, ?_, ChangesOnly.then_journalling (by decide) (hset.mono (by decide)).with_journal hc⟩
    · rw [hch, hself]
    · rw [hch]
    · rw [hch]

end Sys2Proof.Machine

namespace Sys2Proof.Machine

/-! The writes of records and of working areas (§6.6; R136, R221, R257, R258, R515, R561, R562). -/

section records
variable (s : State)

theorem State.storeWrites_waits (hx : s.clk.xoReady = false) (hf : s.clk.xoFail = false) : s.storeWrites = false := by
  rw [State.storeWrites, hx, hf]; rfl

/-- The oldest write made (R257, R258). -/
def State.writeMade (s : State) (w : WriteReq) (rest : List WriteReq) : State :=
  { s with
    dev := { s.dev with keepOn := true }
    tal := { s.tal with store := writeStore s.tal.store w.id w.content, writes := rest } }

/-- A record that was committed: it comes into use, and the twin is told (R221, R515, R561, R562). -/
def State.recordUsed (s : State) (r : RecId) (l : List Byte) : State := ((s.useRecord r l).mirrorRecord r l).mirrorTally r

theorem State.writeMade_changes (w : WriteReq) (rest : List WriteReq) :
    ChangesOnly [.device, .store, .writes] s (s.writeMade w rest) := by
  have hdev : ChangesOnly [.device] s { s with dev := { s.dev with keepOn := true } } := changes_dev s _
  exact (hdev.join (changes_store _ (writeStore s.tal.store w.id w.content))).join (changes_writes _ rest)

theorem State.useRecord_changes (r : RecId) (l : List Byte) :
    ChangesOnly [.sounding, .pathTallies, .fabric] s (s.useRecord r l) := by
  cases r with
  | calibration p => exact (s.updPath_changes p _).join (changes_pathTallies _ _) |>.mono (by decide)
  | keys p => exact (s.updPort_changes p _).mono (by decide)
  | device => exact .refl _ s
  | deviceTallies => exact .refl _ s
  | pathTallies p => exact .refl _ s
  | ageing => exact .refl _ s

theorem State.mirrorRecord_changes (r : RecId) (l : List Byte) : ChangesOnly [.fabric, .twin] s (s.mirrorRecord r l) := by
  unfold State.mirrorRecord
  split
  · exact ChangesOnly.ite (s.sendMirror_changes _ _) (.refl _ s)
  · exact .refl _ s

theorem State.mirrorTally_changes (r : RecId) : ChangesOnly [.fabric, .twin] s (s.mirrorTally r) := by
  have sent (b : List Byte) (t : Twin) : ChangesOnly [.fabric, .twin] s { s.sendMirror kTally b with twin := t } :=
    (s.sendMirror_changes kTally b).trans ((changes_twin _ t).mono (by decide))
  unfold State.mirrorTally
  refine ChangesOnly.ite (.refl _ s) ?_
  split
  · exact ChangesOnly.ite (.refl _ s) (sent _ _)
  · exact ChangesOnly.ite (.refl _ s) (sent _ _)
  · exact .refl _ s

/-- The mirror after a record leaves the path of a calibration. -/
theorem State.recordUsed_after (r : RecId) (l : List Byte) :
    ChangesOnly [.fabric, .twin] (s.useRecord r l) (s.recordUsed r l) :=
  (State.mirrorRecord_changes _ r l).trans (State.mirrorTally_changes _ r)

theorem State.recordUsed_changes (r : RecId) (l : List Byte) :
    ChangesOnly [.sounding, .pathTallies, .fabric, .twin] s (s.recordUsed r l) :=
  ((s.useRecord_changes r l).mono (by decide)).trans ((s.recordUsed_after r l).mono (by decide))

theorem State.recordUsed_calibration (p : PathNo) (l : List Byte) :
    ((s.recordUsed (.calibration p) l).tr.path[p]).calib = some (CalRecord.parse l) := by
  have htr : (s.recordUsed (.calibration p) l).tr = (s.useRecord (.calibration p) l).tr :=
    s.recordUsed_after _ l .sounding (by decide)
  rw [htr]
  exact congrArg PathSt.calib (s.updPath_self p fun q => { q with calib := some (CalRecord.parse l) })

/-- A key record is not mirrored. -/
theorem State.recordUsed_keys (p : FabPort) (l : List Byte) :
    ((s.recordUsed (.keys p) l).fab.port[p]).key = some (KeyRec.parse l) := by
  have htold : s.recordUsed (.keys p) l = s.useRecord (.keys p) l := by
    show (s.useRecord (.keys p) l).mirrorTally (.keys p) = _
    unfold State.mirrorTally
    split <;> rfl
  rw [htold]
  exact congrArg FPort.key (s.updPort_self p _)

variable {s} {w : WriteReq} {rest : List WriteReq}

theorem exec_recordWrite_work {p : PathNo} (hq : s.tal.writes = w :: rest) (hs : s.storeWrites = true)
    (hid : w.id = .work p) : exec .recordWrite s = .next (s.writeMade w rest) := by
  show execRecordWrite s = _
  unfold execRecordWrite
  rw [hq]
  dsimp only
  rw [hs, occurs_true, hid, State.writeMade, hid]

theorem exec_recordWrite_record {r : RecId} (hq : s.tal.writes = w :: rest) (hs : s.storeWrites = true)
    (hid : w.id = .record r) : exec .recordWrite s = .next ((s.writeMade w rest).recordUsed r w.content) := by
  show execRecordWrite s = _
  unfold execRecordWrite
  rw [hq]
  dsimp only
  rw [hs, occurs_true, hid, State.writeMade, hid]
  rfl

end records
end Sys2Proof.Machine

namespace Sys2Proof.Machine

/-! A clean completed (§6.7; R265, R267). -/

section clean
variable (s : State)

theorem FPort.Queued.key {a b : FPort} (h : a.Queued b) : b.key = a.key := by rw [h]

/-- The parts that a clean sets to zero or writes. -/
def cleanParts : List Part :=
  [.device, .sounding, .pathTallies, .deviceTallies, .store, .writes, .tallyRest, .fabric]

/-- What a clean zeroes and counts, with the store erased and then written (R265, steps 2 to 6). -/
def State.cleanedWith (s : State) (erased written : Mem) : State :=
  (({ s with tal := { s.tal with
    store := erased, cleans := s.tal.cleans + 1, cleaning := false
    writes := s.tal.writes.filter fun w => decide (w.id ≠ .record .device) } } : State).zeroForClean).setStore written

theorem State.cleanedWith_changes (m n : Mem) : ChangesOnly cleanParts s (s.cleanedWith m n) := by
  intro q hq
  cases q <;> simp_all [Part.same, Mov.restSame, cleanParts, State.cleanedWith, State.zeroForClean, State.setStore]

theorem State.cleanedWith_tal (m n : Mem) :
    (s.cleanedWith m n).tal.cleaning = false ∧ (s.cleanedWith m n).tal.cleans = s.tal.cleans + 1 := ⟨rfl, rfl⟩

theorem State.cleanedWith_path (m n : Mem) (p : PathNo) :
    ((s.cleanedWith m n).tal.path[p]).count = Vector.replicate 8 0 ∧ ((s.cleanedWith m n).tr.path[p]).calib = none := by
  simp [State.cleanedWith, State.zeroForClean, State.setStore]

theorem State.cleanedWith_port (m n : Mem) (p : FabPort) :
    ((s.cleanedWith m n).fab.port[p]).key = none ∧ ((s.cleanedWith m n).fab.port[p]).trust = .unpaired := by
  simp [State.cleanedWith, State.zeroForClean, State.setStore]

/-- CLEANED follows on LEDG where it waited (R97). -/
def State.cleanTold (s : State) : State :=
  if s.loc.ackG = none ∧ s.loc.ackGNext = some .cleaned then s.ackGreen .cleaned else s

theorem State.cleanTold_changes : ChangesOnly [.wiring] s s.cleanTold :=
  ChangesOnly.ite (s.ackGreen_changes _ _) (.refl _ s)

theorem State.finishClean_eq : ∃ m n, s.finishClean =
    ((s.cleanedWith m n).journal 0x3A ((s.tal.cleans + 1).toNat % 32768)).cleanTold := ⟨_, _, rfl⟩

end clean

/-! The journal port and its ring (§6.10; R273, R275, R276). -/

section port
variable (s : State)

theorem State.journal_mem_journalling : [Part.journal] ⊆ s.journalling := by
  unfold State.journalling; split <;> decide

/-- An entry that finds the queue full is dropped and counted (R276). -/
theorem State.journal_full {code data l : Nat} (hl : jLevel (BitVec.ofNat 8 code) = some l) (hv : l ≤ s.verbosity)
    (hfull : 33 ≤ s.tal.jQueue.length) :
    s.journal code data = ({ s with tal := { s.tal with jDropped := s.tal.jDropped + 1 } } : State).addTally 23 1 := by
  unfold State.journal State.journalEntry
  simp only [hl, if_neg (Nat.not_lt.mpr hv), if_pos hfull]

/-- An entry that finds room, or is not written at all, drops nothing. -/
theorem State.journal_dropped (hroom : s.tal.jQueue.length < 33) (code data : Nat) :
    (s.journal code data).tal.jDropped = s.tal.jDropped := by
  have mirrored (t : State) (k : Nat) (b : List Byte) : (t.sendMirror k b).tal.jDropped = t.tal.jDropped :=
    (t.sendMirror_changes k b .journal (by decide)).2.2
  unfold State.journal State.journalEntry
  split
  · rfl
  · split
    · rfl
    · rw [if_neg (Nat.not_le.mpr hroom)]
      dsimp only
      split
      · rfl
      · rw [mirrored]
        split <;> rfl

/-- The oldest entry written at its place in the ring (R273). -/
def State.entryStored (s : State) (e : JEntry) (rest : List JEntry) : State :=
  { s with
    dev := { s.dev with keepOn := true }
    tal := { s.tal with
      jQueue := rest, store := memStore s.tal.store (journalAddr e.num) e.bytes
      lastBreach := if e.code = 0x30#8 then BitVec.ofNat 32 (e.data.toNat + 65536 * (e.num.toNat % 65536))
        else s.tal.lastBreach } }

/-- A monitor that follows the journal shows the entry (R639). -/
def State.entryShown (s : State) (e : JEntry) : State :=
  if s.mon.follow then { s with mon := { s.mon with out := s.mon.out ++ [e.line] } } else s

theorem State.entryStored_changes (e : JEntry) (rest : List JEntry) :
    ChangesOnly [.device, .journal, .store, .tallyRest] s (s.entryStored e rest) := by
  intro q hq; cases q <;> simp_all [Part.same, Mov.restSame, State.entryStored]

theorem State.entryShown_changes (e : JEntry) : ChangesOnly [.monitor] s (s.entryShown e) :=
  ChangesOnly.ite (changes_mon s _) (.refl _ s)

theorem State.entryShown_tal (e : JEntry) : (s.entryShown e).tal = s.tal := by
  unfold State.entryShown; split <;> rfl

/-- The number of dropped entries taken up (R276). -/
def State.overflowTaken (s : State) : State := { s with tal := { s.tal with jDropped := 0 } }

theorem State.overflowTaken_changes : ChangesOnly [.journal] s s.overflowTaken := by
  intro q hq; cases q <;> simp_all [Part.same, Tal.restSame, Mov.restSame, State.overflowTaken]

theorem exec_journalOverflow {s : State} (hd : 0 < s.tal.jDropped) (hroom : s.tal.jQueue.length < 33) :
    exec .journalOverflow s = .next (s.overflowTaken.journal 0x3E (min s.tal.jDropped 65535)) :=
  occurs_of (by simp [hd, hroom])

theorem exec_journalWrite {s : State} {e : JEntry} {rest : List JEntry} (hq : s.tal.jQueue = e :: rest)
    (hs : s.storeWrites = true) : exec .journalWrite s = .next ((s.entryStored e rest).entryShown e) := by
  show execJournalWrite s = _
  unfold execJournalWrite
  rw [hq]
  exact occurs_of hs

end port

/-- A re-firing pass begun (R269). -/
def State.refireBegun (s : State) : State :=
  { s with tal := { s.tal with refireOn := true, refireBlock := 0, refireFrom := s.day, refireNext := s.now } }

theorem State.refireBegun_changes (s : State) : ChangesOnly [.tallyRest] s s.refireBegun := by
  intro q hq; cases q <;> simp_all [Part.same, Mov.restSame, State.refireBegun]

theorem exec_refireDue {s : State} (hscan : s.tal.scanned = true) (hdone : s.dev.scanDone = true)
    (hoff : s.tal.refireOn = false) (hdue : s.tal.refireDueCal ≤ s.calTicks) :
    exec .refireDue s = .next (s.refireBegun.journal 0x3B 1) :=
  occurs_of (by simp [hscan, hdone, hoff, hdue])

/-- Settles O26: a write by what it is for, a clean by what it zeroes, the journal by its queue. -/
theorem storeAndJournal : Obligations.StoreAndJournal := by
  refine ⟨?_, ?_, ?_, ?_, ?_, ?_, ?_, ?_⟩
  · intro s hx hf
    have hwaits := s.storeWrites_waits hx hf
    refine ⟨?_, ?_⟩
    · show execRecordWrite s = _
      unfold execRecordWrite
      split
      · rfl
      · exact occurs_of_not hwaits
    · show execJournalWrite s = _
      unfold execJournalWrite
      split
      · rfl
      · exact occurs_of_not hwaits
  · intro s w rest hq hs
    have hmade := s.writeMade_changes w rest
    cases hid : w.id with
    | work p =>
      have hstore : (s.writeMade w rest).tal.store = writeStore s.tal.store w.id w.content := rfl
      rw [hid] at hstore
      exact ⟨_, exec_recordWrite_work hq hs hid, hstore, rfl, rfl, by simp, by simp, hmade.mono (by decide)⟩
    | record r =>
      have hused := (s.writeMade w rest).recordUsed_changes r w.content
      have hstore : (s.writeMade w rest).tal.store = writeStore s.tal.store w.id w.content := rfl
      rw [hid] at hstore
      refine ⟨_, exec_recordWrite_record hq hs hid, (hused .store (by decide)).trans hstore, hused .writes (by decide),
        congrArg Dev.keepOn (hused .device (by decide)), fun p hp => ?_, fun p hp => ?_,
        (hmade.join hused).mono (by decide)⟩
      · obtain rfl : r = .calibration p := by simpa using hp
        exact State.recordUsed_calibration _ p _
      · obtain rfl : r = .keys p := by simpa using hp
        exact State.recordUsed_keys _ p _
  · intro s hclean
    obtain ⟨m, n, hfinish⟩ := s.finishClean_eq
    have hexec : exec .cleanComplete s = _ := (occurs_of hclean).trans (congrArg _ hfinish)
    have hset := s.cleanedWith_changes m n
    obtain ⟨hdone, hcount⟩ := s.cleanedWith_tal m n
    have hzero := s.cleanedWith_path m n
    have hunpaired := s.cleanedWith_port m n
    generalize s.cleanedWith m n = u at *
    have hjournal := u.journal_le 0x3A ((s.tal.cleans + 1).toNat % 32768)
    have hport := u.journal_port 0x3A ((s.tal.cleans + 1).toNat % 32768)
    have htold := (u.journal 0x3A ((s.tal.cleans + 1).toNat % 32768)).cleanTold_changes
    obtain ⟨hlogs, -⟩ := (hset.mono (qs := .wiring :: cleanParts) (by decide)).entry (htold.mono (by decide)) (by decide)
      (by decide)
    have hafter := hjournal.join htold
    have hall := hset.join hafter
    have hfab := htold .fabric (by decide)
    generalize (u.journal 0x3A ((s.tal.cleans + 1).toNat % 32768)).cleanTold = t at *
    have hpath : t.tal.path = u.tal.path := hafter .pathTallies (by decide)
    have htr : t.tr = u.tr := hafter .sounding (by decide)
    obtain ⟨-, -, -, -, -, -, -, hcleans, hcleaning, -⟩ : u.tal.restSame t.tal := hafter .tallyRest (by decide)
    refine ⟨t, hexec, hcleaning.trans hdone, hcleans.trans hcount, fun p => ?_, fun p => ?_, hlogs,
      hall .cameras (by decide), hall .kiln (by decide), hall.mov (by decide) (by decide), hall .beads (by decide),
      hall .pending (by decide)⟩
    · rw [hpath, htr]
      exact hzero p
    · obtain ⟨hkey, htrust⟩ := hunpaired p
      rw [hfab]
      exact ⟨(hport p).key.trans hkey, (hport p).trust.trans htrust⟩
  · intro s hon hnext hblock
    have hfixed (i : Fin 16) : s.refireDiff (s.tal.refireBlock + i.val) (Vector.replicate 16 (0 : Fin 3))[i] = s :=
      if_pos (by simp)
    refine (occurs_of (by simp [hon, hnext])).trans ?_
    rw [List.foldl_fixed' hfixed, State.refireStep]
    dsimp only
    rw [if_pos hblock]
    rfl
  · intro s hscan hdone hoff hdue
    obtain ⟨hlogs, hc⟩ := s.refireBegun_changes.entry (.refl _ (s.refireBegun.journal 0x3B 1)) (by decide) (by decide)
    obtain ⟨-, -, -, -, -, -, -, -, -, -, hon, hblock, hday, -, -, hfrom, -, hnext, -, -⟩ :
      s.refireBegun.tal.restSame (s.refireBegun.journal 0x3B 1).tal := State.journal_le _ _ _ .tallyRest (by decide)
    exact ⟨_, exec_refireDue hscan hdone hoff hdue, hon, hblock, hfrom, hday, hnext, hlogs, hc⟩
  · intro s c d
    refine ⟨_, rfl, fun htakes => State.journal_logs htakes _, fun l hl hv hfull => ?_, s.journal_changes _ _⟩
    have hc : BitVec.ofNat 8 c.toNat = c := by simp
    rw [s.journal_full (by rw [hc]; exact hl) hv hfull]
    exact ⟨rfl, rfl, Vector.getElem_set_self _⟩
  · intro s e rest hq hs
    have htal := (s.entryStored e rest).entryShown_tal e
    exact ⟨_, exec_journalWrite hq hs, by rw [htal]; rfl, by rw [htal]; rfl,
      (s.entryStored_changes e rest).join (State.entryShown_changes _ e)⟩
  · intro s hd hroom
    refine ⟨_, exec_journalOverflow hd hroom, State.journal_dropped s.overflowTaken hroom _ _,
      fun htakes => State.journal_logs (s := s.overflowTaken) htakes _, ?_⟩
    exact (s.overflowTaken_changes.mono s.journal_mem_journalling).trans (State.journal_changes s.overflowTaken _ _)

end Sys2Proof.Machine

namespace Sys2Proof.Machine

/-! The packets of a camera port (§7.1; R284 to R287, Table 7.4). -/

section packets
variable {s : State} {k : CamPort} {pkt : CsiPacket} {r : Recipe}

theorem State.updCam_updCam (f g : CamSt → CamSt) : (s.updCam k f).updCam k g = s.updCam k fun q => g (f q) := by
  simp [State.updCam]

/-- Two changes of a port, told by what they leave there. -/
theorem State.updCam_updCam_const (f g : CamSt → CamSt) :
    (s.updCam k f).updCam k g = s.updCam k fun _ => ((s.updCam k f).updCam k g).cam[k] := by
  rw [State.updCam_updCam, State.updCam_self]
  rfl

theorem State.updCam_keeps {f : CamSt → CamSt} (h : f s.cam[k] = s.cam[k]) : s.updCam k f = s := by
  rw [State.updCam, h, Fin.getElem_fin, Vector.set_getElem_self]

/-- A pixel line changes its port only. -/
theorem State.pixelLine_updCam (s : State) (k : CamPort) (h : RecipeHeader) (f : CamFrame) (p : CsiPacket) :
    ∃ g, s.pixelLine k h f p = s.updCam k g := by
  unfold State.pixelLine
  split
  · exact ⟨_, rfl⟩
  · exact ⟨_, rfl⟩

/-- What a packet does to its port, by its header, its virtual channel and its data type (Table 7.4). -/
structure PacketTaken (s : State) (k : CamPort) (pkt : CsiPacket) (r : Recipe) (t : State) : Prop where
  port : ∃ f, t = s.updCam k f
  badHeader : pkt.hdrBad = true → t = s.updCam k fun q => { q with hdrErr := q.hdrErr + 1 }
  otherVc : pkt.hdrBad = false → pkt.vc.val ≠ r.hdr.vc → t = s.updCam k fun q => { q with otherVc := q.otherVc + 1 }
  frameStart : pkt.hdrBad = false → pkt.vc.val = r.hdr.vc → pkt.dt = 0 →
    t = s.updCam k fun q => { q with fsPend := q.fsPend ++ [pkt.word] }
  frameEnd : pkt.hdrBad = false → pkt.vc.val = r.hdr.vc → pkt.dt = 1 → t = s.updCam k fun q => { q with fePend := true }
  unsupported : pkt.hdrBad = false → pkt.vc.val = r.hdr.vc → pkt.dt = 0x1E →
    t = s.updCam k fun q => { q with unsupported := q.unsupported + 1 }

theorem exec_csi2PacketReceived (hw : pkt.wellFormed = true) (hr : s.portRecipe k = some r)
    (hc : (s.cam[k]).cen = true) : ∃ t, exec (.csi2PacketReceived k pkt) s = .next t ∧ PacketTaken s k pkt r t := by
  have same : ∃ f, s = s.updCam k f := ⟨id, (State.updCam_keeps rfl).symm⟩
  show ∃ t, execCsi2PacketReceived k pkt s = .next t ∧ PacketTaken s k pkt r t
  unfold execCsi2PacketReceived
  rw [hw, hr]
  refine ⟨_, occurs_of hc, ?_, ?_, ?_, ?_, ?_, ?_⟩
  · dsimp only
    split_ifs
    · exact ⟨_, rfl⟩
    · exact ⟨_, rfl⟩
    · exact ⟨_, rfl⟩
    · exact ⟨_, rfl⟩
    · exact same
    · split
      · exact s.pixelLine_updCam k _ _ _
      · exact same
    · split
      · exact same
      · exact same
    · exact ⟨_, rfl⟩
  · intro hbad
    simp only [hbad, if_true]
  · intro hgood hvc
    simp only [hgood, hvc, Bool.false_eq_true, if_false, ne_eq, not_false_eq_true, if_true]
  · intro hgood hvc hdt
    simp [hgood, hvc, hdt]
  · intro hgood hvc hdt
    simp [hgood, hvc, hdt]
  · intro hgood hvc hdt
    simp [hgood, hvc, hdt]

end packets

/-! A frame from its start to its close (§7.3; R287 to R291, R314, R316, R321). -/

section frames
variable (s : State)

/-- A frame as it closes: stalled or not, and short where lines are missing (R287, R288). -/
def CamFrame.closing (f : CamFrame) (stall : Bool) (missing : Nat) : CamFrame :=
  { f with stall := stall, shortFrame := decide (0 < missing) }

/-- The bad frames in a row after a close (R290); a frame that is discarded does not count. -/
def CamSt.badRunAfter (q : CamSt) (f g : CamFrame) : Nat :=
  if f.discard then q.badRun else if g.bad && !f.discard then q.badRun + 1 else 0

theorem State.putFrame_changes (k : CamPort) (f : CamFrame) : ChangesOnly [.kiln] s (s.putFrame k f) := changes_kiln s _
theorem State.newFrame_changes (k : CamPort) (f : CamFrame) : ChangesOnly [.kiln] s (s.newFrame k f) := changes_kiln s _

/-- A port after a frame that closed on it, with the lines that its FIFO then holds. -/
def CamSt.closed (q : CamSt) (f g : CamFrame) (fifo : List (List Byte)) : CamSt :=
  { q with
    frame := none, fePend := false, badRun := q.badRunAfter f g
    lastFlags := if f.discard then q.lastFlags else BitVec.ofNat 16 g.flagWord
    fifo := fifo }

/-- The FIFO filled with black-level lines for those that a frame lacks (R287), unless it discards them (R394). -/
def State.filled (s : State) (k : CamPort) (h : RecipeHeader) (f : CamFrame) (l : List (List Byte)) : List (List Byte) :=
  bif f.discard || s.fifoDiscards k then l else l ++ (List.range (h.allLines - f.lines)).map fun i =>
    padWords (packRaw h.dt (s.padSamples k h.dt h.ob (f.lines + i) 0 h.width))

theorem State.filled_whole {k : CamPort} {h : RecipeHeader} {f : CamFrame} (hw : h.allLines ≤ f.lines)
    (l : List (List Byte)) : s.filled k h f l = l := by
  rw [State.filled, Nat.sub_eq_zero_of_le hw, List.range_zero, List.map_nil, List.append_nil, Bool.cond_self]

/-- The state after a frame that closed, with what the kiln knows of it. -/
def State.frameClosed (s : State) (k : CamPort) (h : RecipeHeader) (f g : CamFrame) : State :=
  let t := s.updCam k fun q => q.closed f g (s.filled k h f q.fifo)
  if f.discard then t else t.putFrame k g

theorem State.frameClosed_cam (k : CamPort) (h : RecipeHeader) (f g : CamFrame) (j : CamPort) :
    (s.frameClosed k h f g).cam[j] =
      if j = k then (s.cam[k]).closed f g (s.filled k h f (s.cam[k]).fifo) else s.cam[j] := by
  have hcam := s.updCam_cam k (fun q => q.closed f g (s.filled k h f q.fifo)) j
  unfold State.frameClosed
  dsimp only
  split
  · exact hcam
  · exact hcam

theorem State.frameClosed_changes (k : CamPort) (h : RecipeHeader) (f g : CamFrame) :
    ChangesOnly [.cameras, .kiln] s (s.frameClosed k h f g) := by
  have hset := s.updCam_changes k fun q => q.closed f g (s.filled k h f q.fifo)
  exact ChangesOnly.ite (hset.mono (by decide)) (hset.join (State.putFrame_changes _ k g))

/-- A close that neither ends in a restart nor lets the port leave its state. -/
theorem State.closeFrame_eq {k : CamPort} {r : Recipe} {f : CamFrame} {stall : Bool} (hr : s.portRecipe k = some r)
    (hf : (s.cam[k]).frame = some f) (hl : (s.cam[k]).leave = none)
    (hb : (s.cam[k]).badRunAfter f (f.closing stall (r.hdr.allLines - f.lines)) < 8) :
    s.closeFrame k stall = s.frameClosed k r.hdr f (f.closing stall (r.hdr.allLines - f.lines)) := by
  have hrun : ¬ 8 ≤ ((s.frameClosed k r.hdr f (f.closing stall (r.hdr.allLines - f.lines))).cam[k]).badRun := by
    rw [State.frameClosed_cam, if_pos rfl]
    exact Nat.not_le.mpr hb
  unfold State.closeFrame
  rw [hf, hr, hl]
  exact if_neg hrun

theorem CamSt.badRunAfter_le (q : CamSt) (f g : CamFrame) : q.badRunAfter f g ≤ q.badRun + 1 := by
  unfold CamSt.badRunAfter
  split
  · omega
  · split <;> omega

/-- A frame with all its lines, none of them bad, is not bad (R290). -/
theorem CamFrame.closing_whole {f : CamFrame} (hm : f.matched = f.lines) (hpos : 0 < f.lines) (hbad : f.badLines = 0)
    (hlong : f.longFrame = false) : (f.closing false 0).bad = false := by
  have hzero : ¬ f.lines = 0 := by omega
  simp [CamFrame.bad, CamFrame.closing, hm, hbad, hlong, hzero]

theorem CamFrame.closing_stalled (f : CamFrame) (n : Nat) : (f.closing true n).bad = true := by
  simp [CamFrame.bad, CamFrame.closing]

/-- A bit of a number made of bits. -/
theorem bitsNat_testBit (l : List Bool) (i : Nat) : (bitsNat l).testBit i = l.getD i false := by
  induction l generalizing i with
  | nil => simp [bitsNat]
  | cons b l ih =>
    have hbit : bitsNat (b :: l) = Nat.bit b (bitsNat l) := by
      cases b <;> simp [bitsNat, bit, Nat.bit, Nat.add_comm]
    cases i with
    | zero => rw [hbit, Nat.testBit_bit_zero]; rfl
    | succ i => rw [hbit, Nat.testBit_bit_succ, ih]; rfl

/-- The flag STALL of a frame (Table 8.6). -/
theorem CamFrame.flagWord_stall (g : CamFrame) : (BitVec.ofNat 16 g.flagWord).getLsbD 4 = g.stall := by
  rw [BitVec.getLsbD_ofNat, CamFrame.flagWord, bitsNat_testBit]
  rfl

variable {s}

/-- A frame start that waits for a change of the port's bead: the open frame closes, and no other begins (R321). -/
theorem exec_camFrameStart_waits {k : CamPort} {w : BitVec 16} {rest : List (BitVec 16)} {r : Recipe} {f : CamFrame}
    (hfs : (s.cam[k]).fsPend = w :: rest) (hr : s.portRecipe k = some r) (hf : (s.cam[k]).frame = some f)
    (hu : s.useWaits k = true) (phase : Nat) : exec (.camFrameStart k phase) s = .next (s.closeFrame k false) := by
  have hwaits : ((s.cam[k]).frame.isSome && s.useWaits k) = true := by rw [hf, hu]; rfl
  have hkept : (s.updCam k fun q => { q with
      fsPend := if ((s.cam[k]).frame.isSome && s.useWaits k) = true then q.fsPend else rest }) = s :=
    State.updCam_keeps (by simp only [hwaits, if_true])
  show execCamFrameStart k phase s = _
  unfold execCamFrameStart
  rw [hfs, hr]
  refine (occurs_of (by rw [hf]; exact Bool.or_true _)).trans ?_
  extract_lets closes s0 s1
  have hs1 : s1 = s.closeFrame k false := by
    have hcloses : closes = true := by unfold closes; rw [hf]; rfl
    unfold s1
    rw [if_pos hcloses, show s0 = s from hkept]
  rw [if_pos (by rw [show (closes && s.useWaits k) = true from hwaits]; rfl), hs1]

/-- What a frame that begins makes of its port, and the frame itself (R289, R291, R314). -/
structure FrameBegun (q : CamSt) (stamp : Nat) (w : BitVec 16) (rest : List (BitVec 16)) (c : CamSt)
    (f : CamFrame) : Prop where
  fsPend : c.fsPend = rest
  counter : c.counter = q.counter + 1
  frames : c.frames = q.frames + 1
  lastStart : c.lastStart = some stamp
  frame : c.frame = some f
  stamp : f.stamp = stamp
  num : f.num = w
  count : f.counter = q.counter
  free : f.free = true
  kept : f.discard = false
  lines : f.lines = 0

/-- The first frame of a port that streams without a frame grid is not discarded, and no WAIT hangs on it. -/
theorem exec_camFrameStart_first {k : CamPort} {w : BitVec 16} {rest : List (BitVec 16)} {r : Recipe}
    (hfs : (s.cam[k]).fsPend = w :: rest) (hr : s.portRecipe k = some r) (hst : (s.cam[k]).state = .streaming)
    (hf : (s.cam[k]).frame = none) (hlast : (s.cam[k]).lastStart = none) (hfree : (s.cam[k]).freeRun = true)
    (hfifo : s.fifoDiscards k = false) (phase : Nat) : ∃ t, exec (.camFrameStart k phase) s = .next t ∧
      ∃ c f, t = (s.updCam k fun _ => c).newFrame k f ∧ FrameBegun s.cam[k] (s.stampAt phase) w rest c f := by
  have hguard : (decide ((s.cam[k]).state = .waiting) || decide ((s.cam[k]).state = .streaming) ||
      (s.cam[k]).frame.isSome) = true := by rw [hst]; rfl
  show ∃ t, execCamFrameStart k phase s = .next t ∧ _
  unfold execCamFrameStart
  rw [hfs, hr]
  refine ⟨_, occurs_of hguard, ?_⟩
  extract_lets closes s0 s1 first s2 q stamp drop trig off offRun ignored codes f s3 s4
  have hcloses : closes = false := by unfold closes; rw [hf]; rfl
  have hs1 : s1 = s.updCam k fun q => { q with fsPend := rest } := by
    unfold s1 s0
    rw [hcloses]
    rfl
  have hport : s1.cam[k] = { s.cam[k] with fsPend := rest } := by rw [hs1]; exact s.updCam_self k _
  have hfirst : first = false := by unfold first; rw [hport, hst]; rfl
  have hs2 : s2 = s1 := by unfold s2; rw [hfirst]; rfl
  have hq : q = { s.cam[k] with fsPend := rest } := by unfold q; rw [hs2, hport]
  have hdrop : drop = false := by unfold drop; rw [hq, hlast]
  have htrig : trig = false := by unfold trig; rw [hq, hfree]; exact Bool.and_false _
  have hoff : offRun = 0 := by unfold offRun off; rw [htrig]; rfl
  have hignored : ignored = false := by unfold ignored; rw [hoff]; rfl
  have hstays : (closes && s.useWaits k || decide ((s1.cam[k]).state ≠ .waiting) &&
      decide ((s1.cam[k]).state ≠ .streaming)) = false := by rw [hcloses, hport, hst]; rfl
  have hupd : s3 = s.updCam k fun _ => s3.cam[k] := by
    unfold s3
    rw [hs2, hs1]
    exact State.updCam_updCam_const _ _
  have hseen : s4 = s3.newFrame k f := by
    have hkept : (s3.newFrame k f).fifoDiscards k = false := by rw [hupd]; exact hfifo
    unfold s4
    rw [hdrop, State.frameStartSeen, hkept]
    rfl
  have hself : s3.cam[k] = _ := s2.updCam_self k _
  refine ⟨s3.cam[k], f, ?_, ?_⟩
  · rw [hstays, hignored, ← hupd]
    exact hseen
  · refine ⟨?_, ?_, ?_, ?_, ?_, rfl, rfl, ?_, ?_, hdrop, rfl⟩
    · rw [hself]
      show q.fsPend = rest
      rw [hq]
    · rw [hself]
      show (if drop = true then q.counter else q.counter + 1) = _
      rw [hdrop, hq]
      rfl
    · rw [hself]
      show q.frames + 1 = _
      rw [hq]
    · rw [hself]
      show (if drop = true then q.lastStart else some stamp) = _
      rw [hdrop]
      rfl
    · rw [hself]
    · show q.counter = _
      rw [hq]
    · show (!trig || ignored) = true
      rw [htrig]
      rfl

/-- A frame end on a whole frame with no bad line closes it, and the run of bad frames ends (R288, R290). -/
theorem exec_camFrameEnd_whole {k : CamPort} {r : Recipe} {f : CamFrame} (hfe : (s.cam[k]).fePend = true)
    (hr : s.portRecipe k = some r) (hf : (s.cam[k]).frame = some f) (hlines : f.lines = r.hdr.allLines)
    (hm : f.matched = f.lines) (hpos : 0 < f.lines) (hbad : f.badLines = 0) (hlong : f.longFrame = false)
    (hkept : f.discard = false) (hl : (s.cam[k]).leave = none) :
    exec (.camFrameEnd k) s = .next (s.frameClosed k r.hdr f (f.closing false 0)) ∧
      (s.cam[k]).badRunAfter f (f.closing false 0) = 0 := by
  have hnone : r.hdr.allLines - f.lines = 0 := by omega
  have hrun : (s.cam[k]).badRunAfter f (f.closing false 0) = 0 := by
    rw [CamSt.badRunAfter, hkept, CamFrame.closing_whole hm hpos hbad hlong]
    rfl
  have hclose : s.closeFrame k false = _ :=
    State.closeFrame_eq s hr hf hl (by rw [hnone, hrun]; exact Nat.zero_lt_succ 7)
  rw [hnone] at hclose
  exact ⟨hclose ▸ occurs_of hfe, hrun⟩

/-- A frame without a close for twice its period is closed as stalled, and it is a bad one (R288, R290). -/
theorem exec_camFrameStall {k : CamPort} {r : Recipe} {f : CamFrame} (hr : s.portRecipe k = some r)
    (hf : (s.cam[k]).frame = some f) (hl : (s.cam[k]).leave = none) (hrun : (s.cam[k]).badRun < 7)
    (hlate : f.startTick + cdiv (2 * r.hdr.period) 2000000000 ≤ s.now) :
    exec (.camFrameStall k) s = .next (s.frameClosed k r.hdr f (f.closing true (r.hdr.allLines - f.lines))) := by
  have hle := (s.cam[k]).badRunAfter_le f (f.closing true (r.hdr.allLines - f.lines))
  show execCamFrameStall k s = _
  unfold execCamFrameStall
  rw [hf, hr]
  exact (occurs_of (decide_eq_true hlate)).trans
    (congrArg _ (State.closeFrame_eq s hr hf hl (by omega)))

end frames

/-- Settles O27: a packet changes its port as `PacketTaken` says; a close that ends in no restart is `frameClosed`; a
frame that begins on a port without a grid is `FrameBegun`. -/
theorem cameraFrames : Obligations.CameraFrames := by
  refine ⟨?_, ?_, ?_, ?_, ?_⟩
  · intro s k pkt r hw hr hc
    obtain ⟨t, ht, htaken⟩ := exec_csi2PacketReceived hw hr hc
    obtain ⟨g, hg⟩ := htaken.port
    refine ⟨t, ht, fun hbad => ?_, fun hgood hvc => ?_, fun hgood hvc hdt => ?_, fun hgood hvc hdt => ?_,
      fun hgood hvc hdt => ?_, fun j hj => ?_, ?_⟩
    · exact htaken.badHeader hbad ▸ s.updCam_self k _
    · exact htaken.otherVc hgood hvc ▸ s.updCam_self k _
    · exact htaken.frameStart hgood hvc hdt ▸ s.updCam_self k _
    · exact htaken.frameEnd hgood hvc hdt ▸ s.updCam_self k _
    · exact htaken.unsupported hgood hvc hdt ▸ s.updCam_self k _
    · exact hg ▸ s.updCam_other k g j hj
    · exact hg ▸ s.updCam_changes k g
  · intro s k phase w rest r f hfs hr hf hl hrun hu
    have hle := (s.cam[k]).badRunAfter_le f (f.closing false (r.hdr.allLines - f.lines))
    have hclose := State.closeFrame_eq s (stall := false) hr hf hl (by omega)
    have hcam := s.frameClosed_cam k r.hdr f (f.closing false (r.hdr.allLines - f.lines))
    have hport := (hcam k).trans (if_pos rfl)
    refine ⟨_, (exec_camFrameStart_waits hfs hr hf hu phase).trans (congrArg _ hclose), ?_, ?_, ?_,
      fun j hj => (hcam j).trans (if_neg hj), s.frameClosed_changes k _ _ _⟩
    · rw [hport]
      rfl
    · rw [hport]
      exact hfs
    · rw [hport]
      rfl
  · intro s k phase w rest r hfs hr hst hf hlast hfree hfifo
    obtain ⟨t, ht, c, f, heq, hbegun⟩ := exec_camFrameStart_first hfs hr hst hf hlast hfree hfifo phase
    subst heq
    have hport : ((s.updCam k fun _ => c).newFrame k f).cam[k] = c := s.updCam_self k fun _ => c
    refine ⟨_, ht, ?_, ?_, ?_, ?_, ⟨f, ?_, hbegun.stamp, hbegun.num, hbegun.count, hbegun.free, hbegun.kept,
      hbegun.lines⟩, fun j hj => s.updCam_other k (fun _ => c) j hj, (s.updCam_changes k _).join (State.newFrame_changes _ k f)⟩
    · rw [hport]
      exact hbegun.fsPend
    · rw [hport]
      exact hbegun.counter
    · rw [hport]
      exact hbegun.frames
    · rw [hport]
      exact hbegun.lastStart
    · rw [hport]
      exact hbegun.frame
  · intro s k r f hfe hr hf hlines hm hpos hbad hlong hkept hl
    obtain ⟨hexec, hrun⟩ := exec_camFrameEnd_whole hfe hr hf hlines hm hpos hbad hlong hkept hl
    have hcam := s.frameClosed_cam k r.hdr f (f.closing false 0)
    have hport := (hcam k).trans (if_pos rfl)
    refine ⟨_, hexec, ?_, ?_, ?_, ?_, fun j hj => (hcam j).trans (if_neg hj), s.frameClosed_changes k _ _ _⟩
    · rw [hport]
      rfl
    · rw [hport]
      rfl
    · rw [hport]
      exact hrun
    · rw [hport]
      exact s.filled_whole hlines.ge _
  · intro s k r f hr hf hkept hl hrun hlate
    have hcam := s.frameClosed_cam k r.hdr f (f.closing true (r.hdr.allLines - f.lines))
    have hport := (hcam k).trans (if_pos rfl)
    refine ⟨_, exec_camFrameStall hr hf hl hrun hlate, ?_, ?_, ?_, fun j hj => (hcam j).trans (if_neg hj),
      s.frameClosed_changes k _ _ _⟩
    · rw [hport]
      rfl
    · rw [hport]
      show (s.cam[k]).badRunAfter f _ = _
      rw [CamSt.badRunAfter, hkept, CamFrame.closing_stalled]
      rfl
    · rw [hport]
      show (if f.discard then _ else BitVec.ofNat 16 (CamFrame.flagWord _)).getLsbD 4 = true
      rw [hkept]
      exact CamFrame.flagWord_stall _

end Sys2Proof.Machine

namespace Sys2Proof.Machine

/-! Reading a byte memory after a write. -/

theorem memRead_cons (k : Nat) (x : Byte) (t : Mem) (b : Nat) :
    memRead ((k, x) :: t) b = if b = k then x else memRead t b := by simp only [memRead, eq_comm]

/-- An address below all that are listed reads 0. -/
theorem memRead_below {lo a : Nat} {m : Mem} (w : memWfFrom lo m = true) (h : a < lo) : memRead m a = 0 := by
  induction m generalizing lo with
  | nil => rfl
  | cons e t ih =>
    obtain ⟨k, v⟩ := e
    simp only [memWfFrom, Bool.and_eq_true, decide_eq_true_eq] at w
    obtain ⟨⟨hlo, -⟩, ht⟩ := w
    rw [memRead_cons, if_neg (by omega)]
    exact ih ht (by omega)

/-- A byte written reads back, also where it is 0 and its entry is taken out; every other address reads as before. -/
theorem memRead_memWrite_from {lo : Nat} {m : Mem} (w : memWfFrom lo m = true) (a : Nat) (v : Byte) (b : Nat) :
    memRead (memWrite m a v) b = if b = a then v else memRead m b := by
  induction m generalizing lo with
  | nil =>
    unfold memWrite
    split
    next hv => rw [hv]; exact (ite_self _).symm
    next hv => exact memRead_cons a v [] b
  | cons e t ih =>
    obtain ⟨k, x⟩ := e
    simp only [memWfFrom, Bool.and_eq_true, decide_eq_true_eq] at w
    obtain ⟨-, ht⟩ := w
    have below (hb : b ≤ k) : memRead t b = 0 := memRead_below ht (Nat.lt_succ_of_le hb)
    unfold memWrite
    split
    next hka =>
      subst hka
      by_cases hb : b = k
      · rw [if_pos hb]
        split
        next hv => rw [below hb.le, hv]
        next hv => rw [memRead_cons, if_pos hb]
      · rw [if_neg hb, memRead_cons, if_neg hb]
        split
        · rfl
        · rw [memRead_cons, if_neg hb]
    next hka =>
      split
      next hlt =>
        split
        next hv =>
          by_cases hb : b = a
          · rw [if_pos hb, memRead_cons, if_neg (by omega), below (by omega), hv]
          · rw [if_neg hb]
        next hv => rw [memRead_cons]
      next hlt =>
        rw [memRead_cons, memRead_cons, ih ht]
        by_cases hb : b = k
        · rw [if_pos hb, if_neg (by omega), if_pos hb]
        · rw [if_neg hb, if_neg hb]

theorem memRead_memWrite {m : Mem} (w : Memory.wf m = true) (a : Nat) (v : Byte) (b : Nat) :
    memRead (memWrite m a v) b = if b = a then v else memRead m b := memRead_memWrite_from w a v b

theorem memRead_memStore_other {m : Mem} (w : Memory.wf m = true) {a b : Nat} {l : List Byte}
    (h : b < a ∨ a + l.length ≤ b) : memRead (memStore m a l) b = memRead m b := by
  induction l generalizing m a with
  | nil => rfl
  | cons x l ih =>
    rw [List.length_cons] at h
    rw [memStore, ih (memWrite_wf a x w) (by omega), memRead_memWrite w, if_neg (by omega)]

@[simp] theorem length_memRange (m : Mem) (a n : Nat) : (memRange m a n).length = n := by
  induction n generalizing a with
  | zero => rfl
  | succ n ih => rw [memRange, List.length_cons, ih]

theorem memRange_congr {m m' : Mem} {a n : Nat} (h : ∀ x, a ≤ x → x < a + n → memRead m' x = memRead m x) :
    memRange m' a n = memRange m a n := by
  induction n generalizing a with
  | zero => rfl
  | succ n ih =>
    rw [memRange, memRange, h a le_rfl (by omega), ih fun x hx hx' => h x (by omega) (by omega)]

theorem memRange_add (m : Mem) (a n k : Nat) : memRange m a (n + k) = memRange m a n ++ memRange m (a + n) k := by
  induction n generalizing a with
  | zero => rw [Nat.zero_add]; rfl
  | succ n ih =>
    rw [Nat.succ_add, memRange, ih, memRange, List.cons_append, Nat.add_right_comm a 1 n, Nat.add_assoc a n 1]

theorem memRange_memStore_self {m : Mem} (w : Memory.wf m = true) (a : Nat) (l : List Byte) :
    memRange (memStore m a l) a l.length = l := by
  induction l generalizing m a with
  | nil => rfl
  | cons x l ih =>
    have hwf := memWrite_wf a x w
    rw [List.length_cons, memRange, memStore, memRead_memStore_other hwf (.inl (Nat.lt_succ_self a)), memRead_memWrite w,
      if_pos rfl, ih hwf]

theorem memRange_memStore_other {m : Mem} (w : Memory.wf m = true) {a b n : Nat} {l : List Byte}
    (h : b + n ≤ a ∨ a + l.length ≤ b) : memRange (memStore m a l) b n = memRange m b n :=
  memRange_congr fun _ _ _ => memRead_memStore_other w (by omega)

/-! Numbers as bytes. -/

@[simp] theorem length_bytesLE (n x : Nat) : (bytesLE n x).length = n := by
  induction n generalizing x with
  | zero => rfl
  | succ n ih => rw [bytesLE, List.length_cons, ih]

theorem natLE_bytesLE (n x : Nat) : natLE (bytesLE n x) = x % 256 ^ n := by
  induction n generalizing x with
  | zero => rw [pow_zero, Nat.mod_one]; rfl
  | succ n ih =>
    rw [bytesLE, natLE, ih, pow_succ', Nat.mod_mul, BitVec.toNat_ofNat]

theorem natLE_lt (l : List Byte) : natLE l < 256 ^ l.length := by
  induction l with
  | nil => exact Nat.one_pos
  | cons b l ih =>
    have hb : b.toNat < 256 := b.isLt
    rw [natLE, List.length_cons, pow_succ']
    omega

@[simp] theorem length_slice (l : List Byte) (off n : Nat) : (slice l off n).length = n := by
  simp [slice, zeros]

@[simp] theorem length_crcLE (l : List Byte) : (crcLE l).length = 4 := length_bytesLE 4 _

theorem natLE_crcLE (l : List Byte) : BitVec.ofNat 32 (natLE (crcLE l)) = crc32 l := by
  have hlt : (crc32 l).toNat < 256 ^ 4 := (crc32 l).isLt
  rw [crcLE, natLE_bytesLE, Nat.mod_eq_of_lt hlt, BitVec.ofNat_toNat, BitVec.setWidth_eq]

end Sys2Proof.Machine

namespace Sys2Proof.Machine

/-! The areas of the store (Table 6.4) lie apart. -/

theorem RecId.mem_allRecords (r : RecId) : r ∈ allRecords := by
  cases r <;> simp [allRecords, allPaths, allPorts]

/-- Each area ends before every later one of Table 6.4 begins. -/
theorem areas_rise : allRecords.Pairwise fun q r => q.base + 2 * q.size ≤ r.base := by decide

/-- One area ends before the other begins. -/
def AreasApart (q r : RecId) : Prop := q.base + 2 * q.size ≤ r.base ∨ r.base + 2 * r.size ≤ q.base

theorem areas_apart {q r : RecId} (h : q ≠ r) : AreasApart q r :=
  have _hsymm : Std.Symm AreasApart := ⟨fun _ _ => Or.symm⟩
  have hpairs : allRecords.Pairwise AreasApart := areas_rise.imp Or.inl
  hpairs.forall q.mem_allRecords r.mem_allRecords h

theorem area_before_journal (r : RecId) : r.base + 2 * r.size ≤ 0x4000 := by
  have h : ∀ r ∈ allRecords, r.base + 2 * r.size ≤ 0x4000 := by decide
  exact h r r.mem_allRecords

/-- A slot holds its header, content, CRC and commit word (Table 6.5). -/
theorem RecId.len_le (r : RecId) : r.len + 16 ≤ r.size := by
  have h : ∀ r ∈ allRecords, r.len + 16 ≤ r.size := by decide
  exact h r r.mem_allRecords

theorem RecId.slot_in_area (r : RecId) (b : Bool) : r.base ≤ r.slot b ∧ r.slot b + r.size ≤ r.base + 2 * r.size := by
  rw [RecId.slot]
  split <;> omega

theorem RecId.slots_apart (r : RecId) (b : Bool) :
    r.slot b + r.size ≤ r.slot (!b) ∨ r.slot (!b) + r.size ≤ r.slot b := by
  cases b <;> simp [RecId.slot]

/-! The class of a slot (R259). -/

/-- Two memories read alike in a slot. -/
def SameSlot (m m' : Mem) (r : RecId) (b : Bool) : Prop :=
  ∀ x, r.slot b ≤ x → x < r.slot b + r.size → memRead m' x = memRead m x

theorem SameSlot.range {m m' : Mem} {r : RecId} {b : Bool} (h : SameSlot m m' r b) {o n : Nat} (hn : o + n ≤ r.size) :
    memRange m' (r.slot b + o) n = memRange m (r.slot b + o) n :=
  memRange_congr fun x _ _ => h x (by omega) (by omega)

theorem classify_congr {m m' : Mem} {r : RecId} {b : Bool} (h : SameSlot m m' r b) : classify m' r b = classify m r b := by
  have hsize := r.len_le
  have hhead : memRange m' (r.slot b) 8 = memRange m (r.slot b) 8 := h.range (o := 0) (by omega)
  simp only [classify, hhead]
  split
  · rfl
  · split
    · rfl
    · generalize hlen : natLE (slice (memRange m (r.slot b) 8) 2 2) = len at *
      have hbody := h.range (o := 8) (n := len) (by omega)
      have hcrc := h.range (o := 8 + len) (n := 4) (by omega)
      have hword := h.range (o := 12 + len) (n := 4) (by omega)
      simp only [← Nat.add_assoc] at hcrc hword
      rw [hbody, hcrc, hword]

theorem classify_valid_lt {m : Mem} {r : RecId} {b : Bool} {n : Nat} (h : classify m r b = .valid n) : n < 2 ^ 32 := by
  have hseq : natLE (slice (memRange m (r.slot b) 8) 4 4) = n := by
    simp only [classify] at h
    split_ifs at h
    exact SlotClass.valid.inj h
  have hlt := natLE_lt (slice (memRange m (r.slot b) 8) 4 4)
  rw [hseq, length_slice] at hlt
  exact hlt

/-- The header of a slot (Table 6.5). -/
def slotHeader (r : RecId) (seq len : Nat) : List Byte := [BitVec.ofNat 8 r.typ, 1] ++ bytesLE 2 len ++ bytesLE 4 seq

theorem slotBytes_eq (r : RecId) (seq : Nat) (content : List Byte) : slotBytes r seq content =
    slotHeader r seq content.length ++ (content ++ crcLE (slotHeader r seq content.length ++ content)) :=
  List.append_assoc _ _ _

@[simp] theorem length_slotHeader (r : RecId) (seq len : Nat) : (slotHeader r seq len).length = 8 := rfl

@[simp] theorem length_slotBytes (r : RecId) (seq : Nat) (content : List Byte) :
    (slotBytes r seq content).length = 12 + content.length := by
  rw [slotBytes_eq, List.length_append, List.length_append, length_crcLE, length_slotHeader]
  omega

theorem slotHeader_len (r : RecId) (seq len : Nat) : slice (slotHeader r seq len) 2 2 = bytesLE 2 len := rfl
theorem slotHeader_seq (r : RecId) (seq len : Nat) : slice (slotHeader r seq len) 4 4 = bytesLE 4 seq := rfl
theorem slotHeader_typ (r : RecId) (seq len : Nat) : ((slotHeader r seq len).getD 0 0).toNat = r.typ := by
  cases r <;> rfl

/-- A slot with the bytes of a record and the commit word is VALID and holds the content. -/
theorem classify_sealed {m : Mem} {r : RecId} {b : Bool} {seq : Nat} {content : List Byte} (hlen : content.length = r.len)
    (hseq : seq < 2 ^ 32) (hbytes : memRange m (r.slot b) (12 + content.length) = slotBytes r seq content)
    (hword : memRange m (r.slot b + 12 + content.length) 4 = bytesLE 4 commitWord) :
    classify m r b = .valid seq ∧ memRange m (r.slot b + 8) r.len = content := by
  have hsplit : 12 + content.length = 8 + (content.length + 4) := by omega
  rw [hsplit, memRange_add, memRange_add, slotBytes_eq] at hbytes
  obtain ⟨hhead, hrest⟩ := List.append_inj hbytes (by simp)
  obtain ⟨hbody, hcrc⟩ := List.append_inj hrest (by simp)
  have hsize := r.len_le
  have hfield : natLE (bytesLE 2 content.length) = content.length := by
    have hmax : content.length < 256 ^ 2 := by rw [hlen]; cases r <;> simp [RecId.len]
    rw [natLE_bytesLE, Nat.mod_eq_of_lt hmax]
  have htyp : (slotHeader r seq content.length).getD 0 0 ≠ 0 := by
    cases r <;> simp [slotHeader, RecId.typ]
  have hseq' : seq < 256 ^ 4 := hseq
  refine ⟨?_, hlen ▸ hbody⟩
  simp only [classify, hhead, slotHeader_len, slotHeader_seq, hfield, hword, hbody, hcrc]
  rw [if_neg htyp, if_neg (by omega), if_neg (by rw [not_not]; decide), if_neg (not_not.mpr (natLE_crcLE _).symm),
    if_pos ⟨slotHeader_typ .., rfl, hlen⟩, natLE_bytesLE, Nat.mod_eq_of_lt hseq']

/-! The newest copy of a record (R260). -/

section newest
variable {m : Mem} {r : RecId}

theorem newest_both {a b : Nat} (ha : classify m r false = .valid a) (hb : classify m r true = .valid b) :
    newest m r =
      if a = b then some (false, a)
      else if (b + 2 ^ 32 - a) % 2 ^ 32 < 2 ^ 31 then some (true, b) else some (false, a) := by
  simp only [newest, ha, hb]

/-- Where one slot alone is VALID it is the newest. -/
theorem newest_alone {b : Bool} {n : Nat} (hb : classify m r b = .valid n) (ho : ∀ k, classify m r (!b) ≠ .valid k) :
    newest m r = some (b, n) := by
  unfold newest
  cases b <;> split <;> simp_all

/-- Where both slots are VALID, one with the sequence after that of the other, it is the newest. -/
theorem newest_next {b : Bool} {n : Nat} (hb : classify m r b = .valid ((n + 1) % 2 ^ 32))
    (ho : classify m r (!b) = .valid n) : newest m r = some (b, (n + 1) % 2 ^ 32) := by
  have hn := classify_valid_lt ho
  cases b with
  | false => rw [newest_both hb ho, if_neg (by omega), if_neg (by omega)]
  | true => rw [newest_both ho hb, if_neg (by omega), if_pos (by omega)]

/-- The newest copy is VALID. -/
theorem classify_of_newest {b : Bool} {n : Nat} (h : newest m r = some (b, n)) : classify m r b = .valid n := by
  unfold newest at h
  split at h
  · split_ifs at h
    all_goals
      cases h
      assumption
  · cases h
    assumption
  · cases h
    assumption
  · cases h

/-- Without a newest copy no slot is VALID. -/
theorem classify_of_newest_none (h : newest m r = none) (b : Bool) (k : Nat) : classify m r b ≠ .valid k := by
  intro hb
  have hother (n : Nat) : classify m r (!b) ≠ .valid n := by
    intro ho
    cases b with
    | false => rw [newest_both hb ho] at h; split_ifs at h
    | true => rw [newest_both ho hb] at h; split_ifs at h
  rw [newest_alone hb hother] at h
  cases h

theorem recordContent_of_newest {b : Bool} {n : Nat} (h : newest m r = some (b, n)) :
    recordContent m r = some (memRange m (r.slot b + 8) r.len) := by
  rw [recordContent, h]; rfl

/-- A record reads as before where both of its slots do. -/
theorem recordContent_congr {m' : Mem} (h : ∀ b, SameSlot m m' r b) : recordContent m' r = recordContent m r := by
  have hsize := r.len_le
  have hnewest : newest m' r = newest m r := by simp only [newest, classify_congr (h _)]
  rw [recordContent, recordContent, hnewest]
  congr 1
  funext x
  exact (h x.1).range (by omega)

end newest

/-- Settles O53: equal sequences give slot A, and of two others one difference alone is in the half range. -/
theorem newerSlot : Obligations.NewerSlot := by
  intro m r a b ha hb
  have hboth := newest_both ha hb
  have hlta := classify_valid_lt ha
  have hltb := classify_valid_lt hb
  refine ⟨fun heq => ?_, fun hne hlt => ?_, fun hne hlt => ?_, fun x n => recordContent_of_newest⟩
  · rw [hboth, if_pos heq]
  · rw [hboth, if_neg hne, if_pos hlt]
  · rw [hboth, if_neg hne, if_neg (by omega)]

/-! The A/B commit (R257). -/

section commit
variable (m : Mem) (r : RecId) (content : List Byte)

/-- The slot that a commit writes: the one that does not hold the newest copy, A where there is none. -/
def commitSlot : Bool :=
  match newest m r with
  | some (b, _) => !b
  | none => false

/-- The sequence that a commit writes. -/
def commitSeq : Nat :=
  match newest m r with
  | some (_, n) => (n + 1) % 2 ^ 32
  | none => 1

/-- The slot with its commit word cleared and then with the bytes of the record (R257). -/
def commitBody : Mem :=
  memStore (memStore m (r.slot (commitSlot m r) + 12 + content.length) (zeros 4)) (r.slot (commitSlot m r))
    (slotBytes r (commitSeq m r) content)

theorem commitRecord_eq : commitRecord m r content =
    memStore (commitBody m r content) (r.slot (commitSlot m r) + 12 + content.length) (bytesLE 4 commitWord) := by rfl

theorem commitSeq_lt : commitSeq m r < 2 ^ 32 := by
  unfold commitSeq; split
  · exact Nat.mod_lt _ (by decide)
  · decide

variable {m r content} (w : Memory.wf m = true)
include w

theorem commitBody_wf : Memory.wf (commitBody m r content) = true := memStore_wf _ _ (memStore_wf _ _ w)

variable (hlen : content.length = r.len)
include hlen

/-- A commit changes its slot alone. -/
theorem memRead_commitRecord_other {x : Nat}
    (hx : x < r.slot (commitSlot m r) ∨ r.slot (commitSlot m r) + r.size ≤ x) :
    memRead (commitRecord m r content) x = memRead m x := by
  have hsize := r.len_le
  rw [commitRecord_eq, memRead_memStore_other (commitBody_wf w) (by rw [length_bytesLE]; omega), commitBody,
    memRead_memStore_other (memStore_wf _ _ w) (by rw [length_slotBytes]; omega),
    memRead_memStore_other w (by rw [zeros, List.length_replicate]; omega)]

/-- What a commit wrote is VALID and holds the content. -/
theorem commitRecord_slot :
    classify (commitRecord m r content) r (commitSlot m r) = .valid (commitSeq m r) ∧
      memRange (commitRecord m r content) (r.slot (commitSlot m r) + 8) r.len = content := by
  refine classify_sealed hlen (commitSeq_lt m r) ?_ ?_
  · rw [commitRecord_eq, memRange_memStore_other (commitBody_wf w) (.inl (by omega)),
      ← length_slotBytes r (commitSeq m r) content]
    exact memRange_memStore_self (memStore_wf _ _ w) _ _
  · have hread := memRange_memStore_self (commitBody_wf (r := r) (content := content) w)
      (r.slot (commitSlot m r) + 12 + content.length) (bytesLE 4 commitWord)
    rwa [length_bytesLE, ← commitRecord_eq] at hread

/-- The other slot of the record reads as before. -/
theorem commitRecord_otherSlot :
    classify (commitRecord m r content) r (!commitSlot m r) = classify m r (!commitSlot m r) := by
  have hapart := r.slots_apart (commitSlot m r)
  exact classify_congr fun x _ _ => memRead_commitRecord_other w hlen (by omega)

/-- What a commit wrote is the newest copy: it stands alone, or with the copy whose sequence it follows. -/
theorem newest_commitRecord :
    newest (commitRecord m r content) r = some (commitSlot m r, commitSeq m r) := by
  obtain ⟨hnew, -⟩ := commitRecord_slot w hlen
  have hother := commitRecord_otherSlot w hlen
  cases hold : newest m r with
  | none =>
    refine newest_alone hnew fun k => ?_
    rw [hother]
    exact classify_of_newest_none hold _ k
  | some x =>
    obtain ⟨b, n⟩ := x
    have hslot : commitSlot m r = !b := by rw [commitSlot, hold]
    have hseq : commitSeq m r = (n + 1) % 2 ^ 32 := by rw [commitSeq, hold]
    have hprev := classify_of_newest hold
    rw [hslot, Bool.not_not] at hother
    rw [hslot, hseq] at hnew ⊢
    exact newest_next hnew (by rw [Bool.not_not, hother, hprev])

theorem recordContent_commitRecord_self :
    recordContent (commitRecord m r content) r = some content := by
  rw [recordContent_of_newest (newest_commitRecord w hlen), (commitRecord_slot w hlen).2]

theorem recordContent_commitRecord_other {q : RecId} (hq : q ≠ r) :
    recordContent (commitRecord m r content) q = recordContent m q := by
  have hareas : AreasApart q r := areas_apart hq
  rw [AreasApart] at hareas
  have htarget := r.slot_in_area (commitSlot m r)
  refine recordContent_congr fun b x _ _ => memRead_commitRecord_other w hlen ?_
  have hslot := q.slot_in_area b
  omega

theorem memRange_commitRecord_journal (n : BitVec 32) :
    memRange (commitRecord m r content) (journalAddr n) 16 = memRange m (journalAddr n) 16 := by
  have harea := area_before_journal r
  have htarget := r.slot_in_area (commitSlot m r)
  refine memRange_congr fun x hx _ => memRead_commitRecord_other w hlen (.inr ?_)
  rw [journalAddr] at hx
  omega

end commit

/-- Settles O52: a commit makes its slot the newest copy and touches no other place; stored bytes read back where they
stand, and nothing else reads otherwise. -/
theorem storeReadsBack : Obligations.StoreReadsBack := by
  refine ⟨fun m r content w hlen => ?_, fun m a l w => ?_⟩
  · exact ⟨recordContent_commitRecord_self w hlen, fun q hq => recordContent_commitRecord_other w hlen hq,
      memRange_commitRecord_journal w hlen⟩
  · exact ⟨memStore_wf a l w, memRange_memStore_self w a l, fun b hb => memRead_memStore_other w hb⟩

end Sys2Proof.Machine

namespace Sys2Proof.Machine

/-! The numbers of journal entries, and an entry that the port takes (R274, R275). -/

theorem nextEntryNum_ne_last (n : BitVec 32) : nextEntryNum n ≠ 0xFFFFFFFF#32 := by
  unfold nextEntryNum
  split
  · decide
  · assumption

theorem nextEntryNum_succ {n : BitVec 32} (h : n ≠ 0xFFFFFFFE#32) : nextEntryNum n = n + 1 := by
  have hne : n + 1 ≠ 0xFFFFFFFF#32 := by
    intro hlast
    exact h (by bv_omega)
  exact if_neg hne

/-- An entry that the port takes is formed of now with the next number, and stands last in the queue, whatever the twin
role. -/
theorem State.journalEntry_taken {s : State} {code : Nat} (h : s.takesEntry code) (data : Nat) :
    (s.journalEntry code data).1 = s.entryNow s.tal.jNext code data ∧
      (s.journal code data).tal.jQueue = s.tal.jQueue ++ [s.entryNow s.tal.jNext code data] := by
  obtain ⟨hroom, l, hl, hv⟩ := h
  have mirrored (t : State) (k : Nat) (b : List Byte) : (t.sendMirror k b).tal.jQueue = t.tal.jQueue :=
    (t.sendMirror_changes k b .journal (by decide)).2.1
  unfold State.journal State.journalEntry
  simp only [hl, if_neg (Nat.not_lt.mpr hv), if_neg (Nat.not_le.mpr hroom), true_and]
  split
  · rfl
  · rw [mirrored]
    split <;> rfl

/-- Settles O58: the next number by its two cases, an entry by what the port makes of one that it takes. -/
theorem entryNumbers : Obligations.EntryNumbers := by
  refine ⟨nextEntryNum_ne_last, rfl, fun n => nextEntryNum_succ, fun s code data htakes => ?_⟩
  obtain ⟨hentry, hqueue⟩ := State.journalEntry_taken htakes data
  obtain ⟨hnext, -⟩ := State.journal_logs htakes data
  exact ⟨hentry, by rw [hentry]; rfl, by rw [hentry]; rfl, by rw [hentry]; rfl, by rw [hentry]; rfl, hqueue, hnext⟩

end Sys2Proof.Machine

namespace Sys2Proof.Machine

/-! The pair counts of a path under the rules for one pair (R228, R229, R233, R239 to R249). -/

/-- A path keeps its counts of valid and other pairs, and a change not yet written stays noted. -/
structure PathTally.KeepsPairs (a b : PathTally) : Prop where
  counts : ∀ n : Fin 8, n = 5 ∨ n = 6 → b.count[n] = a.count[n]
  dirty : a.dirty = true → b.dirty = true

namespace PathTally
variable {a b c : PathTally}

theorem KeepsPairs.of_eq (hcount : b.count = a.count) (hdirty : b.dirty = a.dirty) : a.KeepsPairs b :=
  ⟨fun _ _ => by rw [hcount], fun h => hdirty.trans h⟩

theorem KeepsPairs.trans (h : a.KeepsPairs b) (k : b.KeepsPairs c) : a.KeepsPairs c :=
  ⟨fun n hn => (k.counts n hn).trans (h.counts n hn), fun hd => k.dirty (h.dirty hd)⟩

variable (t : PathTally)

theorem add_count_self (n : Fin 8) (k : Nat) : (t.add n k).count[n] = t.count[n] + BitVec.ofNat 64 k := by
  simp [PathTally.add]

/-- Any other tally increased leaves the counts of pairs. -/
theorem add_keeps {n : Fin 8} (h5 : n ≠ 5) (h6 : n ≠ 6) (k : Nat) : t.KeepsPairs (t.add n k) := by
  refine ⟨fun j hj => ?_, fun _ => rfl⟩
  have hne : n.val ≠ j.val := by
    intro h
    obtain rfl := Fin.ext h
    exact hj.elim h5 h6
  simp [PathTally.add, hne]

theorem volume_keeps (n : Int) : t.KeepsPairs (t.volume n) := by
  unfold PathTally.volume
  split
  · exact (t.add_keeps (by decide) (by decide) _).trans (.of_eq rfl rfl)
  · exact (t.add_keeps (by decide) (by decide) _).trans (.of_eq rfl rfl)

theorem gap_keeps (ticks : Nat) : t.KeepsPairs (t.gap ticks) :=
  (t.add_keeps (by decide) (by decide) _).trans (.of_eq rfl rfl)

theorem residue_keeps (set : Option (Nat × Nat × Nat)) (r : Int) : t.KeepsPairs (t.residue set r).1 := by
  unfold PathTally.residue
  split
  · exact .of_eq rfl rfl
  · extract_lets far small rearm t1 neg run
    split
    · split
      · exact .of_eq rfl rfl
      · split <;> exact .of_eq rfl rfl
    · exact .of_eq rfl rfl

end PathTally

/-- The parts that the rules for one pair can change beside the record that they take. -/
def pairParts : List Part :=
  [.device, .beads, .wiring, .pathTallies, .deviceTallies, .journal, .tallyRest, .head, .fabric, .twin]

/-- Between two states a path keeps its counts of pairs, and the other paths are as they were. -/
structure PairsKept (p : PathNo) (s t : State) : Prop where
  path : (s.tal.path[p]).KeepsPairs t.tal.path[p]
  other : ∀ q : PathNo, q ≠ p → t.tal.path[q] = s.tal.path[q]
  rest : ChangesOnly pairParts s t

namespace PairsKept
variable {p : PathNo} {s t u : State}

theorem of_changes {ps : List Part} (h : ChangesOnly ps s t) (hps : ps ⊆ pairParts) (hp : Part.pathTallies ∉ ps) :
    PairsKept p s t := by
  have hpath : t.tal.path = s.tal.path := h .pathTallies hp
  exact ⟨.of_eq (by rw [hpath]) (by rw [hpath]), fun q _ => by rw [hpath], h.mono hps⟩

theorem refl (s : State) : PairsKept p s s := of_changes (.refl [] s) (by decide) (by decide)

theorem trans (h : PairsKept p s t) (k : PairsKept p t u) : PairsKept p s u :=
  ⟨h.path.trans k.path, fun q hq => (k.other q hq).trans (h.other q hq), h.rest.trans k.rest⟩

theorem updTal {f : PathTally → PathTally} (h : (s.tal.path[p]).KeepsPairs (f s.tal.path[p])) :
    PairsKept p s (s.updTal p f) :=
  ⟨(s.updTal_self p f).symm ▸ h, fun q hq => s.updTal_other p f q hq, (s.updTal_changes p f).mono (by decide)⟩

/-- An update of the path that leaves the tallies. -/
theorem updTal_of_eq {f : PathTally → PathTally} (hcount : (f s.tal.path[p]).count = (s.tal.path[p]).count)
    (hdirty : (f s.tal.path[p]).dirty = (s.tal.path[p]).dirty) : PairsKept p s (s.updTal p f) := updTal (.of_eq hcount hdirty)

theorem ite {c : Prop} [Decidable c] (h : PairsKept p s t) (k : PairsKept p s u) : PairsKept p s (if c then t else u) := by
  split <;> assumption

end PairsKept

section rules
variable (s : State) (p : PathNo) (r : PairRecord)

theorem State.journal_pairs (code data : Nat) : PairsKept p s (s.journal code data) :=
  .of_changes (s.journal_le code data) (by decide) (by decide)

theorem State.raise_pairs (k : Option TriggerKind) (code data : Nat) : PairsKept p s (s.raise k code data) :=
  .of_changes (s.raise_changes k code data) (by decide) (by decide)

theorem State.onset_pairs (c : Cond) : PairsKept p s (s.onset c) :=
  .of_changes (s.onset_changes c) (by decide) (by decide)

theorem State.countPath_pairs {n : Fin 8} (h5 : n ≠ 5) (h6 : n ≠ 6) : PairsKept p s (s.countPath p n) :=
  .ite (.refl s) (.updTal (PathTally.add_keeps _ h5 h6 1))

theorem State.breach_pairs (res : Int) : PairsKept p s (s.breach p res) := by
  unfold State.breach
  extract_lets s1
  have h1 : PairsKept p s s1 := (s.countPath_pairs p (n := 4) (by decide) (by decide)).trans (State.raise_pairs _ p ..)
  exact .ite (h1.trans (s1.onset_pairs p _)) h1

theorem State.tailCounted_pairs : PairsKept p s (s.tailCounted p) :=
  .ite (.refl s) (.updTal (f := fun t => { t with count := t.count.set 3 (t.count[3] + 1), dirty := true })
    ((PathTally.add_keeps _ (n := 3) (by decide) (by decide) 1).trans (.of_eq rfl rfl)))

theorem State.tailgate_pairs (z : ZoneNo) : PairsKept p s (s.tailgate p z) := by
  have hraised : PairsKept p s (s.tailRaised p z) := (s.tailCounted_pairs p).trans (State.raise_pairs _ p ..)
  rw [State.tailgate_eq]
  exact .ite (hraised.trans (State.onset_pairs _ p _)) hraised

theorem State.openings_pairs (l : List Opening) : PairsKept p s { s with tal := { s.tal with openings := l } } := by
  have h : ChangesOnly [.tallyRest] s { s with tal := { s.tal with openings := l } } := by
    intro q hq; cases q <;> simp_all [Part.same, Mov.restSame]
  exact .of_changes h (by decide) (by decide)

theorem State.passage_pairs (at_ : Nat) : PairsKept p s (s.passage p at_) := by
  unfold State.passage
  extract_lets s1 j tal s2 s3
  have h1 : PairsKept p s s1 := (s.countPath_pairs p (n := 2) (by decide) (by decide)).trans (State.journal_pairs _ p ..)
  have h2 : PairsKept p s s2 := h1.trans (s1.openings_pairs p _)
  have h3 : PairsKept p s s3 := .ite (h2.trans (.updTal_of_eq rfl rfl)) h2
  split
  · exact h3.trans (s3.tailgate_pairs p _)
  · exact .ite ((h3.trans (State.raise_pairs _ p ..)).trans (State.onset_pairs _ p _)) h3

theorem State.passageRules_pairs : PairsKept p s (s.passageRules p r) := by
  unfold State.passageRules
  extract_lets t occ s1
  have h1 : PairsKept p s s1 := .updTal_of_eq rfl rfl
  split
  · exact .updTal_of_eq rfl rfl
  · split
    · split
      · exact h1
      · refine .ite (h1.trans (State.journal_pairs _ p ..)) (.ite (h1.trans (State.passage_pairs _ p _)) ?_)
        exact (h1.trans (State.journal_pairs _ p ..)).trans (State.journal_pairs _ p ..)
    · exact .updTal_of_eq rfl rfl

theorem State.trackPair_pairs : PairsKept p s (s.trackPair p r) := by
  unfold State.trackPair
  extract_lets part band t res set x within battery iv found harm t1 s1
  have h1 : PairsKept p s s1 := .updTal ((t.residue_keeps set res).trans (.of_eq rfl rfl))
  exact .ite (.updTal_of_eq rfl rfl) (.ite (h1.trans (s1.breach_pairs p res)) h1)

/-! One pair record taken. -/

/-- The tally of a pair (Table 6.1): VPAIR or XPAIR. -/
def PairRecord.countNo (r : PairRecord) : Fin 8 := if r.status = .valid then 5 else 6

theorem PairRecord.countNo_cases : r.countNo = 5 ∨ r.countNo = 6 := by unfold PairRecord.countNo; split <;> simp

/-- A pair counted, and its volume or its gap (R228, R229). -/
def PathTally.integrated (t : PathTally) (ap : Option Aperture) (r : PairRecord) : PathTally :=
  let t1 := t.add r.countNo 1
  match ap with
  | some a => if r.status = .valid ∧ ¬ r.uncal then t1.volume (r.v * a.f100 * r.period) else t1.gap r.period
  | none => t1.gap r.period

theorem PathTally.integrated_keeps (t : PathTally) (ap : Option Aperture) :
    (t.add r.countNo 1).KeepsPairs (t.integrated ap r) := by
  unfold PathTally.integrated
  split
  · split
    · exact PathTally.volume_keeps _ _
    · exact PathTally.gap_keeps _ _
  · exact PathTally.gap_keeps _ _

theorem State.integrate_eq (h : s.tal.cleaning = false) :
    s.integrate p r = s.updTal p fun t => t.integrated (s.aperture p) r := by
  unfold State.integrate
  rw [h, if_neg Bool.false_ne_true]
  congr 1
  funext t
  have hadd : (if r.status = .valid then t.add 5 1 else t.add 6 1) = t.add r.countNo 1 := by
    unfold PairRecord.countNo
    split <;> rfl
  unfold PathTally.integrated
  cases s.aperture p <;> simp only [hadd]

/-- Integrating a pair counts it once (R229, Table 6.1). -/
theorem State.integrate_counts (h : s.tal.cleaning = false) :
    ((s.integrate p r).tal.path[p]).count[r.countNo] = (s.tal.path[p]).count[r.countNo] + 1 ∧
      ((s.integrate p r).tal.path[p]).dirty = true := by
  have hkeeps := PathTally.integrated_keeps r s.tal.path[p] (s.aperture p)
  rw [s.integrate_eq p r h, State.updTal_self]
  exact ⟨(hkeeps.counts _ r.countNo_cases).trans (PathTally.add_count_self _ _ 1), hkeeps.dirty rfl⟩

/-- The path of a record before it is integrated: beads 35 and 38 taken, and the tracker restarted where that is due
(R236). -/
def State.pairReady : State :=
  let s1 := s.takeTallyBeads r
  if (s1.tal.path[r.path]).restartDue then s1.updTal r.path fun t => t.restart (s1.intervalNow r.path) else s1

theorem State.takeTallyBeads_pairs : PairsKept r.path s (s.takeTallyBeads r) := by
  have taken (t : State) (b : BeadNo) (i : Fin 8) : PairsKept r.path t (t.takeWaiting b i) :=
    .of_changes (t.takeWaiting_changes b i) (by decide) (by decide)
  unfold State.takeTallyBeads
  extract_lets part s1
  have h1 : PairsKept r.path s s1 := .ite (taken ..) (.refl s)
  exact .ite ((h1.trans (taken ..)).trans (.updTal_of_eq rfl rfl)) h1

theorem State.pairReady_pairs : PairsKept r.path s (s.pairReady r) :=
  (s.takeTallyBeads_pairs r).trans (.ite (.updTal_of_eq rfl rfl) (.refl _))

theorem State.pairReady_changes : ChangesOnly [.beads, .pathTallies] s (s.pairReady r) := by
  have taken (t : State) (b : BeadNo) (i : Fin 8) : ChangesOnly [.beads, .pathTallies] t (t.takeWaiting b i) :=
    (t.takeWaiting_changes b i).mono (by decide)
  have updated (t : State) (f : PathTally → PathTally) : ChangesOnly [.beads, .pathTallies] t (t.updTal r.path f) :=
    (t.updTal_changes _ f).mono (by decide)
  have hbeads : ChangesOnly [.beads, .pathTallies] s (s.takeTallyBeads r) := by
    unfold State.takeTallyBeads
    extract_lets part s1
    have h1 : ChangesOnly [.beads, .pathTallies] s s1 := .ite (taken _ _ _) (.refl _ s)
    exact .ite ((h1.trans (taken _ _ _)).trans (updated _ _)) h1
  exact hbeads.trans (.ite (updated _ _) (.refl _ _))

/-- The rules for one pair after its integration: the tracker, the passages and the outputs (R233 to R249). -/
def State.pairRuled : State := ((s.trackPair r.path r).passageRules r.path r).settle

theorem State.pairRuled_pairs : PairsKept r.path s (s.pairRuled r) :=
  ((s.trackPair_pairs r.path r).trans (State.passageRules_pairs _ r.path r)).trans
    (.of_changes (State.settle_changes _) (by decide) (by decide))

/-- A record with what the rules for one pair make of the state. -/
def State.pairTaken : State := ((s.pairReady r).integrate r.path r).pairRuled r

/-- A record taken counts its pair once and leaves the other paths. -/
theorem State.pairTaken_spec (h : s.tal.cleaning = false) :
    ((s.pairTaken r).tal.path[r.path]).count[r.countNo] = (s.tal.path[r.path]).count[r.countNo] + 1 ∧
      ((s.pairTaken r).tal.path[r.path]).dirty = true ∧
      (∀ q : PathNo, q ≠ r.path → (s.pairTaken r).tal.path[q] = s.tal.path[q]) ∧
      ChangesOnly pairParts s (s.pairTaken r) := by
  have hready := s.pairReady_pairs r
  have hclean : (s.pairReady r).tal.cleaning = false := ((s.pairReady_changes r).cleaning (by decide)).trans h
  unfold State.pairTaken
  generalize s.pairReady r = u at *
  obtain ⟨hcount, hdirty⟩ := u.integrate_counts r.path r hclean
  have hintegrated := u.integrate_eq r.path r hclean
  have hruled := (u.integrate r.path r).pairRuled_pairs r
  generalize (u.integrate r.path r).pairRuled r = t at *
  refine ⟨?_, hruled.path.dirty hdirty, fun q hq => ?_, ?_⟩
  · exact (hruled.path.counts _ r.countNo_cases).trans
      (hcount.trans (congrArg (· + 1) (hready.path.counts _ r.countNo_cases)))
  · refine (hruled.other q hq).trans (Eq.trans ?_ (hready.other q hq))
    rw [hintegrated, State.updTal_other _ _ _ _ hq]
  · refine hready.rest.trans (ChangesOnly.trans ?_ hruled.rest)
    rw [hintegrated]
    exact (State.updTal_changes _ _ _).mono (by decide)

variable {s r} {rest : List PairRecord}

theorem exec_tallyPairUpdate (h : s.tr.handed = r :: rest) (hm : s.dev.mode ≠ .bedBattery) : exec .tallyPairUpdate s =
    .next (({ s with tr := { s.tr with handed := rest } } : State).pairTaken r) := by
  show execTallyPairUpdate s = _
  unfold execTallyPairUpdate
  rw [h]
  exact congrArg _ (if_neg hm)

end rules

/-! The tracker's sample and its restart, a blocked path, and the checkpoints (R231, R233, R236, R247, R252). -/

section samples
variable {s : State} {p : PathNo}

theorem exec_pathBlocked {e : Nat} (hb : (s.tal.path[p]).blocked = false) (he : (s.tal.path[p]).episode = some e)
    (ht : e + 4 * 32768 < s.calTicks) : exec (.pathBlocked p) s =
      .next ((s.updTal p fun t => { t with blocked := true }).journal 0x32 (p.val * 4096 + 1)) := by
  have htime : decide (e + 4 * tps < s.calTicks) = true := decide_eq_true ht
  exact occurs_of (by simp [-Fin.getElem_fin, hb, he, htime])

theorem exec_trackerRestart (h : (s.tal.path[p]).restartDue = true) : exec (.trackerRestart p) s =
    .next (s.updTal p fun t => t.restart (s.intervalNow p)) := occurs_of h

/-- A sample that is not the sixty-fourth since the latest fit goes into the window alone (R233, R234). -/
theorem exec_harmonicSample {ts : Nat} (hts : sampleTicks (s.eff 38 ⟨p.val, p.isLt⟩) = some ts)
    (hconf : s.configured p = true) (hrestart : (s.tal.path[p]).restartDue = false)
    (hended : ((s.tal.path[p]).ivNext + 1) * ts ≤ s.calTicks)
    (hin : s.intervalIn p (((s.tal.path[p]).ivNext + 1) * ts) = true) (hmode : s.dev.mode ≠ .bedBattery)
    (hfit : (s.tal.path[p]).sinceFit < 63) : exec (.harmonicSample p) s =
      .next (s.updTal p fun _ => (s.tal.path[p]).sampled (s.eff 38 ⟨p.val, p.isLt⟩) ts) := by
  have hfew : ¬ (64 ≤ ((s.tal.path[p]).sampled (s.eff 38 ⟨p.val, p.isLt⟩) ts).sinceFit ∧
      256 ≤ ((s.tal.path[p]).sampled (s.eff 38 ⟨p.val, p.isLt⟩) ts).window.length) := by
    rintro ⟨hsince, -⟩
    change 64 ≤ (s.tal.path[p]).sinceFit + 1 at hsince
    omega
  show execHarmonicSample p s = _
  unfold execHarmonicSample
  simp only [hts]
  refine (occurs_of (by simp [-Fin.getElem_fin, hconf, hrestart, hended, hin, hmode])).trans ?_
  rw [if_neg hfew]

/-- The window takes a sample at its end while it holds fewer than 1,024. -/
theorem PathTally.sampled_window {t : PathTally} (h : t.window.length < 1024) (band ts : Nat) :
    (t.sampled band ts).window = t.window ++ [t.sample band ts] := by
  have hnone : (t.window ++ [t.sample band ts]).length - 1024 = 0 := by
    rw [List.length_append, List.length_singleton]
    omega
  rw [PathTally.sampled, hnone]
  rfl

theorem PathTally.sampled_harm (t : PathTally) (band ts : Nat) : (t.sampled band ts).harm = t.harm := by
  simp only [PathTally.sampled, PathTally.fromInterval]

theorem PathTally.sample_mean {t : PathTally} {v : Int} {n : Nat} (h : t.interval t.ivNext = (v, n)) (hn : 0 < n)
    (band ts : Nat) : t.sample band ts = { interval := t.ivNext, x := rdiv v n, gap := false } := by
  rw [PathTally.sample, h]
  exact if_pos hn

theorem PathTally.sample_gap {t : PathTally} {v : Int} (h : t.interval t.ivNext = (v, 0)) (band ts : Nat) :
    t.sample band ts = { interval := t.ivNext, x := t.model band (t.ivNext * ts + ts / 2) 0, gap := true } := by
  rw [PathTally.sample, h]
  exact if_neg (Nat.lt_irrefl 0)

end samples

section checkpoints
variable (s : State)

/-- Outside a clean a request leaves its content waiting (R258). -/
theorem State.requestWrite_content (h : s.tal.cleaning = false) (r : RecId) (l : List Byte) :
    ({ id := .record r, content := l } : WriteReq) ∈ (s.requestWrite r l).tal.writes := by
  unfold State.requestWrite State.queueWrite
  rw [h, Bool.false_and, if_neg Bool.false_ne_true]
  dsimp only
  split
  next hany =>
    obtain ⟨w, hw, hid⟩ := List.any_eq_true.mp hany
    exact List.mem_map.mpr ⟨w, hw, if_pos (of_decide_eq_true hid)⟩
  next hnone => exact List.mem_append_right _ (List.mem_singleton_self _)

/-- A changed path tally record is requested and noted as written now (R231). -/
theorem State.requestPath_dirty {p : PathNo} (h : (s.tal.path[p]).dirty = true) :
    (s.requestPath p).tal.path[p] = { s.tal.path[p] with dirty := false, writtenAt := some s.now } ∧
      (s.requestPath p).tal.writes = (s.requestWrite (.pathTallies p) (s.tal.path[p]).content).tal.writes := by
  unfold State.requestPath
  dsimp only
  rw [if_pos h]
  exact ⟨by simp, rfl⟩

theorem exec_pathTallyCheckpoint {s : State} {p : PathNo} {w : Nat} (hd : (s.tal.path[p]).dirty = true)
    (hw : (s.tal.path[p]).writtenAt = some w) (ht : w + 32768 ≤ s.now) :
    exec (.pathTallyCheckpoint p) s = .next (s.requestPath p) := by
  have htime : decide (w + tps ≤ s.now) = true := decide_eq_true ht
  exact occurs_of (by simp [-Fin.getElem_fin, hd, hw, htime])

/-- The charge counter carried into the device tallies and taken as the new base (R252). -/
def State.chargeTallied (s : State) : State :=
  let d := (s.tal.charge - s.tal.baseChg).toInt
  let pos := s.tal.accChg + (if 0 < d then d.natAbs * 125 else 0)
  let neg := s.tal.accChgRev + (if d < 0 then d.natAbs * 125 else 0)
  let s1 : State := { s with tal := { s.tal with
    baseChg := s.tal.charge, accChg := pos % 589824, accChgRev := neg % 589824 } }
  (s1.addTally 14 (pos / 589824)).addTally 15 (neg / 589824)

/-- The onsets of a zone carried into its tally (R230). -/
def State.zoneTallied (s : State) (z : ZoneNo) : State :=
  ({ s with tal := { s.tal with baseZone := s.tal.baseZone.set z s.loc.onsets[z] } } : State).addTally (16 + z.val)
    (s.loc.onsets[z] - s.tal.baseZone[z]).toNat

/-- The time in a mode carried into its tally (R230). -/
def State.modeTallied (s : State) (m : Fin 4) : State :=
  ({ s with dev := { s.dev with modeTicks := s.dev.modeTicks.set m (s.dev.modeTicks[m] % 32768) } } : State).addTally
    (8 + m.val) (s.dev.modeTicks[m] / 32768)

theorem State.readSources_eq (h : s.tal.cleaning = false) :
    s.readSources =
      (List.finRange 4).foldl State.modeTallied ((List.finRange 4).foldl State.zoneTallied s.chargeTallied) := by
  unfold State.readSources
  rw [h, if_neg Bool.false_ne_true]
  rfl

/-- The bases of the counters kept at their source (R230, R252). -/
theorem ChangesOnly.bases {ps : List Part} {s t : State} (h : ChangesOnly ps s t) (hr : Part.tallyRest ∉ ps) :
    t.tal.baseChg = s.tal.baseChg ∧ t.tal.baseZone = s.tal.baseZone := by
  obtain ⟨-, -, -, hchg, hzone, -⟩ : s.tal.restSame t.tal := h .tallyRest hr
  exact ⟨hchg, hzone⟩

theorem State.chargeTallied_base : s.chargeTallied.tal.baseChg = s.tal.charge ∧ s.chargeTallied.loc = s.loc := by
  unfold State.chargeTallied
  extract_lets d pos neg tal s1
  have hadd := (s1.addTally_changes 14 (pos / 589824)).trans (State.addTally_changes _ 15 (neg / 589824))
  exact ⟨(hadd.bases (by decide)).1, hadd .wiring (by decide)⟩

theorem State.zoneTallied_base (z j : ZoneNo) : ((s.zoneTallied z).tal.baseZone[j], (s.zoneTallied z).tal.baseChg) =
    if j = z then (s.loc.onsets[z], s.tal.baseChg) else (s.tal.baseZone[j], s.tal.baseChg) := by
  obtain ⟨hchg, hzone⟩ := (State.addTally_changes
    { s with tal := { s.tal with baseZone := s.tal.baseZone.set z s.loc.onsets[z] } } (16 + z.val)
    (s.loc.onsets[z] - s.tal.baseZone[z]).toNat).bases (by decide)
  rw [State.zoneTallied, hchg, hzone]
  split
  next hj =>
    subst hj
    simp
  next hj =>
    have hne : z.val ≠ j.val := fun h => hj (Fin.ext h.symm)
    simp [hne]

theorem State.zoneTallied_loc (z : ZoneNo) : (s.zoneTallied z).loc = s.loc := State.addTally_changes _ _ _ .wiring (by decide)

theorem State.modeTallied_changes (m : Fin 4) : ChangesOnly [.device, .deviceTallies] s (s.modeTallied m) :=
  (changes_dev s _).join (State.addTally_changes _ _ _)

/-- Outside a clean the counters' present values are the new bases (R230, R252). -/
theorem State.readSources_bases (h : s.tal.cleaning = false) :
    s.readSources.tal.baseChg = s.tal.charge ∧ s.readSources.tal.baseZone = s.loc.onsets := by
  obtain ⟨hcharge, hloc⟩ := s.chargeTallied_base
  have hzones (z : ZoneNo) := foldl_finRange (f := State.zoneTallied)
    (fun t (z : ZoneNo) => (t.tal.baseZone[z], t.tal.baseChg)) (fun z v => (s.loc.onsets[z], v.2)) (fun t => t.loc = s.loc)
    (fun t z ht => (t.zoneTallied_loc z).trans ht)
    (fun t z j ht => by rw [← ht]; exact t.zoneTallied_base z j) s.chargeTallied hloc z
  simp only [Prod.mk.injEq] at hzones
  obtain ⟨hchg, hzone⟩ := (ChangesOnly.foldl State.modeTallied_changes (List.finRange 4)
    ((List.finRange 4).foldl State.zoneTallied s.chargeTallied)).bases (by decide)
  rw [s.readSources_eq h, hchg, hzone]
  generalize (List.finRange 4).foldl State.zoneTallied s.chargeTallied = u at *
  exact ⟨(hzones 0).2.trans hcharge, Vector.ext fun i hi => (hzones ⟨i, hi⟩).1⟩

/-- The device tally record is noted as checked now, with nothing left to write (R231). -/
theorem State.requestDeviceTallies_noted :
    s.requestDeviceTallies.tal.devWrittenAt = s.now ∧ s.requestDeviceTallies.tal.devDirty = false := by
  unfold State.requestDeviceTallies
  split
  · exact ⟨rfl, rfl⟩
  next hclean => exact ⟨rfl, Bool.eq_false_of_not_eq_true hclean⟩

theorem exec_deviceTallyCheckpoint {s : State} (hs : s.tal.scanned = true) (hm : s.dev.mode ≠ .bedBattery)
    (ht : s.tal.devWrittenAt + 10 * 32768 ≤ s.now) :
    exec .deviceTallyCheckpoint s = .next s.readSources.requestDeviceTallies := by
  have htime : decide (s.tal.devWrittenAt + 10 * tps ≤ s.now) = true := decide_eq_true ht
  exact occurs_of (by rw [hs, if_neg hm, htime, Bool.and_self])

end checkpoints

/-- Settles O25: a pair by its count through the rules, a sample by its window, a checkpoint by what it requests. -/
theorem tallyEngine : Obligations.TallyEngine := by
  refine ⟨?_, ?_, ?_, ?_, ?_, ?_⟩
  · intro s r rest hhanded hmode hclean
    have hexec := exec_tallyPairUpdate hhanded hmode
    obtain ⟨hcount, hdirty, hother, hrest⟩ :=
      ({ s with tr := { s.tr with handed := rest } } : State).pairTaken_spec r hclean
    generalize ({ s with tr := { s.tr with handed := rest } } : State).pairTaken r = t at *
    exact ⟨t, hexec, hrest .sounding (by decide), hcount, hdirty, hother,
      hrest .clocks (by decide), hrest .cameras (by decide), hrest .kiln (by decide), hrest.mov (by decide) (by decide),
      hrest .store (by decide), hrest .monitor (by decide), hrest .pending (by decide)⟩
  · intro s p e hb he ht
    have hset := s.updTal_changes p fun t => { t with blocked := true }
    obtain ⟨hlogs, hrest⟩ := hset.entry (.refl _ _) (code := 0x32) (data := p.val * 4096 + 1) (by decide) (by decide)
    have hpath : (((s.updTal p fun t => { t with blocked := true }).journal 0x32 (p.val * 4096 + 1)).tal.path) =
        (s.updTal p fun t => { t with blocked := true }).tal.path := State.journal_le _ _ _ .pathTallies (by decide)
    refine ⟨_, exec_pathBlocked hb he ht, ?_, hlogs, hrest⟩
    rw [hpath, State.updTal_self]
  · intro s p ts hts hconf hrestart hended hin hmode hfit hroom
    refine ⟨_, exec_harmonicSample hts hconf hrestart hended hin hmode hfit, ?_, ?_, ?_, ?_, s.updTal_changes p _⟩
    all_goals rw [State.updTal_self]
    · intro v n hiv hn
      rw [PathTally.sampled_window hroom, PathTally.sample_mean hiv hn]
    · intro v hiv
      rw [PathTally.sampled_window hroom, PathTally.sample_gap hiv]
    · rfl
    · exact PathTally.sampled_harm _ _ _
  · intro s p hdue
    exact ⟨_, exec_trackerRestart hdue, rfl, s.updTal_changes p _⟩
  · intro s p w hdirty hwritten htime hclean
    obtain ⟨hpath, hwrites⟩ := s.requestPath_dirty hdirty
    refine ⟨_, exec_pathTallyCheckpoint hdirty hwritten htime, ?_, ?_, ⟨⟨.record (.pathTallies p), _⟩, ?_, rfl, rfl⟩,
      (s.requestPath_changes p).mono (by decide)⟩
    · rw [hpath]
    · rw [hpath]
    · rw [hwrites]
      exact s.requestWrite_content hclean _ _
  · intro s hscan hmode htime hclean
    have hread := s.readSources_changes
    have hrequest := s.readSources.requestDeviceTallies_changes
    obtain ⟨hnoted, hwritten⟩ := s.readSources.requestDeviceTallies_noted
    obtain ⟨hchg, hzone⟩ := s.readSources_bases hclean
    obtain ⟨kchg, kzone⟩ := hrequest.bases (by decide)
    have hclk : s.readSources.clk = s.clk := hread .clocks (by decide)
    have hnow : s.readSources.now = s.now := congrArg Clk.tick hclk
    exact ⟨_, exec_deviceTallyCheckpoint hscan hmode htime, hnoted.trans hnow, hwritten, kchg.trans hchg, kzone.trans hzone,
      (hread.join hrequest).mono (by decide)⟩

end Sys2Proof.Machine

namespace Sys2Proof.Machine

/-! The CCI transfers of a camera port (§7.4; R292 to R295). -/

/-- An entry leaves the cameras. -/
theorem State.journal_cam (s : State) (code data : Nat) : (s.journal code data).cam = s.cam :=
  (s.journal_book code data).cam

/-- The cameras after an entry and a change of one port. -/
theorem State.journal_updCam_cam (s : State) (k : CamPort) (f : CamSt → CamSt) (code data : Nat) :
    ((s.journal code data).updCam k f).cam = s.cam.set k (f s.cam[k]) := by
  rw [State.updCam, s.journal_cam]

/-- The time to a repetition of a transfer (R293). -/
theorem msTicks_one : msTicks 1 = 33 := rfl
/-- The time for which CEN stays deasserted (R310). -/
theorem msTicks_ten : msTicks 10 = 328 := rfl

/-- The speeds of the CCI bus (Table 7.6). -/
theorem cciSpeed_eq (n : Nat) : (if n % 4 = 0 then 100 else if n % 4 = 1 then 400 else 1000) =
    ([100, 400, 1000] : List Nat).getD (n % 4) 1000 := by
  have h : n % 4 < 4 := Nat.mod_lt n (by omega)
  interval_cases n % 4 <;> rfl

section transfers
variable {s : State} {k : CamPort}

/-- A change of a port is told by what it makes of the port. -/
theorem State.updCam_congr {f g : CamSt → CamSt} (h : f s.cam[k] = g s.cam[k]) : s.updCam k f = s.updCam k g := by
  rw [State.updCam, h, State.updCam]

/-- A NACK before the last repetition (R293). -/
theorem State.updCam_nack_retries (h : (s.cam[k]).reps < 3) (now : Nat) : (s.updCam k fun q => q.nack now) =
    s.updCam k fun q => { q with nacks := some q.reps, cciNext := now + 33 } :=
  State.updCam_congr (if_neg (Nat.not_le.mpr h))

/-- A NACK after the last repetition (R293). -/
theorem State.updCam_nack_fails (h : 3 ≤ (s.cam[k]).reps) (now : Nat) : (s.updCam k fun q => q.nack now) =
    s.updCam k fun q => { q with nacks := none, failCause := some 1 } :=
  State.updCam_congr (if_pos h)

theorem State.cciWrites_one {r : Recipe} (hr : s.portRecipe k = some r) (w : Nat × List Byte) :
    s.cciWrites k [w] = [r.hdr.cciWrite w] := by
  rw [State.cciWrites, hr]
  rfl

/-- What a burst that failed leaves of its port, short of the eighth failure in a row (R308). -/
def CamSt.burstFailed (q : CamSt) : CamSt :=
  { q with
    burst := q.burstWait, burstWait := none, burstBusy := false, nacks := none, burstFails := q.burstFails + 1 }

theorem State.burstEnd_failed (h : (s.cam[k]).burstFails < 7) : s.burstEnd k false = s.updCam k CamSt.burstFailed := by
  have hfew : ¬ 8 ≤ (s.cam[k]).burstFails + 1 := by omega
  exact if_neg hfew

/-- What a burst that ended well leaves of its port (R307). -/
def CamSt.burstDone (q : CamSt) (codes : Nat × Nat × Nat) (writes : List CciWrite) : CamSt :=
  { q with
    burst := q.burstWait, burstWait := none, burstBusy := false, nacks := none, burstFails := 0
    codesNext := some codes, cciLast := writes }

theorem State.burstEnd_done {e g : Nat} {m : ExpMap} (hb : (s.cam[k]).burst = some (e, g))
    (hm : (s.cam[k]).expmap = some m) (hidle : (s.cam[k]).burstBusy = false) :
    s.burstEnd k true = (s.updCtx (camCtx k) fun x => { x with updFrame := max x.updFrame ((s.cam[k]).frames - 1) }).updCam k
      fun q => q.burstDone (e, g, (s.cam[k]).frames - 1 + m.latency) (s.cciWrites k (m.burstWrites e g)) := by
  unfold State.burstEnd
  extract_lets q fails written s0 s1
  have hwritten : written = (s.cam[k]).frames - 1 := by
    unfold written q
    rw [hidle]
    rfl
  have hb0 : (s0.cam[k]).burst = some (e, g) := hb
  have hm0 : (s0.cam[k]).expmap = some m := hm
  have hfails : ¬ 8 ≤ fails := Nat.not_succ_le_zero 7
  rw [if_neg hfails, ← hwritten]
  refine State.updCam_congr (s := s0) ?_
  simp only [CamSt.burstDone, hb0, hm0]
  rfl

/-- A repetition that is not yet due (R293). -/
theorem exec_cciNackRetry_early {n : Nat} (hn : (s.cam[k]).nacks = some n) (hearly : s.now < (s.cam[k]).cciNext)
    (ack : Bool) : exec (.cciNackRetry k ack) s = .next s := by
  show execCciNackRetry k ack s = _
  unfold execCciNackRetry
  dsimp only
  rw [hn]
  exact occurs_of_not (decide_eq_false (Nat.not_le.mpr hearly))

/-- A repetition that receives a NACK again: another follows, and after the last one the burst or the replay has failed
(R293, R308, R311). -/
theorem exec_cciNackRetry_nack {n : Nat} (hn : (s.cam[k]).nacks = some n) (hdue : (s.cam[k]).cciNext ≤ s.now) :
    exec (.cciNackRetry k false) s = .next
      (if n + 1 < 3 then s.updCam k fun q => { q with nacks := some (n + 1), cciNext := s.now + 33 }
       else if (s.cam[k]).burstBusy then s.burstEnd k false
       else s.updCam k fun q => { q with nacks := none, failCause := some 1 }) := by
  show execCciNackRetry k false s = _
  unfold execCciNackRetry
  dsimp only
  rw [hn]
  exact occurs_of (decide_eq_true hdue)

/-- The entry and the nine SCL pulses at a bus that is stuck (R294). -/
def State.pulsed (s : State) (k : CamPort) (freed : Bool) : State :=
  (s.journal 0x74 (k.val * 4096 + bit freed)).updCam k fun q => { q with sclPulses := q.sclPulses + 9 }

theorem State.pulsed_cam (s : State) (k : CamPort) (freed : Bool) :
    (s.pulsed k freed).cam[k] = { s.cam[k] with sclPulses := (s.cam[k]).sclPulses + 9 } := by
  rw [State.pulsed, State.updCam_self, s.journal_cam]

/-- A bus that is stuck is logged, whatever the port makes of it. -/
theorem State.pulsed_spec (s : State) (k : CamPort) (freed : Bool) (f : CamSt → CamSt) :
    (s.takesEntry 0x74 → LogsEntry s ((s.pulsed k freed).updCam k f) 0x74 (k.val * 4096 + bit freed)) ∧
      ChangesOnly (.cameras :: s.journalling) s ((s.pulsed k freed).updCam k f) :=
  (ChangesOnly.refl [.cameras] s).entry ((State.updCam_changes _ k _).trans (State.updCam_changes _ k f)) (by decide)
    (by decide)

/-- Outside a burst a bus that is freed tries its transfer again (R294). -/
theorem exec_cciStuck_freed (hc : (s.cam[k]).cen = true) (hidle : (s.cam[k]).burstBusy = false) :
    exec (.cciStuck k true) s = .next ((s.pulsed k true).updCam k fun q => { q with nacks := none }) := by
  show execCciStuck k true s = _
  unfold execCciStuck
  refine (occurs_of (by rw [CamSt.cciReleased, hc]; rfl)).trans (congrArg _ ?_)
  rw [hidle]
  rfl

/-- A burst on a stuck bus has failed (R308). -/
theorem exec_cciStuck_burst (hc : (s.cam[k]).cen = true) (hbusy : (s.cam[k]).burstBusy = true)
    (hfew : (s.cam[k]).burstFails < 7) :
    exec (.cciStuck k true) s = .next ((s.pulsed k true).updCam k CamSt.burstFailed) := by
  have hfails : (((s.pulsed k true).cam[k]).burstFails) < 7 := by rw [State.pulsed_cam]; exact hfew
  show execCciStuck k true s = _
  unfold execCciStuck
  refine (occurs_of (by rw [CamSt.cciReleased, hc]; rfl)).trans (congrArg _ ?_)
  rw [hbusy]
  exact State.burstEnd_failed hfails

/-- A replay on a bus that is not freed has failed (R311). -/
theorem exec_cciStuck_replay (hc : (s.cam[k]).cen = true) (hst : (s.cam[k]).state = .replay) :
    exec (.cciStuck k false) s =
      .next ((s.pulsed k false).updCam k fun q => { q with nacks := none, failCause := some 4 }) := by
  show execCciStuck k false s = _
  unfold execCciStuck
  refine (occurs_of (by rw [CamSt.cciReleased, hc]; rfl)).trans (congrArg _ ?_)
  rw [hst]
  rfl

end transfers

/-! The entries of a recipe (§7.6; R304 to R306, R309, R311). -/

section recipe
variable {s : State} {k : CamPort}

/-- What the start of a replay leaves of its port (R309, R310). -/
structure ReplayBegun (s : State) (h : RecipeHeader) (q : CamSt) : Prop where
  cen : q.cen = true
  mclk : q.mclk = true
  pc : q.pc = 0
  phase : q.phase = .powerUp (s.now + msTicks h.powerUp)

/-- The PLL output of a port's MCLK. -/
def mclkOut (k : CamPort) : PllOut := ⟨k.val, by omega⟩

/-- The state with the setting of one PLL output. -/
def State.withOut (s : State) (o : PllOut) (x : PllOutput) : State :=
  { s with clk := { s.clk with pllOut := s.clk.pllOut.set o x } }

theorem State.withOut_changes (s : State) (o : PllOut) (x : PllOutput) : ChangesOnly [.clocks] s (s.withOut o x) :=
  changes_clk s _

theorem State.withOut_self (s : State) (o : PllOut) (x : PllOutput) : (s.withOut o x).clk.pllOut[o] = x := by
  simp [State.withOut]

/-- The start of a replay changes the output of the port's clock, and its port. -/
theorem exec_replayStart {r : Recipe} (hr : s.portRecipe k = some r) (hst : (s.cam[k]).state = .replay)
    (hphase : (s.cam[k]).phase = .idle) (hc : (s.cam[k]).cen = false) (hfail : (s.cam[k]).failCause = none)
    (hpll : s.clk.pll = .locked) (hwait : (s.cam[k]).cenAt + 328 ≤ s.now) :
    ∃ x q, exec (.replayStart k) s = .next ((s.withOut (mclkOut k) x).updCam k fun _ => q) ∧
      x.now.enable = true ∧ ReplayBegun s r.hdr q := by
  have hguard : (decide ((s.cam[k]).state = .replay) && decide ((s.cam[k]).phase = .idle) && !(s.cam[k]).cen &&
      (s.cam[k]).failCause.isNone && decide (s.clk.pll = .locked) &&
      decide ((s.cam[k]).cenAt + msTicks 10 ≤ s.now ∨ (s.cam[k]).cenAt = 0)) = true := by
    rw [hst, hphase, hc, hfail, hpll, msTicks_ten, decide_eq_true (Or.inl hwait)]
    rfl
  show ∃ x q, execReplayStart k s = _ ∧ _
  unfold execReplayStart
  rw [hr]
  refine ⟨_, _, occurs_of hguard, rfl, ?_, rfl, rfl, rfl⟩
  show ((s.cam[k]).setCen s.now true).cen = true
  rw [CamSt.setCen, hc]
  rfl

theorem exec_powerUpDelayEnd {t0 : Nat} (hphase : (s.cam[k]).phase = .powerUp t0) (hdue : t0 ≤ s.now)
    (hst : (s.cam[k]).state = .replay) :
    exec (.powerUpDelayEnd k) s = .next (s.updCam k fun q => { q with phase := .run }) := by
  show execPowerUpDelayEnd k s = _
  unfold execPowerUpDelayEnd
  rw [hphase]
  exact occurs_of (by rw [hst, decide_eq_true hdue]; rfl)

theorem exec_recipeWrite {reg : Nat} {data : List Byte} (he : s.entryAt k = some (.write reg data))
    (hs : s.seqRuns k = true) (ack : Bool) : exec (.recipeWrite k ack) s = .next
      (if ack then s.updCam k fun q => { q.advance with cciLast := s.cciWrites k [(reg, data)] }
       else s.updCam k fun q => q.nack s.now) := by
  show execRecipeWrite k ack s = _
  unfold execRecipeWrite
  rw [he]
  exact occurs_of hs

theorem exec_recipeRmw {reg : Nat} {mask val : Byte} (he : s.entryAt k = some (.rmw reg mask val))
    (hs : s.seqRuns k = true) (old : Byte) (ack : Bool) : exec (.recipeRmw k old ack) s = .next
      (if ack then s.updCam k fun q =>
        { q.advance with cciLast := s.cciWrites k [(reg, [(old &&& ~~~ mask) ||| (val &&& mask)])] }
       else s.updCam k fun q => q.nack s.now) := by
  show execRecipeRmw k old ack s = _
  unfold execRecipeRmw
  rw [he]
  exact occurs_of hs

section poll
variable {reg ms : Nat} {mask want : Byte} (he : s.entryAt k = some (.poll reg mask want ms)) (hs : s.seqRuns k = true)
include he hs

/-- A poll that reads what it wants is over (R304). -/
theorem exec_recipePollEntry_met {val : Byte} (hval : val &&& mask = want) (hdue : (s.cam[k]).cciNext ≤ s.now) :
    exec (.recipePollEntry k val true) s = .next (s.updCam k CamSt.advance) := by
  show execRecipePollEntry k val true s = _
  unfold execRecipePollEntry
  rw [he]
  refine (occurs_of (by rw [hs, decide_eq_true hdue, Bool.or_true]; rfl)).trans (congrArg _ ?_)
  exact if_pos hval

/-- The first read of a poll that reads something else begins its time (R304). -/
theorem exec_recipePollEntry_first {val : Byte} (hval : val &&& mask ≠ want) (hphase : (s.cam[k]).phase = .run) :
    exec (.recipePollEntry k val true) s = .next (s.updCam k fun q =>
      { q with reps := 0, phase := .pollTill (s.now + msTicks ms), cciNext := s.now + 33 }) := by
  show execRecipePollEntry k val true s = _
  unfold execRecipePollEntry
  rw [he]
  refine (occurs_of (by rw [hs, hphase]; rfl)).trans (congrArg _ ((if_neg hval).trans ?_))
  rw [hphase, msTicks_one]

variable {t0 : Nat} (hphase : (s.cam[k]).phase = .pollTill t0)
include hphase

/-- A poll reads no sooner than 1.0 ms after its last read (R304). -/
theorem exec_recipePollEntry_early (hearly : s.now < (s.cam[k]).cciNext) (val : Byte) :
    exec (.recipePollEntry k val true) s = .next s := by
  show execRecipePollEntry k val true s = _
  unfold execRecipePollEntry
  rw [he]
  exact occurs_of_not (by rw [hs, hphase, decide_eq_false (Nat.not_le.mpr hearly)]; rfl)

/-- A later read that reads something else, inside the poll's time and after it (R304, R311). -/
theorem exec_recipePollEntry_later {val : Byte} (hval : val &&& mask ≠ want) (hdue : (s.cam[k]).cciNext ≤ s.now) :
    exec (.recipePollEntry k val true) s = .next
      (if t0 ≤ s.now then s.updCam k fun q => { q with failCause := some 2 }
       else s.updCam k fun q => { q with reps := 0, cciNext := s.now + 33 }) := by
  show execRecipePollEntry k val true s = _
  unfold execRecipePollEntry
  rw [he]
  refine (occurs_of (by rw [hs, decide_eq_true hdue, Bool.or_true]; rfl)).trans (congrArg _ ((if_neg hval).trans ?_))
  rw [hphase, msTicks_one]

end poll

theorem exec_recipeDelay_begins {ms : Nat} (he : s.entryAt k = some (.delay ms)) (hs : s.seqRuns k = true)
    (hphase : (s.cam[k]).phase = .run) :
    exec (.recipeDelay k) s = .next (s.updCam k fun q => { q with phase := .delayTill (s.now + msTicks ms) }) := by
  show execRecipeDelay k s = _
  unfold execRecipeDelay
  rw [he, hphase]
  exact occurs_of hs

theorem exec_recipeDelay_ends {ms t0 : Nat} (he : s.entryAt k = some (.delay ms)) (hst : (s.cam[k]).state = .replay)
    (hphase : (s.cam[k]).phase = .delayTill t0) (hdue : t0 ≤ s.now) :
    exec (.recipeDelay k) s = .next (s.updCam k CamSt.advance) := by
  show execRecipeDelay k s = _
  unfold execRecipeDelay
  rw [he, hphase]
  exact occurs_of (by rw [hst, decide_eq_true hdue]; rfl)

theorem exec_recipeExpmap {m : ExpMap} (he : s.entryAt k = some (.expmap m)) (hs : s.seqRuns k = true) :
    exec (.recipeExpmap k) s = .next (s.updCam k fun q => { q.advance with expmap := some m }) := by
  show execRecipeExpmap k s = _
  unfold execRecipeExpmap
  rw [he]
  exact occurs_of hs

theorem exec_recipeEnd (he : s.entryAt k = some .done) (hs : s.seqRuns k = true) :
    exec (.recipeEnd k) s = .next ((s.setCam k .waiting).updCam k fun q => { q with phase := .ended s.now }) := by
  show execRecipeEnd k s = _
  unfold execRecipeEnd
  rw [he]
  exact occurs_of hs

theorem exec_recipeSkipped {op : Byte} (he : s.entryAt k = some (.skip op)) (hs : s.seqRuns k = true) :
    exec (.recipeSkipped k) s = .next ((s.updCam k CamSt.advance).journal 0x72 (k.val * 4096 + op.toNat)) := by
  show execRecipeSkipped k s = _
  unfold execRecipeSkipped
  rw [he]
  exact occurs_of hs

/-- A sequence runs in REPLAY only. -/
theorem State.seqRuns_state (hs : s.seqRuns k = true) : (s.cam[k]).state = .replay := by
  simp only [State.seqRuns, Bool.and_eq_true, decide_eq_true_eq] at hs
  exact hs.1.1.1.1

/-- A port that takes another state and changes further: PORT STATE is the only entry (R280). -/
theorem State.setCam_spec (s : State) (k : CamPort) (st : PortState) (f : CamSt → CamSt) :
    ((s.cam[k]).state ≠ st → s.takesEntry 0x75 →
        LogsEntry s ((s.setCam k st).updCam k f) 0x75 (k.val * 4096 + st.code)) ∧
      ChangesOnly (.cameras :: s.journalling) s ((s.setCam k st).updCam k f) := by
  have hset : ChangesOnly [.cameras] s (s.updCam k fun q => { q with state := st }) := s.updCam_changes k _
  unfold State.setCam
  split
  · exact ⟨fun hne => absurd ‹_› hne, (s.updCam_changes k f).with_journal⟩
  · obtain ⟨hlogs, hc⟩ := hset.entry (State.updCam_changes _ k f) (by decide) (by decide)
    exact ⟨fun _ => hlogs, hc⟩

end recipe
/-- Settles O28: each command by the lemma that says what it leaves of its port; a stuck bus is `pulsed` before what
follows from it. -/
theorem recipeReplay : Obligations.RecipeReplay := by
  refine ⟨?_, ?_, ?_, ?_, ?_, ?_, ?_, ?_, ?_, ?_, ?_, ?_, ?_, ?_, ?_, ?_, ?_⟩
  · intro s k r hr hst hphase hc hfail hpll hwait
    obtain ⟨x, q, hexec, hon, hbegun⟩ := exec_replayStart hr hst hphase hc hfail hpll hwait
    have hport := (s.withOut (mclkOut k) x).updCam_self k fun _ => q
    refine ⟨_, hexec, ?_, ?_, ?_, ?_, ?_, fun j hj => State.updCam_other _ k _ j hj,
      ((s.withOut_changes _ x).mono (by decide)).trans ((State.updCam_changes _ k _).mono (by decide))⟩
    · rw [hport]
      exact hbegun.cen
    · rw [hport]
      exact hbegun.mclk
    · rw [hport]
      exact hbegun.pc
    · rw [hport]
      exact hbegun.phase
    · exact (congrArg (·.now.enable) (s.withOut_self (mclkOut k) x)).trans hon
  · exact fun s k t0 hphase hdue hst => exec_powerUpDelayEnd hphase hdue hst
  · intro s k reg data he hs
    refine ⟨exec_recipeWrite he hs true, fun hreps => (exec_recipeWrite he hs false).trans ?_⟩
    exact congrArg _ ((if_neg Bool.false_ne_true).trans (State.updCam_nack_retries hreps s.now))
  · intro s k w r hr
    rw [State.cciWrites_one hr, RecipeHeader.cciWrite, cciSpeed_eq]
  · intro s k reg mask val old he hs
    refine ⟨exec_recipeRmw he hs old true, fun hreps => (exec_recipeRmw he hs old false).trans ?_⟩
    exact congrArg _ ((if_neg Bool.false_ne_true).trans (State.updCam_nack_fails hreps s.now))
  · intro s k reg ms mask want val he hs
    refine ⟨fun hval hdue => exec_recipePollEntry_met he hs hval hdue,
      fun hval hphase => exec_recipePollEntry_first he hs hval hphase,
      fun t0 hphase hearly => exec_recipePollEntry_early he hs hphase hearly val,
      fun t0 hval hphase hdue htime => ?_, fun t0 hval hphase hdue htime => ?_⟩
    · exact (exec_recipePollEntry_later he hs hphase hval hdue).trans (congrArg _ (if_neg (Nat.not_le.mpr htime)))
    · exact (exec_recipePollEntry_later he hs hphase hval hdue).trans (congrArg _ (if_pos htime))
  · exact fun s k ms t0 he => ⟨fun hs hphase => exec_recipeDelay_begins he hs hphase,
      fun hst hphase hdue => exec_recipeDelay_ends he hst hphase hdue⟩
  · exact fun s k m he hs => exec_recipeExpmap he hs
  · intro s k he hs
    have hleaves : (s.cam[k]).state ≠ .waiting := by rw [State.seqRuns_state hs]; exact PortState.noConfusion
    obtain ⟨hlogs, hchanges⟩ := s.setCam_spec k .waiting fun q => { q with phase := .ended s.now }
    have hport : ((s.setCam k .waiting).updCam k fun q => { q with phase := .ended s.now }).cam[k] = _ :=
      State.updCam_self _ k _
    refine ⟨_, exec_recipeEnd he hs, ?_, ?_, hlogs hleaves, hchanges⟩
    · rw [hport, State.setCam_cam, if_pos rfl]
    · rw [hport]
  · intro s k op he hs
    have hskip : ChangesOnly [.cameras] s (s.updCam k CamSt.advance) := s.updCam_changes k _
    obtain ⟨hlogs, hchanges⟩ := hskip.entry (.refl _ _) (by decide) (by decide)
    exact ⟨_, exec_recipeSkipped he hs, State.journal_cam _ _ _, hlogs, hchanges⟩
  · exact fun s k n ack hn hearly => exec_cciNackRetry_early hn hearly ack
  · exact fun s k hn hdue => exec_cciNackRetry_nack hn hdue
  · intro s k hn hdue hidle
    refine (exec_cciNackRetry_nack hn hdue).trans (congrArg _ ?_)
    rw [hidle]
    rfl
  · exact fun s k freed hc => occurs_of_not (by rw [CamSt.cciReleased, hc]; rfl)
  · intro s k hc hidle
    obtain ⟨hlogs, hchanges⟩ := s.pulsed_spec k true fun q => { q with nacks := none }
    refine ⟨_, exec_cciStuck_freed hc hidle, ?_, hlogs, hchanges⟩
    rw [State.pulsed, State.updCam_updCam, State.journal_updCam_cam]
  · intro s k hc hbusy hfew
    have hport := ((s.pulsed k true).updCam_self k CamSt.burstFailed).trans (congrArg _ (s.pulsed_cam k true))
    refine ⟨_, exec_cciStuck_burst hc hbusy hfew, ?_, ?_, ?_, (s.pulsed_spec k true _).2⟩
    all_goals rw [hport]; rfl
  · intro s k hc hst
    have hport : ((s.pulsed k false).updCam k fun q => { q with nacks := none, failCause := some 4 }).cam[k] = _ :=
      State.updCam_self _ k _
    refine ⟨_, exec_cciStuck_replay hc hst, ?_, ?_, (s.pulsed_spec k false _).2⟩
    · rw [hport]
    · rw [hport, State.pulsed_cam]

end Sys2Proof.Machine

namespace Sys2Proof.Machine

/-! A port that fails, restarts, streams and joins (§7.6 to §7.9; R307, R311 to R313, R315, R318 to R320). -/

/-- A port stopped in a state: its clock runs on in RESTART only (R313). -/
def CamSt.stoppedIn (q : CamSt) (now : Nat) (st : PortState) : CamSt :=
  { ({ q with state := st } : CamSt).halt now with mclk := q.mclk && decide (st = .restart) }

theorem CamSt.stoppedIn_state (q : CamSt) (now : Nat) (st : PortState) : (q.stoppedIn now st).state = st := by
  simp only [CamSt.stoppedIn, CamSt.halt, CamSt.stopped, CamSt.setCen]
  split <;> rfl

theorem CamSt.stoppedIn_cen (q : CamSt) (now : Nat) (st : PortState) : (q.stoppedIn now st).cen = false := by
  simp only [CamSt.stoppedIn, CamSt.halt, CamSt.stopped, CamSt.setCen]
  split
  · assumption
  · rfl

section stops
variable (s : State)

theorem State.camStop_cam (k : CamPort) (st : PortState) : (s.camStop k st).cam[k] = (s.cam[k]).stoppedIn s.now st := by
  unfold State.camStop
  extract_lets s1
  have h1 : s1.cam = s.cam := by
    unfold s1
    split
    · rfl
    · exact s.mclkOff_cam k
  rw [State.updCam_self, State.setCam_cam, if_pos rfl, h1]
  rfl

/-- A port that stops in RESTART leaves the clocks. -/
theorem State.camStop_restart_changes (k : CamPort) : ChangesOnly (.cameras :: s.journalling) s (s.camStop k .restart) :=
  (s.setCam_spec k .restart _).2

theorem State.camStop_changes (k : CamPort) (st : PortState) :
    ChangesOnly ([.cameras, .clocks] ++ s.journalling) s (s.camStop k st) := by
  unfold State.camStop
  extract_lets s1
  have h1 : ChangesOnly [.cameras, .clocks] s s1 := ChangesOnly.ite (.refl _ s) ((s.mclkOff_changes k).mono (by decide))
  have h2 : ChangesOnly ([.cameras] ++ s1.journalling) s1 _ := (s1.setCam_spec k st fun q =>
    { q.halt s.now with mclk := q.mclk && decide (st = .restart) }).2
  exact h1.with_journal.then_journalling (by decide) (h2.widen (by decide))

/-- A port with one more restart noted, beside those of the last 60 s (R320). -/
def State.restartNoted (s : State) (k : CamPort) : State :=
  s.updCam k fun q => { q with restarts := s.now :: recent s.now (60 * tps) (s.cam[k]).restarts }

/-- With no frame in progress, a port whose restarts of the last 60 s were fewer than two restarts (R320). -/
theorem State.toRestart_restarts {k : CamPort} (hf : (s.cam[k]).frame = none)
    (hfew : (recent s.now (60 * tps) (s.cam[k]).restarts).length < 2) :
    s.toRestart k = (s.restartNoted k).camStop k .restart := by
  have hcount : ¬ 3 ≤ (s.now :: recent s.now (60 * tps) (s.cam[k]).restarts).length := by
    rw [List.length_cons]
    omega
  unfold State.toRestart
  dsimp only
  rw [if_neg hcount, hf]
  rfl

/-- With no frame in progress, the third restart within 60 s is a failure (R320). -/
theorem State.toRestart_fails {k : CamPort} (hf : (s.cam[k]).frame = none)
    (hmany : 2 ≤ (recent s.now (60 * tps) (s.cam[k]).restarts).length) :
    s.toRestart k = ((s.restartNoted k).camStop k .failed).journal 0x76 (k.val * 4096) := by
  have hcount : 3 ≤ (s.now :: recent s.now (60 * tps) (s.cam[k]).restarts).length := by
    rw [List.length_cons]
    omega
  unfold State.toRestart
  dsimp only
  rw [if_pos hcount, hf]
  rfl

/-- The cause of a failure journalled, before what follows from it (R312). -/
def State.failNoted (s : State) (k : CamPort) (c : Nat) : State :=
  (s.updCam k fun q => { q with failCause := none }).journal 0x73 (k.val * 4096 + c)

theorem State.failNoted_cam (k : CamPort) (c : Nat) : (s.failNoted k c).cam[k] = { s.cam[k] with failCause := none } := by
  rw [State.failNoted, State.journal_cam, State.updCam_self]

theorem State.failNoted_now (k : CamPort) (c : Nat) : (s.failNoted k c).now = s.now := (State.journal_book _ _ _).now

/-- A failure journalled and counted as a restart (R312, R320). -/
def State.failCounted (s : State) (k : CamPort) (c : Nat) : State := (s.failNoted k c).restartNoted k

theorem State.failCounted_cam (k : CamPort) (c : Nat) : (s.failCounted k c).cam[k] = { s.cam[k] with
    failCause := none, restarts := s.now :: recent s.now (60 * tps) (s.cam[k]).restarts } := by
  rw [State.failCounted, State.restartNoted, State.updCam_self, State.failNoted_cam, State.failNoted_now]

theorem State.failCounted_changes (k : CamPort) (c : Nat) :
    ChangesOnly ([.cameras] ++ s.journalling) s (s.failCounted k c) :=
  ((s.updCam_changes k _).then_journal (by decide) _ _).more (State.updCam_changes _ k _) (by decide)

end stops

section ports
variable {s : State} {k : CamPort}

theorem exec_replayFail {c : Nat} (hfail : (s.cam[k]).failCause = some c) :
    exec (.replayFail k) s = .next ((s.failNoted k c).toRestart k) := by
  show execReplayFail k s = _
  unfold execReplayFail
  rw [hfail]
  rfl

/-- A failure with no restart in the last 60 s: the port restarts (R320). -/
theorem exec_replayFail_restarts {c : Nat} (hfail : (s.cam[k]).failCause = some c) (hnone : (s.cam[k]).restarts = [])
    (hf : (s.cam[k]).frame = none) :
    exec (.replayFail k) s = .next ((s.failCounted k c).camStop k .restart) := by
  refine (exec_replayFail hfail).trans (congrArg _ (State.toRestart_restarts _ ?_ ?_))
  · rw [State.failNoted_cam]
    exact hf
  · rw [State.failNoted_cam]
    exact (congrArg (fun l => (recent _ _ l).length < 2) hnone).mpr Nat.zero_lt_two

/-- The third failure within 60 s (R320). -/
theorem exec_replayFail_fails {c a b : Nat} (hfail : (s.cam[k]).failCause = some c) (htwo : (s.cam[k]).restarts = [a, b])
    (ha : s.now < a + 60 * 32768) (hb : s.now < b + 60 * 32768) (hf : (s.cam[k]).frame = none) :
    exec (.replayFail k) s =
      .next (((s.failCounted k c).camStop k .failed).journal 0x76 (k.val * 4096)) := by
  refine (exec_replayFail hfail).trans (congrArg _ (State.toRestart_fails _ ?_ ?_))
  · rw [State.failNoted_cam]
    exact hf
  · rw [State.failNoted_cam, State.failNoted_now]
    have hrecent : recent s.now (60 * tps) [a, b] = [a, b] := by simp [recent, tps, ha, hb]
    show 2 ≤ (recent s.now (60 * tps) (s.cam[k]).restarts).length
    rw [htwo, hrecent]
    rfl

theorem exec_startTimeout {t0 : Nat} {r : Recipe} (hphase : (s.cam[k]).phase = .ended t0) (hr : s.portRecipe k = some r)
    (hst : (s.cam[k]).state = .waiting) (hfail : (s.cam[k]).failCause = none)
    (hdue : t0 + msTicks r.hdr.startTimeout ≤ s.now) :
    exec (.startTimeout k) s = .next (s.updCam k fun q => { q with failCause := some 3 }) := by
  show execStartTimeout k s = _
  unfold execStartTimeout
  rw [hphase, hr]
  exact occurs_of (by rw [hst, hfail, decide_eq_true hdue]; rfl)

/-- No port restarts in a changeover (§7.9). -/
theorem exec_portRestart_waits (h : s.dev.changeover ≠ .idle) : exec (.portRestart k) s = .next s :=
  occurs_of_not (by rw [decide_eq_false h, Bool.and_false]; rfl)

theorem exec_portRestart (hidle : s.dev.changeover = .idle) (hst : (s.cam[k]).state = .restart)
    (hc : (s.cam[k]).cen = false) (hwait : (s.cam[k]).cenAt + 328 ≤ s.now) :
    exec (.portRestart k) s = .next ((s.setCam k .replay).updCam k fun q => { q with phase := .idle, pc := 0 }) :=
  occurs_of (by rw [hst, hidle, hc, msTicks_ten, decide_eq_true hwait]; rfl)

/-- The edge of FSYNC at a point of the frame grid, without a latency (R315). -/
theorem exec_fsyncEdge {r : Recipe} {t0 : Nat} (hr : s.portRecipe k = some r) (hphase : (s.cam[k]).phase = .ended t0)
    (hst : (s.cam[k]).state = .streaming) (htrig : r.hdr.triggered = true) (hgrid : (s.cam[k]).freeRun = false)
    (hrun : s.fab.timeRun = true) (hlat : r.hdr.latency = 0)
    (hnew : (s.cam[k]).fsyncLast < s.fab.time / (r.hdr.grid * 65536))
    (hdue : t0 + 33 + cdiv (s.fab.time - s.fab.time / (r.hdr.grid * 65536) * (r.hdr.grid * 65536)) 2000000000 ≤ s.now) :
    exec (.fsyncEdge k) s = .next (s.updCam k fun q => { q with
      fsyncLast := s.fab.time / (r.hdr.grid * 65536)
      fsyncTill := s.fab.time / (r.hdr.grid * 65536) * (r.hdr.grid * 65536) + r.hdr.fsyncWidth * 1000 * 65536 }) := by
  show execFsyncEdge k s = _
  unfold execFsyncEdge
  rw [hr, hphase]
  dsimp only
  rw [show r.hdr.latency * 1000 * 65536 = 0 by rw [hlat], Nat.add_zero, Nat.sub_zero]
  exact occurs_of (by rw [hst, htrig, hgrid, hrun, decide_eq_true hnew, decide_eq_true hdue]; rfl)

/-- An entry made under a condition leaves the cameras. -/
theorem State.journal_if_cam (u : State) (c : Prop) [Decidable c] (code data : Nat) :
    (if c then u.journal code data else u).cam = u.cam := by
  split
  · exact u.journal_cam _ _
  · rfl

/-- A measured period that is off by more than 2% (R318). -/
theorem rateDiffers_of {n x : Nat} (h : n * x < 50 * ((100000000000 * 2 ^ 28 : Int) - (n * x : Nat)).natAbs) :
    rateDiffers n x = true := decide_eq_true (by exact_mod_cast h)

/-- The rate that a measured period gives (R318). -/
def CamSt.rated (q : CamSt) (x : BitVec 64) : CamSt := { q with measured := none, rate := rateOf x.toNat }

theorem exec_frameRateCheck_measured {r : Recipe} {x : BitVec 64} (hr : s.portRecipe k = some r)
    (hst : (s.cam[k]).state = .streaming) (hm : (s.cam[k]).measured = some x) :
    exec (.frameRateCheck k) s = .next (if rateDiffers r.hdr.rate x.toNat then
      (s.updCam k fun q => q.rated x).journal 0x78 (k.val * 4096 + min 4095 (rateOf x.toNat))
      else s.updCam k fun q => q.rated x) := by
  show execFrameRateCheck k s = _
  unfold execFrameRateCheck
  rw [hr]
  dsimp only
  rw [hm]
  exact occurs_of (decide_eq_true hst)

/-- The next measurement falls due in a minute (R318). -/
def State.rateDue (s : State) (k : CamPort) : State := s.updCam k fun q => { q with rateNext := s.now + 60 * tps }

theorem exec_frameRateCheck_due {r : Recipe} (hr : s.portRecipe k = some r) (hst : (s.cam[k]).state = .streaming)
    (hm : (s.cam[k]).measured = none) (hdue : (s.cam[k]).rateNext ≤ s.now) :
    exec (.frameRateCheck k) s = .next ((s.rateDue k).regRequest (.frameRate k)) := by
  show execFrameRateCheck k s = _
  unfold execFrameRateCheck
  rw [hr]
  dsimp only
  rw [hm]
  exact occurs_of (by rw [hst, decide_eq_true hdue]; rfl)

/-- A burst that is acknowledged, with no update waiting for an earlier one (R307). -/
theorem exec_exposureBurst {e g : Nat} {m : ExpMap} (hst : (s.cam[k]).state = .streaming)
    (hb : (s.cam[k]).burst = some (e, g)) (hm : (s.cam[k]).expmap = some m) (hidle : (s.cam[k]).burstBusy = false)
    (hf : (s.cam[k]).frame = none) (hframes : 0 < (s.cam[k]).frames) (hc : (s.cam[k]).cen = true) :
    exec (.exposureBurst k true) s = .next (s.burstEnd k true) :=
  occurs_of (by rw [hst, hb, hm, hidle, hf, CamSt.cciReleased, hc, decide_eq_true hframes]; rfl)

/-- The port as it joins, with its fresh tile (R319). -/
def State.withJoined (s : State) (k : CamPort) : State :=
  let s1 := s.updCam k fun q => { q with joined := true }
  { s1 with head := { s1.head with tile := s1.head.tile.set k { freshAt := s.now, held := false } } }

theorem State.withJoined_joined (s : State) (k : CamPort) : ((s.withJoined k).cam[k]).joined = true :=
  congrArg CamSt.joined (s.updCam_self k fun q => { q with joined := true })

theorem State.withJoined_tile (s : State) (k : CamPort) :
    (s.withJoined k).head.tile[k] = { freshAt := s.now, held := false } := by
  simp [State.withJoined]

theorem State.withJoined_changes (s : State) (k : CamPort) : ChangesOnly [.cameras, .head] s (s.withJoined k) :=
  (s.updCam_changes k _).join (changes_head _ _)

theorem exec_portJoined (hst : (s.cam[k]).state = .streaming) (hready : (s.cam[k]).joinReady = true)
    (hnot : (s.cam[k]).joined = false) (hin : s.head.inFrame = true) (hat : (s.cam[k]).joinAt ≤ s.head.startedAt) :
    exec (.portJoined k) s = .next ((s.withJoined k).journal 0x77 (k.val * 4096)) :=
  occurs_of (by rw [hst, hready, hnot, hin, decide_eq_true hat, Bool.true_and, Bool.or_true]; rfl)

end ports

/-! The recipe cache and its poll (§7.5; R299 to R302). -/

section cache
variable (s : State)

theorem State.holdRecipe_changes (k : CamPort) : ChangesOnly [.cameras] s (s.holdRecipe k) :=
  ChangesOnly.ite (s.updCam_changes k _) (.refl _ s)

/-- A port that leaves for DISABLED stops, at once or at its frame boundary (R300, R313). -/
theorem State.camLeave_disabled_changes (k : CamPort) : ChangesOnly videoParts s (s.camLeave k .disabled) := by
  have stopped (t : State) : ChangesOnly videoParts t (t.camStop k .disabled) :=
    (t.camStop_changes k .disabled).mono (List.append_subset.mpr
      ⟨by decide, List.Subset.trans t.journalling_le (by decide)⟩)
  have left : ChangesOnly videoParts s (s.leaveNow k .disabled) := by
    unfold State.leaveNow
    extract_lets m s1
    have h1 : ChangesOnly videoParts s s1 := ChangesOnly.ite ((changes_mov s _).mono (by decide)) (.refl _ s)
    exact h1.trans (stopped s1)
  exact ChangesOnly.ite (.refl _ s) (ChangesOnly.ite ((s.updCam_changes k _).mono (by decide)) left)

theorem State.afterCacheRead_changes (k : CamPort) : ChangesOnly videoParts s (s.afterCacheRead k) := by
  unfold State.afterCacheRead
  split
  · exact .refl _ s
  · refine ChangesOnly.ite (.refl _ s) ?_
    extract_lets fresh
    have hfresh : ChangesOnly videoParts s fresh := (s.updCam_changes k _).mono (by decide)
    split
    · exact s.camLeave_disabled_changes k
    · exact ChangesOnly.ite (hfresh.trans (fresh.camStart_changes k)) hfresh

/-- What follows a read of the cache: the ports take it up, a start-up goes on, and the kiln and the buffers follow. -/
def State.cacheFollowed (s : State) (starts : Bool) : State :=
  let s3 := allCams.foldl State.afterCacheRead s
  let s4 := if starts then s3.startStep 4 else s3
  s4.armKiln.syncBufs

theorem State.cacheFollowed_changes (starts : Bool) : ChangesOnly (.kiln :: videoParts) s (s.cacheFollowed starts) := by
  unfold State.cacheFollowed
  extract_lets s3 s4
  have h3 : ChangesOnly (.kiln :: videoParts) s s3 :=
    (ChangesOnly.foldl (fun t k => t.afterCacheRead_changes k) allCams s).mono (by decide)
  have h4 : ChangesOnly (.kiln :: videoParts) s s4 := ChangesOnly.ite (h3.trans ((s3.journal_le _ _).mono (by decide))) h3
  exact (h4.trans (s4.armKiln_changes.mono (by decide))).trans ((State.syncBufs_changes _).mono (by decide))

/-- A read of the cache begins: the frames in progress keep their recipes (R302). -/
def State.cacheBegun (s : State) : State :=
  let s0 := allCams.foldl State.holdRecipe s
  { s0 with dev := { s0.dev with cacheDone := true } }

theorem State.cacheBegun_changes : ChangesOnly [.cameras, .device] s s.cacheBegun :=
  ((ChangesOnly.foldl (fun t k => t.holdRecipe_changes k) allCams s).mono (by decide)).trans
    ((changes_dev _ _).mono (by decide))

/-- The cache replaced, in a read of it. -/
def State.cacheTaken (s : State) (c : RecipeCache) : State := { s.cacheBegun with rcp := c }

theorem State.cacheTaken_done (c : RecipeCache) : (s.cacheTaken c).dev.cacheDone = true := rfl
theorem State.cacheTaken_rcp (c : RecipeCache) : (s.cacheTaken c).rcp = c := rfl
theorem State.cacheTaken_changes (c : RecipeCache) : ChangesOnly [.cameras, .device, .recipes] s (s.cacheTaken c) :=
  (s.cacheBegun_changes.mono (by decide)).trans ((changes_rcp s.cacheBegun c).mono (by decide))

/-- A cache without a valid directory (R298). -/
def RecipeCache.invalid (pollNext : Nat) : RecipeCache := { pollNext := pollNext }

/-- What a valid directory fills the cache with, before the budgets (R299, R300). -/
def State.cacheRead (s : State) (l : List Byte) : RecipeCache where
  valid := true
  gen := directoryGen l
  entries := directoryEntries l
  slots := Vector.ofFn fun i => if s.slotUsed i then readSlot l (directoryEntries l)[i] else .bad 1
  pollNext := s.rcp.pollNext

theorem State.cacheRead_slot {l : List Byte} {i : Fin 12} (h : s.slotUsed i = true) :
    (s.cacheRead l).slots[i] = readSlot l (directoryEntries l)[i] := by
  simp [State.cacheRead, h]

/-- The ports whose slot is not usable are flagged (Table 7.9). -/
def State.flagBad (s t : State) : State :=
  allCams.foldl (fun u (k : CamPort) => match slotOf (s.nextUse k) with
    | none => u
    | some i => match t.rcp.slots[i] with
      | .bad why => u.recipeBad k i why
      | .good _ => u) t

theorem State.flagBad_changes (t : State) : ChangesOnly [.journal, .deviceTallies, .fabric, .twin] t (s.flagBad t) := by
  refine ChangesOnly.foldl (fun u k => ?_) allCams t
  split
  · exact .refl _ u
  · split
    · exact u.journal_le _ _
    · exact .refl _ u

/-- What the budgets leave of a slot: itself, or no longer a recipe that was good (Table 7.9 reason 5). -/
def SlotSt.Budgeted (a b : SlotSt) : Prop := b = a ∨ ((∃ r, a = .good r) ∧ b = .bad 5)

theorem SlotSt.Budgeted.trans {a b c : SlotSt} (h : a.Budgeted b) (k : b.Budgeted c) : a.Budgeted c := by
  rcases h with rfl | ⟨ha, rfl⟩
  · exact k
  · rcases k with rfl | ⟨⟨r, hr⟩, -⟩
    · exact .inr ⟨ha, rfl⟩
    · exact SlotSt.noConfusion hr

/-- A port without a frame in progress has the recipe of its slot only. -/
theorem State.portRecipe_good {k : CamPort} {i : Fin 12} (hheld : (s.cam[k]).held = none)
    (hslot : slotOf (s.camUse k) = some i) (hr : (s.portRecipe k).isSome = true) : ∃ r, s.rcp.slots[i] = .good r := by
  unfold slotOf at hslot
  split at hslot
  · obtain rfl := Option.some.inj hslot
    unfold State.portRecipe at hr
    rw [hheld] at hr
    dsimp only at hr
    rw [dif_pos ‹_›] at hr
    split at hr
    · exact absurd hr Bool.false_ne_true
    · split at hr
      · exact ⟨_, ‹_›⟩
      · exact absurd hr Bool.false_ne_true
  · contradiction

/-- The slot of a port over budget goes. -/
def State.dropSlot (s : State) (k : CamPort) : State :=
  match slotOf (s.camUse k) with
  | some i => if (s.portRecipe k).isSome then { s with rcp := { s.rcp with slots := s.rcp.slots.set i (.bad 5) } } else s
  | none => s

theorem State.dropSlot_cam (k : CamPort) : (s.dropSlot k).cam = s.cam := by
  unfold State.dropSlot
  split
  · split <;> rfl
  · rfl

theorem State.dropSlot_slots {k : CamPort} (hheld : (s.cam[k]).held = none) (j : Fin 12) :
    (s.rcp.slots[j]).Budgeted (s.dropSlot k).rcp.slots[j] := by
  unfold State.dropSlot
  split
  next i hslot =>
    split
    next hr =>
      by_cases hj : j = i
      · subst hj
        exact .inr ⟨s.portRecipe_good hheld hslot hr, by simp⟩
      · exact .inl (Vector.getElem_set_ne i.isLt j.isLt fun h => hj (Fin.ext h.symm))
    next => exact .inl rfl
  next => exact .inl rfl

theorem fitSlots_cons (start : Nat) (k : CamPort) (l : List CamPort) :
    fitSlots start (k :: l) s = match s.fitRate start with
      | some i => (s, some i)
      | none => fitSlots start l (s.dropSlot k) := rfl

theorem fitSlots_slots (start : Nat) (l : List CamPort) {s : State} (hheld : ∀ k : CamPort, (s.cam[k]).held = none)
    (j : Fin 12) : (s.rcp.slots[j]).Budgeted (fitSlots start l s).1.rcp.slots[j] := by
  induction l generalizing s with
  | nil => exact .inl rfl
  | cons k l ih =>
    rw [fitSlots_cons]
    split
    · exact .inl rfl
    · have hheld' : ∀ p : CamPort, ((s.dropSlot k).cam[p]).held = none := fun p => by rw [State.dropSlot_cam, hheld]
      exact (s.dropSlot_slots (hheld k) j).trans (ih hheld')

theorem State.cacheBudget_spec : ChangesOnly [.beads, .recipes, .journal, .deviceTallies, .fabric, .twin] s s.cacheBudget ∧
    ∃ v : Vector SlotSt 12, s.cacheBudget.rcp = { s.rcp with slots := v } ∧
      ∀ j : Fin 12, (s.rcp.slots[j]).Budgeted v[j] := by
  unfold State.cacheBudget
  extract_lets freed want r rc s1 now b0
  have hheld : ∀ k : CamPort, ((freed.withReadings s.bead.inForce).cam[k]).held = none := fun k => by
    simp [freed, State.withReadings, State.updCams]
  have hslots (j : Fin 12) : (s.rcp.slots[j]).Budgeted r.1.rcp.slots[j] :=
    fitSlots_slots want allCams.reverse (s := freed.withReadings s.bead.inForce) hheld j
  have h1 : ChangesOnly [.beads, .recipes, .journal, .deviceTallies, .fabric, .twin] s s1 :=
    (changes_rcp s _).mono (by decide)
  split
  · split
    · exact ⟨h1, _, rfl, hslots⟩
    · extract_lets rt s2
      have h2 : ChangesOnly [.beads, .recipes, .journal, .deviceTallies, .fabric, .twin] s s2 :=
        h1.trans ((changes_bead s1 _).mono (by decide))
      exact ⟨h2.trans ((s2.journal_le _ _).mono (by decide)), _, (s2.journal_book _ _).rcp, hslots⟩
  · exact ⟨h1, _, rfl, hslots⟩

end cache

section reads
variable {s : State} {image : Option (List Byte)}

/-- A read that finds no valid directory (R300). -/
theorem exec_recipeCacheRead_bad {why : Nat} (hw : imageWellFormed image = true) (hcore : s.dev.core = .running)
    (hcompiled : s.dev.compileDone = true) (hnot : s.dev.cacheDone = false) (hfault : directoryFault image = some why) :
    exec (.recipeCacheRead image) s = .next (State.cacheFollowed
      ((s.cacheTaken (.invalid s.rcp.pollNext)).journal 0x70 why) s.dev.start.isSome) := by
  show execRecipeCacheRead image s = _
  unfold execRecipeCacheRead State.cacheFollowed State.cacheTaken State.cacheBegun
  generalize allCams.foldl State.holdRecipe s = s0
  rw [hw, hfault]
  exact occurs_of (by rw [hcore, hcompiled, hnot]; rfl)

/-- A read that finds a valid directory (R299 to R301). -/
theorem exec_recipeCacheRead_good (hw : imageWellFormed image = true) (hcore : s.dev.core = .running)
    (hcompiled : s.dev.compileDone = true) (hnot : s.dev.cacheDone = false) (hfault : directoryFault image = none) :
    exec (.recipeCacheRead image) s = .next (State.cacheFollowed
      (s.flagBad (s.cacheTaken (s.cacheRead (image.getD []))).cacheBudget) s.dev.start.isSome) := by
  show execRecipeCacheRead image s = _
  unfold execRecipeCacheRead State.cacheFollowed State.cacheTaken State.cacheBegun
  generalize allCams.foldl State.holdRecipe s = s0
  rw [hw, hfault]
  exact occurs_of (by rw [hcore, hcompiled, hnot]; rfl)

/-- An invalid directory leaves no valid cache, and a read of it done (R300). -/
theorem State.cacheBad_changes (s : State) (c : RecipeCache) (why : Nat) (starts : Bool) :
    ChangesOnly (.kiln :: videoParts) (s.cacheTaken c) (((s.cacheTaken c).journal 0x70 why).cacheFollowed starts) :=
  ((State.journal_le _ 0x70 why).mono (by decide)).trans (State.cacheFollowed_changes _ starts)

/-- What follows the budgets in a read leaves the cache as the budgets have it (R301). -/
theorem State.cacheGood_changes (s u : State) (starts : Bool) :
    ChangesOnly (.kiln :: videoParts) u ((s.flagBad u).cacheFollowed starts) :=
  ((s.flagBad_changes u).mono (by decide)).trans (State.cacheFollowed_changes _ starts)

/-- The next poll falls due (R302). -/
def State.pollNoted (s : State) : State := { s with rcp := { s.rcp with pollNext := s.now + 2 * tps } }

/-- A directory of another generation is acted on (R302). -/
def State.directoryTaken (s : State) (l : List Byte) : State :=
  let s2 := (List.finRange 12).foldl (fun t (i : Fin 12) => t.pollSlot l i) s
  let waits := (List.finRange 12).any fun (i : Fin 12) => decide (0 < s2.rcp.crcFails[i])
  let s3 : State := { s2 with rcp := { s2.rcp with gen := if waits then s2.rcp.gen else directoryGen l } }
  s3.armKiln.syncBufs

/-- A poll that finds a valid directory (R302). -/
theorem exec_recipePoll (hw : imageWellFormed image = true) (hmode : s.dev.mode = .sand)
    (hcore : s.dev.core = .running) (hdone : s.dev.cacheDone = true) (hdue : s.rcp.pollNext ≤ s.now)
    (hvalid : s.rcp.valid = true) (hfault : directoryFault image = none) :
    exec (.recipePoll image) s = .next (if directoryGen (image.getD []) = s.rcp.gen then s.pollNoted
      else s.pollNoted.directoryTaken (image.getD [])) := by
  have hgood : ¬ ((directoryFault image).isSome = true ∨ ¬ s.rcp.valid = true) := by simp [hfault, hvalid]
  show execRecipePoll image s = _
  unfold execRecipePoll State.directoryTaken State.pollNoted
  rw [hw]
  exact (occurs_of (by rw [hmode, hcore, hdone, decide_eq_true hdue]; rfl)).trans (congrArg _ (if_neg hgood))

/-- A slot whose entry is unchanged is left as it is (R302). -/
theorem State.pollSlot_same {l : List Byte} {i : Fin 12}
    (hsame : s.slotUsed i = true → (directoryEntries l)[i] = s.rcp.entries[i])
    (hcrc : s.rcp.crcFails = Vector.replicate 12 0) : s.pollSlot l i = s := by
  have hset : s.rcp.crcFails.set i 0 = s.rcp.crcFails := by
    rw [hcrc]
    ext j hj
    simp
  unfold State.pollSlot
  extract_lets e
  split
  · rfl
  next hused =>
    rw [if_pos (hsame (by simpa using hused)), hset]

/-- The generation of the cache taken over from a directory. -/
def State.genTaken (s : State) (l : List Byte) : State := { s with rcp := { s.rcp with gen := directoryGen l } }

/-- A new generation with every used entry unchanged. -/
theorem State.directoryTaken_same {l : List Byte}
    (hsame : ∀ i : Fin 12, s.slotUsed i = true → (directoryEntries l)[i] = s.rcp.entries[i])
    (hcrc : s.rcp.crcFails = Vector.replicate 12 0) :
    s.directoryTaken l = (s.genTaken l).armKiln.syncBufs := by
  have hslots : (List.finRange 12).foldl (fun t (i : Fin 12) => t.pollSlot l i) s = s :=
    List.foldl_fixed' (fun i => State.pollSlot_same (hsame i) hcrc) _
  have hwaits : ((List.finRange 12).any fun (i : Fin 12) => decide (0 < s.rcp.crcFails[i])) = false := by
    rw [hcrc]
    decide
  unfold State.directoryTaken
  rw [hslots]
  dsimp only
  rw [hwaits]
  rfl

end reads
/-- Settles O29: a failure ends in `camStop`; a read of the cache changes no slot but as `Budgeted` says, and what
follows it leaves the cache; a poll with unchanged entries changes its generation only. -/
theorem cameraPortsAndRecipeCache : Obligations.CameraPortsAndRecipeCache := by
  refine ⟨?_, ?_, ?_, ?_, ?_, ?_, ?_, ?_, ?_, ?_, ?_, ?_, ?_, ?_⟩
  · exact fun s k t0 r hphase hr hst hfail hdue => exec_startTimeout hphase hr hst hfail hdue
  · intro s k c hfail hnone hf
    have hport := State.camStop_cam (s.failCounted k c) k .restart
    rw [State.failCounted_cam, hnone] at hport
    refine ⟨_, exec_replayFail_restarts hfail hnone hf, ?_, ?_, ?_, ?_,
      (s.failCounted_changes k c).then_journalling (by decide) (State.camStop_restart_changes _ k)⟩
    · rw [hport, CamSt.stoppedIn_state]
    · rw [hport, CamSt.stoppedIn_cen]
    · rw [hport]
      rfl
    · rw [hport]
      rfl
  · intro s k c a b hfail htwo ha hb hf
    have hport := State.camStop_cam (s.failCounted k c) k .failed
    have hcounted := (s.failCounted_changes k c).widen (qs := [.cameras, .clocks]) (by decide)
    refine ⟨_, exec_replayFail_fails hfail htwo ha hb hf, ?_, ?_, ?_,
      (hcounted.then_journalling (by decide) (State.camStop_changes _ k .failed)).then_entry (by decide) _ _⟩
    · rw [State.journal_cam, hport, CamSt.stoppedIn_state]
    · rw [State.journal_cam, hport, CamSt.stoppedIn_cen]
    · rw [State.journal_cam, hport]
      exact Bool.and_false _
  · exact fun s k h => exec_portRestart_waits h
  · intro s k hidle hst hc hwait
    have hport : ((s.setCam k .replay).updCam k fun q => { q with phase := .idle, pc := 0 }).cam[k] = _ :=
      State.updCam_self _ k _
    refine ⟨_, exec_portRestart hidle hst hc hwait, ?_, ?_, ?_, (s.setCam_spec k .replay _).2⟩
    · rw [hport, State.setCam_cam, if_pos rfl]
    · rw [hport]
    · rw [hport]
  · intro s k r t0 g hr hphase hst htrig hgrid hrun hlat hg hnew hdue
    subst hg
    exact exec_fsyncEdge hr hphase hst htrig hgrid hrun hlat hnew hdue
  · intro s k x r hr hst hm
    have hrated : ChangesOnly [.cameras] s (s.updCam k fun q => q.rated x) := s.updCam_changes k _
    obtain ⟨hlogs, hchanges⟩ := hrated.entry_if (rateDiffers r.hdr.rate x.toNat = true) 0x78
      (k.val * 4096 + min 4095 (rateOf x.toNat)) (by decide) (by decide)
    have hport := (congrArg (·[k]) (State.journal_if_cam (s.updCam k fun q => q.rated x)
      (rateDiffers r.hdr.rate x.toNat = true) 0x78 (k.val * 4096 + min 4095 (rateOf x.toNat)))).trans (s.updCam_self k _)
    refine ⟨_, exec_frameRateCheck_measured hr hst hm, ?_, ?_, ?_, fun hoff => hlogs (rateDiffers_of hoff), hchanges⟩
    · exact congrArg CamSt.rate hport
    · exact congrArg CamSt.measured hport
    · exact (congrArg CamSt.rateNext hport).trans rfl
  · intro s k r hr hst hm hdue
    have hset : ChangesOnly [.cameras] s (s.rateDue k) := s.updCam_changes k _
    have hreq := (s.rateDue k).regRequest_changes (.frameRate k)
    have hcam : ((s.rateDue k).regRequest (.frameRate k)).cam = (s.rateDue k).cam := hreq .cameras (by decide)
    refine ⟨_, exec_frameRateCheck_due hr hst hm hdue, ?_, fun hfree => ?_, hset.join hreq⟩
    · rw [hcam, State.rateDue, State.updCam_self]
      rfl
    · rw [State.regRequest_free (s.rateDue k) hfree]
  · intro s k e g m hst hb hm hidle hf hframes hc
    have hexec := (exec_exposureBurst hst hb hm hidle hf hframes hc).trans (congrArg _ (State.burstEnd_done hb hm hidle))
    refine ⟨_, hexec, ?_, ?_, ?_, ?_, ?_, ?_⟩
    · rw [State.updCam_self]
      rfl
    · rw [State.updCam_self]
      rfl
    · rw [State.updCam_self]
      rfl
    · rw [State.updCam_self]
      rfl
    · rw [State.updCam_kiln, State.updCtx_self]
    · exact ((changes_kiln s _).mono (by decide)).trans ((State.updCam_changes _ k _).mono (by decide))
  · intro s k hst hready hnot hin hat
    obtain ⟨hlogs, hchanges⟩ := (s.withJoined_changes k).entry (code := 0x77) (data := k.val * 4096) (.refl _ _)
      (by decide) (by decide)
    refine ⟨_, exec_portJoined hst hready hnot hin hat, ?_, ?_, hlogs, hchanges⟩
    · rw [State.journal_cam]
      exact s.withJoined_joined k
    · rw [(State.journal_book _ _ _).head]
      exact s.withJoined_tile k
  · intro s why hcore hcompiled hnot hfault
    have htaken := s.cacheTaken_changes (.invalid s.rcp.pollNext)
    have hafter := s.cacheBad_changes (.invalid s.rcp.pollNext) why s.dev.start.isSome
    refine ⟨_, exec_recipeCacheRead_bad (image := none) rfl hcore hcompiled hnot hfault, ?_, ?_, ?_, ?_⟩
    · exact (congrArg Dev.cacheDone (hafter .device (by decide))).trans (s.cacheTaken_done _)
    · exact congrArg RecipeCache.valid (hafter .recipes (by decide))
    · exact (hafter .pending (by decide)).trans (htaken .pending (by decide))
    · exact (hafter .sounding (by decide)).trans (htaken .sounding (by decide))
  · intro s l hl hcore hcompiled hnot hfault
    have htaken := s.cacheTaken_changes (s.cacheRead l)
    obtain ⟨hbudget, v, hv, hslots⟩ := (s.cacheTaken (s.cacheRead l)).cacheBudget_spec
    have hafter := s.cacheGood_changes (s.cacheTaken (s.cacheRead l)).cacheBudget s.dev.start.isSome
    have hrcp := (hafter .recipes (by decide)).trans hv
    refine ⟨_, exec_recipeCacheRead_good (image := some l) (decide_eq_true hl) hcore hcompiled hnot hfault,
      ?_, ?_, ?_, fun i hi => ?_, ?_⟩
    · exact (congrArg Dev.cacheDone ((hafter .device (by decide)).trans (hbudget .device (by decide)))).trans
        (s.cacheTaken_done _)
    · exact congrArg RecipeCache.valid hrcp
    · exact congrArg RecipeCache.gen hrcp
    · have hslot := hslots i
      rw [State.cacheTaken_rcp, s.cacheRead_slot hi] at hslot
      rw [Option.getD_some, hrcp]
      exact hslot
    · exact ((hafter .pending (by decide)).trans (hbudget .pending (by decide))).trans (htaken .pending (by decide))
  · intro s l hl hmode hcore hdone hdue hvalid hfault hgen
    refine (exec_recipePoll (image := some l) (decide_eq_true hl) hmode hcore hdone hdue hvalid hfault).trans (congrArg _ ?_)
    rw [Option.getD_some, if_pos hgen]
    rfl
  · intro s l hl hmode hcore hdone hdue hvalid hfault hgen hsame hcrc
    have htaken := State.directoryTaken_same (s := s.pollNoted) hsame hcrc
    have hsync := (s.pollNoted.genTaken l).armKiln_changes.trans (State.syncBufs_changes _)
    have hrcp : (s.pollNoted.genTaken l).armKiln.syncBufs.rcp = (s.pollNoted.genTaken l).rcp := hsync .recipes (by decide)
    have hexec := exec_recipePoll (image := some l) (decide_eq_true hl) hmode hcore hdone hdue hvalid hfault
    rw [Option.getD_some, if_neg hgen, htaken] at hexec
    refine ⟨_, hexec, ?_, ?_, hsync .cameras (by decide), hsync .pending (by decide)⟩
    · rw [hrcp]
      rfl
    · rw [hrcp]
      rfl

end Sys2Proof.Machine

namespace Sys2Proof.Machine

/-! One kiln context, queue or channel changed (§8.1, §9.4): the clay pool stays, and so does every other context. -/

/-- No kiln context but one differs between two states. -/
def ContextsKept (c : Ctx) (s t : State) : Prop := ∀ x : Ctx, x ≠ c → t.kiln.ctx[x] = s.kiln.ctx[x]

namespace ContextsKept
variable {c : Ctx} {s t u : State}

theorem trans (h : ContextsKept c s t) (k : ContextsKept c t u) : ContextsKept c s u :=
  fun x hx => (k x hx).trans (h x hx)
theorem of_set {v : KCtx} (h : t.kiln.ctx = s.kiln.ctx.set c v) : ContextsKept c s t := fun x hx => by
  simp [h, Fin.val_ne_of_ne hx.symm]

end ContextsKept

/-- A context set is read back. -/
theorem ctx_of_set {c : Ctx} {s t : State} {v : KCtx} (h : t.kiln.ctx = s.kiln.ctx.set c v) : t.kiln.ctx[c] = v := by
  simp [h]

section contexts
variable (s : State)

theorem State.updCtx_kiln_changes (c : Ctx) (f : KCtx → KCtx) : ChangesOnly [.kiln] s (s.updCtx c f) := changes_kiln s _
theorem State.updChan_movers_changes (c : MovCh) (f : MChan → MChan) : ChangesOnly [.movers] s (s.updChan c f) := by
  intro q hq; cases q <;> simp_all [Part.same, Tal.restSame, State.updChan]
theorem State.updQueue_movers_changes (q : Fin 64) (f : MQueue → MQueue) : ChangesOnly [.movers] s (s.updQueue q f) := by
  intro p hp; cases p <;> simp_all [Part.same, Tal.restSame, State.updQueue]

theorem State.journal_kiln (code data : Nat) : (s.journal code data).kiln = s.kiln := (s.journal_book code data).kiln

end contexts
end Sys2Proof.Machine

namespace Sys2Proof.Machine

/-! A frame in progress given up with its slot and its export image (§8.7; R369 to R371). -/

theorem KCtx.abandonFor_work (c : Ctx) (k : KCtx) : (k.abandonFor c).work = k.work := by
  unfold KCtx.abandonFor KCtx.abandon
  split
  · rfl
  · split <;> rfl

theorem KCtx.abandonFor_rows {k : KCtx} (h : k.cur.isSome = true) (c : Ctx) : (k.abandonFor c).rows = [] := by
  obtain ⟨f, hf⟩ := Option.isSome_iff_exists.mp h
  unfold KCtx.abandonFor KCtx.abandon
  split
  · rfl
  · rw [hf]

theorem KCtx.abandonFor_skipping {k : KCtx} (h : k.cur.isSome = true) {c : Ctx} (hc : c.val < 12) :
    (k.abandonFor c).skipping = true := by
  obtain ⟨f, hf⟩ := Option.isSome_iff_exists.mp h
  rw [KCtx.abandonFor, if_neg (by omega), KCtx.abandon, hf]

/-- Between two states the kiln gives up the slot or the export image of a context: no other context differs, nor do the
working set and the frame of this one, and nothing is counted. -/
structure GivesUp (c : Ctx) (s t : State) : Prop where
  others : ContextsKept c s t
  work : (t.kiln.ctx[c]).work = (s.kiln.ctx[c]).work
  cur : (t.kiln.ctx[c]).cur = (s.kiln.ctx[c]).cur
  overruns : t.kiln.overruns = s.kiln.overruns
  parities : t.kiln.parities = s.kiln.parities
  changes : ChangesOnly [.kiln, .movers] s t

namespace GivesUp
variable {c : Ctx} {s t u : State}

theorem refl (c : Ctx) (s : State) : GivesUp c s s := ⟨fun _ _ => rfl, rfl, rfl, rfl, rfl, .refl _ s⟩

theorem trans (h : GivesUp c s t) (k : GivesUp c t u) : GivesUp c s u :=
  ⟨h.others.trans k.others, k.work.trans h.work, k.cur.trans h.cur, k.overruns.trans h.overruns,
    k.parities.trans h.parities, h.changes.trans k.changes⟩

theorem of_set {v : KCtx} (h : t.kiln.ctx = s.kiln.ctx.set c v) (hwork : v.work = (s.kiln.ctx[c]).work)
    (hcur : v.cur = (s.kiln.ctx[c]).cur) (hover : t.kiln.overruns = s.kiln.overruns)
    (hpar : t.kiln.parities = s.kiln.parities) (k : ChangesOnly [.kiln, .movers] s t) : GivesUp c s t :=
  ⟨.of_set h, (congrArg KCtx.work (ctx_of_set h)).trans hwork, (congrArg KCtx.cur (ctx_of_set h)).trans hcur, hover, hpar, k⟩

end GivesUp

section abandon
variable (s : State) (c : Ctx)

theorem State.cancelSlot_givesUp : GivesUp c s (s.cancelSlot c) := by
  unfold State.cancelSlot
  split
  · exact .of_set rfl rfl rfl rfl rfl
      ((((s.updCtx_kiln_changes c _).mono (by decide)).trans ((State.updChan_movers_changes _ 12 _).mono (by decide))).trans
        ((changes_kiln _ _).mono (by decide)))
  · exact .refl c s

theorem State.dropImage_givesUp : GivesUp c s (s.dropImage c) := by
  unfold State.dropImage
  dsimp only
  split
  · exact .of_set rfl rfl rfl rfl rfl
      ((((s.updQueue_movers_changes _ _).mono (by decide)).trans ((State.updCtx_kiln_changes _ c _).mono (by decide))).trans
        ((changes_kiln _ _).mono (by decide)))
  · exact .refl c s

theorem State.cancelSlot_slot : (s.cancelSlot c).kiln.slot = if s.kiln.slot = some c then none else s.kiln.slot := by
  by_cases h : s.kiln.slot = some c
  · rw [State.cancelSlot, if_pos h, if_pos h]
  · rw [State.cancelSlot, if_neg h, if_neg h]

theorem State.dropImage_slot : (s.dropImage c).kiln.slot = s.kiln.slot := by
  unfold State.dropImage
  dsimp only
  split <;> rfl

/-- The state with the slot and the export image of a context given up. -/
def State.imageDropped : State := (s.cancelSlot c).dropImage c

theorem State.imageDropped_givesUp : GivesUp c s (s.imageDropped c) :=
  (s.cancelSlot_givesUp c).trans ((s.cancelSlot c).dropImage_givesUp c)

theorem State.abandonFrame_slot : (s.abandonFrame c).kiln.slot = if s.kiln.slot = some c then none else s.kiln.slot :=
  ((s.cancelSlot c).dropImage_slot c).trans (s.cancelSlot_slot c)

theorem State.abandonFrame_self : (s.abandonFrame c).kiln.ctx[c] = ((s.imageDropped c).kiln.ctx[c]).abandonFor c :=
  State.updCtx_self _ c _

theorem State.abandonFrame_work : ((s.abandonFrame c).kiln.ctx[c]).work = (s.kiln.ctx[c]).work := by
  rw [s.abandonFrame_self c, KCtx.abandonFor_work]
  exact (s.imageDropped_givesUp c).work

theorem State.abandonFrame_others : ContextsKept c s (s.abandonFrame c) :=
  (s.imageDropped_givesUp c).others.trans (.of_set rfl)

theorem State.abandonFrame_counts : (s.abandonFrame c).kiln.overruns = s.kiln.overruns ∧
    (s.abandonFrame c).kiln.parities = s.kiln.parities :=
  ⟨(s.imageDropped_givesUp c).overruns, (s.imageDropped_givesUp c).parities⟩

theorem State.abandonFrame_kiln_movers_changes : ChangesOnly [.kiln, .movers] s (s.abandonFrame c) :=
  (s.imageDropped_givesUp c).changes.trans ((State.updCtx_kiln_changes _ c _).mono (by decide))

end abandon

/-! Overruns, parity errors and hangs (§8.7; R369 to R371, R396). -/

section faults
variable (s : State)

/-- The kiln with the frame of a context dropped, its read position taken from the queue's resync word, and the overrun
counted (R369, R396). -/
def State.overrunTaken (c : Ctx) : State :=
  let s1 := (s.abandonFrame c).updCtx c fun k => { k with
    resync := false, cur := none, rows := [], outDone := 0, skipping := false
    readPos := ((s.mov.queue[inQueue c]).resync).toNat }
  { s1 with kiln := { s1.kiln with overruns := s1.kiln.overruns + 1 } }

theorem State.overrunTaken_self (c : Ctx) : (s.overrunTaken c).kiln.ctx[c] = { (s.abandonFrame c).kiln.ctx[c] with
    resync := false, cur := none, rows := [], outDone := 0, skipping := false
    readPos := ((s.mov.queue[inQueue c]).resync).toNat } := ctx_of_set (s := s.abandonFrame c) rfl

theorem State.overrunTaken_others (c : Ctx) : ContextsKept c s (s.overrunTaken c) :=
  (s.abandonFrame_others c).trans (.of_set rfl)

theorem State.overrunTaken_changes (c : Ctx) : ChangesOnly [.kiln, .movers] s (s.overrunTaken c) :=
  ((s.abandonFrame_kiln_movers_changes c).trans ((State.updCtx_kiln_changes _ c _).mono (by decide))).trans
    ((changes_kiln _ _).mono (by decide))

theorem exec_kilnOverrun {s : State} {c : Ctx} (hrun : s.kiln.running = true) (hdue : (s.kiln.ctx[c]).resync = true) :
    exec (.kilnOverrun c) s = .next ((s.overrunTaken c).journal 0x80 (c.val * 4096)) :=
  occurs_of (by rw [hrun, hdue]; rfl)

/-- The kiln with the frame of a context abandoned, its shadow set written again and armed, and the parity error counted
(R370). -/
def State.parityTaken (c : Ctx) : State :=
  let s1 := (s.abandonFrame c).updCtx c fun k => { k with
    parityAt := s.now :: recent s.now (60 * tps) (s.kiln.ctx[c]).parityAt, shadow := s.ctxParams c, armed := true }
  { s1 with kiln := { s1.kiln with parities := s1.kiln.parities + 1 } }

theorem State.parityTaken_self (c : Ctx) : (s.parityTaken c).kiln.ctx[c] = { (s.abandonFrame c).kiln.ctx[c] with
    parityAt := s.now :: recent s.now (60 * tps) (s.kiln.ctx[c]).parityAt, shadow := s.ctxParams c, armed := true } :=
  ctx_of_set (s := s.abandonFrame c) rfl

theorem State.parityTaken_others (c : Ctx) : ContextsKept c s (s.parityTaken c) :=
  (s.abandonFrame_others c).trans (.of_set rfl)

theorem State.parityTaken_changes (c : Ctx) : ChangesOnly [.kiln, .movers] s (s.parityTaken c) :=
  ((s.abandonFrame_kiln_movers_changes c).trans ((State.updCtx_kiln_changes _ c _).mono (by decide))).trans
    ((changes_kiln _ _).mono (by decide))

/-- The first parity error of a context (R370). -/
theorem exec_kilnParity {s : State} {c : Ctx} (hon : s.kilnOn = true) (hused : s.ctxUsed c = true)
    (hfirst : (s.kiln.ctx[c]).parityAt = []) (slot : Fin 46) :
    exec (.kilnParity c slot) s = .next ((s.parityTaken c).journal 0x81 (c.val * 4096 + slot.val)) := by
  have hone : ¬ 3 ≤ (s.now :: recent s.now (60 * tps) (s.kiln.ctx[c]).parityAt).length := by
    rw [hfirst]; exact (by decide : ¬ 3 ≤ 1)
  exact (occurs_of (by rw [hon, hused]; rfl)).trans (congrArg _ (if_neg hone))

/-- Every frame in progress abandoned. -/
def State.allAbandoned : State := allCtx.foldl (fun t (c : Ctx) => t.abandonFrame c) s

theorem State.allAbandoned_changes : ChangesOnly [.kiln, .movers] s s.allAbandoned :=
  ChangesOnly.foldl (fun t c => t.abandonFrame_kiln_movers_changes c) allCtx s

/-- No slot is in progress after every context gave its own up. -/
theorem State.allAbandoned_slot : s.allAbandoned.kiln.slot = none := by
  refine Option.eq_none_iff_forall_ne_some.mpr fun c => ?_
  refine of_decide_eq_false (foldl_finRange (fun t (c : Ctx) => decide (t.kiln.slot = some c)) (fun _ _ => false)
    (fun _ => True) (fun _ _ _ => trivial) (fun t k j _ => ?_) s trivial c)
  rw [t.abandonFrame_slot k]
  by_cases hk : t.kiln.slot = some k
  · simp [hk, eq_comm]
  · by_cases hj : j = k
    · simp [hj, hk]
    · simp [hj, hk]

/-- The kiln reset, every working set loaded again (R169, R371). -/
def State.kilnReloaded : State :=
  { s.allAbandoned with kiln := { s.allAbandoned.kiln with
    hangs := s.now :: recent s.now (60 * tps) s.kiln.hangs, hangCount := s.kiln.hangCount + 1
    feed := [], out := [], readySince := none
    ctx := Vector.ofFn fun (c : Ctx) =>
      { s.allAbandoned.kiln.ctx[c] with work := s.ctxParams c, shadow := s.ctxParams c, armed := false } } }

theorem State.kilnReloaded_ctx (x : Ctx) : s.kilnReloaded.kiln.ctx[x] =
    { s.allAbandoned.kiln.ctx[x] with work := s.ctxParams x, shadow := s.ctxParams x, armed := false } := by
  simp [State.kilnReloaded]

theorem State.kilnReloaded_hangs : s.kilnReloaded.kiln.hangs = s.now :: recent s.now (60 * tps) s.kiln.hangs := rfl

theorem State.kilnReloaded_slot : s.kilnReloaded.kiln.slot = none := by
  unfold State.kilnReloaded
  dsimp only
  exact s.allAbandoned_slot

theorem State.kilnReloaded_changes : ChangesOnly [.kiln, .movers] s s.kilnReloaded :=
  s.allAbandoned_changes.trans ((changes_kiln _ _).mono (by decide))

/-- A hang with none in the 60 s before it (R371). -/
theorem State.kilnReset_first {s : State} (h : recent s.now (60 * tps) s.kiln.hangs = []) :
    s.kilnReset = s.kilnReloaded.journal 0x82 1 := by
  have hfatal : decide (2 ≤ (s.now :: recent s.now (60 * tps) s.kiln.hangs).length) = false := by rw [h]; rfl
  unfold State.kilnReset
  simp only [hfatal]
  rfl

/-- A hang with one in the 60 s before it is KILN FAULT (R371). -/
theorem State.kilnReset_again {s : State} {h0 : Nat} (h : recent s.now (60 * tps) s.kiln.hangs = [h0]) :
    s.kilnReset = (s.kilnReloaded.journal 0x82 0).latchFatal .kilnFault := by
  have hfatal : decide (2 ≤ (s.now :: recent s.now (60 * tps) s.kiln.hangs).length) = true := by rw [h]; rfl
  unfold State.kilnReset
  simp only [hfatal, ↓reduceIte, Bool.not_true]
  rw [State.kilnReloaded, State.allAbandoned]
  rfl

theorem State.kilnOn_sand {s : State} (h : s.kilnOn = true) : s.dev.mode = .sand := by
  simp only [State.kilnOn, Bool.and_eq_true, decide_eq_true_eq] at h
  exact h.2

/-- No slot for 1.0 ms while a context is ready (R371). -/
theorem exec_kilnHang {s : State} {c : Ctx} {t0 : Nat} (hon : s.kilnOn = true) (hready : s.ctxReady c = true)
    (hsince : s.kiln.readySince = some t0) (hlong : t0 + 33 ≤ s.now) : exec .kilnHang s = .next s.kilnReset := by
  have hany : allCtx.any s.ctxReady = true := List.any_eq_true.mpr ⟨c, List.mem_finRange c, hready⟩
  refine occurs_of ?_
  rw [hon, hany, hsince]
  exact decide_eq_true hlong

/-- KILN FAULT leaves the house core running and is not on the fabric side. -/
theorem State.latchFatal_kilnFault {s : State} (h : s.dev.mode ≠ .bedFault) :
    s.latchFatal .kilnFault = s.latched .kilnFault := s.latchFatal_of_ne h

end faults

/-- Settles O31: an overrun, a parity error and a hang each give up the frames they concern, and the entry follows. -/
theorem kilnFaults : Obligations.KilnFaults := by
  refine ⟨?_, ?_, ?_, ?_⟩
  · intro s c hrun hdue
    obtain ⟨hlogs, hchanges⟩ := (s.overrunTaken_changes c).entry
      (.refl _ ((s.overrunTaken c).journal 0x80 (c.val * 4096))) (by decide) (by decide)
    have hself := s.overrunTaken_self c
    refine ⟨_, exec_kilnOverrun hrun hdue, ?_⟩
    rw [State.journal_kiln, hself]
    exact ⟨rfl, rfl, rfl, rfl, rfl, rfl, s.abandonFrame_work c, congrArg (· + 1) (s.abandonFrame_counts c).1,
      s.abandonFrame_slot c, s.overrunTaken_others c, hlogs, hchanges⟩
  · intro s c slot hon hused hfirst
    obtain ⟨hlogs, hchanges⟩ := (s.parityTaken_changes c).entry
      (.refl _ ((s.parityTaken c).journal 0x81 (c.val * 4096 + slot.val))) (by decide) (by decide)
    have hself := s.parityTaken_self c
    have habandon := s.abandonFrame_self c
    have hcur := (s.imageDropped_givesUp c).cur
    refine ⟨_, exec_kilnParity hon hused hfirst slot, ?_⟩
    rw [State.journal_kiln, hself]
    refine ⟨congrArg (· + 1) (s.abandonFrame_counts c).2, ?_, rfl, rfl, fun hsome => ?_, s.parityTaken_others c, hlogs,
      hchanges⟩
    · rw [hfirst]; rfl
    · rw [← hcur] at hsome
      dsimp only
      rw [habandon]
      exact ⟨KCtx.abandonFor_rows hsome c, KCtx.abandonFor_skipping hsome⟩
  · intro s c t0 hon hready hsince hlong hnone
    have hrecent : recent s.now (60 * tps) s.kiln.hangs = [] := by rw [hnone]; rfl
    obtain ⟨hlogs, hchanges⟩ := s.kilnReloaded_changes.entry (.refl _ (s.kilnReloaded.journal 0x82 1)) (by decide)
      (by decide)
    refine ⟨_, (exec_kilnHang hon hready hsince hlong).trans (congrArg _ (State.kilnReset_first hrecent)), ?_⟩
    rw [State.journal_kiln]
    refine ⟨rfl, by rw [s.kilnReloaded_hangs, hrecent], rfl, rfl, s.kilnReloaded_slot, rfl, fun x => ?_, hlogs, hchanges⟩
    rw [s.kilnReloaded_ctx x]
    exact ⟨rfl, rfl⟩
  · intro s c t0 h0 hon hready hsince hlong hone hwithin
    have hrecent : recent s.now (60 * tps) s.kiln.hangs = [h0] := by
      rw [hone]; exact List.filter_cons_of_pos (decide_eq_true hwithin)
    have hdev : (s.kilnReloaded.journal 0x82 0).dev = s.dev :=
      (State.journal_le _ 0x82 0 .device (by decide)).trans (s.kilnReloaded_changes .device (by decide))
    have hmode : (s.kilnReloaded.journal 0x82 0).dev.mode ≠ .bedFault := by
      rw [hdev, State.kilnOn_sand hon]; decide
    have hreloaded : ChangesOnly [.device, .kiln, .movers] s s.kilnReloaded := s.kilnReloaded_changes.mono (by decide)
    have hlatched := State.latched_changes (s.kilnReloaded.journal 0x82 0) .kilnFault
    obtain ⟨hlogs, hchanges⟩ := hreloaded.entry (hlatched.mono (by decide)) (by decide) (by decide)
    have hexec := (exec_kilnHang hon hready hsince hlong).trans (congrArg _ (State.kilnReset_again hrecent))
    rw [State.latchFatal_kilnFault hmode] at hexec
    refine ⟨_, hexec, by rw [State.latched, hdev], ?_, hlogs, hchanges⟩
    rw [State.latched, State.journal_kiln]
    rfl

end Sys2Proof.Machine

namespace Sys2Proof.Machine

/-! The line slots of the kiln (§8.2; R326, R329 to R332). -/

/-- The working set, the frame in progress and the rows of a context are the same in two states. -/
structure FrameKept (x : Ctx) (s t : State) : Prop where
  work : (t.kiln.ctx[x]).work = (s.kiln.ctx[x]).work
  cur : (t.kiln.ctx[x]).cur = (s.kiln.ctx[x]).cur
  rows : (t.kiln.ctx[x]).rows = (s.kiln.ctx[x]).rows

namespace FrameKept
variable {x c : Ctx} {s t u : State}

theorem refl (x : Ctx) (s : State) : FrameKept x s s := ⟨rfl, rfl, rfl⟩

theorem trans (h : FrameKept x s t) (k : FrameKept x t u) : FrameKept x s u :=
  ⟨k.work.trans h.work, k.cur.trans h.cur, k.rows.trans h.rows⟩

theorem of_kiln (h : t.kiln = s.kiln) : FrameKept x s t := by
  constructor <;> rw [h]

theorem of_contexts (h : ContextsKept c s t) (hx : x ≠ c) : FrameKept x s t := by
  constructor <;> rw [h x hx]

/-- A context is set, and where it is the one asked for it keeps its frame. -/
theorem of_set {v : KCtx} (h : t.kiln.ctx = s.kiln.ctx.set c v) (hwork : v.work = (s.kiln.ctx[c]).work)
    (hcur : v.cur = (s.kiln.ctx[c]).cur) (hrows : v.rows = (s.kiln.ctx[c]).rows) : FrameKept x s t := by
  by_cases hx : x = c
  · subst hx
    constructor <;> rw [ctx_of_set h] <;> assumption
  · exact of_contexts (.of_set h) hx

end FrameKept

section slots
variable (s : State) (c : Ctx)

/-- A context that has no frame waiting or has one in progress, none of it released without a slot, releases nothing
(R331). -/
theorem State.releaseLines_none (hskip : (s.kiln.ctx[c]).skipping = false)
    (hidle : (s.kiln.ctx[c]).frames = [] ∨ (s.kiln.ctx[c]).cur.isSome = true) : s.releaseLines c = s := by
  unfold State.releaseLines
  extract_lets k0 k1
  have hk : k1 = k0 := by
    unfold k1
    split
    next f rest hcur hframes =>
      have hcur : (s.kiln.ctx[c]).cur = none := hcur
      have hframes : (s.kiln.ctx[c]).frames = f :: rest := hframes
      rw [hcur, hframes] at hidle
      exact absurd hidle (by simp)
    · rfl
  rw [hk]
  exact if_pos (by rw [hskip]; rfl)

/-- The slot of the next context that is ready begins where none is in progress (R330). -/
def State.slotGiven : State :=
  if s.kiln.slot.isSome then s
  else match s.slotOrder.find? s.ctxReady with
    | none => s
    | some c => match s.kilnFrame c with
      | some (f, _) => s.beginSlot c f
      | none => s

theorem exec_kilnLineSlot {s : State} (hon : s.kilnOn = true)
    (hquiet : ∀ d : Ctx, (s.kiln.ctx[d]).skipping = false ∧
      ((s.kiln.ctx[d]).frames = [] ∨ (s.kiln.ctx[d]).cur.isSome = true)) :
    exec .kilnLineSlot s = .next s.slotBoundary.slotGiven := by
  have hreleased : allCtx.foldl (fun t (c : Ctx) => if c.val < 12 then t.releaseLines c else t) s = s :=
    List.foldl_fixed' (fun d => by rw [s.releaseLines_none d (hquiet d).1 (hquiet d).2, ite_self]) _
  show execKilnLineSlot s = _
  rw [execKilnLineSlot, if_pos hon, hreleased, State.slotGiven]
  dsimp only
  by_cases hslot : s.slotBoundary.kiln.slot.isSome = true
  · rw [if_pos hslot, if_pos hslot]
  · rw [if_neg hslot, if_neg hslot]
    cases s.slotBoundary.slotOrder.find? s.slotBoundary.ctxReady with
    | none => rfl
    | some c =>
      dsimp only
      cases s.slotBoundary.kilnFrame c <;> rfl

theorem State.slotGiven_of_slot {s : State} (h : s.kiln.slot.isSome = true) : s.slotGiven = s := if_pos h

theorem State.slotGiven_begins {s : State} {c : Ctx} {f : CamFrame} {n : Nat} (hslot : s.kiln.slot = none)
    (hnext : s.slotOrder.find? s.ctxReady = some c) (hframe : s.kilnFrame c = some (f, n)) :
    s.slotGiven = s.beginSlot c f := by
  simp [State.slotGiven, hslot, hnext, hframe]

/-- A slot boundary begins at most one slot. -/
theorem State.slotGiven_cases : s.slotGiven = s ∨ ∃ c f, s.slotGiven = s.beginSlot c f := by
  unfold State.slotGiven
  split
  · exact .inl rfl
  · split
    · exact .inl rfl
    · split
      · exact .inr ⟨_, _, rfl⟩
      · exact .inl rfl

theorem State.slotBoundary_none {s : State} (h : s.kiln.slot = none) : s.slotBoundary = s := by
  rw [State.slotBoundary, h]

theorem State.slotBoundary_waits {s : State} {c : Ctx} (h : s.kiln.slot = some c) (hfeed : s.kiln.feed ≠ []) :
    s.slotBoundary = s := by
  rw [State.slotBoundary, h]
  exact if_neg (by simpa using hfeed)

theorem State.slotBoundary_ends {s : State} {c : Ctx} (h : s.kiln.slot = some c) (hfeed : s.kiln.feed = []) :
    s.slotBoundary = s.endSlot c := by
  rw [State.slotBoundary, h]
  exact if_pos (by rw [hfeed]; rfl)

/-! A slot begins (R326, R329, R389, R396). -/

/-- The state with the first slot of a frame prepared where the context has none in progress (R326). -/
def State.frameBegun (f : CamFrame) : State :=
  if (s.kiln.ctx[c]).cur.isNone then
    (s.updCtx c fun k => k.begin f).updQueue (tileQueue c) fun q => { q with level := 0 }
  else s

/-- The next line of a context's input ring taken from its queue and given to the kiln feed (R389, R396). -/
def State.lineTaken (b rl : Nat) : State :=
  let t := (s.updQueue (inQueue c) fun q => { q with level := q.level - 1 }).updCtx c fun k => { k with
    readPos := ringStep b rl k.readPos 1 }
  { t with kiln := { t.kiln with feed := [((s.kiln.ctx[c]).readPos, c, rl)] } }

/-- The same for a context that has an input ring. -/
def State.lineFed : State :=
  match s.inRing c with
  | none => s
  | some (b, rl) => s.lineTaken c b rl

/-- The slot of a context in progress (R329). -/
def State.slotOpened : State :=
  { s with kiln := { s.kiln with slot := some c, lineIn := [], last := c, readySince := none } }

theorem State.beginSlot_eq (f : CamFrame) : s.beginSlot c f = ((s.frameBegun c f).lineFed c).slotOpened c := rfl

/-- A slot of a frame in progress takes the next line of its ring. -/
theorem State.beginSlot_goes_on {s : State} {c : Ctx} {g : CamFrame} {b rl : Nat} (hcur : (s.kiln.ctx[c]).cur = some g)
    (hring : s.inRing c = some (b, rl)) (f : CamFrame) : s.beginSlot c f = (s.lineTaken c b rl).slotOpened c := by
  have hbegun : s.frameBegun c f = s := if_neg (by rw [hcur]; exact Bool.false_ne_true)
  rw [State.beginSlot_eq, hbegun, State.lineFed, hring]

theorem State.lineTaken_kept (b rl : Nat) (x : Ctx) : FrameKept x s (s.lineTaken c b rl) :=
  .of_set (c := c) rfl rfl rfl rfl

theorem State.lineTaken_level (b rl : Nat) :
    ((s.lineTaken c b rl).mov.queue[inQueue c]).level = (s.mov.queue[inQueue c]).level - 1 :=
  congrArg MQueue.level (s.updQueue_self (inQueue c) fun q => { q with level := q.level - 1 })

theorem State.lineTaken_changes (b rl : Nat) : ChangesOnly [.kiln, .movers] s (s.lineTaken c b rl) :=
  (((s.updQueue_movers_changes _ _).mono (by decide)).trans ((State.updCtx_kiln_changes _ c _).mono (by decide))).trans
    ((changes_kiln _ _).mono (by decide))

theorem State.frameBegun_spec {x : Ctx} (hx : (s.kiln.ctx[x]).cur.isSome = true) (f : CamFrame) :
    FrameKept x s (s.frameBegun c f) ∧ ChangesOnly [.kiln, .movers] s (s.frameBegun c f) := by
  unfold State.frameBegun
  split
  next hnone =>
    refine ⟨.of_contexts (c := c) (.of_set rfl) fun hxc => ?_, ?_⟩
    · rw [hxc, Option.isNone_iff_eq_none.mp hnone] at hx
      exact absurd hx (by decide)
    · exact ((s.updCtx_kiln_changes c _).mono (by decide)).trans ((State.updQueue_movers_changes _ _ _).mono (by decide))
  next => exact ⟨.refl x s, .refl _ s⟩

theorem State.lineFed_spec (x : Ctx) : FrameKept x s (s.lineFed c) ∧ ChangesOnly [.kiln, .movers] s (s.lineFed c) := by
  unfold State.lineFed
  split
  · exact ⟨.refl x s, .refl _ s⟩
  next b rl _ => exact ⟨s.lineTaken_kept c b rl x, s.lineTaken_changes c b rl⟩

/-- A slot that begins leaves every frame in progress as it is. -/
theorem State.beginSlot_spec {x : Ctx} (hx : (s.kiln.ctx[x]).cur.isSome = true) (f : CamFrame) :
    FrameKept x s (s.beginSlot c f) ∧ ChangesOnly [.kiln, .movers] s (s.beginSlot c f) := by
  obtain ⟨hbegun, kbegun⟩ := s.frameBegun_spec c hx f
  obtain ⟨hfed, kfed⟩ := (s.frameBegun c f).lineFed_spec c x
  rw [State.beginSlot_eq]
  exact ⟨(hbegun.trans hfed).trans ⟨rfl, rfl, rfl⟩, (kbegun.trans kfed).trans ((changes_kiln _ _).mono (by decide))⟩

theorem State.slotGiven_spec {x : Ctx} (hx : (s.kiln.ctx[x]).cur.isSome = true) :
    FrameKept x s s.slotGiven ∧ ChangesOnly [.kiln, .movers] s s.slotGiven := by
  obtain h | ⟨c, f, h⟩ := s.slotGiven_cases
  · rw [h]; exact ⟨.refl x s, .refl _ s⟩
  · rw [h]; exact s.beginSlot_spec c hx f

/-! A slot ends (R329, R332, R336, R338). -/

/-- The line of a slot taken as a row of its context. -/
def State.lineEnded : State :=
  let s1 := s.updCtx c fun k => { k with rows := k.rows ++ [if c.val = 12 then [] else k.unpacked s.kiln.lineIn] }
  { s1 with kiln := { s1.kiln with slot := none, lineIn := [] } }

theorem State.lineEnded_self : (s.lineEnded c).kiln.ctx[c] = { s.kiln.ctx[c] with
    rows := (s.kiln.ctx[c]).rows ++ [if c.val = 12 then [] else (s.kiln.ctx[c]).unpacked s.kiln.lineIn] } :=
  ctx_of_set (s := s) rfl

theorem State.lineEnded_changes : ChangesOnly [.kiln] s (s.lineEnded c) :=
  (s.updCtx_kiln_changes c _).trans (changes_kiln _ _)

theorem State.blackLevels_spec (x : Ctx) :
    FrameKept x s (s.blackLevels c) ∧ ChangesOnly ([.kiln] ++ s.journalling) s (s.blackLevels c) := by
  have unlogged (t : State) (h : FrameKept x s t) (k : ChangesOnly [.kiln] s t) :
      FrameKept x s t ∧ ChangesOnly ([.kiln] ++ s.journalling) s t := ⟨h, k.with_journal⟩
  have logged (t : State) (h : FrameKept x s t) (k : ChangesOnly [.kiln] s t) :
      FrameKept x s (t.journal 0x86 (c.val * 4096)) ∧
        ChangesOnly ([.kiln] ++ s.journalling) s (t.journal 0x86 (c.val * 4096)) :=
    ⟨h.trans (.of_kiln (t.journal_kiln _ _)), k.then_journal (by decide) _ _⟩
  unfold State.blackLevels
  dsimp only
  split
  · exact unlogged s (.refl x s) (.refl _ s)
  · split
    · split
      · exact unlogged _ (.of_set (c := c) rfl rfl rfl rfl) (s.updCtx_kiln_changes c _)
      · exact unlogged s (.refl x s) (.refl _ s)
    · split
      · split
        · exact logged _ (.of_set (c := c) rfl rfl rfl rfl) (s.updCtx_kiln_changes c _)
        · exact unlogged _ (.of_set (c := c) rfl rfl rfl rfl) (s.updCtx_kiln_changes c _)
      · exact unlogged s (.refl x s) (.refl _ s)

theorem State.emitLines_spec (f : CamFrame) (rows : Nat) (x : Ctx) :
    FrameKept x s (s.emitLines c f rows) ∧ ChangesOnly [.kiln, .cameras] s (s.emitLines c f rows) := by
  unfold State.emitLines
  extract_lets k l out s1 kiln s2
  have h2 : FrameKept x s s2 := .of_set (c := c) rfl rfl rfl rfl
  have k2 : ChangesOnly [.kiln, .cameras] s s2 :=
    ((s.updCtx_kiln_changes c _).mono (by decide)).trans ((changes_kiln s1 _).mono (by decide))
  split
  · split
    · exact ⟨h2.trans (.of_kiln rfl), k2.trans ((s2.updCam_changes _ _).mono (by decide))⟩
    · exact ⟨h2, k2⟩
  · exact ⟨h2, k2⟩

/-- The row of a slot that ends, with the black levels that it completes (R329, R338). -/
def State.rowTaken : State := (s.lineEnded c).blackLevels c

theorem State.rowTaken_kept : FrameKept c (s.lineEnded c) (s.rowTaken c) := ((s.lineEnded c).blackLevels_spec c c).1

theorem State.rowTaken_changes : ChangesOnly ([.kiln] ++ s.journalling) s (s.rowTaken c) :=
  (s.lineEnded_changes c).with_journal.then_journalling (by decide) ((s.lineEnded c).blackLevels_spec c c).2

/-- Before the last line of a frame, a slot that ends sends the output lines that its row completes (R332). -/
theorem State.endSlot_eq {s : State} {c : Ctx} {k : KCtx} {g : CamFrame} (hk : (s.rowTaken c).kiln.ctx[c] = k)
    (hcur : k.cur = some g) (hmore : k.rows.length < k.lines) :
    s.endSlot c = if k.par 4 < k.rows.length then (s.rowTaken c).emitLines c g (k.rows.length - k.par 4)
      else s.rowTaken c := by
  subst hk
  unfold State.endSlot
  extract_lets s1 kiln s2 k
  have hk : k.cur = some g := hcur
  rw [hk]
  exact if_neg (Nat.not_le.mpr hmore)

/-- A slot that ends before the last line of its frame adds its row and leaves the frame in progress (R329, R332). -/
theorem State.endSlot_spec {s : State} {c : Ctx} {g : CamFrame} (hcur : (s.kiln.ctx[c]).cur = some g)
    (hmore : (s.kiln.ctx[c]).rows.length + 1 < (s.kiln.ctx[c]).lines) :
    FrameKept c (s.lineEnded c) (s.endSlot c) ∧
      ChangesOnly ([.kiln, .movers, .cameras] ++ s.journalling) s (s.endSlot c) := by
  have hchanges : ChangesOnly ([.kiln, .movers, .cameras] ++ s.journalling) s (s.rowTaken c) :=
    (s.rowTaken_changes c).widen (by decide)
  obtain ⟨hwork, hcurs, hrows⟩ := s.rowTaken_kept c
  rw [s.lineEnded_self c] at hwork hcurs hrows
  have hlines : ((s.rowTaken c).kiln.ctx[c]).lines = (s.kiln.ctx[c]).lines := by
    rw [KCtx.lines, KCtx.par, KCtx.par, hwork]; rfl
  have hlength : ((s.rowTaken c).kiln.ctx[c]).rows.length = (s.kiln.ctx[c]).rows.length + 1 := by
    rw [hrows]; exact List.length_append
  rw [State.endSlot_eq rfl (hcurs.trans hcur) (by omega)]
  split
  · obtain ⟨hemit, kemit⟩ := (s.rowTaken c).emitLines_spec c g
      (((s.rowTaken c).kiln.ctx[c]).rows.length - ((s.rowTaken c).kiln.ctx[c]).par 4) c
    exact ⟨(s.rowTaken_kept c).trans hemit, hchanges.more kemit (by decide)⟩
  · exact ⟨s.rowTaken_kept c, hchanges⟩

end slots

/-! Statistics (§8.5; R342, R355). -/

/-- A frame that the loops may use: it streams, its exposure came in time, and it shows the latest codes (R355). -/
def State.frameUsable (s : State) (c : Ctx) (p : CamPort) : Bool :=
  decide ((s.cam[p]).state = .streaming) && !(s.kiln.ctx[c]).statLate &&
    decide ((s.kiln.ctx[c]).updFrame + s.aeLatency c ≤ (s.kiln.ctx[c]).statFrame)

theorem exec_kilnStatisticsReady {s : State} {c : Ctx} {p : CamPort} {st : Stats} (hst : (s.kiln.ctx[c]).stats = some st)
    (hp : ctxCam c = some p) (hnew : (s.kiln.ctx[c]).statsNew = true) (hon : s.moversOn = true) :
    exec (.kilnStatisticsReady c) s = .next (s.updCtx c fun k => { k with
      statsNew := false, aePend := s.frameUsable c p, awbPend := s.frameUsable c p
      measure := if s.frameUsable c p then st.measure else k.measure }) := by
  show execKilnStatisticsReady c s = _
  unfold execKilnStatisticsReady
  dsimp only
  rw [hst, hp]
  exact occurs_of (by rw [hnew, hon]; rfl)

/-! The exposure loop (§8.6; R355 to R359). -/

/-- The kiln and its entries leave the cameras. -/
theorem ChangesOnly.kiln_entry_cam {s t : State} (h : ChangesOnly ([.kiln] ++ s.journalling) s t) : t.cam = s.cam := by
  have hparts : [.kiln] ++ s.journalling ⊆ [.kiln, .journal, .deviceTallies, .fabric, .twin] :=
    List.append_subset.mpr ⟨by decide, List.Subset.trans s.journalling_le (by decide)⟩
  exact h.mono hparts .cameras (by decide)

section exposure
variable (s : State) (x : Ctx)

theorem State.setConverged_ctx (b : Bool) :
    (s.setConverged x b).kiln.ctx = s.kiln.ctx.set x { s.kiln.ctx[x] with converged := b } := by
  by_cases h : (s.kiln.ctx[x]).converged = b
  · subst h
    rw [State.setConverged, if_pos rfl]
    exact (Vector.set_getElem_self x.isLt).symm
  · rw [State.setConverged, if_neg h, State.journal_kiln]
    rfl

theorem State.setConverged_changes (b : Bool) : ChangesOnly ([.kiln] ++ s.journalling) s (s.setConverged x b) := by
  unfold State.setConverged
  split
  · exact .refl _ s
  · exact (s.updCtx_kiln_changes x _).then_journal (by decide) _ _

/-- The statistics taken by the exposure loop; an error far from 0 ends the convergence (R357). -/
def State.aeBegun (far : Bool) : State :=
  let s0 := s.updCtx x fun k => { k with aePend := false }
  if far then s0.setConverged x false else s0

theorem State.aeBegun_ctx (far : Bool) :
    ∃ b, (s.aeBegun x far).kiln.ctx = s.kiln.ctx.set x { s.kiln.ctx[x] with aePend := false, converged := b } := by
  unfold State.aeBegun
  dsimp only
  split
  · refine ⟨false, ?_⟩
    rw [State.setConverged_ctx, State.updCtx_self]
    exact Vector.set_set _ x.isLt
  · exact ⟨(s.kiln.ctx[x]).converged, rfl⟩

theorem State.aeBegun_changes (far : Bool) : ChangesOnly ([.kiln] ++ s.journalling) s (s.aeBegun x far) := by
  have h0 := (s.updCtx_kiln_changes x fun k => { k with aePend := false }).with_journal
  unfold State.aeBegun
  dsimp only
  split
  · exact h0.then_journalling (by decide) (State.setConverged_changes _ x false)
  · exact h0

/-- The exposure, gain and gain code that the statistics ask for (R358, R359). -/
def KCtx.target (k : KCtx) (st : Stats) (m : ExpMap) : Nat × Nat × Nat :=
  m.splitProduct (nextProduct (k.exposure * k.gain) (k.errorRatio st) (decide (k.updates < 4)))

/-- A context with a new exposure and gain (R358, R359). -/
def KCtx.moved (k : KCtx) (v : Nat × Nat × Nat) : KCtx :=
  { k with exposure := v.1, gain := v.2.1, updates := k.updates + 1, quiet := 0, updFrame := k.statFrame }

/-- Since when the exposure stands at its limit, and since when it is low (R363). -/
def KCtx.timed (k : KCtx) (m : ExpMap) (now : Nat) : KCtx :=
  { k with
    maxSince := since (decide (m.maxExp ≤ k.exposure) && decide (m.codeMax ≤ m.codeOf k.gain)) k.maxSince now
    lowSince := since (decide (4 * k.exposure * k.gain ≤ m.maxExp * m.maxGain)) k.lowSince now }

/-- A usable frame without an update counted; the fourth in a row is convergence (R357). -/
def State.quietCounted (n : Nat) : State :=
  let t := s.updCtx x fun k => { k with quiet := k.quiet + 1 }
  if 4 ≤ n + 1 then t.setConverged x true else t

/-- The latest converged values of a context (R360). -/
def KCtx.convNoted (k : KCtx) (m : ExpMap) (r : Recipe) : KCtx :=
  { k with lastConv := if k.converged || decide (4 ≤ k.quiet + 1) then some (k.exposure, k.gain, m.codeOf k.gain, r)
      else k.lastConv }

theorem State.quietCounted_self : (s.quietCounted x (s.kiln.ctx[x]).quiet).kiln.ctx[x] = { s.kiln.ctx[x] with
    quiet := (s.kiln.ctx[x]).quiet + 1
    converged := (s.kiln.ctx[x]).converged || decide (3 ≤ (s.kiln.ctx[x]).quiet) } := by
  unfold State.quietCounted
  dsimp only
  split
  next h =>
    have h3 : 3 ≤ (s.kiln.ctx[x]).quiet := by omega
    rw [ctx_of_set (State.setConverged_ctx _ x true), State.updCtx_self, decide_eq_true h3, Bool.or_true]
  next h =>
    have h3 : ¬ 3 ≤ (s.kiln.ctx[x]).quiet := by omega
    rw [State.updCtx_self, decide_eq_false h3, Bool.or_false]

theorem State.quietCounted_changes (n : Nat) : ChangesOnly ([.kiln] ++ s.journalling) s (s.quietCounted x n) := by
  have h0 := (s.updCtx_kiln_changes x fun k => { k with quiet := k.quiet + 1 }).with_journal
  unfold State.quietCounted
  dsimp only
  split
  · exact h0.then_journalling (by decide) (State.setConverged_changes _ x true)
  · exact h0

variable {s} {c : CamPort} {st : Stats} {m : ExpMap} {r : Recipe}

/-- The state after an update of the exposure loop (R357 to R359, R363). -/
def State.aeMoved (s : State) (c : CamPort) (v : Nat × Nat × Nat) (m : ExpMap) (far : Bool) : State :=
  (((s.aeBegun (camCtx c) far).updCtx (camCtx c) fun k => k.moved v).updCam c fun q => q.askBurst (v.1, v.2.2)).updCtx
    (camCtx c) fun k => k.timed m s.now

/-- The state after a usable frame that needs no update (R357, R360, R363). -/
def State.aeQuiet (s : State) (x : Ctx) (m : ExpMap) (r : Recipe) : State :=
  (((s.aeBegun x false).quietCounted x (s.kiln.ctx[x]).quiet).updCtx x fun k => k.convNoted m r).updCtx x fun k =>
    k.timed m s.now

/-- An error of 0.1 or more in log2 updates the exposure (R357). -/
theorem exec_aeUpdate_moves (hst : (s.kiln.ctx[camCtx c]).stats = some st) (hexp : (s.cam[c]).expmap = some m)
    (hr : s.portRecipe c = some r) (hpend : (s.kiln.ctx[camCtx c]).aePend = true) (hstream : (s.cam[c]).state = .streaming)
    (hbig : logAtLeast ((s.kiln.ctx[camCtx c]).errorRatio st).1 ((s.kiln.ctx[camCtx c]).errorRatio st).2 1 = true) :
    exec (.aeUpdate c) s = .next (s.aeMoved c ((s.kiln.ctx[camCtx c]).target st m) m
      (logAtLeast ((s.kiln.ctx[camCtx c]).errorRatio st).1 ((s.kiln.ctx[camCtx c]).errorRatio st).2 3)) := by
  show execAeUpdate c s = _
  unfold execAeUpdate
  dsimp only
  rw [hst, hexp, hr]
  dsimp only
  rw [hpend, hstream, if_pos hbig]
  rfl

/-- A smaller error counts a quiet frame (R357). -/
theorem exec_aeUpdate_quiet (hst : (s.kiln.ctx[camCtx c]).stats = some st) (hexp : (s.cam[c]).expmap = some m)
    (hr : s.portRecipe c = some r) (hpend : (s.kiln.ctx[camCtx c]).aePend = true) (hstream : (s.cam[c]).state = .streaming)
    (hbig : logAtLeast ((s.kiln.ctx[camCtx c]).errorRatio st).1 ((s.kiln.ctx[camCtx c]).errorRatio st).2 1 = false)
    (hfar : logAtLeast ((s.kiln.ctx[camCtx c]).errorRatio st).1 ((s.kiln.ctx[camCtx c]).errorRatio st).2 3 = false) :
    exec (.aeUpdate c) s = .next (s.aeQuiet (camCtx c) m r) := by
  show execAeUpdate c s = _
  unfold execAeUpdate
  dsimp only
  rw [hst, hexp, hr]
  dsimp only
  rw [hpend, hstream, hbig, hfar]
  rfl

/-- What an update leaves of its context, for some state of the convergence. -/
theorem State.aeMoved_self (s : State) (c : CamPort) (v : Nat × Nat × Nat) (m : ExpMap) (far : Bool) :
    ∃ b, (s.aeMoved c v m far).kiln.ctx[camCtx c] =
      (({ s.kiln.ctx[camCtx c] with aePend := false, converged := b } : KCtx).moved v).timed m s.now := by
  obtain ⟨b, hb⟩ := s.aeBegun_ctx (camCtx c) far
  refine ⟨b, ?_⟩
  rw [State.aeMoved, State.updCtx_self, State.updCam_kiln, State.updCtx_self, ctx_of_set hb]

theorem State.aeMoved_others (s : State) (c : CamPort) (v : Nat × Nat × Nat) (m : ExpMap) (far : Bool) :
    ContextsKept (camCtx c) s (s.aeMoved c v m far) := by
  obtain ⟨b, hb⟩ := s.aeBegun_ctx (camCtx c) far
  exact ((ContextsKept.of_set hb).trans (.of_set rfl)).trans (.of_set rfl)

theorem State.aeMoved_cam (s : State) (c : CamPort) (v : Nat × Nat × Nat) (m : ExpMap) (far : Bool) :
    (s.aeMoved c v m far).cam = s.cam.set c ((s.cam[c]).askBurst (v.1, v.2.2)) := by
  have hcam : (s.aeBegun (camCtx c) far).cam = s.cam := (s.aeBegun_changes (camCtx c) far).kiln_entry_cam
  simp only [State.aeMoved, State.updCtx_cam, State.updCam, hcam]

theorem State.aeMoved_changes (s : State) (c : CamPort) (v : Nat × Nat × Nat) (m : ExpMap) (far : Bool) :
    ChangesOnly ([.kiln, .cameras] ++ s.journalling) s (s.aeMoved c v m far) :=
  ((((s.aeBegun_changes (camCtx c) far).widen (by decide)).more (State.updCtx_kiln_changes _ _ _) (by decide)).more
    (State.updCam_changes _ c _) (by decide)).more (State.updCtx_kiln_changes _ _ _) (by decide)

/-- What a quiet frame leaves of its context. -/
theorem State.aeQuiet_self (s : State) (x : Ctx) (m : ExpMap) (r : Recipe) : (s.aeQuiet x m r).kiln.ctx[x] =
    (({ s.kiln.ctx[x] with
      aePend := false, quiet := (s.kiln.ctx[x]).quiet + 1
      converged := (s.kiln.ctx[x]).converged || decide (3 ≤ (s.kiln.ctx[x]).quiet) } : KCtx).convNoted m r).timed m s.now := by
  have hbegun : (s.aeBegun x false).kiln.ctx[x] = { s.kiln.ctx[x] with aePend := false } := ctx_of_set (s := s) rfl
  have hquiet := (s.aeBegun x false).quietCounted_self x
  rw [hbegun] at hquiet
  rw [State.aeQuiet, State.updCtx_self, State.updCtx_self, hquiet]

theorem State.aeQuiet_changes (s : State) (x : Ctx) (m : ExpMap) (r : Recipe) :
    ChangesOnly ([.kiln] ++ s.journalling) s (s.aeQuiet x m r) := by
  have hquiet := (s.aeBegun_changes x false).then_journalling (by decide)
    ((s.aeBegun x false).quietCounted_changes x (s.kiln.ctx[x]).quiet)
  exact (hquiet.more (State.updCtx_kiln_changes _ _ _) (by decide)).more (State.updCtx_kiln_changes _ _ _) (by decide)

theorem CamSt.askBurst_idle {q : CamSt} (h : q.burstBusy = false) (v : Nat × Nat) : (q.askBurst v).burst = some v := by
  rw [CamSt.askBurst, h]; rfl

theorem CamSt.askBurst_busy {q : CamSt} (h : q.burstBusy = true) (v : Nat × Nat) : (q.askBurst v).burstWait = some v := by
  rw [CamSt.askBurst, h]; rfl

end exposure

/-! White balance and night mode (§8.6; R327, R361 to R364). -/

theorem bit_not (b : Bool) : bit (!b) = if b then 0 else 1 := by cases b <;> rfl

section colour
variable {s : State} {c : CamPort}

/-- The white-balance gains of a context moved by one part of a divider towards their targets (R361, R362). -/
def KCtx.whitened (k : KCtx) (d : Nat) (z : List ZoneStat) : KCtx :=
  let g := sumNat (z.map fun a => a.g)
  let move (old target : Nat) : Nat := rdivNat (old * (d - 1) + target) d
  { k with wb := #v[
    move k.wb[(0 : Fin 3)] (awbTarget g (sumNat (z.map fun a => a.r))), move k.wb[(1 : Fin 3)] 1024,
    move k.wb[(2 : Fin 3)] (awbTarget g (sumNat (z.map fun a => a.b)))] }

/-- The slow rate of Table 8.4. -/
theorem State.awbDivider_slow (hrate : s.eff 29 = 1) (hcfa : s.ctxCfa (camCtx c) ≠ 4) : s.awbDivider c = some 64 := by
  rw [State.awbDivider, if_neg hcfa, hrate]
  rfl

/-- The statistics taken by the white-balance loop (R361). -/
def State.awbBegun (s : State) (x : Ctx) : State :=
  s.updCtx x fun k => { k with awbPend := false, awbFrames := k.awbFrames + 1 }

theorem exec_awbUpdate {st : Stats} {d : Nat} (hst : (s.kiln.ctx[camCtx c]).stats = some st)
    (hpend : (s.kiln.ctx[camCtx c]).awbPend = true) (hstream : (s.cam[c]).state = .streaming)
    (hdiv : s.awbDivider c = some d) (hzones : 8 ≤ st.awbZones.length) : exec (.awbUpdate c) s =
      .next (((s.awbBegun (camCtx c)).updCtx (camCtx c) fun k => k.whitened d st.awbZones).armColour (camCtx c)) := by
  show execAwbUpdate c s = _
  unfold execAwbUpdate
  dsimp only
  rw [hst]
  dsimp only
  rw [hpend, hstream, hdiv]
  dsimp only
  rw [if_neg (Nat.not_lt.mpr hzones)]
  rfl

theorem exec_nightMode {t0 : Nat} (hbead : s.eff 29 = 6) (hused : s.ctxUsed (camCtx c) = true)
    (hsince : (if (s.kiln.ctx[camCtx c]).mono then (s.kiln.ctx[camCtx c]).lowSince else (s.kiln.ctx[camCtx c]).maxSince) =
      some t0) (hlong : t0 + 10 * 32768 ≤ s.now) : exec (.nightMode c) s =
      .next (((s.updCtx (camCtx c) fun k => { k with mono := !k.mono }).armColour (camCtx c)).journal 0x84
        (c.val * 4096 + bit (!(s.kiln.ctx[camCtx c]).mono))) := by
  refine occurs_of ?_
  dsimp only
  rw [hbead, hused]
  split at hsince
  next hmono => rw [if_pos hmono, hsince]; exact decide_eq_true hlong
  next hmono => rw [if_neg hmono, hsince]; exact decide_eq_true hlong

end colour

/-- Settles O30: a slot begins, waits and ends, the statistics release the loops or not, and each loop works on its own
context. -/
theorem kilnSlotsAndLoops : Obligations.KilnSlotsAndLoops := by
  refine ⟨?_, ?_, ?_, ?_, ?_, ?_, ?_, ?_, ?_⟩
  · intro s c f g n b rl hon hslot hquiet hnext hframe hcur hring
    have hkept := s.lineTaken_kept c b rl c
    have hexec := exec_kilnLineSlot hon hquiet
    rw [State.slotBoundary_none hslot, State.slotGiven_begins hslot hnext hframe, State.beginSlot_goes_on hcur hring] at hexec
    refine ⟨_, hexec, rfl, rfl, rfl, rfl, rfl, hkept.cur.trans hcur, hkept.rows, s.lineTaken_level c b rl, hkept.work,
      ContextsKept.of_set (s := s) rfl, ?_⟩
    exact (s.lineTaken_changes c b rl).trans ((changes_kiln _ _).mono (by decide))
  · intro s c hon hslot hfeed hquiet
    have hexec := exec_kilnLineSlot hon hquiet
    rwa [State.slotBoundary_waits hslot hfeed, State.slotGiven_of_slot (by rw [hslot]; rfl)] at hexec
  · intro s c g hon hslot hfeed hquiet hcur hmore
    obtain ⟨hend, kend⟩ := State.endSlot_spec hcur hmore
    have hself := s.lineEnded_self c
    have hsome : ((s.endSlot c).kiln.ctx[c]).cur.isSome = true := by rw [hend.cur, hself]; exact hcur ▸ rfl
    obtain ⟨hgiven, kgiven⟩ := (s.endSlot c).slotGiven_spec hsome
    obtain ⟨hwork, hcurs, hrows⟩ := hend.trans hgiven
    rw [hself] at hwork hcurs hrows
    have hexec := exec_kilnLineSlot hon hquiet
    rw [State.slotBoundary_ends hslot hfeed] at hexec
    exact ⟨_, hexec, hcurs.trans hcur, hwork, hrows, kend.more kgiven (by decide)⟩
  · intro s c p st hst hp hnew hon hstream hlate hcodes
    have husable : s.frameUsable c p = true := by
      rw [State.frameUsable, hstream, hlate, decide_eq_true hcodes]; rfl
    have hexec := exec_kilnStatisticsReady hst hp hnew hon
    simp only [husable, ↓reduceIte] at hexec
    exact hexec
  · intro s c p st hst hp hnew hon hearly
    have hnot : s.frameUsable c p = false := by
      rcases hearly with hlate | hcodes
      · rw [State.frameUsable, hlate, Bool.not_true, Bool.and_false, Bool.false_and]
      · rw [State.frameUsable, decide_eq_false (Nat.not_le.mpr hcodes), Bool.and_false]
    have hexec := exec_kilnStatisticsReady hst hp hnew hon
    rwa [hnot] at hexec
  · intro s c st m r hst hexp hr hpend hstream hbig
    obtain ⟨b, hself⟩ := s.aeMoved_self c ((s.kiln.ctx[camCtx c]).target st m) m
      (logAtLeast ((s.kiln.ctx[camCtx c]).errorRatio st).1 ((s.kiln.ctx[camCtx c]).errorRatio st).2 3)
    refine ⟨_, exec_aeUpdate_moves hst hexp hr hpend hstream hbig, ?_⟩
    rw [hself, State.aeMoved_cam]
    refine ⟨⟨rfl, rfl, fun hidle => ?_, fun hbusy => ?_⟩, rfl, rfl, rfl, s.aeMoved_others c _ m _, fun k hk => ?_,
      s.aeMoved_changes c _ m _⟩
    · rw [Fin.getElem_fin, Vector.getElem_set_self]; exact CamSt.askBurst_idle hidle _
    · rw [Fin.getElem_fin, Vector.getElem_set_self]; exact CamSt.askBurst_busy hbusy _
    · simp [Fin.val_ne_of_ne hk.symm]
  · intro s c st m r hst hexp hr hpend hstream hbig hfar
    have hself := s.aeQuiet_self (camCtx c) m r
    have hchanges := s.aeQuiet_changes (camCtx c) m r
    refine ⟨_, exec_aeUpdate_quiet hst hexp hr hpend hstream hbig hfar, ?_⟩
    rw [hself]
    exact ⟨rfl, rfl, rfl, rfl, hchanges.kiln_entry_cam, hchanges⟩
  · intro s c st d hst hpend hstream hrate hcfa hd hzones
    subst hd
    refine ⟨_, exec_awbUpdate hst hpend hstream (State.awbDivider_slow hrate hcfa) hzones, ?_⟩
    rw [State.armColour, State.updCtx_self, State.updCtx_self, State.awbBegun, State.updCtx_self]
    exact ⟨rfl, rfl, rfl, rfl, rfl, ((ContextsKept.of_set rfl).trans (.of_set rfl)).trans (.of_set rfl),
      ((s.updCtx_kiln_changes _ _).trans (State.updCtx_kiln_changes _ _ _)).trans (State.updCtx_kiln_changes _ _ _)⟩
  · intro s c t0 hbead hused hsince hlong
    have hchanges : ChangesOnly [.kiln] s ((s.updCtx (camCtx c) fun k => { k with mono := !k.mono }).armColour (camCtx c)) :=
      (s.updCtx_kiln_changes _ _).trans (State.updCtx_kiln_changes _ _ _)
    obtain ⟨hlogs, kchanges⟩ := hchanges.entry (.refl _ (State.journal _ 0x84
      (c.val * 4096 + bit (!(s.kiln.ctx[camCtx c]).mono)))) (by decide) (by decide)
    refine ⟨_, exec_nightMode hbead hused hsince hlong, ?_⟩
    rw [State.journal_kiln, State.armColour, State.updCtx_self, State.updCtx_self, ← bit_not]
    exact ⟨rfl, rfl, hlogs, (ContextsKept.of_set rfl).trans (.of_set rfl), kchanges⟩

end Sys2Proof.Machine

namespace Sys2Proof.Machine

/-! Writing a byte memory, whatever its form. -/

theorem memRead_memWrite_ne (m : Mem) {a b : Nat} (v : Byte) (h : b ≠ a) : memRead (memWrite m a v) b = memRead m b := by
  induction m with
  | nil =>
    unfold memWrite
    split
    · rfl
    · rw [memRead_cons, if_neg h]
  | cons e t ih =>
    obtain ⟨k, x⟩ := e
    unfold memWrite
    split
    next hka =>
      have hb : b ≠ k := fun hbk => h (hbk.trans hka)
      rw [memRead_cons k, if_neg hb]
      split
      · rfl
      · rw [memRead_cons, if_neg h]
    next =>
      split
      · split
        · rfl
        · rw [memRead_cons, if_neg h]
      · rw [memRead_cons, memRead_cons, ih]

theorem memRead_memStore_outside (m : Mem) {a b : Nat} {l : List Byte} (h : b < a ∨ a + l.length ≤ b) :
    memRead (memStore m a l) b = memRead m b := by
  induction l generalizing m a with
  | nil => rfl
  | cons x l ih =>
    rw [List.length_cons] at h
    rw [memStore, ih _ (by omega), memRead_memWrite_ne m x (by omega)]

theorem memRange_memStore_outside (m : Mem) {a b n : Nat} {l : List Byte} (h : b + n ≤ a ∨ a + l.length ≤ b) :
    memRange (memStore m a l) b n = memRange m b n :=
  memRange_congr fun _ _ _ => memRead_memStore_outside m (by omega)

theorem memStore_append (m : Mem) (a : Nat) (l k : List Byte) :
    memStore m a (l ++ k) = memStore (memStore m a l) (a + l.length) k := by
  induction l generalizing m a with
  | nil => rfl
  | cons x l ih => rw [List.cons_append, memStore, ih, memStore, List.length_cons, Nat.add_assoc, Nat.add_comm 1]

theorem memRange_slice (m : Mem) (a : Nat) {len k n : Nat} (h : k + n ≤ len) :
    ((memRange m a len).drop k).take n = memRange m (a + k) n := by
  obtain ⟨r, rfl⟩ := Nat.exists_eq_add_of_le h
  rw [memRange_add, memRange_add, List.append_assoc, List.drop_left' (length_memRange ..),
    List.take_left' (length_memRange ..)]

end Sys2Proof.Machine

namespace Sys2Proof.Machine

/-! One mover channel: its updates, and a fault that it latches (§9.6; R407). -/

section channels
variable (s : State) (c : MovCh)

/-- Two changes of one channel are one. -/
theorem State.updChan_updChan (f g : MChan → MChan) : (s.updChan c f).updChan c g = s.updChan c fun q => g (f q) := by
  simp only [State.updChan, Fin.getElem_fin, Vector.getElem_set_self, Vector.set_set]

theorem State.journal_mov (code data : Nat) : (s.journal code data).mov = s.mov :=
  (s.journal_le code data).mov (by decide) (by decide)

variable (f : MFault)

/-- The latch of a fault at a channel (R407). -/
def MChan.latchFor (q : MChan) (f : MFault) : FaultLatch :=
  { cause := f.cause, write := f.write, addr := BitVec.ofNat 32 f.addr, word := q.pc, owner := f.owner }

/-- A channel with a fault latched (R407). -/
def MChan.haltedOn (q : MChan) (f : MFault) : MChan :=
  { q with state := .halted, waitTill := none, waitFrame := none, latch := some (q.latchFor f) }

/-- What a fault makes of the movers before its entry (R407). -/
def State.faultHalted : State :=
  let s1 := s.updChan c (MChan.haltedOn · f)
  { s1 with mov := { s1.mov with
    granted := if s1.mov.granted = some c then none else s1.mov.granted
    faultAt := (f.owner, s.now) :: s1.mov.faultAt.filter fun e => decide (s.now < e.2 + 60 * tps) } }

theorem State.latchMover_eq : s.latchMover c f =
    (s.faultHalted c f).journal 0x88 (c.val * 2048 + f.cause.toNat * 256 + 128 * bit f.write + f.owner.toNat) := rfl

theorem State.latchMover_mov : (s.latchMover c f).mov = (s.faultHalted c f).mov := by
  rw [s.latchMover_eq c f, State.journal_mov]

theorem State.latchMover_self : (s.latchMover c f).mov.chan[c] = (s.mov.chan[c]).haltedOn f := by
  rw [s.latchMover_mov c f]
  exact s.updChan_self c (MChan.haltedOn · f)

theorem State.latchMover_others (d : MovCh) (hd : d ≠ c) : (s.latchMover c f).mov.chan[d] = s.mov.chan[d] := by
  rw [s.latchMover_mov c f]
  exact s.updChan_other c (MChan.haltedOn · f) d hd

theorem State.latchMover_pool : (s.latchMover c f).mov.pool = s.mov.pool := by
  rw [s.latchMover_mov c f]
  rfl

theorem State.latchMover_queue : (s.latchMover c f).mov.queue = s.mov.queue := by
  rw [s.latchMover_mov c f]
  rfl

theorem State.faultHalted_changes : ChangesOnly [.movers] s (s.faultHalted c f) := by
  intro q hq
  cases q <;> simp_all [Part.same, Tal.restSame, State.faultHalted, State.updChan]

theorem State.latchMover_changes : ChangesOnly (.movers :: s.journalling) s (s.latchMover c f) :=
  (s.faultHalted_changes c f).then_journal (by decide) _ _

end channels

/-! One instruction at a channel that runs (§9.3). -/

section words
variable {s t : State} {c : MovCh} {kind : MovInstr → Bool} {i : MovInstr} {f : MFault}

theorem execWord_ok (hrun : s.running c = some i) (hkind : kind i = true) (heff : s.moverEffect c i = .ok t) :
    s.execWord c kind = .next t := by
  rw [State.execWord, hrun]
  simp only [hkind, ↓reduceIte, heff]

theorem execWord_fault (hrun : s.running c = some i) (hkind : kind i = true) (heff : s.moverEffect c i = .fault t f) :
    s.execWord c kind = .next (t.latchMover c f) := by
  rw [State.execWord, hrun]
  simp only [hkind, ↓reduceIte, heff]

end words

/-! LOOP (R384). -/

section loops
variable {q : MChan} {target count : Nat} {k : Fin 2}

theorem MChan.loopStep_always : q.loopStep target 0 k = { q with pc := target, line := 0, off := 0 } := rfl

theorem MChan.loopStep_once (hctr : q.loops[k] = none) : q.loopStep target 1 k = { q with pc := q.pc + 1 } := by
  rw [MChan.loopStep, if_neg (by decide), hctr]
  rfl

theorem MChan.loopStep_begins (hcount : count ≠ 0) (hctr : q.loops[k] = none) (hmore : count ≠ 1) :
    q.loopStep target count k =
      { q with pc := target, loops := q.loops.set k (some (BitVec.ofNat 16 (count - 1))) } := by
  rw [MChan.loopStep, if_neg hcount, hctr]
  exact if_neg hmore

theorem MChan.loopStep_repeats {n : BitVec 16} (hcount : count ≠ 0) (hctr : q.loops[k] = some n) (hmore : n - 1 ≠ 0) :
    q.loopStep target count k = { q with pc := target, loops := q.loops.set k (some (n - 1)) } := by
  rw [MChan.loopStep, if_neg hcount, hctr]
  exact if_neg fun h => hmore (sub_eq_zero.mpr h)

theorem MChan.loopStep_ends {n : BitVec 16} (hcount : count ≠ 0) (hctr : q.loops[k] = some n) (hlast : n - 1 = 0) :
    q.loopStep target count k = { q with pc := q.pc + 1, loops := q.loops.set k none } := by
  rw [MChan.loopStep, if_neg hcount, hctr]
  exact if_pos (sub_eq_zero.mp hlast)

end loops

/-- Settles O59: LOOP makes of its channel what `MChan.loopStep` says, case by case. -/
theorem loopWord : Obligations.LoopWord := by
  intro s ch target count k hrun
  refine ⟨_, execWord_ok hrun rfl rfl, ?_⟩
  rw [State.updChan_self]
  refine ⟨?_, fun hcount hctr hone => ?_, MChan.loopStep_begins, fun n => MChan.loopStep_repeats,
    fun n => MChan.loopStep_ends, s.updChan_other ch _, s.updChan_movers_changes ch _⟩
  · rintro rfl
    exact MChan.loopStep_always
  · subst hone
    exact MChan.loopStep_once hctr

end Sys2Proof.Machine

namespace Sys2Proof.Machine

/-! The arbiter's own fields (R375, R376): no burst reads or changes them. -/

/-- The movers with a grant, the round-robin pointers and the count since channel 31's latest grant. -/
def State.withGrant (g : Option MovCh) (v : Vector MovCh 8) (n : Nat) (s : State) : State :=
  { s with mov := { s.mov with granted := g, served := v, since31 := n } }

/-- A result with its state changed. -/
def MRes.map (f : State → State) : MRes → MRes
  | .hold => .hold
  | .ok s => .ok (f s)
  | .fault s e => .fault (f s) e

/-- What a read gives with its state changed. -/
def MRead.map (f : State → State) : MRead → MRead
  | .hold => .hold
  | .ok s l => .ok (f s) l
  | .fault e => .fault e

section grants
variable (s : State) (g : Option MovCh) (v : Vector MovCh 8) (n : Nat) (c : MovCh)

theorem State.withGrant_changes : ChangesOnly [.movers] s (s.withGrant g v n) := by
  intro q hq
  cases q <;> simp_all [Part.same, Tal.restSame, State.withGrant]

/-- Bytes stored in the pool. -/
def State.stored (a : Nat) (l : List Byte) : State := { s with mov := { s.mov with pool := memStore s.mov.pool a l } }

/-- Bytes put into the transmit crossing of a port. -/
def State.transmitted (p : FabPort) (l : List Byte) : State := s.updPort p fun q => { q with txFifo := q.txFifo ++ l }

@[simp] theorem State.withGrant_cam : (s.withGrant g v n).cam = s.cam := rfl
@[simp] theorem State.withGrant_kiln : (s.withGrant g v n).kiln = s.kiln := rfl
@[simp] theorem State.withGrant_head : (s.withGrant g v n).head = s.head := rfl
@[simp] theorem State.withGrant_fab : (s.withGrant g v n).fab = s.fab := rfl
@[simp] theorem State.withGrant_chan : (s.withGrant g v n).mov.chan = s.mov.chan := rfl
@[simp] theorem State.withGrant_queue : (s.withGrant g v n).mov.queue = s.mov.queue := rfl
@[simp] theorem State.withGrant_ownerAt : (s.withGrant g v n).mov.ownerAt = s.mov.ownerAt := rfl
@[simp] theorem State.withGrant_mayWrite : (s.withGrant g v n).mayWrite = s.mayWrite := rfl
@[simp] theorem State.withGrant_crossingReset : (s.withGrant g v n).crossingReset = s.crossingReset := by
  funext e; cases e <;> rfl
@[simp] theorem State.withGrant_descOf : (s.withGrant g v n).descOf = s.descOf := rfl
@[simp] theorem State.withGrant_running : (s.withGrant g v n).running = s.running := rfl

theorem State.noteWrite_withGrant (w : Nat) (k : Bool) (a : Nat) (l : List Byte) :
    (s.withGrant g v n).noteWrite c w k a l = (s.noteWrite c w k a l).withGrant g v n := by
  unfold State.noteWrite
  dsimp only
  split <;> rfl

theorem State.moverRead_withGrant (o : BitVec 5) (a w len : Nat) :
    (s.withGrant g v n).moverRead o a w len = (s.moverRead o a w len).map (State.withGrant g v n) := by
  unfold State.moverRead
  simp only [withGrant_ownerAt, withGrant_crossingReset, withGrant_cam, withGrant_fab]
  rcases endpointOf a with _ | e
  · rfl
  cases e with
  | pool a =>
    dsimp only
    cases firstBad (fun x => readable (s.mov.ownerAt x)) a len <;> rfl
  | cam k =>
    dsimp only
    cases decide (w ≠ 4) || s.crossingReset (.cam k)
    · cases takeStream len (s.cam[k]).fifo <;> rfl
    · rfl
  | rx p =>
    dsimp only
    cases decide (w ≠ 4) || s.crossingReset (.rx p)
    · by_cases h : (s.fab.port[p]).rxFifo.length < len
      · simp only [h, Bool.false_eq_true, ↓reduceIte]; rfl
      · simp only [h, Bool.false_eq_true, ↓reduceIte]; rfl
    · rfl
  | kilnIn | kilnOut | headLines | tx | null => rfl

theorem State.moverWrite_withGrant (o : BitVec 5) (a w : Nat) (k : Bool) (l : List Byte) :
    (s.withGrant g v n).moverWrite c o a w k l = (s.moverWrite c o a w k l).map (State.withGrant g v n) := by
  have noted (t : State) (a : Nat) : MRes.ok ((t.withGrant g v n).noteWrite c w k a l) =
      (MRes.ok (t.noteWrite c w k a l)).map (State.withGrant g v n) :=
    congrArg MRes.ok (t.noteWrite_withGrant g v n c w k a l)
  unfold State.moverWrite
  simp only [withGrant_mayWrite, withGrant_crossingReset, withGrant_fab]
  rcases endpointOf a with _ | e
  · rfl
  cases e with
  | pool a =>
    dsimp only
    cases firstBad (s.mayWrite c o) a l.length
    · exact noted (s.stored a l) a
    · rfl
  | tx p =>
    dsimp only
    cases decide (w ≠ 4) || s.crossingReset (.tx p)
    · by_cases h : txDepth < (s.fab.port[p]).txFifo.length + l.length
      · simp only [h, Bool.false_eq_true, ↓reduceIte]; rfl
      · simp only [h, Bool.false_eq_true, ↓reduceIte]
        exact noted (s.transmitted p l) a
    · rfl
  | null => exact noted s a
  | kilnIn | kilnOut | headLines | rx | cam => rfl

theorem State.signalQueue_withGrant (o : BitVec 5) (q : Fin 64) (dec : Bool) :
    (s.withGrant g v n).signalQueue o q dec = (s.signalQueue o q dec).map (State.withGrant g v n) := by
  unfold State.signalQueue
  simp only [withGrant_queue]
  cases (s.mov.queue[q]).signal dec <;> rfl

end grants

/-! The pieces of a burst (R374, R387, R389). -/

/-- What follows a read: a read that holds or faults ends the burst in the state before it. -/
def MRead.bind (r : MRead) (s : State) (k : State → List Byte → MRes) : MRes :=
  match r with
  | .hold => .hold
  | .fault f => .fault s f
  | .ok s1 l => k s1 l

/-- What follows a write or a signal. -/
def MRes.bind (r : MRes) (k : State → MRes) : MRes :=
  match r with
  | .ok s => k s
  | r => r

theorem MRead.bind_map {r : MRead} {s : State} {F : State → State} {k k' : State → List Byte → MRes}
    (h : ∀ t l, k (F t) l = (k' t l).map F) : (r.map F).bind (F s) k = (r.bind s k').map F := by
  cases r with
  | hold | fault => rfl
  | ok t l => exact h t l

theorem MRes.bind_map {r : MRes} {F : State → State} {k k' : State → MRes} (h : ∀ t, k (F t) = (k' t).map F) :
    (r.map F).bind k = (r.bind k').map F := by
  cases r with
  | hold | fault => rfl
  | ok t => exact h t

theorem MRead.bind_ok {r : MRead} {s t : State} {k : State → List Byte → MRes} (h : r.bind s k = .ok t) :
    ∃ u l, r = .ok u l ∧ k u l = .ok t := by
  cases r with
  | hold | fault => exact nomatch h
  | ok u l => exact ⟨u, l, rfl, h⟩

theorem MRes.bind_ok {r : MRes} {t : State} {k : State → MRes} (h : r.bind k = .ok t) :
    ∃ u, r = .ok u ∧ k u = .ok t := by
  cases r with
  | hold | fault => exact nomatch h
  | ok u => exact ⟨u, rfl, h⟩

section pieces
variable (s : State) (c : MovCh) (m : MoveFields)

/-- Bytes of the next burst of the line in hand of a MOVE or FILL. -/
def MChan.lineBytes (q : MChan) (isFill : Bool) : Nat :=
  burstBytes (if isFill then q.lineDst m else q.lineSrc m) (q.lineDst m) m.len q.off

/-- The bytes that the next burst of a MOVE or FILL brings (R379, R390). -/
def State.lineRead (isFill : Bool) : MRead :=
  let q := s.mov.chan[c]
  if isFill then MRead.ok s (fillBytes q.regs[(9 : Fin 10)] m.dstW q.off (q.lineBytes m isFill))
  else s.moverRead q.owner (byteAddr (q.lineSrc m) q.off) m.srcW (q.lineBytes m isFill)

/-- What a burst that has been written makes of its channel: more of the line is done, or the line ends (R391, R392). -/
def State.lineWritten (o : BitVec 5) (done : Nat) : MRes :=
  if done < m.len then .ok (s.updChan c fun x => { x with off := done })
  else if m.q then (s.updChan c fun x => x.endLine m).signalQueue o m.queue m.qDec
  else .ok (s.updChan c fun x => x.endLine m)

theorem State.lineBurst_eq {isFill : Bool} (h : (s.mov.chan[c]).lineFault m isFill = none) :
    s.lineBurst c m isFill = (s.lineRead c m isFill).bind s fun u l =>
      (u.moverWrite c (s.mov.chan[c]).owner (byteAddr ((s.mov.chan[c]).lineDst m) (s.mov.chan[c]).off) m.dstW m.crc l).bind
        fun w => w.lineWritten c m (s.mov.chan[c]).owner ((s.mov.chan[c]).off + (s.mov.chan[c]).lineBytes m isFill) := by
  unfold State.lineBurst
  dsimp only
  rw [h]
  rfl

theorem State.lineBurst_fault {isFill : Bool} {f : MFault} (h : (s.mov.chan[c]).lineFault m isFill = some f) :
    s.lineBurst c m isFill = .fault s f := by
  unfold State.lineBurst
  dsimp only
  rw [h]

/-- What a burst by descriptor makes of its channel. -/
def State.descDone (d : Desc) (done : Nat) : State :=
  s.updChan c fun x => if d.len ≤ done then (x.lineEvents m 0).step else { x with off := done }

variable (d : Desc)

theorem State.descRead_eq (take : State → List Byte → Bool → Bool → State) : s.descRead c m d take =
    if m.dstW ≠ 4 then .fault s { cause := cBus, write := true, addr := m.dst, owner := d.owner }
    else if d.len % 16 ≠ 0 || pastPool d.addr d.len then
      .fault s { cause := cFormat, write := false, addr := d.addr, owner := d.owner }
    else
      let off := (s.mov.chan[c]).off
      let n := burstBytes d.addr m.dst d.len off
      (s.moverRead d.owner (d.addr + off) m.srcW n).bind s fun u l =>
        .ok (((take u l (decide (off = 0)) (decide (d.len ≤ off + n))).noteWrite c 4 m.crc m.dst l).descDone c m d
          (off + n)) := by
  unfold State.descRead
  dsimp only
  split
  · rfl
  · split
    · rfl
    · cases s.moverRead d.owner (d.addr + (s.mov.chan[c]).off) m.srcW
        (burstBytes d.addr m.dst d.len (s.mov.chan[c]).off) <;> rfl

/-- The oldest output line of the kiln taken, and the next word. -/
def State.lineDrained (rest : List (Nat × Ctx × Fin 64 × List Byte)) : State :=
  ({ s with kiln := { s.kiln with out := rest } } : State).updChan c fun x => (x.lineEvents m 0).step

theorem State.descWrite_eq {a : Nat} {x : Ctx} {qn : Fin 64} {line : List Byte}
    {rest : List (Nat × Ctx × Fin 64 × List Byte)} (h : s.kiln.out = (a, x, qn, line) :: rest) : s.descWrite c m d =
      if m.srcW ≠ 4 then .fault s { cause := cBus, write := false, addr := m.src, owner := d.owner }
      else if d.len % 16 ≠ 0 || pastPool d.addr d.len then
        .fault s { cause := cFormat, write := true, addr := d.addr, owner := d.owner }
      else
        let off := (s.mov.chan[c]).off
        let n := burstBytes d.addr m.src d.len off
        (s.moverWrite c d.owner (d.addr + off) m.dstW m.crc (slice line off n)).bind fun u =>
          if off + n < d.len then .ok (u.updChan c fun x => { x with off := off + n })
          else (u.lineDrained c m rest).signalQueue d.owner qn false := by
  unfold State.descWrite
  rw [h]
  rfl

theorem State.descBurst_kilnIn (h : endpointOf m.dst = some .kilnIn) : s.descBurst c m =
    if s.crossingReset .kilnIn then
      .fault s { cause := cBus, write := true, addr := m.dst, owner := (s.mov.chan[c]).owner }
    else (s.descOf m).elim .hold fun d => s.descRead c m d State.feedKiln := by
  unfold State.descBurst
  rw [h]
  cases s.descOf m <;> rfl

theorem State.descBurst_headLines (h : endpointOf m.dst = some .headLines) : s.descBurst c m =
    (s.descOf m).elim .hold fun d =>
      if s.crossingReset .headLines then
        .fault s { cause := cBus, write := true, addr := m.dst, owner := (s.mov.chan[c]).owner }
      else s.descRead c m d State.feedHead := by
  unfold State.descBurst
  rw [h]
  cases s.descOf m <;> rfl

theorem State.descBurst_kilnOut (hk : endpointOf m.dst ≠ some .kilnIn) (hh : endpointOf m.dst ≠ some .headLines)
    (h : endpointOf m.src = some .kilnOut) : s.descBurst c m =
    if s.crossingReset .kilnOut then
      .fault s { cause := cBus, write := false, addr := m.src, owner := (s.mov.chan[c]).owner }
    else (s.descOf m).elim .hold fun d => s.descWrite c m d := by
  unfold State.descBurst
  split
  · exact absurd ‹_› hk
  · exact absurd ‹_› hh
  · cases s.descOf m <;> rfl
  next hne => exact absurd h hne

theorem State.descBurst_other (hk : endpointOf m.dst ≠ some .kilnIn) (hh : endpointOf m.dst ≠ some .headLines)
    (ho : endpointOf m.src ≠ some .kilnOut) : s.descBurst c m =
    .fault s { cause := cBus, write := false, addr := m.src, owner := (s.mov.chan[c]).owner } := by
  unfold State.descBurst
  split
  · exact absurd ‹_› hk
  · exact absurd ‹_› hh
  · exact absurd ‹_› ho
  · rfl

end pieces

section grantedPieces
variable (s : State) (g : Option MovCh) (v : Vector MovCh 8) (n : Nat) (c : MovCh) (m : MoveFields)

theorem State.lineRead_withGrant (isFill : Bool) :
    (s.withGrant g v n).lineRead c m isFill = (s.lineRead c m isFill).map (State.withGrant g v n) := by
  cases isFill
  · exact s.moverRead_withGrant g v n _ _ _ _
  · rfl

theorem State.lineWritten_withGrant (o : BitVec 5) (done : Nat) :
    (s.withGrant g v n).lineWritten c m o done = (s.lineWritten c m o done).map (State.withGrant g v n) := by
  unfold State.lineWritten
  by_cases hmore : done < m.len
  · rw [if_pos hmore, if_pos hmore]
    rfl
  · rw [if_neg hmore, if_neg hmore]
    by_cases hq : m.q = true
    · rw [if_pos hq, if_pos hq]
      exact (s.updChan c fun x => x.endLine m).signalQueue_withGrant g v n o m.queue m.qDec
    · rw [if_neg hq, if_neg hq]
      rfl

theorem State.lineBurst_withGrant (isFill : Bool) :
    (s.withGrant g v n).lineBurst c m isFill = (s.lineBurst c m isFill).map (State.withGrant g v n) := by
  cases hf : (s.mov.chan[c]).lineFault m isFill with
  | some f => rw [s.lineBurst_fault c m hf, (s.withGrant g v n).lineBurst_fault c m hf]; rfl
  | none =>
    rw [s.lineBurst_eq c m hf, (s.withGrant g v n).lineBurst_eq c m hf, s.lineRead_withGrant]
    refine MRead.bind_map fun t l => ?_
    rw [t.moverWrite_withGrant]
    exact MRes.bind_map fun u => u.lineWritten_withGrant g v n c m _ _

variable (d : Desc)

theorem State.descRead_withGrant {take : State → List Byte → Bool → Bool → State}
    (htake : ∀ t l a b, take (State.withGrant g v n t) l a b = (take t l a b).withGrant g v n) :
    (s.withGrant g v n).descRead c m d take = (s.descRead c m d take).map (State.withGrant g v n) := by
  rw [s.descRead_eq, State.descRead_eq]
  simp only [apply_ite (MRes.map (State.withGrant g v n)), withGrant_chan, moverRead_withGrant]
  refine if_congr Iff.rfl rfl (if_congr Iff.rfl rfl (MRead.bind_map fun t l => ?_))
  rw [htake, State.noteWrite_withGrant]
  rfl

theorem State.feedHead_withGrant (l : List Byte) (a b : Bool) :
    (s.withGrant g v n).feedHead l a b = (s.feedHead l a b).withGrant g v n := by
  unfold State.feedHead
  cases hsegs : s.head.segs with
  | nil => simp only [withGrant_head, hsegs]
  | cons x rest =>
    simp only [withGrant_head, hsegs]
    cases b <;> rfl

theorem State.descWrite_withGrant :
    (s.withGrant g v n).descWrite c m d = (s.descWrite c m d).map (State.withGrant g v n) := by
  rcases hout : s.kiln.out with _ | ⟨⟨a, x, qn, line⟩, rest⟩
  · unfold State.descWrite
    rw [withGrant_kiln, hout]
    rfl
  rw [s.descWrite_eq c m d hout, (s.withGrant g v n).descWrite_eq c m d hout]
  simp only [apply_ite (MRes.map (State.withGrant g v n)), withGrant_chan, moverWrite_withGrant]
  refine if_congr Iff.rfl rfl (if_congr Iff.rfl rfl (MRes.bind_map fun t => ?_))
  rw [apply_ite (MRes.map (State.withGrant g v n))]
  exact if_congr Iff.rfl rfl ((t.lineDrained c m rest).signalQueue_withGrant g v n d.owner qn false)

theorem State.descBurst_withGrant :
    (s.withGrant g v n).descBurst c m = (s.descBurst c m).map (State.withGrant g v n) := by
  by_cases hk : endpointOf m.dst = some .kilnIn
  · rw [s.descBurst_kilnIn c m hk, State.descBurst_kilnIn _ c m hk, withGrant_crossingReset, withGrant_descOf,
      apply_ite (MRes.map _)]
    refine if_congr Iff.rfl rfl ?_
    cases s.descOf m with
    | none => rfl
    | some d => exact s.descRead_withGrant g v n c m d fun _ _ _ _ => rfl
  by_cases hh : endpointOf m.dst = some .headLines
  · rw [s.descBurst_headLines c m hh, State.descBurst_headLines _ c m hh, withGrant_crossingReset, withGrant_descOf]
    cases s.descOf m with
    | none => rfl
    | some d =>
      dsimp only [Option.elim]
      rw [apply_ite (MRes.map _)]
      exact if_congr Iff.rfl rfl (s.descRead_withGrant g v n c m d fun t l a b => t.feedHead_withGrant g v n l a b)
  by_cases ho : endpointOf m.src = some .kilnOut
  · rw [s.descBurst_kilnOut c m hk hh ho, State.descBurst_kilnOut _ c m hk hh ho, withGrant_crossingReset,
      withGrant_descOf, apply_ite (MRes.map _)]
    refine if_congr Iff.rfl rfl ?_
    cases s.descOf m with
    | none => rfl
    | some d => exact s.descWrite_withGrant g v n c m d
  · rw [s.descBurst_other c m hk hh ho, State.descBurst_other _ c m hk hh ho]
    rfl

theorem State.nextBurst_withGrant (i : MovInstr) :
    (s.withGrant g v n).nextBurst c i = (s.nextBurst c i).map (State.withGrant g v n) := by
  cases i with
  | move m =>
    unfold State.nextBurst
    dsimp only
    rw [apply_ite (MRes.map _)]
    exact if_congr Iff.rfl (s.descBurst_withGrant g v n c m) (s.lineBurst_withGrant g v n c m false)
  | fill m => exact s.lineBurst_withGrant g v n c m true
  | fin | loop | wait | signal | compare | crc | set => rfl

end grantedPieces
end Sys2Proof.Machine

namespace Sys2Proof.Machine

/-! What a burst can change (R374): its own channel, the movers beside the channels, the pool, and the crossings. -/

/-- The parts that a burst reaches. -/
def burstParts : List Part := [.movers, .pool, .cameras, .kiln, .head, .fabric]

/-- Between two states a burst of a channel was made: no other channel differs. -/
structure Bursts (c : MovCh) (s t : State) : Prop where
  others : ∀ d : MovCh, d ≠ c → t.mov.chan[d] = s.mov.chan[d]
  changes : ChangesOnly burstParts s t

namespace Bursts
variable {c : MovCh} {s t u : State}

theorem refl (c : MovCh) (s : State) : Bursts c s s := ⟨fun _ _ => rfl, .refl _ s⟩

theorem trans (h : Bursts c s t) (k : Bursts c t u) : Bursts c s u :=
  ⟨fun d hd => (k.others d hd).trans (h.others d hd), h.changes.trans k.changes⟩

theorem of_changes {ps : List Part} (h : ChangesOnly ps s t) (hchan : t.mov.chan = s.mov.chan)
    (hps : ps ⊆ burstParts := by decide) : Bursts c s t := ⟨fun _ _ => by rw [hchan], h.mono hps⟩

end Bursts

section bursts
variable {c : MovCh} {s t : State}

theorem State.updChan_bursts (s : State) (c : MovCh) (f : MChan → MChan) : Bursts c s (s.updChan c f) :=
  ⟨s.updChan_other c f, (s.updChan_movers_changes c f).mono (by decide)⟩

theorem State.noteWrite_bursts (s : State) (c : MovCh) (w : Nat) (k : Bool) (a : Nat) (l : List Byte) :
    Bursts c s (s.noteWrite c w k a l) := by
  unfold State.noteWrite
  dsimp only
  split
  · exact .refl c s
  · exact s.updChan_bursts c _

theorem State.countEcc_bursts (s : State) (c : MovCh) (a len : Nat) : Bursts c s (s.countEcc a len) :=
  .of_changes (changes_mov s _) rfl

theorem State.stored_bursts (s : State) (c : MovCh) (a : Nat) (l : List Byte) : Bursts c s (s.stored a l) :=
  .of_changes (changes_mov s _) rfl

theorem State.moverRead_bursts {o : BitVec 5} {a w len : Nat} {l : List Byte} (h : s.moverRead o a w len = .ok t l) :
    Bursts c s t := by
  unfold State.moverRead at h
  dsimp only at h
  split at h
  · split at h
    · exact nomatch h
    · obtain ⟨rfl, -⟩ := MRead.ok.inj h
      exact s.countEcc_bursts c _ _
  · split at h
    · exact nomatch h
    · split at h
      · obtain ⟨rfl, -⟩ := MRead.ok.inj h
        exact .of_changes (s.updCam_changes _ _) rfl
      · exact nomatch h
  · split at h
    · exact nomatch h
    · split at h
      · exact nomatch h
      · obtain ⟨rfl, -⟩ := MRead.ok.inj h
        exact .of_changes (s.updPort_changes _ _) rfl
  · exact nomatch h

theorem State.moverWrite_bursts {o : BitVec 5} {a w : Nat} {k : Bool} {l : List Byte}
    (h : s.moverWrite c o a w k l = .ok t) : Bursts c s t := by
  unfold State.moverWrite at h
  dsimp only at h
  split at h
  · split at h
    · exact nomatch h
    · obtain rfl := MRes.ok.inj h
      exact (s.stored_bursts c _ l).trans (State.noteWrite_bursts (s.stored _ l) c w k _ l)
  · split at h
    · exact nomatch h
    · split at h
      · exact nomatch h
      · obtain rfl := MRes.ok.inj h
        exact (Bursts.of_changes (s.updPort_changes _ _) rfl).trans (State.noteWrite_bursts _ c w k _ l)
  · obtain rfl := MRes.ok.inj h
    exact s.noteWrite_bursts c w k _ l
  · exact nomatch h

theorem State.signalQueue_bursts {o : BitVec 5} {q : Fin 64} {dec : Bool} (h : s.signalQueue o q dec = .ok t) :
    Bursts c s t := by
  unfold State.signalQueue at h
  split at h
  · obtain rfl := MRes.ok.inj h
    exact .of_changes (s.updQueue_movers_changes q _) rfl
  · exact nomatch h

theorem State.lineRead_bursts {m : MoveFields} {isFill : Bool} {l : List Byte} (h : s.lineRead c m isFill = .ok t l) :
    Bursts c s t := by
  cases isFill
  · exact State.moverRead_bursts h
  · obtain ⟨rfl, -⟩ := MRead.ok.inj h
    exact .refl c s

theorem State.lineWritten_bursts {m : MoveFields} {o : BitVec 5} {done : Nat} (h : s.lineWritten c m o done = .ok t) :
    Bursts c s t := by
  unfold State.lineWritten at h
  split at h
  · obtain rfl := MRes.ok.inj h
    exact s.updChan_bursts c _
  · split at h
    · exact (s.updChan_bursts c _).trans (State.signalQueue_bursts h)
    · obtain rfl := MRes.ok.inj h
      exact s.updChan_bursts c _

theorem State.lineBurst_bursts {m : MoveFields} {isFill : Bool} (h : s.lineBurst c m isFill = .ok t) : Bursts c s t := by
  cases hf : (s.mov.chan[c]).lineFault m isFill with
  | some f => rw [s.lineBurst_fault c m hf] at h; exact nomatch h
  | none =>
    rw [s.lineBurst_eq c m hf] at h
    obtain ⟨u, l, hread, h⟩ := MRead.bind_ok h
    obtain ⟨w, hwrite, h⟩ := MRes.bind_ok h
    exact ((State.lineRead_bursts hread).trans (State.moverWrite_bursts hwrite)).trans (State.lineWritten_bursts h)

theorem State.feedKiln_bursts (s : State) (c : MovCh) (l : List Byte) (a b : Bool) : Bursts c s (s.feedKiln l a b) :=
  .of_changes (changes_kiln s _) rfl

theorem State.feedHead_bursts (s : State) (c : MovCh) (l : List Byte) (a b : Bool) : Bursts c s (s.feedHead l a b) := by
  unfold State.feedHead
  dsimp only
  split
  · split <;> exact .of_changes (changes_head s _) rfl
  · exact .refl c s

theorem State.descRead_bursts {m : MoveFields} {d : Desc} {take : State → List Byte → Bool → Bool → State}
    (htake : ∀ u l a b, Bursts c u (take u l a b)) (h : s.descRead c m d take = .ok t) : Bursts c s t := by
  rw [s.descRead_eq] at h
  split at h
  · exact nomatch h
  · split at h
    · exact nomatch h
    · obtain ⟨u, l, hread, h⟩ := MRead.bind_ok h
      obtain rfl := MRes.ok.inj h
      exact (((State.moverRead_bursts hread).trans (htake u l _ _)).trans (State.noteWrite_bursts _ c _ _ _ _)).trans
        (State.updChan_bursts _ c _)

theorem State.lineDrained_bursts (s : State) (c : MovCh) (m : MoveFields) (rest : List (Nat × Ctx × Fin 64 × List Byte)) :
    Bursts c s (s.lineDrained c m rest) :=
  Bursts.trans (t := { s with kiln := { s.kiln with out := rest } }) (.of_changes (changes_kiln s _) rfl)
    (State.updChan_bursts _ c _)

theorem State.descWrite_bursts {m : MoveFields} {d : Desc} (h : s.descWrite c m d = .ok t) : Bursts c s t := by
  rcases hout : s.kiln.out with _ | ⟨⟨a, x, qn, line⟩, rest⟩
  · rw [State.descWrite, hout] at h
    exact nomatch h
  rw [s.descWrite_eq c m d hout] at h
  split at h
  · exact nomatch h
  · split at h
    · exact nomatch h
    · obtain ⟨u, hwrite, h⟩ := MRes.bind_ok h
      refine (State.moverWrite_bursts hwrite).trans ?_
      split at h
      · obtain rfl := MRes.ok.inj h
        exact u.updChan_bursts c _
      · exact (u.lineDrained_bursts c m rest).trans (State.signalQueue_bursts h)

theorem State.descBurst_bursts {m : MoveFields} (h : s.descBurst c m = .ok t) : Bursts c s t := by
  by_cases hk : endpointOf m.dst = some .kilnIn
  · rw [s.descBurst_kilnIn c m hk] at h
    split at h
    · exact nomatch h
    · cases hd : s.descOf m with
      | none => rw [hd] at h; exact nomatch h
      | some d => rw [hd] at h; exact State.descRead_bursts (fun u => u.feedKiln_bursts c) h
  by_cases hh : endpointOf m.dst = some .headLines
  · rw [s.descBurst_headLines c m hh] at h
    cases hd : s.descOf m with
    | none => rw [hd] at h; exact nomatch h
    | some d =>
      rw [hd] at h
      dsimp only [Option.elim] at h
      split at h
      · exact nomatch h
      · exact State.descRead_bursts (fun u => u.feedHead_bursts c) h
  by_cases ho : endpointOf m.src = some .kilnOut
  · rw [s.descBurst_kilnOut c m hk hh ho] at h
    split at h
    · exact nomatch h
    · cases hd : s.descOf m with
      | none => rw [hd] at h; exact nomatch h
      | some d => rw [hd] at h; exact State.descWrite_bursts h
  · rw [s.descBurst_other c m hk hh ho] at h
    exact nomatch h

theorem State.nextBurst_bursts {i : MovInstr} (h : s.nextBurst c i = .ok t) : Bursts c s t := by
  cases i with
  | move m =>
    unfold State.nextBurst at h
    dsimp only at h
    split at h
    · exact State.descBurst_bursts h
    · exact State.lineBurst_bursts h
  | fill m => exact State.lineBurst_bursts h
  | fin | loop | wait | signal | compare | crc | set => exact nomatch h

end bursts

/-! A burst that a channel has ready, and the grant of it (R374 to R376). -/

section requests
variable {s t : State} {c : MovCh}

theorem State.readyBurst_eq_some : s.readyBurst c = some t ↔
    ∃ i, s.running c = some i ∧ s.nextBurst c i = .ok t := by
  unfold State.readyBurst
  cases s.running c with
  | none => simp
  | some i =>
    simp only [Option.some.injEq, exists_eq_left']
    cases s.nextBurst c i <;> simp

theorem State.requests_iff : s.requests c = true ↔ ∃ t, s.readyBurst c = some t := Option.isSome_iff_exists

theorem State.requests_of_idle (h : s.running c = none) : s.requests c = false := by
  rw [State.requests, State.readyBurst, h]
  rfl

theorem State.readyBurst_bursts (h : s.readyBurst c = some t) : Bursts c s t := by
  obtain ⟨i, -, hburst⟩ := State.readyBurst_eq_some.mp h
  exact State.nextBurst_bursts hburst

theorem State.readyBurst_withGrant (h : s.readyBurst c = some t) (g : Option MovCh) (v : Vector MovCh 8) (n : Nat) :
    (s.withGrant g v n).readyBurst c = some (t.withGrant g v n) := by
  obtain ⟨i, hrun, hburst⟩ := State.readyBurst_eq_some.mp h
  refine State.readyBurst_eq_some.mpr ⟨i, (congrFun (s.withGrant_running g v n) c).trans hrun, ?_⟩
  rw [s.nextBurst_withGrant, hburst]
  rfl

/-- The burst of a channel with the grant of it noted (R375, R376). -/
def State.grantedBurst (s t : State) (c : MovCh) : State :=
  t.withGrant (some c) (s.mov.served.set (s.mov.chan[c]).level c) (if c.val = 31 then 0 else min 7 (s.mov.since31 + 1))

theorem State.grant_readyBurst (h : s.readyBurst c = some t) : (s.grant c).readyBurst c = some (s.grantedBurst t c) :=
  State.readyBurst_withGrant h _ _ _

theorem State.grantedBurst_bursts (h : s.readyBurst c = some t) : Bursts c s (s.grantedBurst t c) :=
  (State.readyBurst_bursts h).trans (.of_changes (t.withGrant_changes _ _ _) rfl)

end requests

/-! The channel that the arbiter grants (R375, R376). -/

section arbiter
variable {s : State} {c g : MovCh}

/-- A channel may be granted: it requests, and where it is channel 31 its share allows it (R376). -/
def State.mayGrant (s : State) (c : MovCh) : Bool :=
  s.requests c && (decide (c.val ≠ 31) || !(allChannels.any fun d => decide (d.val ≠ 31) && s.requests d) ||
    decide (7 ≤ s.mov.since31))

/-- The channels in the order of a level: from the one after the channel served last (R375). -/
def State.turns (s : State) (l : Fin 8) : List MovCh :=
  (List.range 32).map fun i => (⟨((s.mov.served[l]).val + 1 + i) % 32, by omega⟩ : MovCh)

/-- The first channel of a level that may be granted. -/
def State.firstOf (s : State) (l : Fin 8) : Option MovCh :=
  (s.turns l).find? fun c => decide ((s.mov.chan[c]).level = l) && s.mayGrant c

theorem State.arbitrate_eq : s.arbitrate = (List.finRange 8).reverse.findSome? s.firstOf := rfl

theorem State.mem_turns (s : State) (l : Fin 8) (c : MovCh) : c ∈ s.turns l := by
  have hc := c.isLt
  have hserved := (s.mov.served[l]).isLt
  refine List.mem_map.mpr ⟨(c.val + 32 - ((s.mov.served[l]).val + 1) % 32) % 32, List.mem_range.mpr (by omega), ?_⟩
  exact Fin.ext (by dsimp only; omega)

theorem State.firstOf_isSome (h : s.mayGrant c = true) : (s.firstOf (s.mov.chan[c]).level).isSome = true :=
  List.find?_isSome.mpr ⟨c, s.mem_turns _ c, by rw [h, decide_eq_true rfl]; rfl⟩

theorem State.firstOf_spec {l : Fin 8} (h : s.firstOf l = some g) : (s.mov.chan[g]).level = l ∧ s.mayGrant g = true := by
  have hg := List.find?_some h
  rwa [Bool.and_eq_true, decide_eq_true_eq] at hg

theorem State.arbitrate_isSome (h : s.mayGrant c = true) : ∃ g, s.arbitrate = some g := by
  rw [← Option.isSome_iff_exists, State.arbitrate_eq, List.findSome?_isSome_iff]
  exact ⟨_, List.mem_reverse.mpr (List.mem_finRange _), State.firstOf_isSome h⟩

theorem State.arbitrate_mayGrant (h : s.arbitrate = some g) : s.mayGrant g = true := by
  obtain ⟨l, -, hl⟩ := List.exists_of_findSome?_eq_some h
  exact (State.firstOf_spec hl).2

/-- No channel that may be granted has a higher level than the one granted (R375). -/
theorem State.arbitrate_level (h : s.arbitrate = some g) (hc : s.mayGrant c = true) :
    (s.mov.chan[c]).level ≤ (s.mov.chan[g]).level := by
  rw [State.arbitrate_eq, List.findSome?_eq_some_iff] at h
  obtain ⟨above, l, below, hlevels, hfirst, habove⟩ := h
  obtain ⟨rfl, -⟩ := State.firstOf_spec hfirst
  by_contra hlt
  have hsorted : ((List.finRange 8).reverse).Pairwise (· > ·) := by decide
  have hmem : (s.mov.chan[c]).level ∈ (List.finRange 8).reverse := List.mem_reverse.mpr (List.mem_finRange _)
  rw [hlevels] at hsorted hmem
  rcases List.mem_append.mp hmem with hin | hin
  · have hsome := State.firstOf_isSome hc
    rw [habove _ hin] at hsome
    exact nomatch hsome
  · rcases List.mem_cons.mp hin with heq | hin
    · exact hlt heq.le
    · exact hlt ((List.pairwise_cons.mp (List.pairwise_append.mp hsorted).2.1).1 _ hin).le

theorem MovCh.val_ne_last {c : MovCh} (h : c ≠ 31) : c.val ≠ 31 := fun hv => h (Fin.ext hv)

theorem State.mayGrant_of_other (h : s.requests c = true) (hc : c ≠ 31) : s.mayGrant c = true := by
  rw [State.mayGrant, h, decide_eq_true (MovCh.val_ne_last hc)]
  rfl

theorem State.requests_of_mayGrant (h : s.mayGrant c = true) : s.requests c = true := (Bool.and_eq_true_iff.mp h).1

/-- Channel 31 may be granted beside another request only in its share (R376). -/
theorem State.mayGrant_last (h : s.mayGrant 31 = true) {d : MovCh} (hd : d ≠ 31) (hreq : s.requests d = true) :
    7 ≤ s.mov.since31 := by
  have hany : (allChannels.any fun d => decide (d.val ≠ 31) && s.requests d) = true :=
    List.any_eq_true.mpr ⟨d, List.mem_finRange d, by rw [hreq, decide_eq_true (MovCh.val_ne_last hd)]; rfl⟩
  have hshare := (Bool.and_eq_true_iff.mp h).2
  rw [hany] at hshare
  simpa using hshare

/-- A channel that requests alone is granted. -/
theorem State.arbitrate_alone (h : s.requests c = true) (halone : ∀ d, d ≠ c → s.requests d = false) :
    s.arbitrate = some c := by
  have hmay : s.mayGrant c = true := by
    by_cases hc : c = 31
    · subst hc
      have hnone : (allChannels.any fun d => decide (d.val ≠ 31) && s.requests d) = false := by
        refine List.any_eq_false.mpr fun d _ => ?_
        by_cases hd : d = 31
        · simp [hd]
        · simp [halone d hd]
      rw [State.mayGrant, h, hnone]
      rfl
    · exact State.mayGrant_of_other h hc
  obtain ⟨g, hg⟩ := State.arbitrate_isSome hmay
  have hreq := State.requests_of_mayGrant (State.arbitrate_mayGrant hg)
  by_cases hgc : g = c
  · rw [hg, hgc]
  · rw [halone g hgc] at hreq
    exact nomatch hreq

theorem exec_arbiterGrant {t : State} (h : s.arbitrate = some g) (hready : s.readyBurst g = some t) :
    exec .arbiterGrant s = .next (s.grantedBurst t g) := by
  show execArbiterGrant s = _
  rw [execArbiterGrant, h]
  dsimp only
  rw [State.grant_readyBurst hready]
  rfl

theorem exec_arbiterGrant_none (h : ∀ c : MovCh, s.requests c = false) : exec .arbiterGrant s = .next s := by
  have hnone : s.arbitrate = none := by
    refine Option.eq_none_iff_forall_ne_some.mpr fun g hg => ?_
    have hreq := State.requests_of_mayGrant (State.arbitrate_mayGrant hg)
    rw [h g] at hreq
    exact nomatch hreq
  show execArbiterGrant s = _
  rw [execArbiterGrant, hnone]

/-- While a channel other than 31 requests, one is granted its burst. -/
theorem exec_arbiterGrant_of_request (h : s.requests c = true) (hc : c ≠ 31) :
    ∃ g t, s.arbitrate = some g ∧ s.readyBurst g = some t ∧ exec .arbiterGrant s = .next (s.grantedBurst t g) := by
  obtain ⟨g, hg⟩ := State.arbitrate_isSome (State.mayGrant_of_other h hc)
  obtain ⟨t, ht⟩ := State.requests_iff.mp (State.requests_of_mayGrant (State.arbitrate_mayGrant hg))
  exact ⟨g, t, hg, ht, exec_arbiterGrant hg ht⟩

end arbiter

/-- Settles O60: channel 31 may be granted only in its share, and the count follows the channel granted. -/
theorem channel31Share : Obligations.Channel31Share := by
  refine ⟨?_, ?_⟩
  · intro s t d hd hreq hexec hgranted
    obtain ⟨g, u, hg, -, hnext⟩ := exec_arbiterGrant_of_request hreq hd
    obtain rfl := Host.Outcome.next.inj (hnext.symm.trans hexec)
    obtain rfl : g = 31 := Option.some.inj hgranted
    exact ⟨State.mayGrant_last (State.arbitrate_mayGrant hg) hd hreq, rfl⟩
  · intro s d hd hreq hshare
    obtain ⟨g, t, hg, -, hnext⟩ := exec_arbiterGrant_of_request hreq hd
    have hother : g ≠ 31 := by
      rintro rfl
      have := State.mayGrant_last (State.arbitrate_mayGrant hg) hd hreq
      omega
    refine ⟨_, g, hnext, rfl, hother, (if_neg (MovCh.val_ne_last hother)).trans ?_⟩
    omega

end Sys2Proof.Machine

namespace Sys2Proof.Machine

/-! Loading, ending and stopping a channel (§9.1, §9.6; R373, R397, R412). -/

section programs
variable {s : State} {ch : MovCh}

/-- A channel that takes a program: used, and not under way (R373, R412). -/
theorem exec_moverProgramLoad {prog : List (BitVec 128)} (hlen : prog.length ≤ 16) (hon : s.moversOn = true)
    (hused : chanUsed ch = true)
    (hfree : (s.mov.chan[ch]).state = .idle ∨ (s.mov.chan[ch]).state = .done ∨ (s.mov.chan[ch]).state = .stopped) :
    exec (.moverProgramLoad ch prog) s = .next (s.loadProg ch prog) := by
  show execMoverProgramLoad ch prog s = _
  unfold execMoverProgramLoad
  rw [decide_eq_true hlen]
  refine occurs_of ?_
  rw [hon, hused]
  rcases hfree with h | h | h <;> rw [h] <;> rfl

theorem exec_moverProgramLoad_long {prog : List (BitVec 128)} (hlen : 16 < prog.length) :
    exec (.moverProgramLoad ch prog) s = .refused .illFormed := by
  show execMoverProgramLoad ch prog s = _
  rw [execMoverProgramLoad, decide_eq_false (Nat.not_le.mpr hlen)]
  rfl

theorem Mov.putProg_chan (m : Mov) (c : MovCh) (l : List (BitVec 128)) : (m.putProg c l).chan = m.chan := by
  rw [Mov.putProg]

/-- A channel with a program of its template begun (R373, R381, R415). -/
def MChan.started (q : MChan) (c : MovCh) : MChan :=
  { q with
    state := .run, level := chanLevel c, owner := chanOwner c, pc := 16 * c.val, line := 0, off := 0
    regs := (Vector.replicate 10 0#32).set 8 0xFFFFFFFF#32, loops := Vector.replicate 2 none
    last := none, latch := none, stopReq := false, waitTill := none, waitFrame := none }

variable (s ch) (prog : List (BitVec 128))

theorem State.loadProg_eq :
    s.loadProg ch prog = ({ s with mov := s.mov.putProg ch prog } : State).updChan ch (MChan.started · ch) := rfl

theorem State.loadProg_self : (s.loadProg ch prog).mov.chan[ch] = (s.mov.chan[ch]).started ch := by
  rw [State.loadProg_eq, State.updChan_self, Mov.putProg_chan]

theorem State.loadProg_others (d : MovCh) (hd : d ≠ ch) : (s.loadProg ch prog).mov.chan[d] = s.mov.chan[d] := by
  rw [State.loadProg_eq, State.updChan_other _ _ _ _ hd, Mov.putProg_chan]

theorem State.loadProg_prog (i : Fin 512) : (s.loadProg ch prog).mov.prog[i] =
    if i.val / 16 = ch.val then prog.getD (i.val % 16) 0 else s.mov.prog[i] :=
  Vector.getElem_ofFn i.isLt

theorem State.loadProg_movers_changes : ChangesOnly [.movers] s (s.loadProg ch prog) := by
  intro q hq
  cases q <;> simp_all [Part.same, Tal.restSame, State.loadProg, State.updChan, Mov.putProg]

variable {s ch}

/-- A channel at its END: done, or stopped where a stop was asked for (R412). -/
def MChan.ended (q : MChan) (e : Bool) : MChan :=
  { q.event e with state := if q.stopReq then .stopped else .done, stopReq := false }

theorem MChan.ended_eq (q : MChan) (e : Bool) : q.ended e = { q with
    events := q.events + (if e then 1 else 0)
    state := if q.stopReq then .stopped else .done, stopReq := false } := by
  cases e <;> rfl

theorem exec_moverEnd {acc r e : Bool} (hrun : s.running ch = some (.fin r e))
    (hback : r = false ∨ s.readsBack ch acc = true) :
    exec (.moverEnd ch acc) s = .next (s.updChan ch (MChan.ended · e)) := by
  have hpass : (r && !s.readsBack ch acc) = false := by
    rcases hback with h | h <;> simp [h]
  show execMoverEnd ch acc s = _
  rw [execMoverEnd, hrun]
  dsimp only
  rw [hpass]
  rfl

/-- The fault of a read-back that fails or does not come (R397). -/
def State.readbackFault (s : State) (ch : MovCh) : MFault :=
  { cause := cReadback, write := false, addr := (s.mov.chan[ch]).lastAddr, owner := (s.mov.chan[ch]).owner }

theorem exec_moverEnd_fault {acc e : Bool} (hrun : s.running ch = some (.fin true e))
    (hback : s.readsBack ch acc = false) :
    exec (.moverEnd ch acc) s = .next (s.latchMover ch (s.readbackFault ch)) := by
  show execMoverEnd ch acc s = _
  rw [execMoverEnd, hrun]
  dsimp only
  rw [hback]
  rfl

theorem exec_readbackTimeout {e : Bool} (hrun : s.running ch = some (.fin true e)) :
    exec (.readbackTimeout ch) s = .next (s.latchMover ch (s.readbackFault ch)) := by
  show execReadbackTimeout ch s = _
  rw [execReadbackTimeout, hrun]
  rfl

theorem exec_channelStopRequest_run (hon : s.moversOn = true) (hst : (s.mov.chan[ch]).state = .run) :
    exec (.channelStopRequest ch) s = .next (s.updChan ch fun q => { q with stopReq := true }) := by
  refine (occurs_of ?_).trans (congrArg _ (if_neg ?_))
  · rw [hon, hst]; rfl
  · rw [hst]; decide

theorem exec_channelStopRequest_wait (hon : s.moversOn = true) (hst : (s.mov.chan[ch]).state = .wait) :
    exec (.channelStopRequest ch) s = .next (s.updChan ch fun q => { q with
      state := .stopped, stopReq := false, waitTill := none, waitFrame := none }) := by
  refine (occurs_of ?_).trans (congrArg _ (if_pos hst))
  rw [hon, hst]; rfl

end programs

/-- Settles O32: a program by what `loadProg` makes of its channel, a grant by the arbiter's choice and the burst that it
has ready, an end by its read-back. -/
theorem moverPrograms : Obligations.MoverPrograms := by
  refine ⟨?_, ?_, ?_, ?_, ?_, ?_, ?_, ?_, ?_⟩
  · intro s ch prog hlen hon hused hfree
    refine ⟨_, exec_moverProgramLoad hlen hon hused hfree, ?_⟩
    rw [s.loadProg_self ch prog]
    refine ⟨rfl, rfl, rfl, rfl, rfl, rfl, rfl, fun i => ?_, fun i hi => ?_, s.loadProg_others ch prog,
      s.loadProg_movers_changes ch prog⟩
    · have hdiv : (16 * ch.val + i.val) / 16 = ch.val := by omega
      have hmod : (16 * ch.val + i.val) % 16 = i.val := by omega
      rw [State.loadProg_prog, if_pos hdiv, hmod]
    · rw [State.loadProg_prog, if_neg hi]
  · exact fun s ch prog hlen => exec_moverProgramLoad_long hlen
  · intro s c hreq hc
    obtain ⟨g, t, hg, hready, hexec⟩ := exec_arbiterGrant_of_request hreq hc
    have hmay := State.arbitrate_mayGrant hg
    have hbursts := State.grantedBurst_bursts hready
    refine ⟨_, g, hexec, State.requests_of_mayGrant hmay, State.grant_readyBurst hready, rfl,
      fun d hd hdreq => State.arbitrate_level hg (State.mayGrant_of_other hdreq hd), ?_, ?_, rfl, hbursts.others,
      hbursts.changes.mono (by decide)⟩
    · rintro rfl
      exact State.mayGrant_last hmay hc hreq
    · exact if_congr (Fin.ext_iff (a := g) (b := 31)).symm rfl rfl
  · exact fun s h => exec_arbiterGrant_none h
  · intro s ch acc r e hrun hback
    rw [exec_moverEnd hrun hback, State.updChan, MChan.ended_eq]
  · intro s ch acc e hrun hback
    refine ⟨_, exec_moverEnd_fault hrun hback, ?_⟩
    rw [s.latchMover_self]
    exact ⟨rfl, ⟨_, rfl, rfl, rfl⟩, s.latchMover_others ch _, s.latchMover_changes ch _⟩
  · intro s ch e hrun
    refine ⟨_, exec_readbackTimeout hrun, ?_⟩
    rw [s.latchMover_self]
    exact ⟨rfl, ⟨_, rfl, rfl, rfl⟩, s.latchMover_others ch _, s.latchMover_changes ch _⟩
  · exact fun s ch hon hst => exec_channelStopRequest_run hon hst
  · exact fun s ch hon hst => exec_channelStopRequest_wait hon hst

end Sys2Proof.Machine

namespace Sys2Proof.Machine

/-! Bytes moved within the pool (§9.3; R374, R380, R400). -/

theorem endpointOf_pool {a : Nat} (h : a < poolBytes) : endpointOf a = some (.pool a) := if_pos h

/-- Addresses of one slab have one owner (R399). -/
theorem Mov.ownerAt_congr (m : Mov) {a b : Nat} (h : a / 16384 = b / 16384) : m.ownerAt a = m.ownerAt b := by
  rw [Mov.ownerAt, Mov.ownerAt, h]

/-- Bytes of one slab pass a test that is one for the slab where their first address passes it. -/
theorem firstBad_none {test : Nat → Bool} (hslab : ∀ x y, x / 16384 = y / 16384 → test x = test y) {a n : Nat}
    (hpos : 0 < n) (hin : a % 16384 + n ≤ 16384) (ha : test a = true) : firstBad test a n = none := by
  have hlast : test ((a + n - 1) / 16384 * 16384) = true := (hslab _ a (by omega)).trans ha
  rw [firstBad, ha, hlast]
  rfl

section poolAccess
variable {s : State} {c : MovCh} {o : BitVec 5} {a w n : Nat} {l : List Byte}

theorem State.moverRead_pool (ha : a < poolBytes) (hpos : 0 < n) (hin : a % 16384 + n ≤ 16384)
    (hread : readable (s.mov.ownerAt a) = true) :
    s.moverRead o a w n = .ok (s.countEcc a n) (memRange s.mov.pool a n) := by
  have hbad : firstBad (fun x => readable (s.mov.ownerAt x)) a n = none :=
    firstBad_none (fun x y hxy => by rw [s.mov.ownerAt_congr hxy]) hpos hin hread
  unfold State.moverRead
  rw [endpointOf_pool ha]
  dsimp only
  rw [hbad]

theorem State.mayWrite_congr (s : State) (c : MovCh) (o : BitVec 5) {a b : Nat} (h : a / 16384 = b / 16384) :
    s.mayWrite c o a = s.mayWrite c o b := by
  rw [State.mayWrite, State.mayWrite, s.mov.ownerAt_congr h, State.inTwinRing, State.inTwinRing, h]

theorem State.mayWrite_owner (h : s.mov.ownerAt a = o) : s.mayWrite c o a = true := by
  rw [State.mayWrite, h, decide_eq_true rfl]
  rfl

theorem State.moverWrite_pool {k : Bool} (ha : a < poolBytes) (hpos : 0 < l.length) (hin : a % 16384 + l.length ≤ 16384)
    (howner : s.mov.ownerAt a = o) :
    s.moverWrite c o a w k l = .ok ((s.stored a l).noteWrite c w k a l) := by
  have hbad : firstBad (s.mayWrite c o) a l.length = none :=
    firstBad_none (fun x y hxy => s.mayWrite_congr c o hxy) hpos hin (State.mayWrite_owner howner)
  unfold State.moverWrite
  rw [endpointOf_pool ha]
  dsimp only
  rw [hbad]
  rfl

end poolAccess

/-- Between two states only one channel and the pool under it were worked on: the channel is as given beside the note of
its latest write, and the pool holds what is given. -/
structure PoolLine (c : MovCh) (p : Mem) (q : MChan) (s t : State) : Prop where
  pool : t.mov.pool = p
  self : ∃ x, t.mov.chan[c] = { q with last := x }
  others : ∀ d : MovCh, d ≠ c → t.mov.chan[d] = s.mov.chan[d]
  owner : t.mov.owner = s.mov.owner
  prog : t.mov.prog = s.mov.prog
  changes : ChangesOnly [.movers, .pool] s t

namespace PoolLine
variable {c : MovCh} {p : Mem} {q : MChan} {s t u : State}

theorem refl (c : MovCh) (s : State) : PoolLine c s.mov.pool s.mov.chan[c] s s :=
  ⟨rfl, ⟨_, rfl⟩, fun _ _ => rfl, rfl, rfl, .refl _ s⟩

theorem ownerAt (h : PoolLine c p q s t) : t.mov.ownerAt = s.mov.ownerAt := by
  funext a
  rw [Mov.ownerAt, Mov.ownerAt, h.owner]

/-- A change of the pool that keeps the channels, the owners and the program. -/
theorem movers {p' : Mem} (h : PoolLine c p q s t) (hpool : u.mov.pool = p') (hchan : u.mov.chan = t.mov.chan)
    (howner : u.mov.owner = t.mov.owner) (hprog : u.mov.prog = t.mov.prog) (hchanges : ChangesOnly [.pool, .movers] t u) :
    PoolLine c p' q s u := by
  refine ⟨hpool, ?_, fun d hd => ?_, howner.trans h.owner, hprog.trans h.prog,
    h.changes.trans (hchanges.mono (by decide))⟩
  · rw [hchan]
    exact h.self
  · rw [hchan]
    exact h.others d hd

theorem countEcc (h : PoolLine c p q s t) (a n : Nat) : PoolLine c p q s (t.countEcc a n) :=
  h.movers h.pool rfl rfl rfl (changes_mov t _)

theorem stored (h : PoolLine c p q s t) (a : Nat) (l : List Byte) : PoolLine c (memStore p a l) q s (t.stored a l) :=
  h.movers (congrArg (memStore · a l) h.pool) rfl rfl rfl (changes_mov t _)

theorem withGrant (h : PoolLine c p q s t) (g : Option MovCh) (v : Vector MovCh 8) (n : Nat) :
    PoolLine c p q s (t.withGrant g v n) := h.movers h.pool rfl rfl rfl (changes_mov t _)

/-- A change of the channel that leaves its latest write, or only notes one. -/
theorem updChan {f : MChan → MChan} {q' : MChan} (h : PoolLine c p q s t)
    (hf : ∀ x, ∃ y, f { q with last := x } = { q' with last := y }) : PoolLine c p q' s (t.updChan c f) := by
  obtain ⟨x, hx⟩ := h.self
  obtain ⟨y, hy⟩ := hf x
  refine ⟨h.pool, ⟨y, ?_⟩, fun d hd => (t.updChan_other c f d hd).trans (h.others d hd), h.owner, h.prog,
    h.changes.trans ((t.updChan_movers_changes c f).mono (by decide))⟩
  rw [t.updChan_self, hx, hy]

theorem noteWrite (h : PoolLine c p q s t) (w a : Nat) (l : List Byte) :
    PoolLine c p q s (t.noteWrite c w false a l) := by
  unfold State.noteWrite
  dsimp only
  split
  · exact h
  · exact h.updChan fun x => ⟨_, rfl⟩

theorem moversOn (h : PoolLine c p q s t) : t.moversOn = s.moversOn := by
  have hdev : t.dev = s.dev := h.changes .device (by decide)
  have hclk : t.clk = s.clk := h.changes .clocks (by decide)
  rw [State.moversOn, State.moversOn, hdev, hclk]

theorem running_other (h : PoolLine c p q s t) {d : MovCh} (hd : d ≠ c) : t.running d = s.running d := by
  rw [State.running, State.running, State.wordAt, State.wordAt, h.moversOn, h.others d hd, h.prog]

theorem running_self (h : PoolLine c p q s t) (hst : q.state = (s.mov.chan[c]).state) (hpc : q.pc = (s.mov.chan[c]).pc) :
    t.running c = s.running c := by
  obtain ⟨x, hx⟩ := h.self
  rw [State.running, State.running, State.wordAt, State.wordAt, h.moversOn, hx, h.prog, ← hst, ← hpc]

end PoolLine

/-! The bursts of one line (R374). -/

/-- The boundaries of 64 bytes, on both sides, that the rest of a line crosses. -/
def burstsLeft (src dst len off : Nat) : Nat :=
  ((src + len - 1) / 64 - (src + off) / 64) + ((dst + len - 1) / 64 - (dst + off) / 64)

theorem burstsLeft_start {src dst len : Nat} (h : 0 < len) : burstsLeft src dst len 0 < lineBursts len := by
  unfold burstsLeft lineBursts
  omega

section burstBytes
variable {src dst len off : Nat}

theorem burstBytes_pool (hs : src < poolBytes) (hd : dst < poolBytes) : burstBytes src dst len off =
    min (len - off) (min (64 - (src + off) % 64) (64 - (dst + off) % 64)) := by
  unfold burstBytes
  dsimp only
  rw [if_pos hs, if_pos hd]

theorem burstBytes_pos (hs : src < poolBytes) (hd : dst < poolBytes) (h : off < len) : 0 < burstBytes src dst len off := by
  rw [burstBytes_pool hs hd]
  omega

theorem burstBytes_le (h : off < len) : off + burstBytes src dst len off ≤ len := by
  unfold burstBytes
  dsimp only
  omega

/-- A burst that does not end its line ends at a boundary of 64 bytes. -/
theorem burstsLeft_burst (hs : src < poolBytes) (hd : dst < poolBytes)
    (h : off + burstBytes src dst len off < len) :
    burstsLeft src dst len (off + burstBytes src dst len off) < burstsLeft src dst len off := by
  rw [burstBytes_pool hs hd] at *
  unfold burstsLeft
  omega

end burstBytes
/-- A MOVE or FILL of one line that writes single bytes of the pool, with no ring and no CRC. -/
structure MoveFields.Bytes (m : MoveFields) : Prop where
  noSrcRing : m.sc = false
  noDstRing : m.dc = false
  single : m.count = 1
  noCrc : m.crc = false
  byte : m.dstW = 0
  pos : 0 < m.len
  inPool : m.dst + m.len ≤ poolBytes

/-- One line of single bytes into one slab, that signals no queue and raises no event. -/
structure MoveFields.Plain (m : MoveFields) : Prop extends m.Bytes where
  noQueue : m.q = false
  noHalf : m.half = false
  noFull : m.full = false
  slab : m.dst % 16384 + m.len ≤ 16384

/-- The address at which a MOVE or FILL finds room for a burst on its source side. -/
def MoveFields.burstFrom (m : MoveFields) (isFill : Bool) : Nat := if isFill then m.dst else m.src

theorem pastPool_of_le {a len : Nat} (h : a + len ≤ poolBytes) : pastPool a len = false := by
  rw [pastPool, decide_eq_false (Nat.not_lt.mpr h), Bool.and_false]

namespace MoveFields.Bytes
variable {m : MoveFields} {q : MChan} {isFill : Bool}

theorem dst_lt (h : m.Bytes) : m.dst < poolBytes := Nat.lt_of_lt_of_le (Nat.lt_add_of_pos_right h.pos) h.inPool

theorem lineDst (h : m.Bytes) (hline : q.line = 0) : q.lineDst m = m.dst := by
  rw [MChan.lineDst, h.noDstRing, hline, lineAddr, Nat.zero_mul, Nat.add_zero, ite_self]
  rfl

theorem lineSrc (h : m.Bytes) (hline : q.line = 0) : q.lineSrc m = m.src := by
  rw [MChan.lineSrc, h.noSrcRing, hline, lineAddr, Nat.zero_mul, Nat.add_zero, ite_self]
  rfl

theorem lengthOk (h : m.Bytes) (hsrc : isFill = false → m.srcW = 0) : m.lengthOk isFill = true := by
  have hwidth : widthBytes (if isFill then m.dstW else max m.srcW m.dstW) = 1 := by
    cases isFill with
    | true => rw [if_pos rfl, h.byte]; rfl
    | false => rw [if_neg Bool.false_ne_true, hsrc rfl, h.byte]; rfl
  rw [MoveFields.lengthOk, hwidth, Nat.mod_one]
  rfl

/-- Such a line meets no fault before it moves, where its source ends in the pool too (R387, R388). -/
theorem lineFault (h : m.Bytes) (hline : q.line = 0)
    (hsrc : isFill = false → m.srcW = 0 ∧ m.src + m.len ≤ poolBytes) : q.lineFault m isFill = none := by
  have hpast : (!isFill && pastPool m.src m.len) = false := by
    cases isFill with
    | true => rfl
    | false => exact pastPool_of_le (hsrc rfl).2
  unfold MChan.lineFault
  simp only [h.lineSrc hline, h.lineDst hline, h.lengthOk fun hb => (hsrc hb).1, h.noSrcRing, h.noDstRing, hpast,
    pastPool_of_le h.inPool, Bool.not_true, Bool.and_false, Bool.false_and, Bool.false_eq_true, ↓reduceIte]

theorem lineBytes (h : m.Bytes) (hline : q.line = 0) :
    q.lineBytes m isFill = burstBytes (m.burstFrom isFill) m.dst m.len q.off := by
  rw [MChan.lineBytes, h.lineDst hline, h.lineSrc hline]
  rfl

end MoveFields.Bytes

/-- The end of the line is the next word. -/
theorem MoveFields.Plain.endLine {m : MoveFields} {q : MChan} (h : m.Plain) : q.endLine m = q.step := by
  unfold MChan.endLine MChan.lineEvents MChan.event
  simp only [h.noSrcRing, h.noDstRing, h.noHalf, h.noFull, h.single, Bool.false_and, Bool.false_eq_true, ↓reduceIte,
    Nat.le_add_left]

/-- A channel about to move a plain line whose bytes are given, while no other channel runs. -/
structure LineJob (s : State) (c : MovCh) (m : MoveFields) (isFill : Bool) (b : List Byte) : Prop where
  plain : m.Plain
  fresh : (s.mov.chan[c]).line = 0
  owned : s.mov.ownerAt m.dst = (s.mov.chan[c]).owner
  whole : b.length = m.len
  source : isFill = false → m.srcW = 0 ∧ m.src + m.len ≤ poolBytes
  alone : ∀ d : MovCh, d ≠ c → s.running d = none

/-- So many bytes of the line are in their place. -/
def Midline (s : State) (c : MovCh) (m : MoveFields) (b : List Byte) (k : Nat) (t : State) : Prop :=
  PoolLine c (memStore s.mov.pool m.dst (b.take k)) { s.mov.chan[c] with off := k } s t

/-- Every burst of the line reads its bytes, and the read leaves the line as it is. -/
def Supplies (s : State) (c : MovCh) (m : MoveFields) (isFill : Bool) (b : List Byte) : Prop :=
  ∀ t k, k < m.len → Midline s c m b k t → ∃ u, Midline s c m b k u ∧
    t.lineRead c m isFill = .ok u ((b.drop k).take (burstBytes (m.burstFrom isFill) m.dst m.len k))

namespace LineJob
variable {s t : State} {c : MovCh} {m : MoveFields} {isFill : Bool} {b : List Byte} {k n : Nat}

theorem burstFrom_lt (h : LineJob s c m isFill b) : m.burstFrom isFill < poolBytes := by
  cases isFill with
  | true => exact h.plain.dst_lt
  | false => exact Nat.lt_of_lt_of_le (Nat.lt_add_of_pos_right h.plain.pos) (h.source rfl).2

/-- A burst written is more of the line in its place. -/
theorem written (h : LineJob s c m isFill b) (hmid : Midline s c m b k t) (hpos : 0 < n) (hle : k + n ≤ m.len) :
    ∃ u, t.moverWrite c (s.mov.chan[c]).owner (byteAddr m.dst k) m.dstW m.crc ((b.drop k).take n) = .ok u ∧
      PoolLine c (memStore s.mov.pool m.dst (b.take (k + n))) { s.mov.chan[c] with off := k } s u := by
  have hlen : ((b.drop k).take n).length = n := by
    rw [List.length_take, List.length_drop, h.whole]
    omega
  have hslab := h.plain.slab
  have hin := h.plain.inPool
  have haddr : byteAddr m.dst k = m.dst + k := if_pos h.plain.dst_lt
  have howner : t.mov.ownerAt (m.dst + k) = (s.mov.chan[c]).owner := by
    rw [PoolLine.ownerAt hmid, ← h.owned]
    exact s.mov.ownerAt_congr (by omega)
  have hstored := (PoolLine.stored hmid (m.dst + k) ((b.drop k).take n)).noteWrite m.dstW (m.dst + k) ((b.drop k).take n)
  have htaken : (b.take k).length = k := by
    rw [List.length_take, h.whole]
    omega
  have hjoin : memStore (memStore s.mov.pool m.dst (b.take k)) (m.dst + k) ((b.drop k).take n) =
      memStore s.mov.pool m.dst (b.take (k + n)) := by
    rw [List.take_add, memStore_append, htaken]
  rw [hjoin] at hstored
  refine ⟨_, ?_, hstored⟩
  rw [haddr, h.plain.noCrc]
  exact State.moverWrite_pool (by omega) (by omega) (by rw [hlen]; omega) howner

/-- A burst of the line: more of it is done, or it ends and the next word follows (R374, R387). -/
theorem burst (h : LineJob s c m isFill b) (hsup : Supplies s c m isFill b) (hmid : Midline s c m b k t) (hk : k < m.len) :
    ∃ u, t.lineBurst c m isFill = .ok u ∧
      ((k + burstBytes (m.burstFrom isFill) m.dst m.len k < m.len ∧
          Midline s c m b (k + burstBytes (m.burstFrom isFill) m.dst m.len k) u) ∨
        PoolLine c (memStore s.mov.pool m.dst b) (s.mov.chan[c]).step s u) := by
  obtain ⟨x, hx⟩ := hmid.self
  have hline : (t.mov.chan[c]).line = 0 := by rw [hx]; exact h.fresh
  have hoff : (t.mov.chan[c]).off = k := by rw [hx]
  have howner : (t.mov.chan[c]).owner = (s.mov.chan[c]).owner := by rw [hx]
  have hle := burstBytes_le (src := m.burstFrom isFill) (dst := m.dst) hk
  obtain ⟨r, hr, hread⟩ := hsup t k hk hmid
  obtain ⟨w, hwrite, hw⟩ := h.written hr (burstBytes_pos h.burstFrom_lt h.plain.dst_lt hk) hle
  rw [t.lineBurst_eq c m (h.plain.lineFault hline h.source), hread, h.plain.lineBytes hline, h.plain.lineDst hline, hoff,
    howner, MRead.bind, hwrite, MRes.bind, State.lineWritten]
  by_cases hmore : k + burstBytes (m.burstFrom isFill) m.dst m.len k < m.len
  · rw [if_pos hmore]
    exact ⟨_, rfl, .inl ⟨hmore, hw.updChan fun x => ⟨x, rfl⟩⟩⟩
  · have hall : b.take (k + burstBytes (m.burstFrom isFill) m.dst m.len k) = b :=
      List.take_of_length_le (by rw [h.whole]; omega)
    rw [hall] at hw
    rw [if_neg hmore, h.plain.noQueue, if_neg Bool.false_ne_true]
    exact ⟨_, rfl, .inr (hw.updChan fun x => ⟨x, h.plain.endLine⟩)⟩

end LineJob

/-! A transfer whose channel runs alone (R374, R375). -/

theorem State.runBursts_of_granted {s t : State} {c : MovCh} {i : MovInstr} (hrun : s.running c = some i)
    (hburst : s.nextBurst c i = .ok t) (hgrant : s.arbitrate = some c) (fuel : Nat) :
    State.runBursts c i (fuel + 1) s = if (t.mov.chan[c]).line = 0 ∧ (t.mov.chan[c]).off = 0 then s.grantedBurst t c
      else State.runBursts c i fuel (s.grantedBurst t c) := by
  have hready := State.grant_readyBurst (State.readyBurst_eq_some.mpr ⟨i, hrun, hburst⟩)
  rw [State.runBursts, hburst]
  dsimp only
  rw [if_pos hgrant, hready]
  rfl

namespace LineJob
variable {s : State} {c : MovCh} {m : MoveFields} {isFill : Bool} {b : List Byte} {i : MovInstr}

/-- The bursts of the line, one after another, until it is whole. -/
theorem runBursts (h : LineJob s c m isFill b) (hsup : Supplies s c m isFill b) (hrun : s.running c = some i)
    (hnext : ∀ t : State, t.nextBurst c i = t.lineBurst c m isFill) {fuel k : Nat} {t : State}
    (hmid : Midline s c m b k t) (hk : k < m.len) (hfuel : burstsLeft (m.burstFrom isFill) m.dst m.len k < fuel) :
    PoolLine c (memStore s.mov.pool m.dst b) (s.mov.chan[c]).step s (State.runBursts c i fuel t) := by
  induction fuel generalizing k t with
  | zero => exact absurd hfuel (Nat.not_lt_zero _)
  | succ fuel ih =>
    obtain ⟨u, hburst, hu⟩ := h.burst hsup hmid hk
    rw [← hnext] at hburst
    have hself : t.running c = some i := (hmid.running_self rfl rfl).trans hrun
    have hreq : t.requests c = true := State.requests_iff.mpr ⟨u, State.readyBurst_eq_some.mpr ⟨i, hself, hburst⟩⟩
    have hgrant : t.arbitrate = some c := State.arbitrate_alone hreq fun d hd =>
      State.requests_of_idle ((hmid.running_other hd).trans (h.alone d hd))
    rw [State.runBursts_of_granted hself hburst hgrant]
    rcases hu with ⟨hmore, hu⟩ | hu
    · obtain ⟨x, hx⟩ := hu.self
      have hpos := burstBytes_pos h.burstFrom_lt h.plain.dst_lt hk
      have hdec := burstsLeft_burst h.burstFrom_lt h.plain.dst_lt hmore
      have hoff : (u.mov.chan[c]).off ≠ 0 := by rw [hx]; dsimp only; omega
      rw [if_neg fun hz => hoff hz.2]
      exact ih (hu.withGrant _ _ _) hmore (by omega)
    · obtain ⟨x, hx⟩ := hu.self
      have hdone : (u.mov.chan[c]).line = 0 ∧ (u.mov.chan[c]).off = 0 := by rw [hx]; exact ⟨rfl, rfl⟩
      rw [if_pos hdone]
      exact hu.withGrant _ _ _

/-- The whole line from its start. -/
theorem whole_line (h : LineJob s c m isFill b) (hsup : Supplies s c m isFill b) (hrun : s.running c = some i)
    (hnext : ∀ t : State, t.nextBurst c i = t.lineBurst c m isFill) (hoff : (s.mov.chan[c]).off = 0) :
    PoolLine c (memStore s.mov.pool m.dst b) (s.mov.chan[c]).step s
      (State.runBursts c i (m.count * lineBursts m.len) s) := by
  have hstart : Midline s c m b 0 s := by
    have hq : ({ s.mov.chan[c] with off := 0 } : MChan) = s.mov.chan[c] := by rw [← hoff]
    rw [Midline, hq, List.take_zero]
    exact .refl c s
  refine h.runBursts hsup hrun hnext hstart h.plain.pos ?_
  rw [h.plain.single, Nat.one_mul]
  exact burstsLeft_start h.plain.pos

end LineJob

/-! What a line is supplied with. -/

section supplies
variable {s : State} {c : MovCh} {m : MoveFields}

theorem fillBytes_byte (v : BitVec 32) (off n : Nat) : fillBytes v 0 off n = List.replicate n (BitVec.ofNat 8 v.toNat) := by
  unfold fillBytes
  refine List.eq_replicate_iff.mpr ⟨by simp, fun x hx => ?_⟩
  obtain ⟨i, -, rfl⟩ := List.mem_map.mp hx
  rw [widthBytes, pow_zero, Nat.min_eq_right (by decide), Nat.mod_one]
  rfl

/-- A FILL of single bytes repeats the low byte of its pattern (R390). -/
theorem supplies_fill (hplain : m.Plain) (hfresh : (s.mov.chan[c]).line = 0) :
    Supplies s c m true (List.replicate m.len (BitVec.ofNat 8 ((s.mov.chan[c]).regs[(9 : Fin 10)]).toNat)) := by
  intro t k hk hmid
  obtain ⟨x, hx⟩ := hmid.self
  have hline : (t.mov.chan[c]).line = 0 := by rw [hx]; exact hfresh
  have hle := burstBytes_le (src := m.burstFrom true) (dst := m.dst) hk
  refine ⟨t, hmid, ?_⟩
  rw [State.lineRead, hplain.lineBytes hline, hplain.byte, hx, List.drop_replicate, List.take_replicate,
    Nat.min_eq_left (by omega)]
  dsimp only
  rw [fillBytes_byte]
  rfl

/-- A MOVE reads its source as it was, where its destination lies apart. -/
theorem supplies_move (hplain : m.Plain) (hfresh : (s.mov.chan[c]).line = 0) (hin : m.src + m.len ≤ poolBytes)
    (hslab : m.src % 16384 + m.len ≤ 16384) (hread : readable (s.mov.ownerAt m.src) = true)
    (hapart : m.src + m.len ≤ m.dst ∨ m.dst + m.len ≤ m.src) :
    Supplies s c m false (memRange s.mov.pool m.src m.len) := by
  intro t k hk hmid
  obtain ⟨x, hx⟩ := hmid.self
  have hline : (t.mov.chan[c]).line = 0 := by rw [hx]; exact hfresh
  have hoff : (t.mov.chan[c]).off = k := by rw [hx]
  have hpos := hplain.pos
  have hsrc : m.src < poolBytes := by omega
  have hle := burstBytes_le (src := m.burstFrom false) (dst := m.dst) hk
  have hburst := burstBytes_pos (src := m.burstFrom false) hsrc hplain.dst_lt hk
  have haddr : byteAddr m.src k = m.src + k := if_pos hsrc
  have howner : t.mov.ownerAt (m.src + k) = s.mov.ownerAt m.src := by
    rw [PoolLine.ownerAt hmid]
    exact s.mov.ownerAt_congr (by omega)
  have hbytes : memRange t.mov.pool (m.src + k) (burstBytes (m.burstFrom false) m.dst m.len k) =
      ((memRange s.mov.pool m.src m.len).drop k).take (burstBytes (m.burstFrom false) m.dst m.len k) := by
    rw [hmid.pool, memRange_slice _ _ hle, memRange_memStore_outside]
    rw [List.length_take, length_memRange]
    omega
  refine ⟨_, PoolLine.countEcc hmid (m.src + k) (burstBytes (m.burstFrom false) m.dst m.len k), ?_⟩
  rw [State.lineRead, if_neg Bool.false_ne_true, hplain.lineBytes hline, hplain.lineSrc hline, hoff, haddr, ← hbytes]
  exact State.moverRead_pool (by omega) hburst (by omega) (by rw [howner]; exact hread)

end supplies

end Sys2Proof.Machine

namespace Sys2Proof.Machine

/-! The words of a program, one by one (Table 9.3; R383, R385 to R387, R390 to R395, R398, R400). -/

section transfers
variable {s t : State} {ch : MovCh} {m : MoveFields}

theorem State.running_state {i : MovInstr} (h : s.running ch = some i) : (s.mov.chan[ch]).state = .run := by
  unfold State.running at h
  split at h
  next hlive => exact hlive.2
  · exact nomatch h

theorem exec_moverMove_line (hrun : s.running ch = some (.move m)) (hdesc : m.desc = false) :
    exec (.moverMove ch) s = .next (State.runBursts ch (.move m) (m.count * lineBursts m.len) s) := by
  show s.execTransfer ch _ = _
  rw [State.execTransfer, hrun]
  dsimp only
  rw [if_pos rfl, hdesc, if_neg Bool.false_ne_true]

theorem exec_moverFill (hrun : s.running ch = some (.fill m)) :
    exec (.moverFill ch) s = .next (State.runBursts ch (.fill m) (m.count * lineBursts m.len) s) := by
  show s.execTransfer ch _ = _
  rw [State.execTransfer, hrun]
  rfl

theorem lineBursts_pos (hcount : 0 < m.count) : 0 < m.count * lineBursts m.len :=
  Nat.mul_pos hcount (Nat.succ_pos _)

/-- A burst that is ready and not granted does not come (R375). -/
theorem State.runBursts_not_granted {c : MovCh} {i : MovInstr} (hburst : s.nextBurst c i = .ok t)
    (hgrant : s.arbitrate ≠ some c) (fuel : Nat) : State.runBursts c i fuel s = s := by
  cases fuel with
  | zero => rfl
  | succ fuel =>
    rw [State.runBursts, hburst]
    exact if_neg hgrant

theorem State.runBursts_fault {c : MovCh} {i : MovInstr} {f : MFault} {fuel : Nat} (hfuel : 0 < fuel)
    (hburst : s.nextBurst c i = .fault t f) : State.runBursts c i fuel s = t.latchMover c f := by
  obtain ⟨n, rfl⟩ := Nat.exists_eq_succ_of_ne_zero hfuel.ne'
  rw [State.runBursts, hburst]

theorem exec_moverMove_waits (hrun : s.running ch = some (.move m)) (hreq : s.requests ch = true)
    (hgrant : s.arbitrate ≠ some ch) : exec (.moverMove ch) s = .next s := by
  obtain ⟨t, ht⟩ := State.requests_iff.mp hreq
  obtain ⟨i, hi, hburst⟩ := State.readyBurst_eq_some.mp ht
  obtain rfl : MovInstr.move m = i := Option.some.inj (hrun.symm.trans hi)
  show s.execTransfer ch _ = _
  rw [State.execTransfer, hrun]
  dsimp only
  rw [if_pos rfl, State.runBursts_not_granted hburst hgrant]

/-- The fault of a write into a slab of another owner (R400). -/
def State.ownerFault (s : State) (c : MovCh) (a : Nat) : MFault :=
  { cause := cOwner, write := true, addr := a, owner := (s.mov.chan[c]).owner }

theorem State.moverWrite_foreign {c : MovCh} {o : BitVec 5} {a w : Nat} {k : Bool} {l : List Byte} (ha : a < poolBytes)
    (hc : c ≠ 31) (howner : s.mov.ownerAt a ≠ o) :
    s.moverWrite c o a w k l = .fault s { cause := cOwner, write := true, addr := a, owner := o } := by
  have hmay : s.mayWrite c o a = false := by
    rw [State.mayWrite, decide_eq_false howner, decide_eq_false (MovCh.val_ne_last hc)]
    rfl
  have hbad : firstBad (s.mayWrite c o) a l.length = some a := by
    rw [firstBad, hmay]
    rfl
  unfold State.moverWrite
  rw [endpointOf_pool ha]
  dsimp only
  rw [hbad]

/-- A FILL into a slab of another owner faults with its first burst (R400). -/
theorem exec_moverFill_foreign (hrun : s.running ch = some (.fill m)) (hm : m.Bytes) (hch : ch ≠ 31)
    (howner : s.mov.ownerAt m.dst ≠ (s.mov.chan[ch]).owner) (hline : (s.mov.chan[ch]).line = 0)
    (hoff : (s.mov.chan[ch]).off = 0) :
    exec (.moverFill ch) s = .next (s.latchMover ch (s.ownerFault ch m.dst)) := by
  have haddr : byteAddr m.dst 0 = m.dst := if_pos hm.dst_lt
  have hburst : s.nextBurst ch (.fill m) = .fault s (s.ownerFault ch m.dst) := by
    show s.lineBurst ch m true = _
    have hfault : (s.mov.chan[ch]).lineFault m true = none := hm.lineFault hline fun h => nomatch h
    rw [s.lineBurst_eq ch m hfault, hm.lineDst hline, hoff, haddr, State.lineRead, if_pos rfl, MRead.bind,
      State.moverWrite_foreign hm.dst_lt hch howner]
    rfl
  rw [exec_moverFill hrun,
    State.runBursts_fault (lineBursts_pos (by rw [hm.single]; exact Nat.one_pos)) hburst]

end transfers

section control
variable {s : State} {ch : MovCh} {qn : Fin 64} {timeout target : Nat}

theorem exec_moverWait (hon : s.moversOn = true) (hst : (s.mov.chan[ch]).state = .run)
    (hword : decodeWord (s.wordAt ch) = some (.wait qn 2 timeout target)) (hstop : (s.mov.chan[ch]).stopReq = false) :
    exec (.moverWait ch) s = .next (if 1 ≤ (s.mov.queue[qn]).level then s.updChan ch MChan.waitEnd
      else s.updChan ch fun q => { q with
        state := .wait, waitTill := if timeout = 0 then none else some (s.now + usTicks timeout) }) := by
  have hlive : (s.moversOn &&
      (decide ((s.mov.chan[ch]).state = .run) || decide ((s.mov.chan[ch]).state = .wait))) = true := by
    rw [hon, hst]; rfl
  have hrun : ¬ (s.mov.chan[ch]).state = .wait := by rw [hst]; decide
  show execMoverWait ch s = _
  unfold execMoverWait
  dsimp only
  rw [if_pos hlive, hword]
  dsimp only
  rw [hstop, if_neg Bool.false_ne_true, if_neg (by decide)]
  by_cases hlevel : 1 ≤ (s.mov.queue[qn]).level
  · rw [if_pos hlevel]
    exact if_pos (decide_eq_true hlevel)
  · rw [if_neg hlevel]
    exact (if_neg (by simpa [State.waitHolds] using hlevel)).trans (if_neg hrun)

theorem exec_moverWaitTimeout {cond t0 : Nat} (hon : s.moversOn = true)
    (hword : decodeWord (s.wordAt ch) = some (.wait qn cond timeout target))
    (htill : (s.mov.chan[ch]).waitTill = some t0) (hst : (s.mov.chan[ch]).state = .wait) (hlate : t0 ≤ s.now) :
    exec (.moverWaitTimeout ch) s =
      .next (s.updChan ch fun q => { q.jumpClear target with state := .run, waitTill := none, waitFrame := none }) := by
  show execMoverWaitTimeout ch s = _
  unfold execMoverWaitTimeout
  dsimp only
  rw [hword, htill]
  refine occurs_of ?_
  rw [hon, hst, decide_eq_true hlate]
  rfl

variable {ev : Bool} {code : Nat}

/-- The event that a SIGNAL raises (R391). -/
def MChan.signalled (ev : Bool) (code : Nat) (q : MChan) : MChan :=
  if ev then { q with events := q.events + 1, lastEvent := BitVec.ofNat 8 code } else q

theorem exec_moverSignal_inc (hrun : s.running ch = some (.signal qn 1 ev code))
    (hroom : (s.mov.queue[qn]).level < 65535) : exec (.moverSignal ch) s =
      .next ((s.updQueue qn fun x => { x with level := x.level + 1 }).updChan ch fun q => (q.signalled ev code).step) := by
  have hsignal : (s.mov.queue[qn]).signal false = some { s.mov.queue[qn] with level := (s.mov.queue[qn]).level + 1 } := by
    rw [MQueue.signal, if_neg Bool.false_ne_true, if_neg hroom.ne]
  refine execWord_ok hrun rfl ?_
  rw [← State.updChan_updChan]
  unfold State.moverEffect State.signalQueue
  dsimp only
  rw [hsignal]
  rfl

theorem exec_moverSignal_empty (hrun : s.running ch = some (.signal qn 2 ev code))
    (hempty : (s.mov.queue[qn]).level = 0) : exec (.moverSignal ch) s = .next (s.latchMover ch
      { cause := cFormat, write := true, addr := 0, owner := (s.mov.chan[ch]).owner }) := by
  have hsignal : (s.mov.queue[qn]).signal true = none := by
    rw [MQueue.signal, if_pos rfl, if_pos hempty]
  refine execWord_fault hrun rfl ?_
  unfold State.moverEffect State.signalQueue
  dsimp only
  rw [hsignal]
  rfl

theorem exec_moverCompare_level {rel addr imm : Nat}
    (hrun : s.running ch = some (.compare 0 qn rel false target addr imm)) : exec (.moverCompare ch) s =
      .next (s.updChan ch fun q =>
        if relHolds rel (s.mov.queue[qn]).level imm then q.jumpClear target else q.step) := by
  refine execWord_ok hrun rfl ?_
  unfold State.moverEffect
  dsimp only
  cases relHolds rel (s.mov.queue[qn]).level imm <;> rfl

theorem exec_moverCrc_reset {reset : Bool} {addr : Nat} (hrun : s.running ch = some (.crc reset false addr)) :
    exec (.moverCrc ch) s = .next (s.updChan ch fun q =>
      (if reset then { q with regs := q.regs.set 8 0xFFFFFFFF#32 } else q).step) := by
  rw [← State.updChan_updChan]
  exact execWord_ok hrun rfl rfl

theorem exec_moverSet {r : Fin 10} {v : BitVec 32} (hrun : s.running ch = some (.set r v)) :
    exec (.moverSet ch) s = .next (s.updChan ch fun q => { q with regs := q.regs.set r v }.step) := by
  rw [← State.updChan_updChan]
  exact execWord_ok hrun rfl rfl

end control

/-- Settles O33: a line of a MOVE or FILL burst by burst, a write to another owner's slab by its fault, each control word by
what it makes of its channel and its queue. -/
theorem moverWords : Obligations.MoverWords := by
  refine ⟨?_, ?_, ?_, ?_, ?_, ?_, ?_, ?_, ?_, ?_, ?_⟩
  · intro s ch m hrun hdesc hsc hdc hcount hq hhalf hfull hcrc hsrcW hdstW hpos hsrcIn hdstIn hsrc hdst hapart hread
      howner hline hoff halone
    have hplain : m.Plain := ⟨⟨hsc, hdc, hcount, hcrc, hdstW, hpos, hdst⟩, hq, hhalf, hfull, hdstIn⟩
    have hjob : LineJob s ch m false (memRange s.mov.pool m.src m.len) :=
      ⟨hplain, hline, howner, length_memRange .., fun _ => ⟨hsrcW, hsrc⟩, halone⟩
    have hnext (t : State) : t.nextBurst ch (.move m) = t.lineBurst ch m false := if_neg (by rw [hdesc]; decide)
    have hdone := hjob.whole_line (supplies_move hplain hline hsrc hsrcIn hread hapart) hrun hnext hoff
    obtain ⟨x, hx⟩ := hdone.self
    have hst := State.running_state hrun
    refine ⟨_, exec_moverMove_line hrun hdesc, hdone.pool, ?_⟩
    rw [hx]
    exact ⟨hst, rfl, rfl, hdone.others, hdone.owner, hdone.changes⟩
  · exact fun s ch m hrun hreq hgrant _ => exec_moverMove_waits hrun hreq hgrant
  · intro s ch m hrun hdc hsc hcount hq hhalf hfull hcrc hdstW hpos hdstIn hdst howner hline hoff halone
    have hplain : m.Plain := ⟨⟨hsc, hdc, hcount, hcrc, hdstW, hpos, hdst⟩, hq, hhalf, hfull, hdstIn⟩
    have hjob : LineJob s ch m true (List.replicate m.len (BitVec.ofNat 8 ((s.mov.chan[ch]).regs[(9 : Fin 10)]).toNat)) :=
      ⟨hplain, hline, howner, List.length_replicate, (fun h => nomatch h), halone⟩
    have hdone := hjob.whole_line (supplies_fill hplain hline) hrun (fun _ => rfl) hoff
    obtain ⟨x, hx⟩ := hdone.self
    have hst := State.running_state hrun
    refine ⟨_, exec_moverFill hrun, hdone.pool, ?_⟩
    rw [hx]
    exact ⟨hst, rfl, hdone.others, hdone.owner, hdone.changes⟩
  · intro s ch m hrun hdc hsc hcount hcrc hdstW hpos hdst hch howner hline hoff
    have hm : m.Bytes := ⟨hsc, hdc, hcount, hcrc, hdstW, hpos, hdst⟩
    refine ⟨_, exec_moverFill_foreign hrun hm hch howner hline hoff, s.latchMover_pool ch _, ?_⟩
    rw [s.latchMover_self]
    exact ⟨rfl, ⟨_, rfl, rfl, rfl, rfl, rfl, rfl⟩, s.latchMover_others ch _, s.latchMover_changes ch _⟩
  · intro s ch qn timeout target hon hst hword hstop
    have hexec := exec_moverWait hon hst hword hstop
    refine ⟨fun hlevel => ?_, fun hlevel => ?_⟩
    · rwa [if_pos hlevel] at hexec
    · rwa [if_neg (by omega)] at hexec
  · exact fun s ch qn cond timeout target t0 hon hword htill hst hlate =>
      exec_moverWaitTimeout hon hword htill hst hlate
  · intro s ch qn ev code hrun hroom
    rw [exec_moverSignal_inc hrun hroom]
    cases ev <;> rfl
  · intro s ch qn ev code hrun hempty
    refine ⟨_, exec_moverSignal_empty hrun hempty, ?_⟩
    rw [s.latchMover_self]
    exact ⟨rfl, ⟨_, rfl, rfl⟩, s.latchMover_queue ch _, s.latchMover_changes ch _⟩
  · intro s ch qn rel target addr imm hrun
    refine ⟨_, exec_moverCompare_level hrun, ?_, s.updChan_other ch _, s.updChan_movers_changes ch _⟩
    rw [s.updChan_self]
    split <;> rfl
  · intro s ch reset addr hrun
    rw [exec_moverCrc_reset hrun]
    cases reset <;> rfl
  · exact fun s ch r v hrun => exec_moverSet hrun

end Sys2Proof.Machine

namespace Sys2Proof.Machine

/-! A scrub of channel 31 (§9.7; R404, R406). -/

theorem exec_scrubJob {s : State} {n : Nat} {rest : List Job} (hjobs : s.mov.jobs = .scrub n :: rest)
    (hon : s.moversOn = true) (hhalted : (s.mov.chan[(31 : MovCh)]).state ≠ .halted)
    (hfenced : (s.mov.chan[(31 : MovCh)]).state ≠ .fenced) (hkiln : s.kiln.running = false) :
    exec .scrubJob s = .next { s with mov := { s.mov.doJob (.scrub n) with jobs := rest } } := by
  have hready : (s.moversOn && decide ((s.mov.chan[(31 : MovCh)]).state ≠ .halted) &&
      decide ((s.mov.chan[(31 : MovCh)]).state ≠ .fenced)) = true := by
    rw [hon, decide_eq_true hhalted, decide_eq_true hfenced]
    rfl
  show execScrubJob s = _
  unfold execScrubJob
  rw [hjobs, List.find?_cons_of_pos rfl]
  dsimp only
  rw [occurs_of hready, List.erase_cons_head, State.syncBufs, if_pos (by rw [hkiln]; rfl)]

/-- Zeros written from an address on take out its first entry only: a pool that lists the address twice reads the other. -/
theorem memRead_zeros_twice (v : Byte) {n : Nat} (hn : 0 < n) : memRead (memStore [(0, v), (0, v)] 0 (zeros n)) 0 = v := by
  obtain ⟨k, rfl⟩ := Nat.exists_eq_succ_of_ne_zero hn.ne'
  rw [zeros, List.replicate_succ, memStore, memRead_memStore_outside _ (.inl Nat.one_pos)]
  rfl

theorem Mov.scrub_twice {m : Mov} {v : Byte} (h : m.pool = [(0, v), (0, v)]) :
    memRead (m.doJob (.scrub 0)).pool (0 * 16384 + 0) = v := by
  unfold Mov.doJob
  dsimp only
  rw [h, Nat.zero_mul, memRead_zeros_twice v (by decide)]

/-- Refutes O34: its clause on SCRUB_JOB is about every pool, and not only about those in the canonical form that every step
keeps (`Memory.wf`). In a pool that lists address 0 twice the scrub of slab 0 takes out one entry, and the other is
read. -/
theorem not_moverRecovery : ¬ Obligations.MoverRecovery := by
  unfold Obligations.MoverRecovery
  rintro ⟨-, -, -, -, -, hscrub, -⟩
  obtain ⟨t, hexec, -, hzero, -⟩ := hscrub
    { State.reset with
      dev := { core := .running }
      clk := { pll := .locked }
      mov := { jobs := [.scrub 0], pool := [(0, 1), (0, 1)] } }
    0 [] rfl rfl (by decide) (by decide) rfl
  rw [exec_scrubJob (n := 0) (rest := []) rfl rfl (by decide) (by decide) rfl] at hexec
  obtain rfl := Host.Outcome.next.inj hexec
  have hzero := hzero 0 (by decide)
  dsimp only at hzero
  rw [Mov.scrub_twice rfl] at hzero
  exact absurd hzero (by decide)

end Sys2Proof.Machine

namespace Sys2Proof.Machine

/-! The changes that wait for the start of an output frame (R62, R65; Table 2.4). -/

section outputBeads
variable (s : State)

theorem outputBead_iff (b : BeadNo) :
    outputBead b = true ↔ b.val = 10 ∨ (12 ≤ b.val ∧ b.val ≤ 15) ∨ (28 ≤ b.val ∧ b.val ≤ 31) := by
  simp only [outputBead, Bool.or_eq_true, Bool.and_eq_true, decide_eq_true_eq]
  omega

/-- Only beads 12 and 13 act beyond their value: they arm the head's output of the PLL. -/
theorem State.partTakes_output_changes (old : State) {b : BeadNo} (hb : outputBead b = true) (i : Fin 8) :
    ChangesOnly [.clocks] s (s.partTakes old b i) := by
  rw [outputBead_iff] at hb
  unfold State.partTakes
  split
  -- beads 12 and 13, then those without a case of their own; no output bead is among the others
  case h_4 => exact s.armOut_changes _ _ _
  case h_5 => exact s.armOut_changes _ _ _
  case h_12 =>
    rw [dif_neg (by omega)]
    exact .refl _ s
  all_goals omega

theorem State.takeBead_output_changes {b : BeadNo} (hb : outputBead b = true) (i : Fin 8) :
    ChangesOnly [.beads, .clocks] s (s.takeBead b i) := by
  unfold State.takeBead
  split
  · extract_lets d s1 s2 e s3
    have h2 : ChangesOnly [.beads] s s2 := changes_bead s _
    have h3 : ChangesOnly [.beads] s s3 := ChangesOnly.ite (h2.trans (changes_bead s2 _)) h2
    exact h3.join (s3.partTakes_output_changes s hb i)
  · exact (ChangesOnly.ite (changes_bead s _) (.refl _ s)).mono (by decide)

/-- The parts that the changes at the start of an output frame, and what follows a change, can touch. -/
def outputBeadParts : List Part := [.beads, .clocks, .wiring, .twin] ++ kilnParts

theorem State.takeOutputBeads_changes : ChangesOnly outputBeadParts s s.takeOutputBeads := by
  have taken (l : List BeadNo) (hl : ∀ b ∈ l, outputBead b = true) :
      ChangesOnly [.beads, .clocks] s (l.foldl (fun t (b : BeadNo) => t.takeBead b 0) s) :=
    ChangesOnly.foldl_mem (fun t b hb => t.takeBead_output_changes (hl b hb) 0) s
  unfold State.takeOutputBeads
  extract_lets l
  have hl (b : BeadNo) (hb : b ∈ l) : outputBead b = true := (List.mem_filter.mp (List.mem_filter.mp hb).1).2
  exact ChangesOnly.ite (.refl _ s) (((taken l hl).mono (by decide)).trans ((State.afterBeads_changes _).mono (by decide)))

end outputBeads
end Sys2Proof.Machine

namespace Sys2Proof.Machine

/-! The start of an output frame (§10.2, §10.6; R319, R424 to R439). -/

/-- What the start of an output frame settles about the head: that it transmits, whether a frame is in progress, when it
started, and the frame counter. -/
def Head.timing (h : Head) : Bool × Bool × Nat × BitVec 32 := (h.on, h.inFrame, h.startedAt, h.counter)

section frameStart
variable (s : State)

/-- The head feed at the start of a line (R389). -/
def State.feedRestarted (s : State) : State := s.updChan 14 fun q => { q with off := 0 }

theorem State.feedRestarted_changes : ChangesOnly [.movers] s s.feedRestarted := s.updChan_movers_changes 14 _

theorem changes_head_twin (h : Head) (w : Twin) : ChangesOnly [.head, .twin] s { s with head := h, twin := w } :=
  (changes_head s h).join (changes_twin _ w)

theorem State.joinPort_eq (k : CamPort) : s.joinPort k = (s.withJoined k).journal 0x77 (k.val * 4096) := rfl

/-- The parts that a frame touches once it starts: the ports that join, the records it takes, and what it sends. -/
def frameParts : List Part := [.cameras, .kiln, .movers, .head, .journal, .deviceTallies, .fabric, .twin]

theorem State.joinPort_spec (k : CamPort) :
    (s.joinPort k).head.timing = s.head.timing ∧ ChangesOnly frameParts s (s.joinPort k) := by
  rw [s.joinPort_eq k]
  refine ⟨?_, ((s.withJoined_changes k).mono (by decide)).trans ((State.journal_le _ _ _).mono (by decide))⟩
  rw [(State.journal_book _ _ _).head]
  rfl

theorem State.takeRecords_spec :
    s.takeRecords.2.head.timing = s.head.timing ∧ ChangesOnly frameParts s s.takeRecords.2 := by
  unfold State.takeRecords
  split
  · extract_lets e r
    have hentry : ChangesOnly s.journalling s e.2 := s.journalEntry_changes _ _
    have hhead : e.2.head = s.head := (hentry.mono s.journalling_le) .head (by decide)
    refine ⟨by rw [← hhead]; rfl, ?_⟩
    exact ((hentry.mono s.journalling_le).mono (by decide)).trans ((changes_head _ _).mono (by decide))
  · exact ⟨rfl, (changes_head s _).mono (by decide)⟩

/-- The ports that join at a frame that starts at a time (R319). -/
def State.portsJoined (s : State) (start : Nat) : State :=
  allCams.foldl (fun t (k : CamPort) =>
    let q := t.cam[k]
    if q.state = .streaming ∧ q.joinReady ∧ ¬ q.joined ∧ q.joinAt ≤ start then t.joinPort k else t) s

theorem State.portsJoined_spec (start : Nat) :
    (s.portsJoined start).head.timing = s.head.timing ∧ ChangesOnly frameParts s (s.portsJoined start) := by
  refine ⟨foldl_keeps (fun t : State => t.head.timing) (fun t k _ => ?_) s, ChangesOnly.foldl (fun t k => ?_) allCams s⟩
  · dsimp only
    split
    · exact (t.joinPort_spec k).1
    · rfl
  · exact ChangesOnly.ite (t.joinPort_spec k).2 (.refl _ t)

/-- The head as it counts a frame, with nothing brought to it yet (R389, R428). -/
def Head.counted (h : Head) : Head := { h with counter := h.counter + 1, segs := [], lineIn := [] }

/-- No context has completed a frame since this one (R427). -/
def Kiln.framesSeen (k : Kiln) : Kiln :=
  { k with ctx := Vector.ofFn fun (c : Ctx) => { k.ctx[c] with doneNew := false } }

/-- The state with a frame counted, before its packets. -/
def State.frameCounted (s : State) : State :=
  { s.feedRestarted with head := s.head.counted, kiln := s.kiln.framesSeen }

theorem State.frameCounted_changes : ChangesOnly frameParts s s.frameCounted := by
  have hhead := changes_head s.feedRestarted s.head.counted
  have hkiln := changes_kiln { s.feedRestarted with head := s.head.counted } s.kiln.framesSeen
  exact ((s.feedRestarted_changes.join hhead).join hkiln).mono (by decide)

theorem State.frameCounted_timing {s : State} {on inFrame : Bool} {start : Nat} {n : BitVec 32}
    (h : s.head.timing = (on, inFrame, start, n)) : s.frameCounted.head.timing = (on, inFrame, start, n + 1) := by
  simp only [Head.timing, Prod.mk.injEq] at h
  obtain ⟨rfl, rfl, rfl, rfl⟩ := h
  rfl

/-- What an output frame that starts leaves: the head transmits since the start, and counts the frames of a head mode. -/
structure OutputStarted (s t : State) : Prop where
  timing : t.head.timing = (true, decide (t.hmode ≠ .off), s.frameStart,
    if t.hmode = .off then s.head.counter else s.head.counter + 1)
  rest : ChangesOnly (outputBeadParts ++ frameParts) s t

/-- After the changes at the boundary the frame itself leaves the beads, and with them the head mode. -/
theorem OutputStarted.of_frame {s u t : State} (h : ChangesOnly outputBeadParts s u) (k : ChangesOnly frameParts u t)
    (ht : t.head.timing = (true, decide (u.hmode ≠ .off), s.frameStart,
      if u.hmode = .off then u.head.counter else u.head.counter + 1)) : OutputStarted s t := by
  have hhead : u.head = s.head := h .head (by decide)
  have hbead : t.bead = u.bead := k .beads (by decide)
  have hmode : t.hmode = u.hmode := by simp only [State.hmode, State.eff, hbead]
  exact ⟨by rw [ht, hmode, hhead], h.join k⟩

theorem exec_outputFrameStart {s : State} (hdue : s.frameDue = true) :
    ∃ t, exec .outputFrameStart s = .next t ∧ OutputStarted s t := by
  refine ⟨_, occurs_of hdue, ?_⟩
  extract_lets start s1 _ s2 s3 _ _ _ _ _ _ s4 _ _ _ _ _ s5 _
  have h1 : ChangesOnly outputBeadParts s s1 :=
    ((s.boundary_changes _).mono (by decide)).trans (State.takeOutputBeads_changes _)
  split
  case isTrue hoff =>
    refine .of_frame h1 ((changes_head s1 _).mono (by decide)) ?_
    rw [if_pos hoff, hoff]
    rfl
  case isFalse hon =>
    have h2 : ChangesOnly frameParts s1 s2 := (changes_head s1 _).mono (by decide)
    obtain ⟨hjoined, h3⟩ : s3.head.timing = s2.head.timing ∧ ChangesOnly frameParts s2 s3 := s2.portsJoined_spec start
    clear_value s3
    have hcounted : s4 = s3.frameCounted := rfl
    clear_value s4
    have h14 : ChangesOnly frameParts s1 s4 := hcounted ▸ (h2.trans h3).trans s3.frameCounted_changes
    have ht : s4.head.timing = (true, decide (s1.hmode ≠ .off), start,
        if s1.hmode = .off then s1.head.counter else s1.head.counter + 1) := by
      rw [if_neg hon, decide_eq_true hon, hcounted]
      exact State.frameCounted_timing hjoined
    split
    · exact .of_frame h1 (h14.trans ((changes_head_twin s4 _ _).mono (by decide))) ht
    · obtain ⟨hrecords, h5⟩ : s5.head.timing = s4.head.timing ∧ ChangesOnly frameParts s4 s5 := s4.takeRecords_spec
      clear_value s5
      exact .of_frame h1 ((h14.trans h5).trans ((changes_head s5 _).mono (by decide))) (Eq.trans hrecords ht)

end frameStart
end Sys2Proof.Machine

namespace Sys2Proof.Machine

/-! An underrun of the head output (R430). -/

section underrun
variable (s : State)

theorem State.draw_lt {n : Nat} (h : 0 < n) : (s.draw n).1 < n := Nat.mod_lt _ h

theorem getD_mem {α : Type} {l : List α} {i : Nat} (h : i < l.length) (a : α) : l.getD i a ∈ l := by
  rw [List.getD_eq_getElem _ _ h]
  exact List.getElem_mem h

/-- The head with a packet of its frame cut after some of its bytes, and what the feed had still to bring to it given up. -/
def Head.underrun (h : Head) (f : HeadFrame) (n sent : Nat) : Head :=
  { h with
    underruns := h.underruns + 1, underrunPrev := true
    segs := h.segs.filter fun g => decide (n < g.packet), lineIn := []
    last := some { f with packets := f.packets.modify n fun p => p.padded sent } }

/-- The state at an underrun before its entry: two values drawn, the packet cut, the head feed at a line start. -/
def State.packetCut (s : State) (f : HeadFrame) (n sent : Nat) : State :=
  ({ s with draws := s.draws + 2, head := s.head.underrun f n sent } : State).feedRestarted

theorem State.packetCut_changes (f : HeadFrame) (n sent : Nat) :
    ChangesOnly [.head, .movers, .draws] s (s.packetCut f n sent) := by
  refine ChangesOnly.trans ?_ ((State.feedRestarted_changes _).mono (by decide))
  intro q hq
  cases q <;> simp_all [Part.same, Tal.restSame]

theorem exec_headUnderrun {s : State} {vc : Fin 16} {f : HeadFrame} (hlast : s.head.last = some f)
    (hin : s.head.inFrame = true) (hdrives : s.drives = true) (hvc : f.onVc vc.val ≠ []) :
    ∃ n ∈ f.onVc vc.val, ∃ sent, exec (.headUnderrun vc) s = .next ((s.packetCut f n sent).journal 0x90 vc.val) := by
  have hpos : 0 < (f.onVc vc.val).length := List.length_pos_iff.mpr hvc
  have hready : (s.head.inFrame && s.drives && !(f.onVc vc.val).isEmpty) = true := by
    rw [hin, hdrives, List.isEmpty_eq_false_iff.mpr hvc]
    rfl
  refine ⟨_, getD_mem (s.draw_lt hpos) 0, ((s.draw (f.onVc vc.val).length).2.draw 65536).1, ?_⟩
  show execHeadUnderrun vc s = _
  unfold execHeadUnderrun
  rw [hlast]
  exact occurs_of hready

theorem State.packetCut_journal_head (f : HeadFrame) (n sent code data : Nat) :
    ((s.packetCut f n sent).journal code data).head = s.head.underrun f n sent := (State.journal_book _ code data).head

theorem State.packetCut_logs {s : State} {code : Nat} (h : s.takesEntry code) (f : HeadFrame) (n sent data : Nat) :
    LogsEntry s ((s.packetCut f n sent).journal code data) code data := by
  have hcut := s.packetCut_changes f n sent
  have htakes := (hcut.takesEntry (by decide) (by decide) code).mpr h
  exact (State.journal_logs htakes data).within hcut (.refl [] _) (by decide) (by decide)

end underrun
end Sys2Proof.Machine

namespace Sys2Proof.Machine

/-! Records of the event frame, snapshots of the tallies, and tiles (R435, R438, R495). -/

section records
variable {s : State}

theorem exec_eventRecordQueue {r : HeadRec} {rest : List HeadRec} (h : s.head.offered = r :: rest) :
    exec .eventRecordQueue s = .next (if 256 ≤ s.head.records.length then
      { s with head := { s.head with
        offered := rest, dropped := s.head.dropped + 1, droppedNew := s.head.droppedNew + 1 } }
    else
      { s with head := { s.head with
        offered := rest, records := s.head.records ++ [headRecord s.head.seq r], seq := s.head.seq + 1 } }) := by
  show execEventRecordQueue s = _
  unfold execEventRecordQueue
  rw [h]

/-- Records offered in turn (R438). -/
def State.withOffers (s : State) (l : List HeadRec) : State :=
  { s with head := { s.head with offered := s.head.offered ++ l } }

theorem State.withOffers_append (s : State) (l m : List HeadRec) : (s.withOffers l).withOffers m = s.withOffers (l ++ m) := by
  simp only [State.withOffers, List.append_assoc]

/-- Outside Bedrock every record offered is kept (R439). -/
theorem foldl_offerRecord {α : Type} (f : α → HeadRec) (l : List α) (h : s.inBedrock = false) :
    l.foldl (fun t x => t.offerRecord (f x)) s = s.withOffers (l.map f) := by
  induction l generalizing s with
  | nil => rw [List.map_nil, List.foldl_nil, State.withOffers, List.append_nil]
  | cons x l ih =>
    have hoffer : s.offerRecord (f x) = s.withOffers [f x] := if_neg (by rw [h]; decide)
    have hrest := ih (s := s.withOffers [f x]) h
    rw [List.foldl_cons, hoffer, hrest, s.withOffers_append, List.map_cons, List.singleton_append]

/-- The record of a changed tally (Table 10.8, type 3). -/
def State.tallyRecord (s : State) (x : Nat × Nat × BitVec 64) : HeadRec :=
  { kind := 3, src := s.fab.addr, content := tallyContent x.1 x.2.1 x.2.2 }

/-- A state whose head has noted the tallies of another as its snapshot, and when the next one is due (R438). -/
def State.snapshotNoted (t s : State) : State :=
  { t with head := { t.head with
    snapNext := s.head.snapNext + 60 * tps, snapDev := s.tal.dev, snapPath := s.pathCounts } }

theorem exec_tallySnapshot (hmode : s.dev.mode = .sand) (hdue : s.head.snapNext ≤ s.now) :
    exec .tallySnapshot s = .next ((s.withOffers
      ((s.changedTallies s.head.snapDev s.head.snapPath).map s.tallyRecord)).snapshotNoted s) := by
  have hbedrock : s.inBedrock = false := by rw [State.inBedrock, hmode]; rfl
  have hready : (decide (s.dev.mode = .sand) && decide (s.head.snapNext ≤ s.now)) = true := by
    rw [decide_eq_true hmode, decide_eq_true hdue]
    rfl
  have hoffered := foldl_offerRecord s.tallyRecord (s.changedTallies s.head.snapDev s.head.snapPath) hbedrock
  exact (occurs_of hready).trans (congrArg (fun t : State => (.next (t.snapshotNoted s) : Out)) hoffered)

theorem exec_tileHoldTimeout {k : CamPort} (hmode : s.dev.mode = .sand) (hheld : (s.head.tile[k]).held = false)
    (hstale : (s.head.tile[k]).freshAt + s.holdLimit < s.now) :
    exec (.tileHoldTimeout k) s = .next { s with head := { s.head with
      tile := s.head.tile.set k { s.head.tile[k] with held := true } } } :=
  occurs_of (by rw [decide_eq_true hmode, hheld, decide_eq_true hstale]; rfl)

/-- The tick up to which an image that was complete at a tick can be sent: two output periods later (R495). -/
def State.imageLimit (s : State) (d : Nat) : Nat := d + cdiv (2 * framePeriodNs s.rateIdx * 32768) 1000000000

variable {i : TileImage} {rest : List TileImage} {d : Nat}

theorem exec_tileImageOutput_sent (himages : s.head.images = i :: rest) (hdone : i.doneAt = some d)
    (hnow : s.now ≤ s.imageLimit d) (hon : s.head.on = true) (hin : s.head.inFrame = true) (hdrives : s.drives = true)
    (hcarries : s.carries 14 = true) :
    exec .tileImageOutput s = .next { s with head := { s.head with
      images := rest, imageOut := some (i.packets i.header (frameNumber (s.head.counter - 1))) } } := by
  have hready : (s.head.on && s.head.inFrame && s.drives && s.carries 14) = true := by
    rw [hon, hin, hdrives, hcarries]
    rfl
  show execTileImageOutput s = _
  unfold execTileImageOutput
  rw [himages, List.find?_cons_of_pos (by rw [hdone]; rfl)]
  dsimp only
  rw [hdone, List.erase_cons_head]
  exact (if_neg fun hlate => absurd (of_decide_eq_true hlate) (Nat.not_lt.mpr hnow)).trans (occurs_of hready)

/-- The head with its oldest image dropped. -/
def State.oldestDropped (s : State) (rest : List TileImage) : State :=
  { s with head := { s.head with images := rest, imageDrops := s.head.imageDrops + 1 } }

theorem exec_tileImageOutput_late (himages : s.head.images = i :: rest) (hdone : i.doneAt = some d)
    (hnow : s.imageLimit d < s.now) :
    exec .tileImageOutput s = .next ((s.oldestDropped rest).journal 0x4E (4096 * (i.ctx % 16) + 1)) := by
  show execTileImageOutput s = _
  unfold execTileImageOutput
  rw [himages, List.find?_cons_of_pos (by rw [hdone]; rfl)]
  dsimp only
  rw [hdone, List.erase_cons_head]
  exact if_pos (decide_eq_true hnow)

end records

/-- Settles O35: a frame that starts by what its boundary, its ports and its records leave of the head; an underrun by the
packet cut; records, snapshots and tiles by what each command makes of the head. -/
theorem headOutput : Obligations.HeadOutput := by
  refine ⟨?_, ?_, ?_, ?_, ?_, ?_, ?_⟩
  · intro s hdue
    obtain ⟨t, hexec, htiming, hrest⟩ := exec_outputFrameStart hdue
    simp only [Head.timing, Prod.mk.injEq] at htiming
    obtain ⟨hon, hin, hat, hcount⟩ := htiming
    exact ⟨t, hexec, hon, hat, hin, hcount, hrest .pending (by decide), hrest .sounding (by decide),
      hrest .store (by decide), hrest .pathTallies (by decide), hrest .monitor (by decide)⟩
  · intro s vc f hlast hin hdrives hvc
    obtain ⟨n, hn, sent, hexec⟩ := exec_headUnderrun hlast hin hdrives hvc
    refine ⟨_, hexec, ?_⟩
    rw [s.packetCut_journal_head f n sent]
    exact ⟨rfl, rfl, rfl, ⟨n, hn, sent, rfl⟩, fun htakes => State.packetCut_logs htakes f n sent vc.val,
      (s.packetCut_changes f n sent).then_journal (by decide) _ _⟩
  · intro s r rest hoffered
    rw [exec_eventRecordQueue hoffered]
    exact ⟨fun hfull => by rw [if_pos hfull], fun hroom => by rw [if_neg (Nat.not_le.mpr hroom)]⟩
  · intro s hmode hdue
    refine ⟨_, exec_tallySnapshot hmode hdue, rfl, rfl, fun p => ?_, ?_, changes_head s _⟩
    · exact Vector.getElem_ofFn _
    · exact List.length_append.trans (congrArg _ (List.length_map _))
  · exact fun s k hmode hheld hstale => exec_tileHoldTimeout hmode hheld hstale
  · exact fun s i rest d himages hdone hnow hon hin hdrives hcarries =>
      ⟨_, exec_tileImageOutput_sent himages hdone hnow hon hin hdrives hcarries, rfl, rfl, changes_head s _⟩
  · intro s i rest d himages hdone hnow
    refine ⟨_, exec_tileImageOutput_late himages hdone hnow, ?_⟩
    rw [(State.journal_book (s.oldestDropped rest) _ _).head]
    exact ⟨rfl, rfl, rfl, (changes_head s _ : ChangesOnly [.head] s (s.oldestDropped rest)).then_journal (by decide) _ _⟩

end Sys2Proof.Machine

namespace Sys2Proof.Machine

/-! What entries and frames leave of a Speica port, and what the loss of a link leaves of it (R456, R478, R509, R559). -/

namespace FPort.Queued
variable {a b : FPort}

theorem link (h : a.Queued b) : b.link = a.link := by rw [h]
theorem established (h : a.Queued b) : b.established = a.established := by rw [h]

end FPort.Queued

/-- A port whose link has gone away at a tick: of its frames it keeps those sent, the latest at the tick given. -/
def FPort.lost (q : FPort) (l : LinkState) (now : Nat) (w : List (List Byte)) (n : Nat) : FPort :=
  { q.unlink l with retrainAt := now + msTicks 100, wire := w, frameAt := n }

theorem FPort.Queued.lost {a b : FPort} (h : a.Queued b) (l : LinkState) (now : Nat) (w : List (List Byte)) (n : Nat) :
    b.lost l now w n = a.lost l now w n := by rw [h]; rfl

section links
variable (s : State) (p : FabPort)

theorem State.updPort_congr {s : State} {p : FabPort} {f g : FPort → FPort} (h : f s.fab.port[p] = g s.fab.port[p]) :
    s.updPort p f = s.updPort p g := by
  unfold State.updPort; rw [h]

theorem State.updPort_updPort (f g : FPort → FPort) : (s.updPort p f).updPort p g = s.updPort p fun q => g (f q) := by
  have hself := s.updPort_self p f
  have hport : (s.updPort p f).fab.port = s.fab.port.set p (f s.fab.port[p]) := rfl
  rw [State.updPort, hself, hport, Vector.set_set]; rfl

theorem State.journal_now (code data : Nat) : (s.journal code data).now = s.now := (s.journal_book code data).now

/-- Without a twin role an entry stays in the device (R562). -/
theorem State.journal_fab_of_alone (h : s.trole = .none) (code data : Nat) : (s.journal code data).fab = s.fab :=
  s.journal_changes code data .fabric (by rw [State.journalling, if_pos h]; decide)

/-- While the mirror is down an entry stays in the device (R559). -/
theorem State.journal_fab_of_mirrorDown (h : s.twin.mirror = .down) (code data : Nat) : (s.journal code data).fab = s.fab := by
  obtain ⟨t, ht, hj | ⟨k, l, hj⟩⟩ := s.journal_entered code data
  · rw [hj, ht.fab]
  · obtain ⟨own, htwin⟩ := ht.twin
    have hdown : t.twin.mirror = .down := by rw [htwin]; exact h
    rw [hj, State.sendMirror, if_pos hdown, ht.fab]

theorem State.mirrorDown_fab : s.mirrorDown.fab = s.fab := by
  show (s.setMirror .down).fab = s.fab
  unfold State.setMirror; split
  · rfl
  · exact State.journal_fab_of_mirrorDown _ rfl _ _

/-- A port in another link state, before its entry. -/
def State.withLink (l : LinkState) : State := s.updPort p fun q => { q with link := l }

theorem State.setLink_of_ne {l : LinkState} (h : (s.fab.port[p]).link ≠ l) :
    s.setLink p l = (s.withLink p l).journal 0x40 (p.val * 16384 + l.code) := if_neg h

theorem State.setLink_self (l : LinkState) :
    ({ s.fab.port[p] with link := l } : FPort).Queued ((s.setLink p l).fab.port[p]) := by
  unfold State.setLink; split
  · subst l; exact .refl _
  · have hentry := State.journal_port (s.withLink p l) 0x40 (p.val * 16384 + l.code) p
    rwa [State.withLink, State.updPort_self] at hentry

theorem State.setLink_others (h : s.trole = .none) (l : LinkState) {j : FabPort} (hj : j ≠ p) :
    (s.setLink p l).fab.port[j] = s.fab.port[j] := by
  by_cases hlink : (s.fab.port[p]).link = l
  · rw [State.setLink, if_pos hlink]
  · have halone : (s.withLink p l).trole = .none := h
    rw [s.setLink_of_ne p hlink, State.journal_fab_of_alone _ halone]
    exact s.updPort_other p _ j hj

theorem State.setLink_journalling (l : LinkState) : ChangesOnly ([.fabric] ++ s.journalling) s (s.setLink p l) := by
  unfold State.setLink; split
  · exact .refl _ s
  · exact (s.updPort_changes p _).then_journal (by decide) _ _

theorem State.lsChange_port : s.lsChange.fab.port = s.fab.port := by
  unfold State.lsChange; split <;> rfl

/-- KEY MISMATCH ends with the link (Table 12.7). -/
def State.mismatchEnded : State := if (s.fab.port[p]).trust = .keyMismatch then s.journal 0x53 (p.val * 16384) else s

theorem State.mismatchEnded_port : (s.fab.port[p]).Queued ((s.mismatchEnded p).fab.port[p]) := by
  unfold State.mismatchEnded; split
  · exact s.journal_port _ _ p
  · exact .refl _

/-- Behind the port that loses its link, its pinned flows, the mirror and the link-state follow, and no port. -/
theorem State.portDown_port (l : LinkState) : (s.portDown p l).fab.port = (((s.mismatchEnded p).setLink p l).updPort p
    fun q => { q.unlink l with retrainAt := s.now + msTicks 100 }).fab.port := by
  have hmirror (u : State) : (if s.portRole p = .twin then u.mirrorDown else u).fab.port = u.fab.port := by
    split
    · rw [State.mirrorDown_fab]
    · rfl
  have hlinkState (u : State) : (if s.portRole p = .trunk then u.lsChange else u).fab.port = u.fab.port := by
    split
    · exact u.lsChange_port
    · rfl
  exact (hlinkState _).trans (hmirror _)

theorem State.portDown_self (l : LinkState) :
    ∃ w n, (s.portDown p l).fab.port[p] = (s.fab.port[p]).lost l s.now w n := by
  have hset := (s.mismatchEnded p).setLink_self p l
  refine ⟨(((s.mismatchEnded p).setLink p l).fab.port[p]).wire, (((s.mismatchEnded p).setLink p l).fab.port[p]).frameAt, ?_⟩
  rw [s.portDown_port p l, State.updPort_self]
  exact (hset.lost l s.now _ _).trans ((s.mismatchEnded_port p).lost l s.now _ _)

/-- The same after a step that only queues frames on the port, at the same tick. -/
theorem State.portDown_after {s u : State} (p : FabPort) (l : LinkState) (hq : (s.fab.port[p]).Queued (u.fab.port[p]))
    (hnow : u.now = s.now) : ∃ w n, (u.portDown p l).fab.port[p] = (s.fab.port[p]).lost l s.now w n := by
  obtain ⟨w, n, hdown⟩ := u.portDown_self p l
  exact ⟨w, n, by rw [hdown, hnow, hq.lost l]⟩

theorem State.portDown_journalling (l : LinkState) :
    ChangesOnly ([.fabric, .twin] ++ s.journalling) s (s.portDown p l) :=
  (s.portDown_changes p l).mono (by unfold State.journalling; split <;> decide)

theorem State.journal_portDown_changes (l : LinkState) (code data : Nat) :
    ChangesOnly ([.fabric, .twin] ++ s.journalling) s ((s.journal code data).portDown p l) :=
  ChangesOnly.then_journalling (by decide) ((s.journal_changes code data).mono (List.subset_append_right _ _))
    (State.portDown_journalling _ p l)

theorem State.leaveEmber_of_ne (h : (s.fab.port[p]).link ≠ .ember) : s.leaveEmber p = s := if_neg h

theorem State.leaveEmber_changes : ChangesOnly s.journalling s (s.leaveEmber p) := by
  unfold State.leaveEmber; split
  · exact s.journal_changes _ _
  · exact .refl _ s

theorem State.leaveEmber_port (j : FabPort) : (s.fab.port[j]).Queued ((s.leaveEmber p).fab.port[j]) := by
  unfold State.leaveEmber; split
  · exact s.journal_port _ _ j
  · exact .refl _

theorem State.leaveEmber_now : (s.leaveEmber p).now = s.now := by
  unfold State.leaveEmber; split
  · exact s.journal_now _ _
  · rfl

theorem State.leaveEmber_fab_of_alone (h : s.trole = .none) : (s.leaveEmber p).fab = s.fab := by
  unfold State.leaveEmber; split
  · exact s.journal_fab_of_alone h _ _
  · rfl

end links
end Sys2Proof.Machine

namespace Sys2Proof.Machine

/-! A port that goes ACTIVE, and its session (§11.3; R454, R467, R472, R522, R529). -/

/-- Between two states of a port only a session setup began. -/
def FPort.SetUp (a b : FPort) : Prop :=
  b = { a with
    trust := b.trust, nonce := b.nonce, partnerNonce := b.partnerNonce, setupAt := b.setupAt, helloNext := b.helloNext
    badHello := b.badHello, noCmac := b.noCmac }

theorem FPort.SetUp.refl (a : FPort) : a.SetUp a := rfl

/-- A port that has become ACTIVE, before its session. -/
def FPort.activated (q : FPort) (now : Nat) : FPort := { q with
  credits := Vector.replicate 2 0, granted := ringCredits, frameAt := now, beaconAt := now, beaconNext := now, toneAt := none
  emberSent := false, ivAt := now, ivBase := q.cnt, bucket := fullBuckets, bucketAt := now
  trainRun := if q.key.isSome then q.trainRun else 0 }

section active
variable (s : State) (p : FabPort)

theorem State.beginSetup_spec : ChangesOnly [.fabric, .draws] s (s.beginSetup p) ∧
    (s.fab.port[p]).SetUp ((s.beginSetup p).fab.port[p]) ∧
    ∀ j, j ≠ p → (s.beginSetup p).fab.port[j] = s.fab.port[j] := by
  unfold State.beginSetup
  extract_lets q d
  have hdraws : ChangesOnly [.draws] s d.2 := by
    unfold d; split
    · exact .refl _ s
    · exact s.drawBytes_changes 16
  have hfab : d.2.fab = s.fab := hdraws .fabric (by decide)
  refine ⟨(hdraws.mono (by decide)).trans ((d.2.updPort_changes p _).mono (by decide)), ?_, fun j hj => ?_⟩
  · rw [State.updPort_self, hfab]; rfl
  · rw [State.updPort_other _ _ _ _ hj, hfab]

/-- The device with a port that has become ACTIVE, before its session and the link-state. -/
def State.activated : State := (s.setLink p .active).updPort p fun q => q.activated s.now

theorem State.activated_self :
    ∃ a, ({ s.fab.port[p] with link := .active } : FPort).Queued a ∧ (s.activated p).fab.port[p] = a.activated s.now :=
  ⟨_, s.setLink_self p .active, State.updPort_self _ _ _⟩

theorem State.activated_changes : ChangesOnly ([.fabric] ++ s.journalling) s (s.activated p) :=
  (s.setLink_journalling p .active).more (State.updPort_changes _ p _) (by decide)

/-- A session setup begun at a port with a key record that has no session and was not left unpaired (R522, R526). -/
def State.sessionBegun : State :=
  if (s.fab.port[p]).key.isSome && !(s.fab.port[p]).established && (s.fab.port[p]).trust != .unpaired &&
    (s.fab.port[p]).trust != .keyMismatch then s.beginSetup p else s

theorem State.sessionBegun_spec : ChangesOnly [.fabric, .draws] s (s.sessionBegun p) ∧
    (s.fab.port[p]).SetUp ((s.sessionBegun p).fab.port[p]) ∧
    ∀ j, j ≠ p → (s.sessionBegun p).fab.port[j] = s.fab.port[j] := by
  unfold State.sessionBegun; split
  · exact s.beginSetup_spec p
  · exact ⟨.refl _ s, .refl _, fun _ _ => rfl⟩

theorem State.sessionBegun_of_no_key (h : (s.fab.port[p]).key = none) : s.sessionBegun p = s :=
  if_neg (by rw [h]; exact Bool.false_ne_true)

/-- After the session the fabric takes note of a trunk port that is up, and no port changes. -/
theorem State.goActive_after : ChangesOnly [.fabric] ((s.activated p).sessionBegun p) (s.goActive p) ∧
    (s.goActive p).fab.port = ((s.activated p).sessionBegun p).fab.port := by
  have hnoted (u : State) (c : Prop) [Decidable c] (d : Option Nat) :
      ChangesOnly [.fabric] u (if c then { u with fab := { u.fab with trunkUp := true, discoverAt := d } } else u) ∧
        (if c then { u with fab := { u.fab with trunkUp := true, discoverAt := d } } else u).fab.port = u.fab.port := by
    split
    · exact ⟨changes_fab u _, rfl⟩
    · exact ⟨.refl _ u, rfl⟩
  have hlinkState (u : State) : ChangesOnly [.fabric] u (if s.portRole p = .trunk then u.lsChange else u) ∧
      (if s.portRole p = .trunk then u.lsChange else u).fab.port = u.fab.port := by
    split
    · exact ⟨u.lsChange_changes, u.lsChange_port⟩
    · exact ⟨.refl _ u, rfl⟩
  exact ⟨(hnoted _ _ _).1.trans (hlinkState _).1, (hlinkState _).2.trans (hnoted _ _ _).2⟩

end active
end Sys2Proof.Machine

namespace Sys2Proof.Machine

/-! Training of a Speica link, its failure and its loss, and ember idle (§11.3, §11.4; R454 to R460). -/

section training
variable {s : State} {p : FabPort}

theorem exec_linkTraining {r : BitVec 2} (hon : s.serdesOn = true) (hrole : s.portRole p ≠ .off)
    (hfault : s.dev.serdesFault[p] = false) (hmay : (s.fab.port[p]).mayTrain s.now = true) :
    exec (.linkTraining p r) s = .next (if r.toNat = (s.portRole p).code then (s.leaveEmber p).goActive p
      else (((s.leaveEmber p).journal 0x42 (p.val * 16384 + r.toNat * 4 + (s.portRole p).code)).portDown p .down).updPort p
        fun q => { q with retrainAt := s.now + tps, trainAt := 0 }) := by
  have hready : (s.serdesOn && decide (s.portRole p ≠ .off) && !s.dev.serdesFault[p] &&
      (s.fab.port[p]).mayTrain s.now) = true := by
    rw [hon, decide_eq_true hrole, hfault, hmay]; rfl
  exact occurs_of hready

theorem exec_linkTraining_late {r : BitVec 2} (hlink : (s.fab.port[p]).link = .training)
    (hlate : (s.fab.port[p]).trainAt + 328 ≤ s.now) : exec (.linkTraining p r) s = .next s := by
  have hmay : (s.fab.port[p]).mayTrain s.now = false := by
    rw [FPort.mayTrain, hlink]
    exact decide_eq_false (Nat.not_lt.mpr hlate)
  exact occurs_of_not (by rw [hmay, Bool.and_false])

theorem FPort.mayTrain_link {q : FPort} {now : Nat} (h : q.mayTrain now = true) : q.link ≠ .active := by
  intro hlink
  rw [FPort.mayTrain, hlink] at h
  exact Bool.false_ne_true h

variable (s p)

theorem State.goActive_port : ((s.goActive p).fab.port[p]).link = .active ∧
    ((s.goActive p).fab.port[p]).granted = ringCredits ∧
    ((s.fab.port[p]).key = none → ((s.goActive p).fab.port[p]).credits = Vector.replicate 2 0 ∧
      ((s.goActive p).fab.port[p]).bucket = fullBuckets ∧ ((s.goActive p).fab.port[p]).beaconNext = s.now) := by
  obtain ⟨-, hsession, -⟩ := (s.activated p).sessionBegun_spec p
  obtain ⟨a, hqueued, hactive⟩ := s.activated_self p
  have hlink : (a.activated s.now).link = .active := hqueued.link
  have hkey : (a.activated s.now).key = (s.fab.port[p]).key := hqueued.key
  rw [(s.goActive_after p).2]
  refine ⟨?_, ?_, fun h => ?_⟩
  · rw [hsession, hactive]; exact hlink
  · rw [hsession, hactive]; rfl
  · rw [State.sessionBegun_of_no_key _ p (by rw [hactive, hkey, h]), hactive]
    exact ⟨rfl, rfl, rfl⟩

theorem State.goActive_others (h : s.trole = .none) {j : FabPort} (hj : j ≠ p) :
    (s.goActive p).fab.port[j] = s.fab.port[j] := by
  obtain ⟨-, -, hothers⟩ := (s.activated p).sessionBegun_spec p
  rw [(s.goActive_after p).2, hothers j hj, State.activated, State.updPort_other _ _ _ _ hj, s.setLink_others p h _ hj]

theorem State.goActive_changes : ChangesOnly [.fabric, .draws] (s.activated p) (s.goActive p) :=
  ((s.activated p).sessionBegun_spec p).1.trans ((s.goActive_after p).1.mono (by decide))

/-- A link that becomes ACTIVE is journalled as LINK (R504). -/
theorem State.goActive_logs (hlink : (s.fab.port[p]).link ≠ .active) (htakes : s.takesEntry 0x40) :
    LogsEntry s (s.goActive p) 0x40 (p.val * 16384 + LinkState.active.code) := by
  have hafter := s.goActive_changes p
  rw [State.activated, s.setLink_of_ne p hlink] at hafter
  have hbefore : ChangesOnly [.fabric, .draws] s (s.withLink p .active) := (s.updPort_changes p _).mono (by decide)
  have hset := (State.updPort_changes ((s.withLink p .active).journal 0x40 (p.val * 16384 + LinkState.active.code)) p
    fun q => q.activated s.now).mono (show [.fabric] ⊆ [Part.fabric, .draws] by decide)
  exact (hbefore.entry (hset.trans hafter) (by decide) (by decide)).1 htakes

theorem State.goActive_journalling : ChangesOnly ([.fabric, .draws] ++ s.journalling) s (s.goActive p) :=
  ((s.activated_changes p).widen (by decide)).more (s.goActive_changes p) (by decide)

/-- A link that leaves ember idle goes on with what is given: both may journal. -/
theorem State.leaveEmber_then {ps : List Part} {t : State} (hb : Part.beads ∉ ps)
    (h : ChangesOnly (ps ++ (s.leaveEmber p).journalling) (s.leaveEmber p) t) : ChangesOnly (ps ++ s.journalling) s t :=
  ChangesOnly.then_journalling hb ((s.leaveEmber_changes p).mono (List.subset_append_right _ _)) h

theorem State.leaveEmber_portDown_spec (l : LinkState) :
    (∃ w n, ((s.leaveEmber p).portDown p l).fab.port[p] = (s.fab.port[p]).lost l s.now w n) ∧
    ChangesOnly ([.fabric, .twin] ++ s.journalling) s ((s.leaveEmber p).portDown p l) :=
  ⟨State.portDown_after p l (s.leaveEmber_port p p) (s.leaveEmber_now p),
    s.leaveEmber_then p (by decide) (State.portDown_journalling _ p l)⟩

variable {s p}

theorem exec_trainingTimeout (signal : Bool) (hlink : (s.fab.port[p]).link = .training)
    (hlate : (s.fab.port[p]).trainAt + 328 ≤ s.now) :
    exec (.trainingTimeout p signal) s = .next (s.failTrain p signal) :=
  occurs_of (by rw [decide_eq_true hlink]; exact decide_eq_true hlate)

/-- A port with so many failed trainings in a row while its receiver detected signal (R455, R538). -/
def FPort.trainFailed (q : FPort) (n : Nat) : FPort := { q with
  trainRun := n, cnt := { q.cnt with trainFail := q.cnt.trainFail + 1 }
  quarPend := if 8 ≤ n then some 6 else q.quarPend }

/-- What a failed training leaves of its port: with a signal it counts (R455, R538). -/
theorem State.failTrain_spec (signal : Bool) : ((s.failTrain p signal).fab.port[p]).link = .down ∧
    ((s.failTrain p signal).fab.port[p]).retrainAt = s.now + 3277 ∧
    (signal = true → ((s.failTrain p signal).fab.port[p]).trainRun = (s.fab.port[p]).trainRun + 1 ∧
      ((s.failTrain p signal).fab.port[p]).cnt.trainFail = (s.fab.port[p]).cnt.trainFail + 1 ∧
      (7 ≤ (s.fab.port[p]).trainRun → ((s.failTrain p signal).fab.port[p]).quarPend = some 6)) ∧
    ChangesOnly ([.fabric, .twin] ++ s.journalling) s (s.failTrain p signal) := by
  obtain ⟨w, n, hdown⟩ := s.portDown_self p .down
  have hchanges := s.portDown_journalling p .down
  cases signal with
  | false =>
    change ((s.portDown p .down).fab.port[p]).link = _ ∧ ((s.portDown p .down).fab.port[p]).retrainAt = _ ∧ _
    rw [hdown]
    exact ⟨rfl, rfl, nofun, hchanges⟩
  | true =>
    have hcounted : s.failTrain p true = (s.portDown p .down).updPort p fun q =>
        q.trainFailed ((s.fab.port[p]).trainRun + 1) := rfl
    rw [hcounted, State.updPort_self, hdown]
    exact ⟨rfl, rfl, fun _ => ⟨rfl, rfl, fun hrun => if_pos (Nat.succ_le_succ hrun)⟩,
      hchanges.more (State.updPort_changes _ p _) (by decide)⟩

/-- A port that begins to train. -/
def State.trainingBegun (s : State) (p : FabPort) : State :=
  (s.setLink p .training).updPort p fun q => { q with trainAt := s.now }

theorem exec_retrainTimer {signal : Bool} (hon : s.fabricOn = true) (hrole : s.portRole p ≠ .off)
    (hfault : s.dev.serdesFault[p] = false) (hlink : (s.fab.port[p]).link = .down)
    (hdue : (s.fab.port[p]).retrainAt + (if signal || (s.fab.port[p]).trainAt = 0 then 0 else 29492) ≤ s.now) :
    exec (.retrainTimer p signal) s = .next (s.trainingBegun p) := by
  have hready : (s.fabricOn && decide (s.portRole p ≠ .off) && !s.dev.serdesFault[p] &&
      decide ((s.fab.port[p]).link = .down) && decide ((s.fab.port[p]).retrainAt +
        (if signal || (s.fab.port[p]).trainAt = 0 then 0 else msTicks 900) ≤ s.now)) = true := by
    rw [hon, decide_eq_true hrole, hfault, decide_eq_true hlink]
    exact decide_eq_true hdue
  exact occurs_of hready

theorem State.trainingBegun_port : ((s.trainingBegun p).fab.port[p]).link = .training ∧
    ((s.trainingBegun p).fab.port[p]).trainAt = s.now := by
  rw [State.trainingBegun, State.updPort_self]
  exact ⟨(s.setLink_self p .training).link, rfl⟩

theorem State.trainingBegun_entry (hlink : (s.fab.port[p]).link ≠ .training) :
    (s.takesEntry 0x40 → LogsEntry s (s.trainingBegun p) 0x40 (p.val * 16384 + LinkState.training.code)) ∧
      ChangesOnly (.fabric :: s.journalling) s (s.trainingBegun p) := by
  rw [State.trainingBegun, s.setLink_of_ne p hlink]
  exact (s.updPort_changes p _).entry (State.updPort_changes _ p _) (by decide) (by decide)

theorem exec_linkDown {c : DownCause} (hlink : (s.fab.port[p]).link = .active)
    (hcause : c = .noBeacon → (s.fab.port[p]).beaconAt + 114688 ≤ s.now) :
    exec (.linkDown p c) s = .next (s.portDown p .down) := by
  refine occurs_of ?_
  rw [decide_eq_true hlink]
  cases c with
  | lossOfSignal => rfl
  | noBeacon => exact (Bool.true_and _).trans (decide_eq_true (hcause rfl))

end training

section ember
variable {s : State} {p : FabPort}

/-- A port that enters ember idle (R457). -/
def FPort.embered (q : FPort) (now : Nat) : FPort := { q with
  link := .ember, emberSent := true, pulseNext := now + tps, pulseAt := now, toneAt := none
  stallAt := Vector.replicate 2 none }

theorem exec_ember (hlink : (s.fab.port[p]).link = .active) (hmode : s.dev.mode = .loam)
    (hquiet : (s.fab.port[p]).frameAt + 6554 ≤ s.now) (hcontrol : (s.fab.port[p]).txq[(0 : Fin 2)] = [])
    (hbulk : (s.fab.port[p]).txq[(1 : Fin 2)] = []) (hcredits : 128 ≤ (s.fab.port[p]).credits[(0 : Fin 2)])
    (hbulkCredits : 896 ≤ (s.fab.port[p]).credits[(1 : Fin 2)]) :
    exec (.ember p) s = .next ((s.updPort p fun q => q.embered s.now).journal 0x41 (p.val * 16384 + 1)) := by
  have hquiet' : (s.fab.port[p]).frameAt + msTicks 200 ≤ s.now := hquiet
  refine occurs_of ?_
  rw [decide_eq_true hlink, decide_eq_true hmode, decide_eq_true hquiet', hcontrol, hbulk, decide_eq_true hcredits,
    decide_eq_true hbulkCredits]
  rfl

theorem exec_emberPulse (received : Bool) (hlink : (s.fab.port[p]).link = .ember)
    (hdue : received = false → (s.fab.port[p]).pulseNext ≤ s.now) :
    exec (.emberPulse p received) s = .next (s.updPort p fun q =>
      if received then { q with pulseAt := s.now } else { q with pulseNext := q.pulseNext + 32768 }) := by
  refine occurs_of ?_
  rw [decide_eq_true hlink]
  cases received with
  | true => rfl
  | false => exact decide_eq_true (hdue rfl)

theorem exec_emberPulseTimeout (hlink : (s.fab.port[p]).link = .ember) (hlate : (s.fab.port[p]).pulseAt + 114688 ≤ s.now) :
    exec (.emberPulseTimeout p) s = .next ((s.leaveEmber p).portDown p .down) :=
  occurs_of (by rw [decide_eq_true hlink, decide_eq_true hlate]; rfl)

/-- A port woken from ember idle, which trains (R459). -/
def State.woken (s : State) (p : FabPort) : State :=
  ((s.leaveEmber p).setLink p .training).updPort p fun q => { q with trainAt := s.now, toneAt := none }

theorem exec_wakeTone (hlink : (s.fab.port[p]).link = .ember) : exec (.wakeTone p) s = .next (s.woken p) :=
  occurs_of (decide_eq_true hlink)

theorem State.woken_port : ((s.woken p).fab.port[p]).link = .training ∧ ((s.woken p).fab.port[p]).trainAt = s.now ∧
    ((s.woken p).fab.port[p]).toneAt = none ∧ ((s.woken p).fab.port[p]).trust = (s.fab.port[p]).trust := by
  have hset := (s.leaveEmber p).setLink_self p .training
  rw [State.woken, State.updPort_self]
  exact ⟨hset.link, rfl, rfl, hset.trust.trans (s.leaveEmber_port p p).trust⟩

theorem State.woken_changes : ChangesOnly (.fabric :: s.journalling) s (s.woken p) :=
  s.leaveEmber_then p (ps := [.fabric]) (by decide)
    (((s.leaveEmber p).setLink_journalling p .training).more (State.updPort_changes _ p _) (by decide))

theorem exec_wakeToneRepeat {t0 : Nat} (hlink : (s.fab.port[p]).link = .ember) (htone : (s.fab.port[p]).toneAt = some t0)
    (hdue : t0 + 3605 ≤ s.now) :
    exec (.wakeToneRepeat p) s = .next (s.updPort p fun q => { q with toneAt := some s.now }) := by
  refine occurs_of ?_
  rw [decide_eq_true hlink, htone]
  exact decide_eq_true hdue

end ember

/-- Settles O36: a training by what becomes of its port, a loss by what `unlink` leaves, ember idle by its entries and its
timers. -/
theorem linkTrainingAndEmber : Obligations.LinkTrainingAndEmber := by
  refine ⟨?_, ?_, ?_, ?_, ?_, ?_, ?_, ?_, ?_, ?_, ?_, ?_⟩
  · intro s p r hon hrole hfault hmay hr
    have hexec := exec_linkTraining (r := r) hon hrole hfault hmay
    rw [if_pos hr] at hexec
    obtain ⟨hlink, hgranted, hfresh⟩ := (s.leaveEmber p).goActive_port p
    rw [(s.leaveEmber_port p p).key, s.leaveEmber_now p] at hfresh
    refine ⟨_, hexec, hlink, hgranted, hfresh, fun q hq halone => ?_, fun htraining htakes => ?_, ?_⟩
    · have halone' : (s.leaveEmber p).trole = .none :=
        ((s.leaveEmber_changes p).trole s.beads_not_mem_journalling).trans halone
      rw [(s.leaveEmber p).goActive_others p halone' hq, s.leaveEmber_fab_of_alone p halone]
    · rw [s.leaveEmber_of_ne p (by rw [htraining]; decide)]
      exact s.goActive_logs p (FPort.mayTrain_link hmay) htakes
    · exact s.leaveEmber_then p (by decide) (State.goActive_journalling _ p)
  · exact fun s p r hlink hlate => exec_linkTraining_late hlink hlate
  · intro s p r hon hrole hfault hmay hr
    have hexec := exec_linkTraining (r := r) hon hrole hfault hmay
    rw [if_neg hr] at hexec
    refine ⟨_, hexec, ?_, ?_, ?_⟩
    · obtain ⟨w, n, hdown⟩ := State.portDown_self
        ((s.leaveEmber p).journal 0x42 (p.val * 16384 + r.toNat * 4 + (s.portRole p).code)) p .down
      rw [State.updPort_self, hdown]; rfl
    · rw [State.updPort_self]; rfl
    · exact s.leaveEmber_then p (by decide)
        ((State.journal_portDown_changes _ p .down _ _).more (State.updPort_changes _ p _) (by decide))
  · intro s p signal hlink hlate
    exact ⟨_, exec_trainingTimeout signal hlink hlate, s.failTrain_spec signal⟩
  · intro s p signal hon hrole hfault hlink hdue
    obtain ⟨htraining, hat⟩ := State.trainingBegun_port (s := s) (p := p)
    obtain ⟨hlogs, hchanges⟩ := State.trainingBegun_entry (s := s) (p := p) (by rw [hlink]; decide)
    exact ⟨_, exec_retrainTimer hon hrole hfault hlink hdue, htraining, hat, hlogs, hchanges⟩
  · intro s p c hlink hcause
    obtain ⟨w, n, hdown⟩ := s.portDown_self p .down
    refine ⟨_, exec_linkDown hlink hcause, ?_⟩
    rw [hdown]
    exact ⟨rfl, rfl, rfl, rfl, rfl, rfl, rfl, s.portDown_journalling p .down⟩
  · intro s p hlink hmode hquiet hcontrol hbulk hcredits hbulkCredits
    have hself := State.updPort_self s p fun q => q.embered s.now
    have hentry := State.journal_port (s.updPort p fun q => q.embered s.now) 0x41 (p.val * 16384 + 1) p
    rw [hself] at hentry
    obtain ⟨hlogs, hchanges⟩ := ChangesOnly.entry (s.updPort_changes p fun q => q.embered s.now) (.refl _ _)
      (code := 0x41) (data := p.val * 16384 + 1) (by decide) (by decide)
    exact ⟨_, exec_ember hlink hmode hquiet hcontrol hbulk hcredits hbulkCredits, hentry.link, hentry.trust,
      hentry.established, hlogs, hchanges⟩
  · exact fun s p hlink hdue => exec_emberPulse false hlink fun _ => hdue
  · exact fun s p hlink => exec_emberPulse true hlink nofun
  · intro s p hlink hlate
    obtain ⟨⟨w, n, hdown⟩, hchanges⟩ := s.leaveEmber_portDown_spec p .down
    refine ⟨_, exec_emberPulseTimeout hlink hlate, ?_⟩
    rw [hdown]
    exact ⟨rfl, rfl, rfl, hchanges⟩
  · intro s p hlink
    obtain ⟨htraining, hat, htone, htrust⟩ := State.woken_port (s := s) (p := p)
    exact ⟨_, exec_wakeTone hlink, htraining, hat, htone, htrust, State.woken_changes⟩
  · exact fun s p t0 hlink htone hdue => exec_wakeToneRepeat hlink htone hdue

end Sys2Proof.Machine

namespace Sys2Proof.Machine

/-! Frames that a port sends, and the marks of its class queues (§11.5; R466 to R471). -/

namespace FPort
variable {q : FPort} {now n : Nat}

/-- The port has sent a frame at a tick, beyond so many before. -/
def Sent (q : FPort) (now n : Nat) : Prop := q.frameAt = now ∧ n < q.wire.length

theorem emit_sent (h : n ≤ q.wire.length) (f : Frame) : (q.emit now f).Sent now n := by
  unfold FPort.emit; dsimp only; split
  · split <;> exact ⟨rfl, Nat.lt_succ_of_le h⟩
  · exact ⟨rfl, Nat.lt_succ_of_le h⟩

/-- A port that has used credits of a class for a frame (R466). -/
def spent (q : FPort) (cls : Fin 2) (n : Nat) : FPort := { q with credits := q.credits.set cls (q.credits[cls] - n) }

theorem drainList_cons (cls : Fin 2) (now : Nat) (t : TxFrame) (l : List TxFrame) (q : FPort) :
    drainList cls now (t :: l) q = if q.mayLeave t.frame ∧ q.frameCredits t.frame ≤ q.credits[cls] then
      drainList cls now l ((q.spent cls (q.frameCredits t.frame)).emit now t.frame) else (q, t :: l) := rfl

theorem Sent.drainList (h : q.Sent now n) (cls : Fin 2) (l : List TxFrame) : (FPort.drainList cls now l q).1.Sent now n := by
  induction l generalizing q with
  | nil => exact h
  | cons t l ih =>
    rw [drainList_cons]; split
    · exact ih (emit_sent (q := q.spent cls (q.frameCredits t.frame)) (Nat.le_of_lt h.2) t.frame)
    · exact h

theorem drainList_head {t : TxFrame} (l : List TxFrame) {cls : Fin 2} (now : Nat) (hmay : q.mayLeave t.frame = true)
    (hcredits : q.frameCredits t.frame ≤ q.credits[cls]) : (drainList cls now (t :: l) q).1.Sent now q.wire.length := by
  rw [drainList_cons, if_pos ⟨hmay, hcredits⟩]
  exact (emit_sent (q := q.spent cls (q.frameCredits t.frame)) (Nat.le_refl _) t.frame).drainList cls l

/-- Between two states of a port only the marks of its queues changed (R470). -/
def Marked (a b : FPort) : Prop := ∃ v, b = { a with stallAt := v }

theorem Marked.trans {a b c : FPort} (h : a.Marked b) (k : b.Marked c) : a.Marked c := by
  obtain ⟨v, rfl⟩ := h
  obtain ⟨w, rfl⟩ := k
  exact ⟨w, rfl⟩

theorem markStall_marked (q : FPort) (cls : Fin 2) (now : Nat) (left : Bool) : q.Marked (q.markStall cls now left) := by
  unfold FPort.markStall
  extract_lets q1
  have hq1 : q.Marked q1 := by unfold q1; split <;> exact ⟨_, rfl⟩
  split
  · exact hq1.trans ⟨_, rfl⟩
  · split
    · exact hq1.trans ⟨_, rfl⟩
    · split
      · exact hq1
      · exact hq1.trans ⟨_, rfl⟩

theorem Sent.marked {r : FPort} (h : q.Sent now n) (hr : q.Marked r) : r.Sent now n := by
  obtain ⟨v, rfl⟩ := hr
  exact h

/-- An ACTIVE port sends the head of its control queue where it may leave and the credits allow it (R467, R469). -/
theorem drain_sent {t : TxFrame} {l : List TxFrame} (now : Nat) (hlink : q.link = .active)
    (hq : q.txq[(0 : Fin 2)] = t :: l) (hmay : q.mayLeave t.frame = true)
    (hcredits : q.frameCredits t.frame ≤ q.credits[(0 : Fin 2)]) : (q.drain now true).Sent now q.wire.length := by
  have hfirst (v : Vector (List TxFrame) 2) : ({ (drainList 0 now (t :: l) q).1 with txq := v } : FPort).Sent now
      q.wire.length := drainList_head l now hmay hcredits
  unfold FPort.drain
  rw [hlink, hq]
  refine Sent.marked (Sent.marked ?_ (markStall_marked ..)) (markStall_marked ..)
  split
  · exact (hfirst _).drainList 1 _
  · exact hfirst _

theorem drain_of_not_active (h : q.link ≠ .active) (carried : Bool) : q.drain now carried = q := by
  unfold FPort.drain; split
  · exact absurd ‹_› h
  · rfl

/-- With nothing queued only the marks of the queues change. -/
theorem drain_of_empty (h : q.txq = Vector.replicate 2 []) (now : Nat) (carried : Bool) : q.Marked (q.drain now carried) := by
  have h0 : q.txq[(0 : Fin 2)] = [] := by rw [h]; rfl
  have h1 : q.txq[(1 : Fin 2)] = [] := by rw [h]; rfl
  have hset0 : q.txq.set 0 [] = q.txq := by rw [h]; rfl
  have hset1 : q.txq.set 1 [] = q.txq := by rw [h]; rfl
  unfold FPort.drain; split
  · refine Marked.trans (Marked.trans ?_ (markStall_marked ..)) (markStall_marked ..)
    simp only [h0, drainList, List.isEmpty_nil, if_true, hset0, h1, hset1]
    exact ⟨_, rfl⟩
  · exact ⟨_, rfl⟩

end FPort

section others
variable (s : State)

/-- A frame queued on some ports leaves the others. -/
theorem State.queueOn_others (f : Frame) (b : Bool) {l : List FabPort} {j : FabPort} (hj : j ∉ l) :
    (s.queueOn f b l).fab.port[j] = s.fab.port[j] := by
  induction l generalizing s with
  | nil => rfl
  | cons p l ih =>
    refine (ih _ (List.not_mem_of_not_mem_cons hj)).trans ?_
    split
    · exact s.updPort_other p _ j (List.ne_of_not_mem_cons hj)
    · rfl

theorem State.originate_others (a b : Nat) (d c : BitVec 12) (l : List Byte) {ps : List FabPort} {j : FabPort}
    (hj : j ∉ ps) : (s.originate a b d c l ps).fab.port[j] = s.fab.port[j] := by
  have hqueued := (s.makeFrame a b d c l).2.queueOn_others (s.makeFrame a b d c l).1 false hj
  exact hqueued.trans (congrArg (·[j]) (s.nextSeq_port a b))

end others
end Sys2Proof.Machine

namespace Sys2Proof.Machine

/-! Credits, stalls, stale tiles and beacons (§11.5, §11.6; R466 to R472). -/

section credits
variable {s : State} {p : FabPort}

/-- A port with credits returned to a class (R467). -/
def FPort.credited (q : FPort) (cls : Fin 2) (n : Byte) : FPort :=
  { q with credits := q.credits.set cls (q.credits[cls] + n.toNat) }

theorem exec_creditReturn {cls : Fin 2} {n : Byte} (hlink : (s.fab.port[p]).link = .active) (hn : n ≠ 0) :
    exec (.creditReturn p cls n) s = .next (s.updPort p fun q => (q.credited cls n).drain s.now (s.txCarries p)) :=
  occurs_of (by rw [decide_eq_true hlink, decide_eq_true hn]; rfl)

/-- The waiting control frame that returned credits allow leaves at once (R467). -/
theorem FPort.credited_sent {q : FPort} {f : TxFrame} {rest : List TxFrame} {n : Byte} (now : Nat) (hlink : q.link = .active)
    (hqueue : q.txq[(0 : Fin 2)] = f :: rest) (hrekey : q.rekeying = false) (htrust : q.trust ≠ .sessionSetup)
    (hcredits : q.frameCredits f.frame ≤ q.credits[(0 : Fin 2)] + n.toNat) :
    ((q.credited 0 n).drain now true).Sent now q.wire.length := by
  have hmay : (q.credited 0 n).mayLeave f.frame = true := by
    rw [FPort.mayLeave, FPort.credited, hrekey, decide_eq_false htrust]; rfl
  have hfrom : (q.credited 0 n).credits[(0 : Fin 2)] = q.credits[(0 : Fin 2)] + n.toNat := Vector.getElem_set_self _
  exact FPort.drain_sent (q := q.credited 0 n) now hlink hqueue hmay (hfrom ▸ hcredits)

/-- A port taken down by a stall, with the stall counted (R470, Table 12.6). -/
def State.stallTaken (s : State) (p : FabPort) (c : Fin 2) (times : List Nat) : State :=
  ((s.journal 0x43 (p.val * 16384 + c.val)).portDown p .down).updPort p fun q => { q with
    stallTimes := times, cnt := { q.cnt with stalls := q.cnt.stalls + 1 }
    quarPend := if 3 ≤ times.length then some (q.quarPend.getD 5) else q.quarPend }

theorem exec_creditStall {c : Fin 2} (hstall : (s.fab.port[p]).stalled s.now = some c)
    (hlink : (s.fab.port[p]).link = .active) : exec (.creditStall p) s =
      .next (s.stallTaken p c (s.now :: recent s.now (60 * tps) (s.fab.port[p]).stallTimes)) := by
  show execCreditStall p s = _
  unfold execCreditStall
  dsimp only
  rw [hstall]
  exact occurs_of (decide_eq_true hlink)

theorem State.stallTaken_port (c : Fin 2) (times : List Nat) :
    ((s.stallTaken p c times).fab.port[p]).link = .down ∧ ((s.stallTaken p c times).fab.port[p]).stallTimes = times ∧
    ((s.stallTaken p c times).fab.port[p]).cnt.stalls = (s.fab.port[p]).cnt.stalls + 1 ∧
    ((s.stallTaken p c times).fab.port[p]).quarPend =
      if 3 ≤ times.length then some ((s.fab.port[p]).quarPend.getD 5) else (s.fab.port[p]).quarPend := by
  obtain ⟨w, n, hdown⟩ := State.portDown_after p .down (s.journal_port 0x43 (p.val * 16384 + c.val) p) (s.journal_now _ _)
  rw [State.stallTaken, State.updPort_self, hdown]
  exact ⟨rfl, rfl, rfl, rfl⟩

theorem State.stallTaken_changes (c : Fin 2) (times : List Nat) :
    ChangesOnly ([.fabric, .twin] ++ s.journalling) s (s.stallTaken p c times) :=
  (s.journal_portDown_changes p .down _ _).more (State.updPort_changes _ p _) (by decide)

/-- A port whose stale bulk frames are discarded (R471). -/
def FPort.freshened (q : FPort) (now : Nat) : FPort :=
  let l := q.txq[(1 : Fin 2)]
  let keep := l.filter fun t => !t.tooOld now
  { q with
    txq := q.txq.set 1 keep, stallAt := if (l.take 1).any fun t => t.tooOld now then q.stallAt.set 1 none else q.stallAt
    cnt := { q.cnt with tileDrop := q.cnt.tileDrop + BitVec.ofNat 32 (l.length - keep.length) } }

theorem exec_tileWaitDiscard {f : TxFrame} (hf : f ∈ (s.fab.port[p]).txq[(1 : Fin 2)]) (hold : f.tooOld s.now = true)
    (hlink : (s.fab.port[p]).link ≠ .active) :
    exec (.tileWaitDiscard p) s = .next (s.updPort p fun q => q.freshened s.now) := by
  have hwaits : (s.fab.port[p]).freshened s.now = ((s.fab.port[p]).freshened s.now).drain s.now (s.txCarries p) :=
    (FPort.drain_of_not_active (q := (s.fab.port[p]).freshened s.now) hlink _).symm
  refine (occurs_of (List.any_eq_true.mpr ⟨f, hf, hold⟩)).trans (congrArg _ ?_)
  exact State.updPort_congr hwaits.symm

theorem exec_beaconSend (hlink : (s.fab.port[p]).link = .active)
    (hcarries : (s.fab.port[p]).carries (s.portRole p) 0 0 = true) (hdue : (s.fab.port[p]).beaconNext ≤ s.now) :
    exec (.beaconSend p) s = .next ((s.originate tBeacon 0 0xFFF s.ownAddr (s.beaconPayload p) [p]).updPort p fun q =>
      { q with beaconNext := s.now + (if s.dev.mode = .sand then 3277 else 32768) }) :=
  occurs_of (by rw [decide_eq_true hlink, hcarries, decide_eq_true hdue]; rfl)

end credits

/-- Settles O37: returned credits by what the port may send with them, a stall by its count and the link that it takes down,
stale tiles by the filter of the bulk queue. -/
theorem creditsAndBeacons : Obligations.CreditsAndBeacons := by
  refine ⟨?_, ?_, ?_, ?_, ?_, ?_⟩
  · intro s p cls n hlink hn hempty
    obtain ⟨v, hdrain⟩ := FPort.drain_of_empty (q := (s.fab.port[p]).credited cls n) hempty s.now (s.txCarries p)
    refine ⟨_, exec_creditReturn hlink hn, ?_, ?_, s.updPort_other p _, s.updPort_changes p _⟩
    · rw [State.updPort_self, hdrain]; rfl
    · rw [State.updPort_self, hdrain]; rfl
  · intro s p f rest n hlink hn hqueue hrekey htrust hcarried hcredits
    have hsent := FPort.credited_sent s.now hlink hqueue hrekey htrust hcredits
    refine ⟨_, exec_creditReturn hlink hn, ?_⟩
    rw [State.updPort_self, hcarried]
    exact ⟨hsent.1, hsent.2, s.updPort_changes p _⟩
  · intro s p c hstall hlink hnone
    have hnew : recent s.now (60 * tps) [] = [] := rfl
    have hexec := exec_creditStall hstall hlink
    rw [hnone, hnew] at hexec
    obtain ⟨hdown, htimes, hcount, hquar⟩ := State.stallTaken_port (s := s) (p := p) c [s.now]
    exact ⟨_, hexec, hdown, htimes, by rw [hcount], hquar, State.stallTaken_changes c _⟩
  · intro s p c a b hstall hlink htimes ha hb
    have hrecent : recent s.now (60 * tps) [a, b] = [a, b] := by simp [recent, tps, ha, hb]
    have hexec := exec_creditStall hstall hlink
    rw [htimes, hrecent] at hexec
    obtain ⟨hdown, -, -, hquar⟩ := State.stallTaken_port (s := s) (p := p) c [s.now, a, b]
    exact ⟨_, hexec, hdown, by rw [hquar]; rfl⟩
  · intro s p f hf hold hlink
    refine ⟨_, exec_tileWaitDiscard hf hold hlink, ?_, ?_, s.updPort_other p _, s.updPort_changes p _⟩
    · rw [State.updPort_self]; exact Vector.getElem_set_self _
    · rw [State.updPort_self]; exact Vector.getElem_set_ne (by decide) (by decide) (by decide)
  · intro s p hlink hcarries hdue
    refine ⟨_, exec_beaconSend hlink hcarries hdue, ?_, fun q hq => ?_, ?_⟩
    · rw [State.updPort_self]
    · rw [State.updPort_other _ _ _ _ hq, State.originate_others _ _ _ _ _ _ (by simpa using hq)]
    · exact (State.originate_changes s _ _ _ _ _ _).trans (State.updPort_changes _ p _)

end Sys2Proof.Machine

namespace Sys2Proof.Machine

/-! What frames on their way leave of the fabric: sent, forwarded, parked and unparked (R463, R484, R486). -/

/-- Between two states of the fabric only frames were queued, sent, counted and parked. -/
def Fab.Routed (a b : Fab) : Prop :=
  b = { a with port := b.port, seqs := b.seqs, parked := b.parked, pinned := b.pinned }

namespace Fab.Routed
variable {a b c : Fab}

theorem refl (a : Fab) : a.Routed a := rfl
theorem trans (h : a.Routed b) (k : b.Routed c) : a.Routed c := by
  unfold Fab.Routed at *
  rw [k, h]

end Fab.Routed

section routed
variable (s : State)

theorem State.updPort_routed (p : FabPort) (f : FPort → FPort) : s.fab.Routed (s.updPort p f).fab := rfl

theorem State.nextSeq_routed (a b : Nat) : s.fab.Routed (s.nextSeq a b).2.fab := by
  unfold State.nextSeq; dsimp only; split <;> rfl

theorem State.queueOn_routed (f : Frame) (b : Bool) (l : List FabPort) : s.fab.Routed (s.queueOn f b l).fab := by
  induction l generalizing s with
  | nil => exact .refl _
  | cons p l ih =>
    refine Fab.Routed.trans ?_ (ih _)
    split
    · exact s.updPort_routed p _
    · exact .refl _

theorem State.originate_routed (a b : Nat) (d c : BitVec 12) (l : List Byte) (ps : List FabPort) :
    s.fab.Routed (s.originate a b d c l ps).fab := (s.nextSeq_routed a b).trans (State.queueOn_routed ..)

/-- A frame passed on loses a hop, or is counted where it has none left (R463). -/
theorem State.hop_cases (p : FabPort) (f : Frame) :
    s.hop p f = (none, s.bump p fun c => { c with hopLimit := c.hopLimit + 1 }) ∨
    s.hop p f = (some { f with hdr := { f.hdr with hop := f.hdr.hop - 1 } }, s) := by
  unfold State.hop; split
  · exact .inl rfl
  · exact .inr rfl

theorem State.bump_changes (p : FabPort) (f : Counters → Counters) : ChangesOnly [.fabric] s (s.bump p f) :=
  s.updPort_changes p _

theorem State.flood_keeps (p : FabPort) (f : Frame) :
    ChangesOnly [.fabric] s (s.flood p f) ∧ s.fab.Routed (s.flood p f).fab := by
  unfold State.flood; split
  · exact ⟨.refl _ s, .refl _⟩
  · rcases s.hop_cases p f with h | h
    · rw [h]; exact ⟨s.bump_changes p _, s.updPort_routed p _⟩
    · rw [h]; exact ⟨s.queueOn_changes _ _ _, s.queueOn_routed _ _ _⟩

theorem State.pinFlow_routed (f : Frame) (p r : FabPort) : s.fab.Routed (s.pinFlow f p r).fab := by
  unfold State.pinFlow; split
  · rfl
  · exact .refl _

theorem State.routeFrame_routed (f : Frame) (b : Bool) (r : FabPort) : s.fab.Routed (s.routeFrame f b r).fab := by
  unfold State.routeFrame; dsimp only; split
  · rfl
  · exact (s.queueOn_routed f b _).trans (State.pinFlow_routed _ f _ r)

theorem State.unparkFrame_routed (f : Frame) : s.fab.Routed (s.unparkFrame f).fab := by
  unfold State.unparkFrame; split
  · split
    · exact s.routeFrame_routed f true _
    · exact .refl _
  · exact .refl _

theorem State.unpark_routed : s.fab.Routed s.unpark.fab := by
  have hloop (l : List Frame) (t : State) : t.fab.Routed (l.foldl State.unparkFrame t).fab := by
    induction l generalizing t with
    | nil => exact .refl _
    | cons f l ih => exact (t.unparkFrame_routed f).trans (ih _)
  have hempty : s.fab.Routed ({ s with fab := { s.fab with parked := [] } } : State).fab := rfl
  exact hempty.trans (hloop s.fab.parked _)

/-- With no frame parked nothing is sent. -/
theorem State.unpark_of_none (h : s.fab.parked = []) : s.unpark = s := by
  rw [State.unpark_eq, h]
  show ({ s with fab := { s.fab with parked := [] } } : State) = s
  rw [← h]

end routed
end Sys2Proof.Machine

namespace Sys2Proof.Machine

/-! The checks of a received frame, and what each type does (§11.5, §12.1, §12.4; R464, R506, R528, R529). -/

section checks
variable (s : State) (p : FabPort)

theorem State.errorSeen_changes : ChangesOnly [.fabric] s (s.errorSeen p) := s.updPort_changes p _

theorem State.discard_changes (b : Bool) (g : Counters → Counters) : ChangesOnly [.fabric] s (s.discard p b g).2 := by
  unfold State.discard; dsimp only; split
  · exact (s.bump_changes p g).trans (State.errorSeen_changes _ p)
  · exact s.bump_changes p g

theorem State.errorSeen_eq : ∃ m n, s.errorSeen p = s.updPort p fun q => { q with cleanAt := m, cleanCount := n } := by
  unfold State.errorSeen State.updPort
  dsimp only
  split <;> exact ⟨_, _, rfl⟩

/-- A port at which a frame was discarded and counted; probation counts anew (R464, R537). -/
def FPort.discarded (q : FPort) (g : Counters → Counters) (m n : Nat) : FPort :=
  { q with cnt := g q.cnt, cleanAt := m, cleanCount := n }

theorem State.discard_eq (b : Bool) (g : Counters → Counters) :
    ∃ m n, s.discard p b g = (none, s.updPort p fun q => q.discarded g m n) := by
  cases b with
  | false =>
    have hbump : s.bump p g = s.updPort p fun q =>
        q.discarded g (s.fab.port[p]).cleanAt (s.fab.port[p]).cleanCount := State.updPort_congr rfl
    exact ⟨_, _, congrArg (Prod.mk none) hbump⟩
  | true =>
    obtain ⟨m, n, hseen⟩ := (s.bump p g).errorSeen_eq p
    exact ⟨m, n, congrArg (Prod.mk none) (hseen.trans (s.updPort_updPort p _ _))⟩

theorem State.replayEntry_changes : ChangesOnly ([.fabric] ++ s.journalling) s (s.replayEntry p) := by
  unfold State.replayEntry; split
  · exact (s.updPort_changes p _).then_journal (by decide) _ _
  · exact .refl _ s

theorem State.checkMac_changes (f : Frame) (body mac : List Byte) :
    ChangesOnly ([.fabric] ++ s.journalling) s (s.checkMac p f body mac).2 := by
  unfold State.checkMac; dsimp only; split
  · split
    · exact (s.updPort_changes p _).with_journal
    · exact ((s.updPort_changes p _).trans (State.discard_changes _ p _ _)).with_journal
  · split
    · exact (s.updPort_changes p _).with_journal
    · split
      · exact (ChangesOnly.then_journalling (by decide) (s.updPort_changes p _).with_journal
          (State.replayEntry_changes _ p)).more (State.discard_changes _ p _ _) (by decide)
      · exact ((s.updPort_changes p _).trans (State.discard_changes _ p _ _)).with_journal

theorem State.rateLimit_changes (f : Frame) : ChangesOnly ([.fabric] ++ s.journalling) s (s.rateLimit p f).2 := by
  have hfilled := s.updPort_changes p fun q => q.fillBuckets s.now
  unfold State.rateLimit; split
  · exact .refl _ s
  · dsimp only; split
    · exact (hfilled.trans (State.updPort_changes _ p _)).with_journal
    · refine ChangesOnly.more ?_ (State.discard_changes _ p _ _) (by decide)
      split
      · exact (hfilled.trans (State.updPort_changes _ p _)).then_journal (by decide) _ _
      · exact hfilled.with_journal

theorem State.checkContent_changes (f : Frame) (body mac : List Byte) :
    ChangesOnly ([.fabric] ++ s.journalling) s (s.checkContent p f body mac).2 := by
  have hmac : ChangesOnly ([.fabric] ++ s.journalling) s
      (if (s.fab.port[p]).macFormat then s.checkMac p f body mac else (some f, s)).2 := by
    split
    · exact s.checkMac_changes p f body mac
    · exact .refl _ s
  unfold State.checkContent; dsimp only; split
  · exact (s.discard_changes p _ _).with_journal
  · split
    · exact hmac
    · split
      · exact hmac.more (State.discard_changes _ p _ _) (by decide)
      · split
        · exact hmac.more (State.discard_changes _ p _ _) (by decide)
        · exact ChangesOnly.then_journalling (by decide) hmac (State.rateLimit_changes _ p f)

theorem State.checkFrame_changes (f : RxFrame) : ChangesOnly ([.fabric] ++ s.journalling) s (s.checkFrame p f).2 := by
  unfold State.checkFrame; dsimp only; split
  · exact (s.discard_changes p _ _).with_journal
  · split
    · exact .refl _ s
    · split
      · exact ((s.updPort_changes p _).trans (State.discard_changes _ p _ _)).with_journal
      · split
        · exact (s.discard_changes p _ _).with_journal
        · exact s.checkContent_changes p _ _ _

/-- The parts that the delivery of a frame can change beside those of its entries. -/
def frameInParts : List Part := [.device, .wiring, .head, .fabric, .twin]

theorem State.groupEvent_changes (f : Frame) : ChangesOnly (frameInParts ++ s.journalling) s (s.groupEvent f) := by
  unfold State.groupEvent
  extract_lets code kind s1 s2 s3
  have h2 : ChangesOnly [.wiring, .twin] s1 s2 := by
    unfold s2; split
    · exact State.onset_changes _ _
    · exact .refl _ _
  have h3 : ChangesOnly [.head] s2 s3 := by
    unfold s3; split
    · exact State.offerRecord_changes _ _
    · exact .refl _ _
  have hnoted : ChangesOnly (frameInParts ++ s.journalling) s s3 :=
    (((s.journal_changes _ _).mono (List.subset_append_right _ _)).more h2 (by decide)).more h3 (by decide)
  split
  · exact hnoted.more (changes_dev s3 _) (by decide)
  · exact hnoted

theorem State.eventIn_changes (f : Frame) : ChangesOnly (frameInParts ++ s.journalling) s (s.eventIn p f) := by
  unfold State.eventIn; split
  · exact (s.bump_changes p _).with_journal.widen (by decide)
  · split
    · exact .refl _ s
    · dsimp only
      refine ChangesOnly.more ?_ (State.flood_keeps _ p f).1 (by decide)
      split
      · exact s.groupEvent_changes f
      · exact .refl _ s

theorem State.tallyIn_changes (f : Frame) : ChangesOnly [.head] s (s.tallyIn f) :=
  ChangesOnly.foldl (fun t _ => t.offerRecord_changes _) _ s

theorem State.tileIn_changes (f : Frame) : ChangesOnly [.head] s (s.tileIn f) := by
  unfold State.tileIn; dsimp only; split
  · exact .refl _ s
  · exact changes_head s _

theorem State.unicastIn_changes (f : Frame) : ChangesOnly frameInParts s (s.unicastIn p f) := by
  unfold State.unicastIn; split
  · exact (s.bump_changes p _).mono (by decide)
  · split
    · split
      · exact .refl _ s
      · rcases s.hop_cases p f with h | h
        · rw [h]; exact (s.bump_changes p _).mono (by decide)
        · rw [h]; exact (s.routeFrame_keeps _ true _).1.mono (by decide)
    · split
      · exact (s.tallyIn_changes f).mono (by decide)
      · exact (s.tileIn_changes f).mono (by decide)

/-- A port that has heard a BEACON (R472). -/
def State.beaconHeard (b : Beacon) : State := s.updPort p fun q => { q with beaconAt := s.now, beacon := some b }

/-- A BEACON is noted at its port, and can make a link-state origination due (R472, R478). -/
theorem State.beaconIn_cases (f : Frame) :
    s.beaconIn p f = s.beaconHeard p (Beacon.parse f.payload f.hdr.standby) ∨
    s.beaconIn p f = (s.beaconHeard p (Beacon.parse f.payload f.hdr.standby)).lsChange := by
  unfold State.beaconIn
  extract_lets b q s1 same
  split
  · exact .inr rfl
  · exact .inl rfl

theorem State.beaconIn_changes (f : Frame) : ChangesOnly [.fabric] s (s.beaconIn p f) := by
  have hheard := s.updPort_changes p fun q =>
    { q with beaconAt := s.now, beacon := some (Beacon.parse f.payload f.hdr.standby) }
  rcases s.beaconIn_cases p f with h | h
  · rw [h]; exact hheard
  · rw [h]; exact hheard.trans (State.lsChange_changes _)

theorem State.frameIn_changes (f : Frame) : ChangesOnly (frameInParts ++ s.journalling) s (s.frameIn p f) := by
  have hfabric {t : State} (h : ChangesOnly [.fabric] s t) : ChangesOnly (frameInParts ++ s.journalling) s t :=
    h.with_journal.widen (by decide)
  have hwait := hfabric (changes_fab s { s.fab with inbox := s.fab.inbox ++ [(p, f)] })
  unfold State.frameIn; dsimp only; split
  · exact hfabric (s.beaconIn_changes p f)
  · exact s.eventIn_changes p f
  · exact (s.unicastIn_changes p f).with_journal
  · exact (s.unicastIn_changes p f).with_journal
  · split
    · exact hfabric (s.updPort_changes p _)
    · split
      · exact hfabric (s.updPort_changes p _)
      · exact hwait
  · exact hwait

end checks
end Sys2Proof.Machine

namespace Sys2Proof.Machine

/-! Frames received, one outcome of the checks after another (R464, R506, R508). -/

section received
variable (s : State) (p : FabPort)

/-- A frame as it comes without errors of its symbols (R464). -/
def rxFrame (l : List Byte) : RxFrame := { symErrors := 0, aborted := false, bytes := l }

/-- The header at the front of some bytes, and the frame that it makes of them (R461). -/
def headerOf (l : List Byte) : Header := Header.unpack (natBE (l.take 8))
def frameOfBytes (l : List Byte) : Frame := { hdr := headerOf l, payload := slice l 8 ((headerOf l).len.toNat + 1) }

/-- A port on which a frame has come (R457). -/
def State.heard (m : Nat) : State := s.updPort p fun q => { q with frameAt := s.now, emberSent := false, noCmac := m }

theorem State.heard_eq : (s.updPort p fun q => { q with frameAt := s.now, emberSent := false }) =
    s.heard p (s.fab.port[p]).noCmac := State.updPort_congr rfl

theorem State.heard_heard (m n : Nat) :
    ((s.heard p m).updPort p fun q => { q with noCmac := n }) = s.heard p n := State.updPort_updPort s p _ _

/-- The bytes of a frame that its receive FIFO keeps for the MOVEs of a program that runs (R15, log 130). -/
def State.buffered (l : List Byte) : State :=
  if decide ((s.mov.chan.getD (15 + p.val) {}).state = .run) || decide ((s.mov.chan.getD (15 + p.val) {}).state = .wait)
  then s.updPort p fun q => { q with rxFifo := q.rxFifo ++ l } else s

/-- A frame kept in the receive FIFO of a halted channel, with the credits that it holds (R467, log 129). -/
def FPort.holding (q : FPort) (l : List Byte) (g : Frame) : FPort := { q with
  rxFifo := (q.rxFifo ++ l).take 1024
  granted := q.granted.set (typeClass g.hdr.typ.toNat) (q.granted[typeClass g.hdr.typ.toNat] - q.frameCredits g) }

/-- A control frame holds no credits of the bulk class (R466). -/
theorem FPort.holding_bulk {q : FPort} {l : List Byte} {g : Frame} (h : typeClass g.hdr.typ.toNat = 0) :
    (q.holding l g).granted[(1 : Fin 2)] = q.granted[(1 : Fin 2)] := by
  have hplace : (typeClass g.hdr.typ.toNat).val ≠ 1 := by rw [h]; decide
  exact Vector.getElem_set_ne (Fin.isLt _) (by decide) hplace

/-- What follows the checks of a frame that passed them: a halted channel keeps its bytes, else it is delivered. -/
def State.delivered (l : List Byte) (g : Frame) : State :=
  if !s.rxCarries p then s.updPort p fun q => q.holding l g else (((s.buffered p l).frameIn p g).unpark).settle

variable {s p}

theorem exec_frameReceived {f : RxFrame} {r : Option Frame × State} (hlink : (s.fab.port[p]).link = .active)
    (hon : s.fabricOn = true) (hcheck : (s.heard p (s.fab.port[p]).noCmac).checkFrame p f = r) :
    exec (.frameReceived p f) s = .next (r.1.elim r.2 (r.2.delivered p f.bytes)) := by
  subst hcheck
  rw [← s.heard_eq p]
  refine (occurs_of (by rw [decide_eq_true hlink, hon]; rfl)).trans (congrArg _ ?_)
  dsimp only
  split
  next h => rw [h]; rfl
  next h => rw [h]; rfl

/-- A frame discarded by a check is counted and not delivered. -/
theorem exec_frameReceived_discarded {f : RxFrame} {g : Counters → Counters} {b : Bool} {m : Nat}
    (hlink : (s.fab.port[p]).link = .active) (hon : s.fabricOn = true)
    (hcheck : (s.heard p (s.fab.port[p]).noCmac).checkFrame p f = (s.heard p m).discard p b g) :
    ∃ t, exec (.frameReceived p f) s = .next t ∧ (t.fab.port[p]).cnt = g (s.fab.port[p]).cnt ∧
      (t.fab.port[p]).frameAt = s.now ∧ t.fab.inbox = s.fab.inbox ∧ ChangesOnly [.fabric] s t := by
  obtain ⟨a, c, hdiscard⟩ := (s.heard p m).discard_eq p b g
  refine ⟨_, exec_frameReceived hlink hon (hcheck.trans hdiscard), ?_⟩
  dsimp only [Option.elim]
  rw [State.updPort_self, State.heard, State.updPort_self]
  exact ⟨rfl, rfl, rfl, (s.updPort_changes p _).trans (State.updPort_changes _ p _)⟩

theorem exec_frameReceived_changes (f : RxFrame) (hlink : (s.fab.port[p]).link = .active) (hon : s.fabricOn = true) :
    ∃ t, exec (.frameReceived p f) s = .next t ∧ ChangesOnly (frameInParts ++ s.journalling) s t := by
  have hdelivered (t : State) (g : Frame) : ChangesOnly (frameInParts ++ t.journalling) t (t.delivered p f.bytes g) := by
    unfold State.delivered; split
    · exact (t.updPort_changes p _).with_journal.widen (by decide)
    · have hbuffered : ChangesOnly [.fabric] t (t.buffered p f.bytes) :=
        ChangesOnly.ite (t.updPort_changes p _) (.refl _ t)
      exact ((ChangesOnly.then_journalling (by decide) (hbuffered.with_journal.widen (by decide))
        (State.frameIn_changes _ p g)).more (State.unpark_keeps _).1 (by decide)).more (State.settle_changes _) (by decide)
  have hcheck : ChangesOnly (frameInParts ++ s.journalling) s
      ((s.heard p (s.fab.port[p]).noCmac).checkFrame p f).2 :=
    (ChangesOnly.then_journalling (by decide) (s.updPort_changes p _).with_journal
      (State.checkFrame_changes (s.heard p (s.fab.port[p]).noCmac) p f)).widen (by decide)
  refine ⟨_, exec_frameReceived hlink hon rfl, ?_⟩
  cases ((s.heard p (s.fab.port[p]).noCmac).checkFrame p f).1 with
  | none => exact hcheck
  | some g => exact ChangesOnly.then_journalling (by decide) hcheck (hdelivered _ g)

variable {l : List Byte}

theorem State.checkFrame_symbols {f : RxFrame} (h : 0 < f.symErrors ∨ f.aborted = true) : s.checkFrame p f =
    s.discard p true fun c => { c with symErr := c.symErr + BitVec.ofNat 32 (f.symErrors + bit f.aborted) } := if_pos h

theorem rxFrame_whole : ¬ (0 < (rxFrame l).symErrors ∨ (rxFrame l).aborted = true) := by simp [rxFrame]

theorem State.checkFrame_short (h : l.length < 13) : s.checkFrame p (rxFrame l) =
    (s.updPort p fun q => { q with noCmac := 0 }).discard p true fun c => { c with lenErr := c.lenErr + 1 } := by
  unfold State.checkFrame
  extract_lets q n hdr plain bare s1 len
  have hn : n < 13 := h
  have hlong : n ≠ plain + 8 := by omega
  rw [if_neg rxFrame_whole, if_neg fun hkey => hlong hkey.1, if_pos (.inl hn)]
  have hbare : bare = false := by simp [bare, Nat.not_le.mpr hn]
  have hs1 : s1 = s.updPort p fun q => { q with noCmac := 0 } := by simp only [s1, hbare, Bool.false_eq_true, if_false]
  rw [hs1]

/-- A frame of the right length on a port without CMAC meets its CRC, and then the checks of its content. -/
theorem State.checkFrame_whole (hlen : l.length = (headerOf l).len.toNat + 13) (hmac : (s.fab.port[p]).macFormat = false) :
    s.checkFrame p (rxFrame l) = if crcLE (l.take (l.length - 4)) ≠ l.drop (l.length - 4) then
        s.discard p true fun c => { c with crcErr := c.crcErr + 1 }
      else s.checkContent p (frameOfBytes l) (l.take (8 + ((headerOf l).len.toNat + 1)))
        (slice l (8 + ((headerOf l).len.toNat + 1)) 8) := by
  unfold State.checkFrame
  extract_lets q n hdr plain
  have hn : n = hdr.len.toNat + 13 := hlen
  have hlong : n ≠ plain + 8 := by omega
  have hplain : ¬ (n < 13 ∨ n ≠ plain + 8 * bit q.macFormat) := by
    rw [show q.macFormat = false from hmac, bit, if_neg Bool.false_ne_true]
    omega
  rw [if_neg rxFrame_whole, if_neg fun hkey => hlong hkey.1, if_neg hplain]
  rfl

theorem FPort.trustCarries_beacon {q : FPort} (h : q.trust = .unpaired) (flow : Nat) : q.trustCarries 0 flow = true := by
  simp [FPort.trustCarries, h]

theorem FPort.trustCarries_unpaired {q : FPort} {typ : Nat} (h : q.trust = .unpaired) (h0 : typ ≠ 0) (h7 : typ ≠ 7)
    (flow : Nat) : q.trustCarries typ flow = false := by
  simp [FPort.trustCarries, h, h0, h7]

theorem roleCarries_beacon {role : PortRole} (h : role ≠ .off) (flow : Nat) : roleCarries role 0 flow = true := by
  cases role with
  | off => exact absurd rfl h
  | trunk => rfl
  | twin => rfl

theorem State.checkContent_not_carried {f : Frame} {body mac : List Byte} (htrust : (s.fab.port[p]).trust = .unpaired)
    (h0 : f.hdr.typ ≠ 0) (h7 : f.hdr.typ ≠ 7) :
    s.checkContent p f body mac = s.discard p false fun c => { c with notPerm := c.notPerm + 1 } :=
  if_pos (by rw [FPort.trustCarries_unpaired htrust (fun h => h0 (BitVec.eq_of_toNat_eq h))
    (fun h => h7 (BitVec.eq_of_toNat_eq h))]; rfl)

/-- A BEACON of an unpaired partner passes the checks of its content (R464, R506). -/
theorem State.checkContent_beacon {f : Frame} {body mac : List Byte} (htrust : (s.fab.port[p]).trust = .unpaired)
    (htyp : f.hdr.typ = 0) (hrole : s.portRole p ≠ .off) (hsrc : f.hdr.src ≠ 0xFFF) :
    s.checkContent p f body mac = s.rateLimit p f := by
  have hzero : f.hdr.typ.toNat = 0 := by rw [htyp]; rfl
  have hcarries := FPort.trustCarries_beacon htrust f.hdr.flow.toNat
  have hroleCarries := roleCarries_beacon hrole f.hdr.flow.toNat
  have hmac : (s.fab.port[p]).macFormat = false := by rw [FPort.macFormat, htrust]
  have hsource : (!sourceGood (s.portRole p) f || !s.probeGood f) = false := by
    have hgood : sourceGood (s.portRole p) f = true := by simpa [sourceGood, htyp] using hsrc
    have hprobe : s.probeGood f = true := by simp [State.probeGood, htyp]
    rw [hgood, hprobe]; rfl
  unfold State.checkContent
  dsimp only
  rw [hzero, hcarries, if_neg (by decide), hmac, if_neg Bool.false_ne_true, hroleCarries, if_neg (by decide), hsource,
    if_neg Bool.false_ne_true]

/-- A BEACON within its rate uses a place of its bucket (R529). -/
theorem State.rateLimit_beacon {f : Frame} (htyp : f.hdr.typ = 0)
    (hrate : 32768 ≤ ((s.fab.port[p]).fillBuckets s.now).bucket[(0 : Fin 5)]) :
    ∃ v, s.rateLimit p f = (some f, s.updPort p fun q => { q with bucket := v, bucketAt := s.now }) := by
  have hfilled := s.updPort_self p fun q => q.fillBuckets s.now
  have hbucket : bucketOf f.hdr.typ.toNat = some (0, 20, 4) := by rw [htyp]; rfl
  unfold State.rateLimit
  rw [hbucket]
  dsimp only
  rw [hfilled, if_pos hrate, State.updPort_updPort]
  exact ⟨_, congrArg (Prod.mk (some f)) (State.updPort_congr rfl)⟩

/-- A BEACON that meets every check on an unpaired port: whole, known, and within its rate. -/
structure GoodBeacon (s : State) (p : FabPort) (l : List Byte) : Prop where
  length : l.length = (headerOf l).len.toNat + 13
  trust : (s.fab.port[p]).trust = .unpaired
  crc : crcLE (l.take (l.length - 4)) = l.drop (l.length - 4)
  typ : (headerOf l).typ = 0
  role : s.portRole p ≠ .off
  src : (headerOf l).src ≠ 0xFFF
  rate : 32768 ≤ ((s.fab.port[p]).fillBuckets s.now).bucket[(0 : Fin 5)]

/-- A port with its buckets drawn on (R529). -/
def FPort.charged (q : FPort) (now : Nat) (v : Vector Nat 5) : FPort := { q with bucket := v, bucketAt := now }

theorem GoodBeacon.checked (h : GoodBeacon s p l) (m : Nat) : ∃ v, (s.heard p m).checkFrame p (rxFrame l) =
    (some (frameOfBytes l), (s.heard p m).updPort p fun q => q.charged s.now v) := by
  have hself : (s.heard p m).fab.port[p] = { s.fab.port[p] with frameAt := s.now, emberSent := false, noCmac := m } :=
    s.updPort_self p _
  have htrust : ((s.heard p m).fab.port[p]).trust = .unpaired := by rw [hself]; exact h.trust
  have hmac : ((s.heard p m).fab.port[p]).macFormat = false := by rw [FPort.macFormat, htrust]
  have hrate : 32768 ≤ (((s.heard p m).fab.port[p]).fillBuckets (s.heard p m).now).bucket[(0 : Fin 5)] := by
    rw [hself]; exact h.rate
  obtain ⟨v, hlimit⟩ := State.rateLimit_beacon (f := frameOfBytes l) h.typ hrate
  rw [State.checkFrame_whole h.length hmac, if_neg (not_not_intro h.crc),
    State.checkContent_beacon (f := frameOfBytes l) htrust h.typ h.role h.src, hlimit]
  exact ⟨v, rfl⟩

/-- A port that a frame has reached through every check. -/
def FPort.accepted (q : FPort) (now : Nat) (v : Vector Nat 5) : FPort :=
  { q with frameAt := now, emberSent := false, bucket := v, bucketAt := now }

theorem GoodBeacon.exec_frameReceived (h : GoodBeacon s p l) (hlink : (s.fab.port[p]).link = .active)
    (hon : s.fabricOn = true) : ∃ v, exec (.frameReceived p (rxFrame l)) s =
      .next ((s.updPort p fun q => q.accepted s.now v).delivered p l (frameOfBytes l)) := by
  obtain ⟨v, hcheck⟩ := h.checked (s.fab.port[p]).noCmac
  have hport : (s.heard p (s.fab.port[p]).noCmac).updPort p (fun q => q.charged s.now v) =
      s.updPort p fun q => q.accepted s.now v := (s.updPort_updPort p _ _).trans (State.updPort_congr rfl)
  rw [hport] at hcheck
  exact ⟨v, Machine.exec_frameReceived hlink hon hcheck⟩

theorem State.buffered_self : ∃ b, (s.buffered p l).fab.port[p] = { s.fab.port[p] with rxFifo := b } ∧
    ((s.mov.chan.getD (15 + p.val) {}).state = .run ∨ (s.mov.chan.getD (15 + p.val) {}).state = .wait →
      b = (s.fab.port[p]).rxFifo ++ l) := by
  unfold State.buffered; split
  · rw [State.updPort_self]; exact ⟨_, rfl, fun _ => rfl⟩
  · refine ⟨_, rfl, fun hruns => absurd ?_ ‹_›⟩
    simpa using hruns

theorem State.frameIn_beacon {g : Frame} (htyp : g.hdr.typ = 0) : s.frameIn p g = s.beaconIn p g := by
  unfold State.frameIn
  rw [htyp]
  rfl

theorem State.beaconIn_fab (g : Frame) :
    (s.beaconIn p g).fab.port = (s.beaconHeard p (Beacon.parse g.payload g.hdr.standby)).fab.port ∧
    (s.beaconIn p g).fab.parked = s.fab.parked := by
  have hdue (u : State) : u.lsChange.fab.parked = u.fab.parked := by unfold State.lsChange; split <;> rfl
  rcases s.beaconIn_cases p g with h | h
  · rw [h]; exact ⟨rfl, rfl⟩
  · rw [h]; exact ⟨State.lsChange_port _, hdue _⟩

/-- A BEACON delivered with nothing parked changes of its port what `beaconHeard` says. -/
theorem State.delivered_beacon {g : Frame} (htyp : g.hdr.typ = 0) (hcarried : s.rxCarries p = true)
    (hparked : s.fab.parked = []) : (s.delivered p l g).fab.port[p] = { (s.buffered p l).fab.port[p] with
      beaconAt := s.now, beacon := some (Beacon.parse g.payload g.hdr.standby) } := by
  have hbuffered : (s.buffered p l).fab.parked = s.fab.parked ∧ (s.buffered p l).now = s.now := by
    unfold State.buffered; split <;> exact ⟨rfl, rfl⟩
  obtain ⟨hport, hnone⟩ := (s.buffered p l).beaconIn_fab (p := p) g
  rw [hbuffered.1, hparked] at hnone
  have hdelivered : s.delivered p l g = ((s.buffered p l).beaconIn p g).settle := by
    rw [State.delivered, if_neg (by rw [hcarried]; decide), State.frameIn_beacon htyp, State.unpark_of_none _ hnone]
  have hsettle := State.settle_changes ((s.buffered p l).beaconIn p g) .fabric (by decide)
  rw [hdelivered, hsettle, hport, State.beaconHeard, State.updPort_self, hbuffered.2]

end received

/-- Settles O38: each check by the counter of the frame that it discards, a BEACON that passes them by its port, and one at
a halted channel by the FIFO that keeps it. -/
theorem frameChecks : Obligations.FrameChecks := by
  refine ⟨?_, ?_, ?_, ?_, ?_, ?_, ?_⟩
  · intro s p f hlink hon
    exact exec_frameReceived_changes f hlink hon
  · intro s p f hlink hon hbad
    exact exec_frameReceived_discarded hlink hon (State.checkFrame_symbols hbad)
  · intro s p l hlink hon hshort
    have hcheck := (State.checkFrame_short (s := s.heard p (s.fab.port[p]).noCmac) (p := p) hshort)
    rw [s.heard_heard p] at hcheck
    obtain ⟨t, hexec, hcnt, -, hinbox, hchanges⟩ := exec_frameReceived_discarded hlink hon hcheck
    exact ⟨t, hexec, hcnt, hinbox, hchanges⟩
  · rintro s p l h hlink hon rfl hlen htrust hcrc
    have hself : (s.heard p (s.fab.port[p]).noCmac).fab.port[p] = _ := s.updPort_self p _
    have hmac : ((s.heard p (s.fab.port[p]).noCmac).fab.port[p]).macFormat = false := by
      rw [hself, FPort.macFormat, htrust]
    have hcheck := State.checkFrame_whole hlen hmac
    rw [if_pos hcrc] at hcheck
    obtain ⟨t, hexec, hcnt, -, hinbox, hchanges⟩ := exec_frameReceived_discarded hlink hon hcheck
    exact ⟨t, hexec, hcnt, hinbox, hchanges⟩
  · rintro s p l h hlink hon rfl hlen htrust hcrc h0 h7
    have hself : (s.heard p (s.fab.port[p]).noCmac).fab.port[p] = _ := s.updPort_self p _
    have htrust' : ((s.heard p (s.fab.port[p]).noCmac).fab.port[p]).trust = .unpaired := by rw [hself]; exact htrust
    have hcheck := State.checkFrame_whole hlen (by rw [FPort.macFormat, htrust'])
    rw [if_neg (not_not_intro hcrc), State.checkContent_not_carried htrust' h0 h7] at hcheck
    obtain ⟨t, hexec, hcnt, -, hinbox, hchanges⟩ := exec_frameReceived_discarded hlink hon hcheck
    exact ⟨t, hexec, hcnt, hinbox, hchanges⟩
  · rintro s p l h hlink hon rfl hlen htrust hcrc htyp hrole hsrc hrate hparked hcarried
    have hgood : GoodBeacon s p l := ⟨hlen, htrust, hcrc, htyp, hrole, hsrc, hrate⟩
    obtain ⟨v, hexec⟩ := hgood.exec_frameReceived hlink hon
    have hself := s.updPort_self p fun q => q.accepted s.now v
    obtain ⟨b, hbuffered, hkept⟩ := State.buffered_self (s := s.updPort p fun q => q.accepted s.now v) (p := p) (l := l)
    have hport := State.delivered_beacon (s := s.updPort p fun q => q.accepted s.now v) (g := frameOfBytes l) (l := l)
      htyp hcarried hparked
    rw [hself] at hbuffered hkept
    rw [hbuffered] at hport
    refine ⟨_, hexec, ?_⟩
    rw [hport]
    exact ⟨rfl, rfl, rfl, hkept⟩
  · rintro s p l h hlink hon rfl hlen htrust hcrc htyp hrole hsrc hrate hhalted
    have hgood : GoodBeacon s p l := ⟨hlen, htrust, hcrc, htyp, hrole, hsrc, hrate⟩
    obtain ⟨v, hexec⟩ := hgood.exec_frameReceived hlink hon
    have hclass : typeClass (frameOfBytes l).hdr.typ.toNat = 0 := by
      rw [show (frameOfBytes l).hdr.typ = 0 from htyp]; rfl
    have hholding : (s.updPort p fun q => q.accepted s.now v).delivered p l (frameOfBytes l) =
        s.updPort p fun q => (q.accepted s.now v).holding l (frameOfBytes l) :=
      (if_pos (by rw [show (s.updPort p _).rxCarries p = false from hhalted]; rfl)).trans (s.updPort_updPort p _ _)
    rw [hholding] at hexec
    refine ⟨_, hexec, ?_⟩
    rw [State.updPort_self]
    exact ⟨rfl, rfl, FPort.holding_bulk hclass, s.updPort_changes p _⟩

end Sys2Proof.Machine

namespace Sys2Proof.Machine

/-! Addresses by discovery, and their conflicts (§11.6; R474 to R477). -/

section addresses
variable {s : State}

/-- What a change of the address has for its end: a link-state origination falls due, and a STATE of the mirror. -/
def State.told (s : State) : State := s.lsChange.stateChanged

theorem State.told_changes (s : State) : ChangesOnly [.fabric, .twin] s s.told :=
  (s.lsChange_changes.mono (by decide)).trans (s.lsChange.stateChanged_changes.mono (by decide))

theorem State.told_fab (s : State) : s.told.fab = s.lsChange.fab :=
  s.lsChange.stateChanged_changes .fabric (by decide)

theorem State.told_sends (s : State) : s.fab.Sends s.told.fab := s.told_fab ▸ s.lsChange_sends

theorem State.told_due (s : State) : s.told.fab.lsDue.isSome = true := s.told_fab ▸ s.lsChange_due

/-- Who the device is in the fabric, and what it knows of the others. -/
def Fab.identity (f : Fab) : BitVec 12 × AddrKind × BitVec 12 × Option Nat × List LsEntry :=
  (f.addr, f.kind, f.lastAddr, f.discoverAt, f.lsdb)

theorem Fab.Sends.identity {a b : Fab} (h : a.Sends b) : b.identity = a.identity := by rw [h.rest]; rfl

/-- The device with a discovered address, before its entry (R474, R475). -/
def State.claimed (s : State) (w : BitVec 12) : State :=
  { s with
    fab := { s.fab with addr := w, kind := .discovered, lastAddr := w, discoverAt := none }
    twin := { s.twin with pairAddr := if s.trole = .none then s.twin.pairAddr else w } }

theorem State.claimed_changes (s : State) (w : BitVec 12) : ChangesOnly [.fabric, .twin] s (s.claimed w) := by
  have hfab := changes_fab s (s.claimed w).fab
  exact hfab.join (changes_twin (s := { s with fab := (s.claimed w).fab }) (s.claimed w).twin)

theorem exec_address {a t0 : Nat} (hat : s.fab.discoverAt = some t0) (hdue : t0 ≤ s.now) (hkind : s.fab.kind = .unassigned)
    (hstandby : s.standby = false) (htrunk : s.anyTrunk = true) (hon : s.fabricOn = true) (hfree : s.discovered = some a) :
    exec .address s = .next
      (((s.claimed (BitVec.ofNat 12 a)).journal 0x44 (AddrKind.discovered.code * 4096 + a)).told) := by
  show execAddress s = _
  unfold execAddress
  rw [hat, hfree]
  exact occurs_of (by dsimp only; rw [decide_eq_true hdue, decide_eq_true hkind, hstandby, htrunk, hon]; rfl)

/-- The free list holds addresses that a device may claim (R474). -/
theorem State.discovered_free {a : Nat} (h : s.discovered = some a) : s.freeAddr a = true ∧ 1 ≤ a ∧ a ≤ 0xFFE := by
  unfold State.discovered at h
  dsimp only at h
  split at h
  next hlast =>
    obtain ⟨hpos, hle, hfree⟩ := hlast
    cases h
    exact ⟨hfree, hpos, hle⟩
  next =>
    have hmem := List.mem_of_getElem? h
    obtain ⟨hrange, hfree⟩ := List.mem_filter.mp hmem
    obtain ⟨i, hi, rfl⟩ := List.mem_map.mp hrange
    have hlt := List.mem_range.mp hi
    exact ⟨hfree, by omega, by omega⟩

/-- The device that gives up a discovered address, or holds one set by beads (R476, R477). -/
def Fab.conceded (f : Fab) (now : Nat) (wasDiscovered : Bool) : Fab :=
  if wasDiscovered then { f with addr := 0, kind := .unassigned, discoverAt := some (now + tps) } else { f with kind := .held }

/-- A conflict with the claim of another device that wins it. -/
theorem exec_addressConflict {e : LsEntry} (he : e ∈ s.fab.lsdb) (hloses : s.losesTo e = true) (hon : s.fabricOn = true) :
    exec .addressConflict s = .next (State.told { s.journal 0x45 (4096 + s.fab.addr.toNat) with
      fab := (s.journal 0x45 (4096 + s.fab.addr.toNat)).fab.conceded s.now (decide (s.fab.kind = .discovered)) }) := by
  have hany : s.fab.lsdb.any s.losesTo = true := List.any_eq_true.mpr ⟨e, he, hloses⟩
  refine (occurs_of (by rw [hany, hon]; rfl)).trans (congrArg (fun t : State => (.next t.told : Out)) ?_)
  by_cases hkind : s.fab.kind = .discovered
  · rw [if_pos hkind, decide_eq_true hkind]; rfl
  · rw [if_neg hkind, decide_eq_false hkind]; rfl

/-- A conflict leaves one entry, and what it makes of the address is all that the fabric knows anew. -/
theorem exec_addressConflict_spec {e : LsEntry} (he : e ∈ s.fab.lsdb) (hloses : s.losesTo e = true)
    (hon : s.fabricOn = true) : ∃ t, exec .addressConflict s = .next t ∧
      t.fab.identity = (s.fab.conceded s.now (decide (s.fab.kind = .discovered))).identity ∧
      (s.takesEntry 0x45 → LogsEntry s t 0x45 (4096 + s.fab.addr.toNat)) ∧
      ChangesOnly ([.fabric, .twin] ++ s.journalling) s t := by
  have hafter := ((changes_fab (s.journal 0x45 (4096 + s.fab.addr.toNat)) _).mono (by decide)).trans
    (State.told_changes { s.journal 0x45 (4096 + s.fab.addr.toNat) with
      fab := (s.journal 0x45 (4096 + s.fab.addr.toNat)).fab.conceded s.now (decide (s.fab.kind = .discovered)) })
  obtain ⟨hlogs, hchanges⟩ := (ChangesOnly.refl [.fabric, .twin] s).entry hafter (by decide) (by decide)
  refine ⟨_, exec_addressConflict he hloses hon, ?_, hlogs, hchanges⟩
  rw [(State.told_sends _).identity, Fab.conceded, Fab.conceded, (s.journal_sends _ _).rest]
  split <;> rfl

end addresses

/-- Settles O39: the discovered address is claimed with its entry, and a conflict leaves what `conceded` says. -/
theorem addressDiscovery : Obligations.AddressDiscovery := by
  refine ⟨?_, fun s a h => State.discovered_free h, ?_, ?_⟩
  · intro s a t0 hat hdue hkind hstandby htrunk hon hfree
    have hidentity := ((State.journal_sends (s.claimed (BitVec.ofNat 12 a)) 0x44
      (AddrKind.discovered.code * 4096 + a)).trans (State.told_sends _)).identity
    simp only [Fab.identity, Prod.mk.injEq] at hidentity
    obtain ⟨haddr, hnew, hlast, hdiscover, hlsdb⟩ := hidentity
    obtain ⟨hlogs, hchanges⟩ := (s.claimed_changes (BitVec.ofNat 12 a)).entry (State.told_changes _) (by decide) (by decide)
    exact ⟨_, exec_address hat hdue hkind hstandby htrunk hon hfree, haddr, hnew, hlast, hdiscover, State.told_due _, hlsdb,
      hlogs, hchanges⟩
  · intro s e he hloses hon hkind
    obtain ⟨t, hexec, hidentity, hlogs, hchanges⟩ := exec_addressConflict_spec he hloses hon
    rw [decide_eq_true hkind] at hidentity
    simp only [Fab.identity, Fab.conceded, if_true, Prod.mk.injEq] at hidentity
    obtain ⟨haddr, hnone, -, hagain, hlsdb⟩ := hidentity
    exact ⟨t, hexec, haddr, hnone, hagain, hlsdb, hlogs, hchanges⟩
  · intro s e he hloses hon hkind
    obtain ⟨t, hexec, hidentity, -, hchanges⟩ := exec_addressConflict_spec he hloses hon
    rw [hkind] at hidentity
    simp only [Fab.identity, Fab.conceded, Prod.mk.injEq] at hidentity
    obtain ⟨haddr, hheld, -⟩ := hidentity
    exact ⟨t, hexec, haddr, hheld, hchanges⟩

end Sys2Proof.Machine

namespace Sys2Proof.Machine

/-! The link-state database: the own entry, the entries of others, and their age (§11.7; R478 to R481). -/

section linkState
variable {s : State}

theorem State.takeSite_changes (s : State) : ChangesOnly [.beads] s s.takeSite :=
  (s.takeWaiting_changes 10 1).trans (State.takeWaiting_changes _ 11 0)

theorem State.takeSite_fab (s : State) : s.takeSite.fab = s.fab := s.takeSite_changes .fabric (by decide)

theorem State.takeSite_now (s : State) : s.takeSite.now = s.now := s.takeSite_changes.now (by decide)

theorem State.takeSite_eff {b : BeadNo} (h10 : b ≠ 10) (h11 : b ≠ 11) (i : Fin 8) : s.takeSite.eff b i = s.eff b i :=
  (State.takeWaiting_eff_other _ h11 0 i).trans (s.takeWaiting_eff_other h10 1 i)

/-- The beads that wait for a LINKSTATE do not say who the device is. -/
theorem State.takeSite_netUid (s : State) : s.takeSite.netUid = s.netUid := by
  have htwin : s.takeSite.twin = s.twin := s.takeSite_changes .twin (by decide)
  unfold State.netUid State.twinPort State.trole State.portRole
  rw [State.takeSite_eff (by decide) (by decide), State.takeSite_eff (by decide) (by decide), s.takeSite_fab, htwin]

/-- The device with an entry in its database in place of the one of its origin (R479, R480). -/
def State.withEntry (s : State) (e : LsEntry) (b : Bool) : State :=
  { s with fab := { s.fab with
      lsdb := s.fab.lsdb.filter (fun x => x.uid != e.uid) ++ [e], dbChangedAt := some (s.fab.dbChangedAt.getD s.now)
      fullJournalled := b } }

theorem State.storeEntry_of_room (hroom : s.fab.lsdb.length < 4608) (e : LsEntry) :
    ∃ b, s.storeEntry e = s.withEntry e b := by
  have hothers := List.length_filter_le (fun x : LsEntry => x.uid != e.uid) s.fab.lsdb
  exact ⟨_, if_neg (by omega)⟩

theorem State.withEntry_changes (s : State) (e : LsEntry) (b : Bool) : ChangesOnly [.fabric] s (s.withEntry e b) :=
  changes_fab s _

/-- The device as it originates its entry (R478, R479). -/
def State.beginLinkstate (s : State) : State :=
  { s.takeSite with fab := { s.fab with ownSeq := s.fab.ownSeq + 1, lsSentAt := s.now, lsDue := none } }

theorem exec_linkstateOrigination {t0 : Nat} (htrunk : s.anyTrunk = true) (hon : s.fabricOn = true)
    (hstandby : s.standby = false) (hdue : s.fab.lsDue = some t0) (h0 : t0 ≤ s.now) : exec .linkstateOrigination s = .next
      (((s.beginLinkstate.storeEntry (s.takeSite.ownEntry (s.fab.ownSeq + 1))).originate tLinkstate 0 0xFFF s.takeSite.ownAddr
        (s.takeSite.ownEntry (s.fab.ownSeq + 1)).payload s.takeSite.trunkPorts).stateChanged) := by
  have hbegin : s.beginLinkstate = { s.takeSite with
      fab := { s.takeSite.fab with ownSeq := s.takeSite.fab.ownSeq + 1, lsSentAt := s.takeSite.now, lsDue := none } } := by
    rw [s.takeSite_fab, s.takeSite_now, State.beginLinkstate]
  rw [hbegin, ← s.takeSite_fab]
  show execLinkstateOrigination s = _
  unfold execLinkstateOrigination
  rw [hdue]
  exact occurs_of (by dsimp only; rw [htrunk, hon, hstandby, decide_eq_true h0]; rfl)

/-- What the device sends and tells its twin leaves what it knows of the fabric alone. -/
theorem State.announced_spec (s : State) (a b : Nat) (d c : BitVec 12) (l : List Byte) (ps : List FabPort) :
    ChangesOnly [.fabric, .twin] s (s.originate a b d c l ps).stateChanged ∧
    s.fab.Routed (s.originate a b d c l ps).stateChanged.fab := by
  have htwin := (s.originate a b d c l ps).stateChanged_changes
  have hfab : (s.originate a b d c l ps).stateChanged.fab = (s.originate a b d c l ps).fab := htwin .fabric (by decide)
  exact ⟨(s.originate_changes a b d c l ps).join htwin, hfab ▸ s.originate_routed a b d c l ps⟩

/-- The handling of a frame that waits in the receive queue takes it from there. -/
def State.withInbox (s : State) (l : List (FabPort × Frame)) : State := { s with fab := { s.fab with inbox := l } }

theorem State.takeInbox_head {p : FabPort} {f : Frame} {rest : List (FabPort × Frame)} {want : FabPort × Frame → Bool}
    (hin : s.fab.inbox = (p, f) :: rest) (hwant : want (p, f) = true) :
    s.takeInbox want = some (p, f, s.withInbox rest) := by
  show (s.fab.inbox.find? want).map (fun x => (x.1, x.2, s.withInbox (s.fab.inbox.erase x))) = _
  rw [hin, List.find?_cons_of_pos hwant, Option.map_some, List.erase_cons_head]

section received
variable {p : FabPort} {f : Frame} {rest : List (FabPort × Frame)}

/-- An entry of another origin as new as the stored one is dropped (R480). -/
theorem exec_linkstateReceived_equal {o : LsEntry} (hin : s.fab.inbox = (p, f) :: rest) (htyp : f.hdr.typ = 1#4)
    (huid : (LsEntry.parse s.now f.payload).uid ≠ s.netUid) (hstored : s.lsOf (LsEntry.parse s.now f.payload).uid = some o)
    (hseq : (LsEntry.parse s.now f.payload).seq = o.seq) : exec .linkstateReceived s = .next (s.withInbox rest) := by
  have hof : (s.withInbox rest).lsOf (LsEntry.parse s.now f.payload).uid = some o := hstored
  have hnewer : newerSeq (LsEntry.parse s.now f.payload).seq o.seq = false := by
    rw [hseq, newerSeq, BitVec.sub_self]; rfl
  show execLinkstateReceived s = _
  unfold execLinkstateReceived
  rw [State.takeInbox_head hin (decide_eq_true htyp)]
  dsimp only
  rw [if_neg (fun h => huid h.1), hof]
  dsimp only
  rw [if_neg (by rw [hnewer]; exact Bool.false_ne_true), if_pos (.inl hseq.symm)]

/-- An entry of another origin newer than the stored one is stored and flooded (R479, R480). -/
theorem exec_linkstateReceived_newer (hin : s.fab.inbox = (p, f) :: rest) (htyp : f.hdr.typ = 1#4)
    (huid : (LsEntry.parse s.now f.payload).uid ≠ s.netUid)
    (hnewer : ∀ o, s.lsOf (LsEntry.parse s.now f.payload).uid = some o →
      newerSeq (LsEntry.parse s.now f.payload).seq o.seq = true) :
    exec .linkstateReceived s = .next (((s.withInbox rest).storeEntry (LsEntry.parse s.now f.payload)).flood p f) := by
  show execLinkstateReceived s = _
  unfold execLinkstateReceived
  rw [State.takeInbox_head hin (decide_eq_true htyp)]
  dsimp only
  rw [if_neg (fun h => huid h.1)]
  cases hof : (s.withInbox rest).lsOf (LsEntry.parse s.now f.payload).uid with
  | none => rfl
  | some o =>
    dsimp only
    rw [if_pos (hnewer o hof)]

/-- A newer copy of the own entry gives its sequence, and the entry falls due (R480). -/
theorem exec_linkstateReceived_own (hin : s.fab.inbox = (p, f) :: rest) (htyp : f.hdr.typ = 1#4)
    (huid : (LsEntry.parse s.now f.payload).uid = s.netUid) (hstandby : s.standby = false)
    (hnewer : newerSeq (LsEntry.parse s.now f.payload).seq s.fab.ownSeq = true) :
    exec .linkstateReceived s = .next { s with fab := { s.fab with
      inbox := rest, ownSeq := (LsEntry.parse s.now f.payload).seq, lsDue := some s.now } } := by
  have hnewer' : newerSeq (LsEntry.parse s.now f.payload).seq (s.withInbox rest).fab.ownSeq = true := hnewer
  show execLinkstateReceived s = _
  unfold execLinkstateReceived
  rw [State.takeInbox_head hin (decide_eq_true htyp)]
  dsimp only
  rw [if_pos ⟨huid, by rw [hstandby]; exact Bool.false_ne_true⟩, if_pos hnewer']
  rfl

end received

theorem exec_linkstateAgeOut {e : LsEntry} (he : e ∈ s.fab.lsdb) (hold : e.at_ + 95 * 32768 ≤ s.now) :
    exec .linkstateAgeOut s = .next { s with fab := { s.fab with
      lsdb := s.fab.lsdb.filter (fun x => !x.stale s.now)
      dbChangedAt := some (s.fab.dbChangedAt.getD s.now), fullJournalled := false } } :=
  occurs_of (List.any_eq_true.mpr ⟨e, he, decide_eq_true hold⟩)

end linkState

/-- Settles O40: the own entry and a newer one are stored where there is room, and what is sent leaves the database alone. -/
theorem linkStateDatabase : Obligations.LinkStateDatabase := by
  refine ⟨?_, ?_, ?_, ?_, fun s e => exec_linkstateAgeOut⟩
  · intro s t0 htrunk hon hstandby hdue h0 hroom
    have hexec := exec_linkstateOrigination htrunk hon hstandby hdue h0
    obtain ⟨b, hstore⟩ := State.storeEntry_of_room (s := s.beginLinkstate) hroom (s.takeSite.ownEntry (s.fab.ownSeq + 1))
    obtain ⟨hchanges, hfab⟩ := State.announced_spec (s.beginLinkstate.withEntry (s.takeSite.ownEntry (s.fab.ownSeq + 1)) b)
      tLinkstate 0 0xFFF s.takeSite.ownAddr (s.takeSite.ownEntry (s.fab.ownSeq + 1)).payload s.takeSite.trunkPorts
    rw [← hstore] at hchanges hfab
    have hown : (s.takeSite.ownEntry (s.fab.ownSeq + 1)).uid = s.netUid := s.takeSite_netUid
    have hentry : ChangesOnly [.fabric] s.takeSite (s.beginLinkstate.storeEntry (s.takeSite.ownEntry (s.fab.ownSeq + 1))) := by
      rw [hstore]; exact (changes_fab s.takeSite _).trans (State.withEntry_changes _ _ b)
    have hall := s.takeSite_changes.join (hentry.join hchanges)
    refine ⟨_, hexec, ?_, ?_, ?_, ?_, ?_, hall.mono (List.subset_append_of_subset_left _ (by decide))⟩
    · exact (congrArg Fab.ownSeq hfab).trans (by rw [hstore]; rfl)
    · exact (congrArg Fab.lsSentAt hfab).trans (by rw [hstore]; rfl)
    · exact (congrArg Fab.lsDue hfab).trans (by rw [hstore]; rfl)
    · exact (congrArg Fab.lsdb hfab).trans (by rw [hstore, State.withEntry, hown]; rfl)
    · exact (hentry.join hchanges) .beads (by decide)
  · exact fun s p f rest o => exec_linkstateReceived_equal
  · intro s p f rest hin htyp huid hnewer hroom
    obtain ⟨b, hstore⟩ := State.storeEntry_of_room (s := s.withInbox rest) hroom (LsEntry.parse s.now f.payload)
    obtain ⟨hchanges, hfab⟩ := ((s.withInbox rest).withEntry (LsEntry.parse s.now f.payload) b).flood_keeps p f
    have hexec := exec_linkstateReceived_newer hin htyp huid hnewer
    rw [hstore] at hexec
    exact ⟨_, hexec, congrArg Fab.inbox hfab, congrArg Fab.lsdb hfab, congrArg (fun g : Fab => g.dbChangedAt.isSome) hfab,
      (((changes_fab s _).trans (State.withEntry_changes _ _ b)).trans hchanges).mono
        (List.subset_append_of_subset_left s.journalling (List.Subset.refl [.fabric]))⟩
  · exact fun s p f rest => exec_linkstateReceived_own

end Sys2Proof.Machine

namespace Sys2Proof.Machine

/-! Routes: labels lead only through ports that begin a path, and a destination holds a claim (§11.8; R476, R483). -/

section labels

/-- The own ports that begin a label's paths are all of a kind. -/
def Label.Within (P : FabPort → Prop) (y : Label) : Prop := ∀ p ∈ y.ports, P p

/-- Labels by origin, of whose ports the same is known. -/
def LabelsWithin (P : FabPort → Prop) (l : List (BitVec 64 × Label)) : Prop := ∀ x ∈ l, x.2.Within P

variable {P : FabPort → Prop}

theorem Label.Within.join {a b : Label} (ha : a.Within P) (hb : b.Within P) : (a.join b).Within P := by
  unfold Label.join
  split
  · exact ha
  · split
    · exact hb
    · intro p hp
      rcases List.mem_append.mp hp with h | h
      · exact ha p h
      · exact hb p (List.mem_of_mem_filter h)

theorem joinLabels_within {l : List Label} (h : ∀ y ∈ l, y.Within P) {y : Label} (hy : joinLabels l = some y) :
    y.Within P := by
  induction l using joinLabels.induct generalizing y with
  | case1 => cases hy
  | case2 x => cases hy; exact h _ List.mem_cons_self
  | case3 x t hne z hz ih =>
    rw [joinLabels.eq_3 x t hne, hz] at hy
    cases hy
    exact (h x List.mem_cons_self).join (ih (fun y hy => h y (List.mem_cons_of_mem _ hy)) hz)
  | case4 x t hne hz ih =>
    rw [joinLabels.eq_3 x t hne, hz] at hy
    cases hy
    exact h _ List.mem_cons_self

variable {db : List LsEntry} {me : BitVec 64} {start labels : List (BitVec 64 × Label)}

/-- A round passes on the ports of the labels that it joins. -/
theorem relaxRound_within (hs : LabelsWithin P start) (hl : LabelsWithin P labels) :
    LabelsWithin P (relaxRound db me start labels) := by
  intro x hx
  obtain ⟨v, -, hv⟩ := List.mem_filterMap.mp hx
  split at hv
  · cases hv
  · obtain ⟨y, hjoin, rfl⟩ := Option.map_eq_some_iff.mp hv
    refine joinLabels_within (fun z hz => ?_) hjoin
    rcases List.mem_append.mp hz with hdirect | hthrough
    · obtain ⟨w, hw, rfl⟩ := List.mem_map.mp hdirect
      exact hs w (List.mem_of_mem_filter hw)
    · obtain ⟨l, -, hlink⟩ := List.mem_filterMap.mp hthrough
      split at hlink
      · cases hlink
      · split at hlink
        next hfound =>
          cases hlink
          exact hl _ (List.mem_of_find?_eq_some hfound)
        next => cases hlink

theorem relax_within (hs : LabelsWithin P start) (hl : LabelsWithin P labels) (n : Nat) :
    LabelsWithin P (relax db me start n labels) := by
  induction n generalizing labels with
  | zero => exact hl
  | succ n ih =>
    rw [relax]
    split
    · exact hl
    · exact ih (relaxRound_within hs hl)

/-- A linked trunk port, the only kind that begins a path (R483). -/
def State.BeginsPath (s : State) (p : FabPort) : Prop := s.portRole p = .trunk ∧ (s.fab.port[p]).linked = true

theorem State.firstLabels_within (s : State) (own : LsEntry) : LabelsWithin s.BeginsPath (s.firstLabels own) := by
  intro x hx
  obtain ⟨l, -, hl⟩ := List.mem_filterMap.mp hx
  split at hl
  next hp =>
    dsimp only at hl
    split at hl
    next hport =>
      obtain ⟨c, -, rfl⟩ := Option.map_eq_some_iff.mp hl
      obtain ⟨hlinked, hrole⟩ := (Bool.and_eq_true _ _).mp hport
      intro p hmem
      rw [List.mem_singleton.mp hmem]
      exact ⟨of_decide_eq_true hrole, hlinked⟩
    next => cases hl
  next => cases hl

theorem State.labels_within (s : State) : LabelsWithin s.BeginsPath s.labels := by
  have hnone : LabelsWithin s.BeginsPath [] := fun _ h => absurd h List.not_mem_nil
  unfold State.labels
  split
  · exact relax_within (s.firstLabels_within _) hnone _
  · exact hnone

theorem betterClaim_cases (a b : LsEntry) : betterClaim a b = a ∨ betterClaim a b = b := by
  unfold betterClaim
  split
  · split
    · exact .inl rfl
    · exact .inr rfl
  · split
    · exact .inl rfl
    · exact .inr rfl

/-- A destination is an entry of the database that claims its address. -/
theorem mem_destinations {db : List LsEntry} {e : LsEntry} (h : e ∈ destinations db) : e ∈ db ∧ e.claims = true := by
  induction db with
  | nil => exact absurd h List.not_mem_nil
  | cons a t ih =>
    have later (he : e ∈ destinations t) : e ∈ a :: t ∧ e.claims = true :=
      ⟨List.mem_cons_of_mem _ (ih he).1, (ih he).2⟩
    rw [destinations] at h
    split at h
    · exact later h
    next hclaims =>
      have first (he : e = a) : e ∈ a :: t ∧ e.claims = true := by
        rw [he]; exact ⟨List.mem_cons_self, by simpa using hclaims⟩
      split at h
      next x hfound =>
        rcases List.mem_cons.mp h with hbetter | hrest
        · rcases betterClaim_cases a x with ha | hx
          · exact first (hbetter.trans ha)
          · exact later (hbetter.trans hx ▸ List.mem_of_find?_eq_some hfound)
        · exact later (List.mem_of_mem_filter hrest)
      next =>
        rcases List.mem_cons.mp h with ha | hrest
        · exact first ha
        · exact later hrest

theorem lowestPort_mem {l : List FabPort} {p : FabPort} (h : lowestPort l = some p) : p ∈ l :=
  List.contains_iff_mem.mp (List.find?_some h)

/-- A route to a destination begins at a port of its label, and is marked where it has too many hops (R483). -/
theorem routeTo_within (hl : LabelsWithin P labels) {e : LsEntry} {x : RouteEnt × Bool} (h : routeTo labels e = some x) :
    x.1.addr = e.addr ∧ P x.1.port ∧ x.2 = decide (63 < x.1.hops) := by
  unfold routeTo at h
  split at h
  next hfound =>
    obtain ⟨p, hp, rfl⟩ := Option.map_eq_some_iff.mp h
    exact ⟨rfl, hl _ (List.mem_of_find?_eq_some hfound) p (lowestPort_mem hp), rfl⟩
  next => cases h

end labels

section route
variable (s : State)

/-- What the path computation says of the other destinations, with the mark of too many hops (R483). -/
def State.found : List (RouteEnt × Bool) :=
  ((destinations s.fab.lsdb).filter fun e => e.uid != s.netUid).filterMap (routeTo s.labels)

/-- The routes of the Sieve. -/
def State.newRoutes : List RouteEnt := (s.found.filter fun x => !x.2).map fun x => x.1

theorem State.newRoutes_spec {r : RouteEnt} (h : r ∈ s.newRoutes) : r.hops ≤ 63 ∧ s.BeginsPath r.port ∧
    ∃ e ∈ s.fab.lsdb, e.claims = true ∧ e.addr = r.addr ∧ e.uid ≠ s.netUid := by
  obtain ⟨x, hx, rfl⟩ := List.mem_map.mp h
  obtain ⟨hfound, hnear⟩ := List.mem_filter.mp hx
  obtain ⟨e, he, hroute⟩ := List.mem_filterMap.mp hfound
  obtain ⟨hdest, hother⟩ := List.mem_filter.mp he
  obtain ⟨hmem, hclaims⟩ := mem_destinations hdest
  obtain ⟨haddr, hport, hfar⟩ := routeTo_within s.labels_within hroute
  have hhops : ¬ 63 < x.1.hops := by simpa [hfar] using hnear
  exact ⟨by omega, hport, e, hmem, hclaims, haddr.symm, by simpa using hother⟩

/-- The database and the Sieve with the times of both. -/
def Fab.paths (f : Fab) : List LsEntry × List RouteEnt × Nat × Option Nat := (f.lsdb, f.routes, f.routedAt, f.dbChangedAt)

theorem State.journal_paths (code data : Nat) : (s.journal code data).fab.paths = s.fab.paths := by
  rw [(s.journal_sends code data).rest]; rfl

theorem Fab.Routed.paths {a b : Fab} (h : a.Routed b) : b.paths = a.paths := by rw [h]; rfl

theorem State.unpark_paths : s.unpark.fab.paths = s.fab.paths := s.unpark_routed.paths

theorem State.setTime_paths (k : TimeState) : (s.setTime k).fab.paths = s.fab.paths := by
  unfold State.setTime; split
  · rfl
  · exact State.journal_paths _ _ _

theorem State.setTime_changes (k : TimeState) : ChangesOnly ([.fabric] ++ s.journalling) s (s.setTime k) := by
  unfold State.setTime; split
  · exact .refl _ s
  · exact (changes_fab s _).then_journal (by decide) _ _

/-- The fabric may change but for the Sieve and the database, and entries of the journal may be made. -/
def State.KeepsPaths (s t : State) : Prop := ChangesOnly ([.fabric] ++ s.journalling) s t ∧ t.fab.paths = s.fab.paths

variable {s} in
theorem State.KeepsPaths.trans {t u : State} (h : s.KeepsPaths t) (k : t.KeepsPaths u) : s.KeepsPaths u :=
  ⟨ChangesOnly.then_journalling (by decide) h.1 k.1, k.2.trans h.2⟩

theorem State.KeepsPaths.refl : s.KeepsPaths s := ⟨.refl _ s, rfl⟩

theorem State.setFab_keepsPaths {f : Fab} (h : f.paths = s.fab.paths) : s.KeepsPaths { s with fab := f } :=
  ⟨(changes_fab s f).with_journal, h⟩

theorem State.journal_keepsPaths (code data : Nat) : s.KeepsPaths (s.journal code data) :=
  ⟨(s.journal_changes code data).mono (List.subset_append_right _ _), s.journal_paths code data⟩

theorem State.setTime_keepsPaths (k : TimeState) : s.KeepsPaths (s.setTime k) := ⟨s.setTime_changes k, s.setTime_paths k⟩

theorem State.unpark_keepsPaths : s.KeepsPaths s.unpark := ⟨s.unpark_keeps.1.with_journal, s.unpark_paths⟩

theorem State.foldl_keepsPaths {α : Type} {f : State → α → State} (h : ∀ t a, State.KeepsPaths t (f t a))
    (l : List α) :
    s.KeepsPaths (l.foldl f s) :=
  ⟨ChangesOnly.foldl_journalling (by decide) (fun t a => (h t a).1) l s,
    foldl_keeps (fun t : State => t.fab.paths) (fun t a _ => (h t a).2) s⟩

theorem State.keepsPaths_ite {c : Prop} [Decidable c] {t u : State} (h : s.KeepsPaths t) (k : s.KeepsPaths u) :
    s.KeepsPaths (if c then t else u) := by split <;> assumption

theorem State.electRoot_keepsPaths : s.KeepsPaths s.electRoot := by
  unfold State.electRoot
  split
  · exact s.setFab_keepsPaths rfl
  next r _ =>
    have hroot (t : State) : t.KeepsPaths (if t.fab.rootUid = r.uid then t
        else ({ t with fab := { t.fab with rootUid := r.uid } } : State).journal 0x4A r.addr.toNat) :=
      t.keepsPaths_ite (.refl t) (State.KeepsPaths.trans (t.setFab_keepsPaths (f := { t.fab with rootUid := r.uid }) rfl)
        (State.journal_keepsPaths _ _ _))
    have htime (t : State) (a b : TimeState) : t.KeepsPaths (if t.fab.tstate = a then t.setTime b else t) :=
      t.keepsPaths_ite (t.setTime_keepsPaths b) (.refl t)
    extract_lets +onlyGivenNames fab0 s1
    refine State.KeepsPaths.trans (t := s1) (hroot s) ?_
    clear_value s1
    split
    · exact State.KeepsPaths.trans (s1.setFab_keepsPaths (f := { s1.fab with parent := none, exch := none, steps := 0 }) rfl)
        (State.setTime_keepsPaths _ _)
    · extract_lets +onlyGivenNames parent s2
      refine State.KeepsPaths.trans (t := s2) (htime s1 .root .holdover) ?_
      clear_value s2
      split
      · exact .refl s2
      · extract_lets +onlyGivenNames s3
        refine State.KeepsPaths.trans (t := s3) (htime s2 .fine .coarse) ?_
        clear_value s3
        exact s3.setFab_keepsPaths rfl

/-- The Sieve rewritten in a state that the entries of a change have led to. -/
def State.sieveWritten (t : State) (far : List (BitVec 12)) : State := { t with fab := { t.fab with
  routes := s.newRoutes, routedAt := s.now, dbChangedAt := none, diameter := far } }

variable {s} in
theorem State.KeepsPaths.sieveWritten {t : State} (h : s.KeepsPaths t) (far : List (BitVec 12)) :
    (s.sieveWritten t far).fab.paths = (s.fab.lsdb, s.newRoutes, s.now, none) ∧
    ChangesOnly ([.fabric] ++ s.journalling) s (s.sieveWritten t far) := by
  obtain ⟨hchanges, hpaths⟩ := h
  have hlsdb : t.fab.lsdb = s.fab.lsdb := congrArg Prod.fst hpaths
  exact ⟨congrArg (fun l => (l, s.newRoutes, s.now, (none : Option Nat))) hlsdb,
    hchanges.more (changes_fab t _) (by decide)⟩

/-- The device with a head for its tiles and tallies (R491). -/
def State.withHead (h : Option (BitVec 12)) : State := { s with fab := { s.fab with exportHead := h } }

/-- What follows the Sieve: the election, the head with the entry for its lack, and the frames that waited. -/
def State.afterSieve (dest : List LsEntry) : State :=
  let t := s.electRoot.withHead (s.electRoot.findHead dest)
  State.unpark
    (if t.exportBit ∧ t.dev.mode = .sand ∧ ¬ t.held ∧ (s.electRoot.findHead dest).isNone then t.journal 0x4D 0 else t)

theorem State.afterSieve_keepsPaths (dest : List LsEntry) : s.KeepsPaths (s.afterSieve dest) := by
  have hhead : s.electRoot.KeepsPaths (s.electRoot.withHead (s.electRoot.findHead dest)) := State.setFab_keepsPaths _ rfl
  unfold State.afterSieve
  extract_lets t
  refine State.KeepsPaths.trans ((s.electRoot_keepsPaths.trans hhead).trans ?_) (State.unpark_keepsPaths _)
  exact t.keepsPaths_ite (t.journal_keepsPaths 0x4D 0) (.refl t)

/-- The entries of a change, for what lies too far anew and for other next hops, come before the Sieve is rewritten (R483). -/
theorem exec_route {t0 : Nat} (hdb : s.fab.dbChangedAt = some t0) (hlate : s.fab.routedAt + 1639 ≤ s.now)
    (hon : s.fabricOn = true) : ∃ t far, s.KeepsPaths t ∧
      exec .route s = .next ((s.sieveWritten t far).afterSieve (destinations s.fab.lsdb)) := by
  have hroom : decide (s.fab.routedAt + msTicks 50 ≤ s.now) = true := decide_eq_true hlate
  show ∃ t far, s.KeepsPaths t ∧ execRoute s = _
  unfold execRoute
  extract_lets +onlyGivenNames labels dest found routes far s1 changed s2
  have hfar : s.KeepsPaths s1 := s.foldl_keepsPaths (fun t (a : BitVec 12) => t.journal_keepsPaths 0x48 a.toNat) _
  clear_value s1 far
  have hnext : s1.KeepsPaths s2 :=
    s1.foldl_keepsPaths (fun t (r : RouteEnt) => t.journal_keepsPaths 0x47 (r.port.val * 16384 + r.addr.toNat)) _
  clear_value s2
  exact ⟨s2, far, hfar.trans hnext, occurs_of (by rw [hdb, hroom, hon]; rfl)⟩

/-- ROUTE writes the routes of the Sieve anew; the entries of a change and the election leave them alone. -/
theorem exec_route_spec {t0 : Nat} (hdb : s.fab.dbChangedAt = some t0) (hlate : s.fab.routedAt + 1639 ≤ s.now)
    (hon : s.fabricOn = true) : ∃ t, exec .route s = .next t ∧ t.fab.paths = (s.fab.lsdb, s.newRoutes, s.now, none) ∧
      ChangesOnly ([.fabric] ++ s.journalling) s t := by
  obtain ⟨t, far, hlogged, hexec⟩ := exec_route s hdb hlate hon
  obtain ⟨hpaths, hchanges⟩ := hlogged.sieveWritten far
  obtain ⟨hafter, hkept⟩ := (s.sieveWritten t far).afterSieve_keepsPaths (destinations s.fab.lsdb)
  exact ⟨_, hexec, hkept.trans hpaths, ChangesOnly.then_journalling (by decide) hchanges hafter⟩

end route

end Sys2Proof.Machine

namespace Sys2Proof.Machine

/-! Tally frames and exported tiles (§11.9; R484, R490, R493). -/

section sent
variable (s : State)

/-- A frame by the Sieve touches no more of the fabric than its port, its sequence and what waits (R484). -/
theorem State.sendRouted_keeps (a b : Nat) (d : BitVec 12) (l : List Byte) :
    ChangesOnly [.fabric] s (s.sendRouted a b d l) ∧ s.fab.Routed (s.sendRouted a b d l).fab := by
  unfold State.sendRouted
  split
  · split
    · exact ⟨(s.nextSeq_changes a b).trans (State.routeFrame_keeps ..).1,
        (s.nextSeq_routed a b).trans (State.routeFrame_routed ..)⟩
    · exact ⟨.refl _ s, .refl _⟩
  · exact ⟨.refl _ s, .refl _⟩

theorem Fab.Routed.tallyNext {a b : Fab} (h : a.Routed b) : b.tallyNext = a.tallyNext := by rw [h]

/-- The next time of the tally frames (R490). -/
def State.tallyTimed : State := { s with fab := { s.fab with tallyNext := s.fab.tallyNext + 60 * tps } }

/-- Frames of tallies on their way to the head. -/
def State.talliesSent (h : BitVec 12) (frames : List (List (List Byte))) : State :=
  frames.foldl (fun t (l : List (List Byte)) => t.sendRouted tTally 0 h l.flatten) s.tallyTimed

theorem State.talliesSent_keeps (h : BitVec 12) (frames : List (List (List Byte))) :
    ChangesOnly [.fabric] s (s.talliesSent h frames) ∧
    (s.talliesSent h frames).fab.tallyNext = s.fab.tallyNext + 60 * 32768 := by
  have hsend (t : State) (l : List (List Byte)) := t.sendRouted_keeps tTally 0 h l.flatten
  have hchanges := ChangesOnly.foldl (fun t l => (hsend t l).1) frames s.tallyTimed
  have hnext := foldl_keeps (fun t : State => t.fab.tallyNext) (l := frames) (fun t l _ => (hsend t l).2.tallyNext) s.tallyTimed
  exact ⟨(changes_fab s _).trans hchanges, hnext⟩

/-- What was sent is remembered. -/
def State.talliesKept (t : State) : State := { t with fab := { t.fab with sentDev := s.tal.dev, sentPath := s.pathCounts } }

variable {s}

theorem exec_tallyFrameSend_no_head (hmode : s.dev.mode = .sand) (hrole : headRole (s.eff 3) = false)
    (hstandby : s.standby = false) (hnext : s.fab.tallyNext ≤ s.now) (hhead : s.fab.exportHead = none) :
    exec .tallyFrameSend s = .next s.tallyTimed := by
  show execTallyFrameSend s = _
  unfold execTallyFrameSend
  rw [hhead]
  exact occurs_of (by rw [decide_eq_true hmode, hrole, hstandby, decide_eq_true hnext]; rfl)

/-- The frames go out between the new time and what is remembered. -/
theorem exec_tallyFrameSend {h : BitVec 12} (hmode : s.dev.mode = .sand) (hrole : headRole (s.eff 3) = false)
    (hstandby : s.standby = false) (hnext : s.fab.tallyNext ≤ s.now) (hhead : s.fab.exportHead = some h)
    (hheld : s.held = false) : ∃ frames, exec .tallyFrameSend s = .next (s.talliesKept (s.talliesSent h frames)) := by
  show ∃ frames, execTallyFrameSend s = _
  unfold execTallyFrameSend
  rw [hhead]
  extract_lets +onlyGivenNames fab0 s0 recs
  generalize chunks 204 (recs.length + 1) recs = frames
  refine ⟨frames, (occurs_of (by rw [decide_eq_true hmode, hrole, hstandby, decide_eq_true hnext]; rfl)).trans ?_⟩
  exact congrArg (fun t : State => (.next t : Out)) (if_neg (by rw [hheld]; exact Bool.false_ne_true))

end sent

section tiles
variable (s : State) (c : Ctx)

/-- What an exported line leaves alone: the movers, the working sets, and every other context (R493). -/
structure State.ExportKeeps (s t : State) : Prop where
  changes : ChangesOnly [.fabric, .kiln] s t
  work : (t.kiln.ctx[c]).work = (s.kiln.ctx[c]).work
  others : ∀ d : Ctx, d ≠ c → t.kiln.ctx[d] = s.kiln.ctx[d]

variable {s c} in
theorem State.ExportKeeps.trans {t u : State} (h : s.ExportKeeps c t) (k : t.ExportKeeps c u) : s.ExportKeeps c u :=
  ⟨h.changes.trans k.changes, k.work.trans h.work, fun d hd => (k.others d hd).trans (h.others d hd)⟩

theorem State.ExportKeeps.refl : s.ExportKeeps c s := ⟨.refl _ s, rfl, fun _ _ => rfl⟩

theorem State.updCtx_exportKeeps {f : KCtx → KCtx} (hf : (f s.kiln.ctx[c]).work = (s.kiln.ctx[c]).work) :
    s.ExportKeeps c (s.updCtx c f) :=
  ⟨(s.updCtx_kiln_changes c f).mono (by decide), by rw [State.updCtx_self]; exact hf, fun d hd => s.updCtx_other c f d hd⟩

theorem State.sendRouted_exportKeeps (a b : Nat) (d : BitVec 12) (l : List Byte) :
    s.ExportKeeps c (s.sendRouted a b d l) ∧ (s.sendRouted a b d l).kiln = s.kiln := by
  have hchanges := (s.sendRouted_keeps a b d l).1
  have hkiln : (s.sendRouted a b d l).kiln = s.kiln := hchanges .kiln (by decide)
  exact ⟨⟨hchanges.mono (by decide), by rw [hkiln], fun _ _ => by rw [hkiln]⟩, hkiln⟩

/-- A line moves the place in the ring by one, and no more of the context that is spoken of here. -/
theorem State.exportLine_exportKeeps (base : Nat) : s.ExportKeeps c (s.exportLine c base) ∧
    ((s.exportLine c base).kiln.ctx[c]).expRead = ((s.kiln.ctx[c]).expRead + 1) % 32 :=
  ⟨s.updCtx_exportKeeps c rfl, congrArg KCtx.expRead (State.updCtx_self ..)⟩

/-- The fragments of a line leave the place in the ring (R493). -/
theorem State.sendFragments_exportKeeps (n : Nat) : s.ExportKeeps c (State.sendFragments c n s) ∧
    ((State.sendFragments c n s).kiln.ctx[c]).expRead = (s.kiln.ctx[c]).expRead := by
  induction n generalizing s with
  | zero => exact ⟨.refl s c, rfl⟩
  | succ n ih =>
    rw [State.sendFragments]
    split
    · exact ⟨.refl s c, rfl⟩
    · extract_lets last flow sent next
      obtain ⟨hsent, hkiln⟩ : s.ExportKeeps c sent ∧ sent.kiln = s.kiln := by
        unfold sent
        split
        · exact s.sendRouted_exportKeeps c _ _ _ _
        · exact ⟨.refl s c, rfl⟩
      have hnext : sent.ExportKeeps c next := sent.updCtx_exportKeeps c (by split <;> rfl)
      have hread : (next.kiln.ctx[c]).expRead = (s.kiln.ctx[c]).expRead := by
        rw [← hkiln, State.updCtx_self]
        split <;> rfl
      split
      · exact ⟨hsent.trans hnext, hread⟩
      · obtain ⟨hmore, hsame⟩ := ih next
        exact ⟨(hsent.trans hnext).trans hmore, hsame.trans hread⟩

theorem State.exportOne_exportKeeps (base : Nat) : s.ExportKeeps c (s.exportOne c base) ∧
    ((s.exportOne c base).kiln.ctx[c]).expRead = ((s.kiln.ctx[c]).expRead + 1) % 32 := by
  obtain ⟨hline, hread⟩ := s.exportLine_exportKeeps c base
  obtain ⟨hsent, hsame⟩ := (s.exportLine c base).sendFragments_exportKeeps c
    ((((s.exportLine c base).kiln.ctx[c]).expBuf.length) + 1)
  exact ⟨hline.trans hsent, hsame.trans hread⟩

/-- A number of lines of the ring of a context. -/
def State.exportLines (base n : Nat) : State := (List.range n).foldl (fun t _ => t.exportOne c base) s

theorem State.exportLines_exportKeeps (base n : Nat) : s.ExportKeeps c (s.exportLines c base n) ∧
    (0 < n → ((s.exportLines c base n).kiln.ctx[c]).expRead = ((s.kiln.ctx[c]).expRead + n) % 32) := by
  induction n with
  | zero => exact ⟨.refl s c, fun h => absurd h (Nat.lt_irrefl 0)⟩
  | succ n ih =>
    have hstep : s.exportLines c base (n + 1) = (s.exportLines c base n).exportOne c base := by
      rw [State.exportLines, List.range_succ, List.foldl_append]; rfl
    obtain ⟨hlines, hcount⟩ := ih
    obtain ⟨hone, hread⟩ := (s.exportLines c base n).exportOne_exportKeeps c base
    rw [hstep]
    refine ⟨hlines.trans hone, fun _ => hread.trans ?_⟩
    rcases Nat.eq_zero_or_pos n with rfl | hpos
    · rfl
    · rw [hcount hpos]; omega

theorem exec_tileExport {base : Nat} (hbase : s.mov.base (.export_ c) = some base)
    (hlevel : 0 < (s.mov.queue[exportQueue c]).level) (hrun : s.kiln.running = true) : exec (.tileExport c) s = .next
      ((s.exportLines c base (s.mov.queue[exportQueue c]).level).updQueue (exportQueue c) fun q => { q with level := 0 }) := by
  show execTileExport c s = _
  unfold execTileExport
  rw [hbase]
  exact occurs_of (by rw [decide_eq_true hlevel, hrun]; rfl)

end tiles

/-- Settles O41: routes begin where labels lead, and what is sent touches neither the next time nor the other contexts. -/
theorem routesAndExport : Obligations.RoutesAndExport := by
  refine ⟨?_, fun s => exec_tallyFrameSend_no_head, ?_, ?_⟩
  · intro s t0 hdb hlate hon
    obtain ⟨t, hexec, hpaths, hchanges⟩ := exec_route_spec s hdb hlate hon
    simp only [Fab.paths, Prod.mk.injEq] at hpaths
    obtain ⟨hlsdb, hroutes, hat, hnone⟩ := hpaths
    refine ⟨t, hexec, hat, hnone, hlsdb, fun r hr => ?_, hchanges.widen (by decide)⟩
    obtain ⟨hhops, ⟨hrole, hlinked⟩, hclaim⟩ := s.newRoutes_spec (hroutes ▸ hr)
    exact ⟨hhops, hrole, hlinked, hclaim⟩
  · intro s h hmode hrole hstandby hnext hhead hheld
    obtain ⟨frames, hexec⟩ := exec_tallyFrameSend hmode hrole hstandby hnext hhead hheld
    obtain ⟨hchanges, htime⟩ := s.talliesSent_keeps h frames
    refine ⟨_, hexec, htime, rfl, fun p => ?_,
      hchanges.trans (changes_fab _ _)⟩
    exact Vector.getElem_ofFn _
  · intro s c base hbase hlevel hrun
    obtain ⟨hkeeps, hread⟩ := s.exportLines_exportKeeps c base (s.mov.queue[exportQueue c]).level
    refine ⟨_, exec_tileExport s c hbase hlevel hrun, ?_, hread hlevel, hkeeps.work, hkeeps.others,
      hkeeps.changes .pool (by decide), hkeeps.changes.join (State.updQueue_movers_changes _ _ _)⟩
    rw [State.updQueue_self]

end Sys2Proof.Machine

namespace Sys2Proof.Machine

/-! Fabric time: exchanges, the first step of the servo, and holdover (§11.10; R499 to R502, Table 11.12). -/

section fabricTime
variable {s : State}

/-- The device with an exchange begun at the fast interval (R499). -/
def State.exchanging (s : State) (phase : Nat) : State := { s with fab := { s.fab with
  exch := some { e := s.fab.exchNo + 1, t1 := s.stamp phase, at_ := s.now }, exchNo := s.fab.exchNo + 1
  exchNext := s.now + 2048, exchInterval := 2048, exchBurst := s.fab.exchBurst - 1 } }

theorem exec_timeExchangeStart {phase : Nat} {p : FabPort} (hparent : s.fab.parent = some p)
    (hlink : (s.fab.port[p]).link = LinkState.active) (hon : s.serdesOn = true) (htrust : (s.fab.port[p]).trust = .admitted)
    (hidle : s.fab.exch = none) (hnext : s.fab.exchNext ≤ s.now) (hfast : s.fastTime = true) :
    exec (.timeExchangeStart phase) s = .next ((s.exchanging phase).originate tTime 0 0xFFF s.ownAddr
      (timeRequest (s.fab.exchNo + 1) (s.stamp phase)) [p]) := by
  show execTimeExchangeStart phase s = _
  unfold execTimeExchangeStart
  rw [hparent]
  dsimp only
  rw [if_neg (by rw [hlink]; decide), hfast]
  exact occurs_of (by rw [decide_eq_true hlink, hon, decide_eq_true htrust, hidle, decide_eq_true hnext]; rfl)

section received
variable {p : FabPort} {f : Frame} {rest : List (FabPort × Frame)}

theorem exec_timeRequestReceived (a b : Nat) (hin : s.fab.inbox = (p, f) :: rest) (htyp : f.hdr.typ = 5#4)
    (hflow : f.hdr.flow = 0#8) : exec (.timeRequestReceived a b) s = .next
      (if s.standby then s.withInbox rest else (s.withInbox rest).originate tTime 1 0xFFF s.ownAddr
        ((s.withInbox rest).timeResponse (f.payload.getD 0 0) (s.stamp a) (s.stamp b)) [p]) := by
  have hwant : (decide (f.hdr.typ = 5#4) && decide (f.hdr.flow = 0#8)) = true := by
    rw [decide_eq_true htyp, decide_eq_true hflow]; rfl
  show execTimeRequestReceived a b s = _
  unfold execTimeRequestReceived
  rw [State.takeInbox_head hin hwant]
  rfl

/-- The device with an accepted exchange, before the servo takes its offset (R499, R500). -/
def State.exchanged (s : State) (l : List (FabPort × Frame)) (theta d : Int) (steps : Nat) : State := { s with
  fab := { s.fab with inbox := l, exch := none, theta := theta, delay := d, acceptedAt := s.now, steps := steps + 1 } }

theorem exec_timeResponseReceived {ph : Nat} {x : Exchange} {d theta : Int} (hin : s.fab.inbox = (p, f) :: rest)
    (htyp : f.hdr.typ = 5#4) (hflow : f.hdr.flow = 1#8) (hexch : s.fab.exch = some x) (hparent : s.fab.parent = some p)
    (he : f.payload.getD 0 0 = x.e) (hopen : s.now < x.at_ + 33)
    (husable : usableState ((f.payload.getD 21 0).toNat % 8) = true) (hsteps : (f.payload.getD 22 0).toNat < 63)
    (hd : d = rdiv (stampDiff (s.stamp ph) x.t1 - stampDiff (natLE (slice f.payload 11 10)) (natLE (slice f.payload 1 10))) 2)
    (hlow : 0 ≤ d) (hhigh : d ≤ 13107200)
    (htheta : theta = rdiv (stampDiff (natLE (slice f.payload 1 10)) x.t1 +
      stampDiff (natLE (slice f.payload 11 10)) (s.stamp ph)) 2) :
    exec (.timeResponseReceived ph) s = .next
      ((s.exchanged rest theta d (f.payload.getD 22 0).toNat).servo theta ((f.payload.getD 21 0).toNat % 8)) := by
  have hwant : (decide (f.hdr.typ = 5#4) && decide (f.hdr.flow = 1#8)) = true := by
    rw [decide_eq_true htyp, decide_eq_true hflow]; rfl
  have htaken : ¬ (s.fab.parent ≠ some p ∨ f.payload.getD 0 0 ≠ x.e ∨ x.at_ + 33 ≤ s.now) := by
    rw [not_or, not_or, not_not, not_not]
    exact ⟨hparent, he, by omega⟩
  show execTimeResponseReceived ph s = _
  unfold execTimeResponseReceived
  rw [State.takeInbox_head hin hwant, hexch]
  dsimp only
  rw [if_neg htaken, ← hd, ← htheta, if_neg (by omega), if_pos ⟨husable, hsteps⟩]
  rfl

end received

/-- The device in a time state. -/
def State.withTimeState (s : State) (k : TimeState) : State := { s with fab := { s.fab with tstate := k, fineRun := 0 } }

/-- A change of the time state comes with its entry (R502). -/
theorem State.setTime_of_ne {k : TimeState} (h : s.fab.tstate ≠ k) : s.setTime k = (s.withTimeState k).journal 0x4B k.code :=
  if_neg h

/-- Fabric time stepped by an offset, in the COARSE state (R501, R502). -/
def Fab.stepped (f : Fab) (theta : Int) : Fab := { f with
  time := (((f.time : Int) + theta) % (2 ^ 80 : Nat)).toNat, slew := 0, slewTicks := 0, tstate := .coarse, fineRun := 0 }

theorem Fab.stepped_time (f : Fab) (theta : Int) : ((f.stepped theta).time : Int) = ((f.time : Int) + theta) % 2 ^ 80 :=
  Int.toNat_of_nonneg (Int.emod_nonneg _ (by decide))

/-- In the FREE state the servo steps and journals the state and the step. -/
theorem State.servo_of_free (hfree : s.fab.tstate = .free) (theta : Int) (st : Nat) : s.servo theta st =
    (({ s with fab := s.fab.stepped theta } : State).journal 0x4B TimeState.coarse.code).journal 0x4C (stepData theta) := by
  unfold State.servo
  dsimp only
  rw [if_pos (.inl hfree)]
  rw [State.setTime_of_ne (by rw [hfree]; decide)]
  rfl

/-- What the servo leaves of the fabric in the FREE state. -/
theorem State.servo_of_free_spec (hfree : s.fab.tstate = .free) (theta : Int) (st : Nat) :
    (s.fab.stepped theta).Sends (s.servo theta st).fab ∧ ChangesOnly (.fabric :: s.journalling) s (s.servo theta st) := by
  rw [State.servo_of_free hfree]
  refine ⟨(State.journal_sends { s with fab := s.fab.stepped theta } _ _).trans (State.journal_sends _ _ _), ?_⟩
  exact ChangesOnly.then_entry (ps := [.fabric]) ((changes_fab s _).then_journal (by decide) _ _) (by decide) _ _

theorem exec_timeExchangeTimeout {x : Exchange} (hexch : s.fab.exch = some x) (hlate : x.at_ + 33 ≤ s.now) :
    exec .timeExchangeTimeout s = .next { s with fab := { s.fab with exch := none, fineRun := 0 } } := by
  show execTimeExchangeTimeout s = _
  unfold execTimeExchangeTimeout
  rw [hexch]
  exact occurs_of (decide_eq_true hlate)

theorem exec_holdover (hstate : s.fab.tstate = .coarse ∨ s.fab.tstate = .fine)
    (hlost : s.fab.acceptedAt + 70 * 32768 ≤ s.now ∨ s.parentUsable = false) :
    exec .holdover s = .next (s.setTime .holdover) := by
  have hcond : ((decide (s.fab.tstate = .coarse) || decide (s.fab.tstate = .fine)) &&
      (decide (s.fab.acceptedAt + 70 * tps ≤ s.now) || !s.parentUsable)) = true := by
    rw [Bool.and_eq_true, Bool.or_eq_true, Bool.or_eq_true, decide_eq_true_eq, decide_eq_true_eq, decide_eq_true_eq,
      Bool.not_eq_true']
    exact ⟨hstate, hlost⟩
  exact occurs_of hcond

end fabricTime

/-- Settles O42: an exchange and its answer leave time alone, and the servo in the FREE state steps it by the offset. -/
theorem fabricTime : Obligations.FabricTime := by
  refine ⟨?_, ?_, ?_, fun s x => exec_timeExchangeTimeout, ?_⟩
  · intro s phase p hparent hlink hon htrust hidle hnext hfast
    have hfab := (s.exchanging phase).originate_routed tTime 0 0xFFF s.ownAddr
      (timeRequest (s.fab.exchNo + 1) (s.stamp phase)) [p]
    exact ⟨_, exec_timeExchangeStart hparent hlink hon htrust hidle hnext hfast, congrArg Fab.exch hfab,
      congrArg Fab.exchNo hfab, congrArg Fab.exchNext hfab, (congrArg Fab.time hfab :), (congrArg Fab.tstate hfab :),
      (changes_fab s _).trans ((s.exchanging phase).originate_changes _ _ _ _ _ _)⟩
  · intro s a b p f rest hin htyp hflow
    refine ⟨_, exec_timeRequestReceived a b hin htyp hflow, ?_⟩
    cases hstandby : s.standby
    · have hfab := (s.withInbox rest).originate_routed tTime 1 0xFFF s.ownAddr
        ((s.withInbox rest).timeResponse (f.payload.getD 0 0) (s.stamp a) (s.stamp b)) [p]
      rw [if_neg Bool.false_ne_true]
      exact ⟨congrArg Fab.inbox hfab, (congrArg Fab.time hfab :), (congrArg Fab.tstate hfab :),
        fun h => absurd h Bool.false_ne_true, (changes_fab s _).trans ((s.withInbox rest).originate_changes _ _ _ _ _ _)⟩
    · exact ⟨rfl, rfl, rfl, fun _ => rfl, changes_fab s _⟩
  · intro s ph p f rest x theta hin htyp hflow hexch hparent he hopen husable hsteps hfree hoffset
    obtain ⟨hlow, hhigh, htheta⟩ := hoffset
    have hexec := exec_timeResponseReceived hin htyp hflow hexch hparent he hopen husable hsteps rfl hlow hhigh htheta
    obtain ⟨hsends, hchanges⟩ := State.servo_of_free_spec
      (s := s.exchanged rest theta _ (f.payload.getD 22 0).toNat) hfree theta ((f.payload.getD 21 0).toNat % 8)
    have hfab := hsends.rest
    refine ⟨_, hexec, hsends.tstate, congrArg Fab.theta hfab, congrArg Fab.exch hfab, congrArg Fab.acceptedAt hfab,
      congrArg Fab.steps hfab, ?_, ?_⟩
    · rw [hsends.time]
      exact Fab.stepped_time _ theta
    · exact ChangesOnly.then_journalling (ps := [.fabric]) (by decide) (changes_fab s _).with_journal hchanges
  · intro s hstate hlost
    have hne : s.fab.tstate ≠ .holdover := by rcases hstate with h | h <;> rw [h] <;> decide
    refine ⟨_, exec_holdover hstate hlost, ?_⟩
    rw [State.setTime_of_ne hne]
    have hsends := (s.withTimeState .holdover).journal_sends 0x4B TimeState.holdover.code
    obtain ⟨hlogs, hchanges⟩ := ChangesOnly.entry (code := 0x4B) (data := TimeState.holdover.code)
      (changes_fab s (s.withTimeState .holdover).fab) (.refl _ _) (by decide) (by decide)
    exact ⟨hsends.tstate, hsends.time, hlogs, hchanges⟩

end Sys2Proof.Machine
